-- ==== Sys2Proof/Word.lean ====
section
/-! DEFINITION. Word.lean: the word types of the device and the plainest arithmetic of its number formats
(00_scope.md R3 to R7): signed values, saturation and the rounding of an exact half away from zero. -/
namespace Sys2Proof

/-- A register is 32 bits wide (R7). -/
abbrev Word := BitVec 32
/-- One byte of an addressed memory. -/
abbrev Byte := BitVec 8
/-- CT64 and the other 64-bit quantities (R3, R16). -/
abbrev Word64 := BitVec 64

/-- `x` limited to `lo..hi` (R5). -/
def clampInt (lo hi x : Int) : Int := if x < lo then lo else if hi < x then hi else x

/-- The least value of a signed format of `w` bits (R4). -/
def minS (w : Nat) : Int := -(2 ^ (w - 1) : Nat)
/-- The greatest value of a signed format of `w` bits (R4). -/
def maxS (w : Nat) : Int := (2 ^ (w - 1) : Nat) - 1

/-- Whether `x` lies in the signed format of `w` bits. -/
def fitsS (w : Nat) (x : Int) : Bool := minS w ≤ x && x ≤ maxS w

/-- Saturation to the signed format of `w` bits (R5). -/
def satS (w : Nat) (x : Int) : BitVec w := BitVec.ofInt w (clampInt (minS w) (maxS w) x)

/-- `n / d` (`d` positive) rounded to the nearest integer, an exact half to the larger magnitude (R6). -/
def roundDiv (n : Int) (d : Nat) : Int :=
  if 0 ≤ n then ((2 * n.toNat + d) / (2 * d) : Nat) else -(((2 * (-n).toNat + d) / (2 * d) : Nat) : Int)

/-- `n / 2^k` rounded half away from zero (R6). -/
def roundShift (n : Int) (k : Nat) : Int := roundDiv n (2 ^ k)

/-- A counter of `w` bits that saturates at its end. -/
def satAdd (w n k : Nat) : Nat := min (n + k) (2 ^ w - 1)

/-- Bit `i` of a natural number. -/
def bitOf (x i : Nat) : Bool := x.testBit i

/-- The bits `lo .. lo + w - 1` of `x`. -/
def bitsOf (x lo w : Nat) : Nat := x / 2 ^ lo % 2 ^ w

/-- A signed reading of the low `w` bits of `x`. -/
def signedOf (w x : Nat) : Int := (BitVec.ofNat w x).toInt

/-- The low `w` bits of the two's complement of `x`. -/
def encS (w : Nat) (x : Int) : Nat := (BitVec.ofInt w x).toNat

/-- A Bool as a bit. -/
def b2n (b : Bool) : Nat := if b then 1 else 0

end Sys2Proof
end

