-- ==== Sys2Proof/Syntax.lean ====
section
/-! DEFINITION. Syntax.lean: the commands of the block, one constructor for each row of spec/opcode_table.json, and the
types of their operands. What the device computes is no operand; what reaches it from outside (a reading, a level, a
received frame, the master and the word of an access) is. -/
namespace Sys2Proof

/-- The masters of the map, in the priority order of 02 Table 2. -/
inductive Master where
  | engine | safety | supervisor | ring | twin | host | debug
  deriving DecidableEq, Repr

/-- The CAP_INFO code of a master (18 Table 3). -/
def Master.code : Master → Nat
  | .engine => 0 | .safety => 1 | .supervisor => 2 | .ring => 3 | .twin => 4 | .host => 5 | .debug => 6

/-- A command by its flow (0 to 4; 15 delivered by the ring) and its sequence number (R582, R584). -/
structure CmdKey where
  flow : Nat
  seq : Nat
  deriving DecidableEq, Repr

/-- A claim of a master on a word: a read, or a write of `value` (R54, R55). -/
structure Claim where
  master : Master
  write : Bool
  addr : Nat
  value : Word
  tick : Nat
  deriving DecidableEq, Repr

/-- A port of the host (R576, R579). -/
inductive HostPort where
  | hs0 | hs1 | qspi
  deriving DecidableEq, Repr

/-- The header of a received host frame with what the port knows of it: EtherType and addresses (R577, unused on QSPI), the
length received from the header on, and whether the check word matches (R580, R581). The OPC field is the command's row. -/
structure HostHdr where
  port : HostPort
  etype : BitVec 16
  dst : BitVec 48
  src : BitVec 48
  ver : Byte
  kind : Byte
  len : Nat
  avail : Nat
  crcOk : Bool
  seq : Word
  cls : Byte
  node : BitVec 16
  deriving DecidableEq, Repr

/-- A frame of a cell link or of the twin link (07 Table 3): the header of its SOF block, its data blocks, and whether the
receiver's checks of R248 to R250 on blocks and CRC passed. -/
structure LinkFrame where
  ftype : Nat
  claim : Nat
  seq : Nat
  len : Nat
  tspec : Nat
  data : List Word64
  ok : Bool
  deriving DecidableEq, Repr

/-- A ring frame (09 Table 1): header, data blocks, and whether its blocks and its CRC are good. -/
structure RingFrame where
  cls : Nat
  src : Nat
  dst : Nat
  bc : Bool
  ttl : Nat
  len : Nat
  cspec : Nat
  data : List Word64
  ok : Bool
  deriving DecidableEq, Repr

/-- A ring port, or a ring direction: ring E leaves on the east port, ring W on the west port. -/
inductive Side where
  | east | west
  deriving DecidableEq, Repr

/-- The source of VBCAST (04 R159): a scalar register, or lane `j` of V `va`. -/
inductive BcastSrc where
  | scalar (sb : Fin 16)
  | lane (va : Fin 32) (j : Fin 64)
  deriving DecidableEq, Repr

/-- The target of MWR (04 Table 17): cell channel `ch` of each lane, local pairs, auxiliary legs. -/
inductive MwrTarget where
  | cell (ch : Fin 8)
  | localPair
  | aux
  deriving DecidableEq, Repr

/-- The commands of spec/opcode_table.json, one constructor for each row. -/
inductive Instr where
  /-- VAUX_VALID (R505): VAUX has been at or above 17.0 V for 1 ms, so the device moves from OFF to PMU_UP and VCORE starts. -/
  | vauxValid
  /-- RAIL_START (R506): 100 µs after the previous rail becomes power-good, the next rail of Table 2 starts its soft-start. -/
  | railStart
  /-- RAIL_POWER_GOOD (R506): A rail reaches its power-good window at the end of its soft-start. -/
  | railPowerGood (straps : Fin 16)
  /-- PMU_UP_COMPLETE (R507): All five rails are power-good and the system PLL is locked, so the device leaves PMU_UP for BOOT. -/
  | pmuUpComplete
  /-- SEQUENCE_FAULT (R507): A rail is not power-good within 5 ms of its start, or the PLL has not locked within 2 ms, so a power-down follows. -/
  | sequenceFault (pll : Bool)
  /-- RAIL_FAULT (R508): A supervised rail stays outside its window for 10 µs, so a power-down follows. -/
  | railFault (r : Fin 4)
  /-- PMU_RETRY (R509): 100 ms after a PMU fault, the PMU restarts from PMU_UP, or stays off after the third consecutive fault. -/
  | pmuRetry
  /-- UVLO (R505): VAUX stays below 15.5 V for 10 µs, so the device powers down. -/
  | uvlo
  /-- VAUX_OVERVOLTAGE (R505): VAUX stays above 62.0 V for 10 µs, so the device powers down. -/
  | vauxOvervoltage
  /-- PFAIL_WARNING (R512): VAUX falls below PFWTHR, so PFAIL is set and new NVM writes stop. -/
  | pfailWarning
  /-- PFAIL_CLEAR (R512): VAUX rises to PFWTHR + 0.5 V or above, so PFAIL clears and waiting writes resume. -/
  | pfailClear
  /-- VGD_WINDOW_CHANGE (R510): VGD leaves or re-enters its window, which updates VGDBAD and raises VGDPG at the first departure. -/
  | vgdWindowChange (bad : Bool)
  /-- VGD_CURRENT_LIMIT (R510): The VGD current limit starts or stops acting, which updates VGDLIM. -/
  | vgdCurrentLimit (on : Bool)
  /-- VGD_LOCKOUT (R463): VGD falls below 9.0 V, so every gate supply counts as open, BRK is driven low and every channel faults with VGDUV. -/
  | vgdLockout
  /-- VGD_LOCKOUT_RELEASE (R463): VGD rises to 9.5 V or above, which ends the VGDUV condition. -/
  | vgdLockoutRelease
  /-- PLL_BAND_SEARCH_DONE (R517): The PLL's 4-step band search ends and the loop closes in the selected band. -/
  | pllBandSearchDone (band : Fin 16)
  /-- PLL_LOCK (R518): The phase error has stayed within LOCKWIN for LOCKCNT cycles, so the PLL is locked and COAST clears. -/
  | pllLock
  /-- PLL_UNLOCK (R520): The phase error has exceeded UNLKWIN for 4 cycles, so the PLL enters coast and sets UNLOCK. -/
  | pllUnlock
  /-- REFERENCE_LOSS (R520): The reference is missing or out of range, so the PLL coasts and sets REFLOSS. -/
  | referenceLoss
  /-- REFERENCE_RETURN (R521): The reference has been present and in range for 100 µs, so the PLL closes its loop again from the frozen value, or sets BANDLIM. -/
  | referenceReturn (inBand : Bool)
  /-- PLL_COAST_LIMIT (R523): CLK_COASTT reaches COASTMAX, so COASTLIM is set. -/
  | pllCoastLimit
  /-- LC_PLL_UNLOCK (R525): An LC PLL unlocks without coasting, so its lanes lose clock recovery and LCUNLK is set. -/
  | lcPllUnlock (b : Bool)
  /-- TEMP_ROUND_END (R531): A 100 µs sensor round ends, and the round's readings are judged, the die temperatures formed and the bands evaluated. -/
  | tempRoundEnd (ts : List (BitVec 16))
  /-- THERMISTOR_MEASURE (R527): Every 1 ms, each enabled thermistor input is measured and converted to a temperature. -/
  | thermistorMeasure (n : Fin 4) (r : Rat)
  /-- THERMAL_RESTART (R537): The restart conditions have held for 2 s, so the device makes a warm reset into BOOT. -/
  | thermalRestart
  /-- RST_N_ASSERT (R558): RST_N has been held low for 10 ms, so the device is held in reset. -/
  | rstNAssert
  /-- RST_N_RELEASE (R558): RST_N has been held high for 10 ms after a reset, so the device enters BOOT. -/
  | rstNRelease
  /-- RST_N_STUCK (R558): With STRAP3 low, RST_N has been low for 4 s, so RST_STUCK is set, the device enters BOOT and the pin is ignored. -/
  | rstNStuck
  /-- RST_N_IGNORE_END (R558): The stuck RST_N has been high for 100 ms, so the pin is obeyed again. -/
  | rstNIgnoreEnd
  /-- WATCHDOG_EXPIRY (R557): The supervisor watchdog expires after 50 ms without service, which is a warm reset. -/
  | watchdogExpiry (announce : Bool)
  /-- BOOT_SEQUENCE (R566): BOOT runs its self-tests, key checks, image selection and verification, and clearing, and then goes to CONFIG or DEFAULT. -/
  | bootSequence (lockstep safe : Bool) (otp : Option (Fin 5)) (sto : Option (Fin 3))
  /-- FLT_IDX_WRITE (R543): A master writes its own FLT_IDX, and a reserved index is refused with REJ. -/
  | fltIdxWrite (m : Master) (b : Fin 24) (v : Word)
  /-- SOURCE_WORD_WRITE (R548): A write of a source word through FLT_DATA sets REACT or IE, or clears PEND, subject to refusal. -/
  | sourceWordWrite (m : Master) (b : Fin 24) (v : Word)
  /-- CAPTURE_CLEAR (R546): A write of CAPCLR clears the capture, and raises in the same tick fill it again. -/
  | captureClear (m : Master) (b : Fin 24) (v : Word)
  /-- REGISTER_WRITE (R9): A master writes a register that has no row of its own, under the access codes and the register's acceptance rules. -/
  | registerWrite (m : Master) (a v : Word)
  /-- READ_CLEAR (R9): A read of an RC register returns the field and then clears it. -/
  | readClear (m : Master) (a : Word)
  /-- WIDE_LOW_READ (R16): A read of the low word of a 64-bit quantity captures the high word for that master. -/
  | wideLowRead (m : Master) (a : Word)
  /-- WIDE_LOW_WRITE (R17): A write of the low word of a writable 64-bit quantity is held until the same master writes the high word. -/
  | wideLowWrite (m : Master) (a v : Word)
  /-- UNMAPPED_ACCESS (R15): An access outside every block window completes without effect and raises ADDRERR. -/
  | unmappedAccess (m : Master) (a : Word) (w : Bool) (v : Word)
  /-- DEBUG_ACCESS (R643): The JTAG debug master accesses the map in aligned words with host rights. -/
  | debugAccess (a : Word) (w : Bool) (v : Word) (size : Fin 5)
  /-- RESULT_WORD_READ (R383): A read of word 0 of a result word captures words 1 to 3 for the reading master. -/
  | resultWordRead (m : Master) (n : Fin 256)
  /-- LOG_MEMORY_READ (R205): A direct read of the Log memory returns data only in IDLE or DONE, and sets RDREJ otherwise. -/
  | logMemoryRead (m : Master) (a : Word)
  /-- CHRONO_LOAD (R41): A write of CHRONO_SET_HI loads CT64 while the Sextant is disabled, and sets STEPREJ otherwise. -/
  | chronoLoad (m : Master) (v : Word)
  /-- CHRONO_TRIM_WRITE (R39): A write of CHRONO_TRIM sets the rate trim, limited to ±500 ppm, with TRIMLIM set at the limit. -/
  | chronoTrimWrite (m : Master) (v : Word)
  /-- SYNC_EXCHANGE_START (R88): Every SYNC_INT, the node sends a TIME REQ to each neighbour. -/
  | syncExchangeStart
  /-- TIME_REQ_RX (R88): A ring TIME REQ arrives, and the node answers with a RESP carrying t2 and t3. -/
  | timeReqRx (p : Side) (f : RingFrame) (sub : Fin 16)
  /-- TIME_RESP_RX (R89): A ring TIME RESP arrives, and the offset and delay are computed from the four stamps. -/
  | timeRespRx (p : Side) (f : RingFrame) (sub : Fin 16)
  /-- EXCHANGE_TIMEOUT (R325): No RESP has arrived within 100 µs of a REQ, so the exchange fails. -/
  | exchangeTimeout (p : Side)
  /-- SEXT_ENABLE (R71): A write of SEXT_CTRL.EN = 1 is checked and, when accepted, starts SEEK and the period grid. -/
  | sextEnable (m : Master) (v : Word)
  /-- SEXT_DISABLE (R71): A write of SEXT_CTRL.EN = 0 is accepted in CONFIG, DEFAULT or LINKS and moves the Sextant to OFF. -/
  | sextDisable (m : Master) (v : Word)
  /-- SEXT_CONFIG_WRITE (R85): A write of SEXT_N, SEXT_FLIM or SEXT_FNOM is accepted only with EN at 0 and recomputes D_MIN and D_MAX. -/
  | sextConfigWrite (m : Master) (r : Fin 3) (v : Word)
  /-- SEXTANT_UPDATE (R64): At T_start − 0.5 µs, the Sextant checks its sources and runs its loop update for the period. -/
  | sextantUpdate
  /-- PERIOD_BOUNDARY (R118): A committed period boundary arrives: p increments, the next row becomes current and pending moves take effect. -/
  | periodBoundary
  /-- ENGINE_START (R114): At T_start, the Helm starts the first block of the row. -/
  | engineStart
  /-- BLOCK_COMPLETE (R113): A block's static cycle count has elapsed, so it is complete. -/
  | blockComplete
  /-- DEADLINE (R116): At T − T_lead, the Helm checks completion and performs the deadline or overrun steps. -/
  | deadline
  /-- ENG_TIMING_WRITE (R140): A write of ENG_TIMING is accepted with the Sextant disabled and recomputes the budget and the limit. -/
  | engTimingWrite (m : Master) (v : Word)
  /-- ENG_SPAGE_V_WRITE (R122): An accepted write of ENG_SPAGE_V sets every P and W to 0. -/
  | engSpageVWrite (m : Master) (v : Word)
  /-- ENG_SPAGE_S_WRITE (R128): An accepted write of ENG_SPAGE_S sets every P and W of the SDM region to 0. -/
  | engSpageSWrite (m : Master) (v : Word)
  /-- ENGINE_ENABLE (R117): A write of ENG_CTRL.EN = 1 lets the Helm run from the next boundary. -/
  | engineEnable (m : Master) (v : Word)
  /-- ENGINE_DISABLE (R676): A write of ENG_CTRL.EN = 0 stops the Helm at the next boundary. -/
  | engineDisable (m : Master) (v : Word)
  /-- CLAIM_DEFERRED_SERVE (R55): A deferred claim on a resource is served in a later tick. -/
  | claimDeferredServe
  /-- VNOP (R147): V-slot no-operation. -/
  | vnop
  /-- VADD (R151): Saturating lane-wise add. -/
  | vadd (vd va vb : Fin 32) (k : Fin 8)
  /-- VSUB (R151): Saturating lane-wise subtract. -/
  | vsub (vd va vb : Fin 32) (k : Fin 8)
  /-- VNEG (R151): Saturating lane-wise negate. -/
  | vneg (vd va : Fin 32) (k : Fin 8)
  /-- VABS (R151): Saturating lane-wise absolute value. -/
  | vabs (vd va : Fin 32) (k : Fin 8)
  /-- VMUL (R151): Rounded, saturating Q15 multiply. -/
  | vmul (vd va vb : Fin 32) (k : Fin 8)
  /-- VMULS (R151): Rounded Q15 multiply by a scalar. -/
  | vmuls (vd va : Fin 32) (sx : Fin 16) (k : Fin 8)
  /-- VMAX (R151): Lane-wise signed maximum. -/
  | vmax (vd va vb : Fin 32) (k : Fin 8)
  /-- VMIN (R151): Lane-wise signed minimum. -/
  | vmin (vd va vb : Fin 32) (k : Fin 8)
  /-- VAND (R152): Bitwise AND. -/
  | vand (vd va vb : Fin 32) (k : Fin 8)
  /-- VOR (R152): Bitwise OR. -/
  | vor (vd va vb : Fin 32) (k : Fin 8)
  /-- VXOR (R152): Bitwise XOR. -/
  | vxor (vd va vb : Fin 32) (k : Fin 8)
  /-- VSHL (R152): Saturating left shift. -/
  | vshl (vd va : Fin 32) (n : Fin 16) (k : Fin 8)
  /-- VSHR (R152): Rounded right shift. -/
  | vshr (vd va : Fin 32) (n : Fin 16) (k : Fin 8)
  /-- VMOV (R151): Lane-wise move. -/
  | vmov (vd va : Fin 32) (k : Fin 8)
  /-- VSEL (R152): Lane-wise select by a mask. -/
  | vsel (vd va vb : Fin 32) (kc k : Fin 8)
  /-- VCMP (R153): Compare lanes into a destination mask. -/
  | vcmp (kd : Fin 7) (cc : Fin 6) (scalar : Bool) (va vb : Fin 32) (sx : Fin 16) (k : Fin 8)
  /-- VSPLAT (R151): Write an immediate into every selected lane. -/
  | vsplat (vd : Fin 32) (imm : BitVec 16) (k : Fin 8)
  /-- VMPY (R151): Exact product into an accumulator. -/
  | vmpy (ad : Fin 4) (va vb : Fin 32) (k : Fin 8)
  /-- VMAC (R150): Saturating multiply-accumulate. -/
  | vmac (ad : Fin 4) (va vb : Fin 32) (k : Fin 8)
  /-- VMSB (R150): Saturating multiply-subtract. -/
  | vmsb (ad : Fin 4) (va vb : Fin 32) (k : Fin 8)
  /-- VMACS (R150): Multiply-accumulate by a scalar. -/
  | vmacs (ad : Fin 4) (va : Fin 32) (sx : Fin 16) (k : Fin 8)
  /-- VACC (R150): Accumulate a Q15 lane. -/
  | vacc (ad : Fin 4) (va : Fin 32) (k : Fin 8)
  /-- VAZ (R151): Zero an accumulator. -/
  | vaz (ad : Fin 4) (k : Fin 8)
  /-- VAWB (R151): Write an accumulator back to Q15 with gain. -/
  | vawb (vd : Fin 32) (aa : Fin 4) (l : Fin 10) (k : Fin 8)
  /-- AST (R151): Store an accumulator as a register triple. -/
  | ast (vd : Fin 30) (aa : Fin 4) (k : Fin 8)
  /-- ALD (R151): Load an accumulator from a register triple. -/
  | ald (ad : Fin 4) (va : Fin 30) (k : Fin 8)
  /-- VETM (R154): Convert a fraction of a period to modulation time. -/
  | vetm (p : Fin 16) (va : Fin 32) (sx : Fin 16) (wrap : Bool) (k : Fin 8)
  /-- VRECIP (R154): Lane-wise reciprocal. -/
  | vrecip (vd va : Fin 32) (l : Fin 16) (k : Fin 8)
  /-- VSQRT (R154): Lane-wise square root. -/
  | vsqrt (vd va : Fin 32) (k : Fin 8)
  /-- VSINCOS (R154): Sine and cosine of an angle. -/
  | vsincos (p : Fin 16) (va : Fin 32) (sx : Fin 16) (k : Fin 8)
  /-- MNOP (R147): M-slot no-operation. -/
  | mnop
  /-- END (R173): Mark the last word of a block. -/
  | endWord
  /-- VLD (R156): Load a VDM row. -/
  | vld (v : Fin 32) (am : Fin 3) (sb : Fin 16) (row : Fin 2048) (k : Fin 8)
  /-- VST (R156): Store selected lanes to a VDM row. -/
  | vst (v : Fin 32) (am : Fin 3) (sb : Fin 16) (row : Fin 2048) (k : Fin 8)
  /-- SLD (R156): Load an SDM word. -/
  | sld (r : Fin 16) (am : Bool) (sb : Fin 16) (off : Fin 16384)
  /-- SST (R156): Store an SDM word. -/
  | sst (r : Fin 16) (am : Bool) (sb : Fin 16) (off : Fin 16384)
  /-- KLD (R156): Load a lane mask from two SDM words. -/
  | kld (kd : Fin 7) (am : Bool) (sb : Fin 16) (off : Fin 16384)
  /-- KST (R156): Store a lane mask to two SDM words. -/
  | kst (ks : Fin 8) (am : Bool) (sb : Fin 16) (off : Fin 16384)
  /-- VLUT (R160): Interpolated per-lane table lookup. -/
  | vlut (vd va : Fin 32) (sb : Fin 16) (m : Fin 8) (sgn : Bool) (k : Fin 8)
  /-- LUTB (R162): Calibration-bin lookup with a confidence mask. -/
  | lutb (vd va : Fin 32) (sb : Fin 16) (kd : Fin 7) (k : Fin 8)
  /-- VRANK (R158): Rank the lanes of a set. -/
  | vrank (vd va : Fin 32) (ke : Fin 8) (desc : Bool) (k : Fin 8)
  /-- VRSUM (R159): Sum of the selected lanes into a scalar. -/
  | vrsum (sd : Fin 16) (va : Fin 32) (k : Fin 8)
  /-- VRMAX (R159): Maximum of the selected lanes. -/
  | vrmax (sd : Fin 16) (va : Fin 32) (k : Fin 8)
  /-- VRMIN (R159): Minimum of the selected lanes. -/
  | vrmin (sd : Fin 16) (va : Fin 32) (k : Fin 8)
  /-- VROT (R159): Rotate the lanes. -/
  | vrot (vd va : Fin 32) (n : Fin 64) (k : Fin 8)
  /-- VBCAST (R159): Broadcast a scalar or one lane. -/
  | vbcast (vd : Fin 32) (src : BcastSrc) (k : Fin 8)
  /-- VGATH (R159): Gather lanes by index. -/
  | vgath (vd va vb : Fin 32) (k : Fin 8)
  /-- VEXT (R159): Extract one lane into a scalar. -/
  | vext (sd : Fin 16) (va : Fin 32) (j : Fin 64)
  /-- VINS (R159): Insert a scalar into one lane. -/
  | vins (vd : Fin 32) (sb : Fin 16) (j : Fin 64) (k : Fin 8)
  /-- KMOV (R166): Copy a mask. -/
  | kmov (kd : Fin 7) (ka : Fin 8)
  /-- KAND (R166): AND two masks. -/
  | kand (kd : Fin 7) (ka kb : Fin 8)
  /-- KOR (R166): OR two masks. -/
  | kor (kd : Fin 7) (ka kb : Fin 8)
  /-- KXOR (R166): XOR two masks. -/
  | kxor (kd : Fin 7) (ka kb : Fin 8)
  /-- KANDN (R166): AND a mask with the inverse of another. -/
  | kandn (kd : Fin 7) (ka kb : Fin 8)
  /-- KNOT (R166): Invert a mask. -/
  | knot (kd : Fin 7) (ka : Fin 8)
  /-- SMOV (R163): Scalar move. -/
  | smov (sd sa : Fin 16)
  /-- SADD_I (R163): Scalar integer add. -/
  | saddI (sd sa sb : Fin 16)
  /-- SSUB_I (R163): Scalar integer subtract. -/
  | ssubI (sd sa sb : Fin 16)
  /-- SADD_Q (R163): Saturating scalar add. -/
  | saddQ (sd sa sb : Fin 16)
  /-- SSUB_Q (R163): Saturating scalar subtract. -/
  | ssubQ (sd sa sb : Fin 16)
  /-- SMUL_I (R163): Scalar integer multiply. -/
  | smulI (sd sa sb : Fin 16)
  /-- SMUL_Q (R163): Rounded Q31 multiply. -/
  | smulQ (sd sa sb : Fin 16)
  /-- SAND (R163): Scalar AND. -/
  | sand (sd sa sb : Fin 16)
  /-- SOR (R163): Scalar OR. -/
  | sor (sd sa sb : Fin 16)
  /-- SXOR (R163): Scalar XOR. -/
  | sxor (sd sa sb : Fin 16)
  /-- SSHL (R163): Scalar left shift. -/
  | sshl (sd sa : Fin 16) (n : Fin 32)
  /-- SSHRA (R163): Arithmetic right shift. -/
  | sshra (sd sa : Fin 16) (n : Fin 32)
  /-- SSHRL (R163): Logical right shift. -/
  | sshrl (sd sa : Fin 16) (n : Fin 32)
  /-- SMIN (R163): Signed scalar minimum. -/
  | smin (sd sa sb : Fin 16)
  /-- SMAX (R163): Signed scalar maximum. -/
  | smax (sd sa sb : Fin 16)
  /-- SSAT16 (R163): Saturate a scalar to 16 bits. -/
  | ssat16 (sd sa : Fin 16)
  /-- SLIL (R164): Load the low immediate with zero extension. -/
  | slil (sd : Fin 16) (imm : BitVec 16)
  /-- SLIH (R164): Load the high immediate. -/
  | slih (sd : Fin 16) (imm : BitVec 16)
  /-- SRECIP (R164): Scalar reciprocal. -/
  | srecip (sd sa : Fin 16) (l : Fin 32)
  /-- SGET (R165): Read a latched device value. -/
  | sget (sd : Fin 16) (src : Fin 8)
  /-- MWR (R168): Place a modulation write in the ladle. -/
  | mwr (p : Fin 16) (tgt : MwrTarget) (fld : Fin 7) (k : Fin 8)
  /-- LDALL (R171): Arm LOAD_ALL for groups. -/
  | ldall (groups : BitVec 16)
  /-- RSST (R172): Write a row of the staged SCHED slot. -/
  | rsst (vs : Fin 32) (row : Fin 16) (k : Fin 8)
  /-- FLGCLR (R166): Clear sticky flags. -/
  | flgclr (fmask : Fin 128) (k : Fin 8)
  /-- FLGK (R167): Copy a flag into a mask. -/
  | flgk (kd : Fin 7) (f : Fin 5) (ka : Fin 8)
  /-- ALMANAC_LIST_START (R180): A conversion start of the current row reaches its offset and starts its list. -/
  | almanacListStart (b : Bool)
  /-- IDLE_LIST_START (R378): With the Helm stopped, ADC_IDLESTART starts a list at its offset. -/
  | idleListStart (b : Bool)
  /-- LOG_CAPTURE (R198): The Log captures the period's signals into a record. -/
  | logCapture
  /-- LOG_FORCE (R201): A write of LOG_CTRL.FORCE fires the trigger in the current period. -/
  | logForce (m : Master) (v : Word)
  /-- CHANNEL_ENABLE (R219): A write of MOD_CFG.EN from 0 to 1 starts a channel at its next grid point. -/
  | channelEnable (m : Master) (c : Fin 465) (v : Word)
  /-- CHANNEL_DISABLE (R220): A write of MOD_CFG.EN = 0 stops a channel from the next window. -/
  | channelDisable (m : Master) (c : Fin 465) (v : Word)
  /-- MOD_CFG_WRITE (R232): A MOD_CFG write that changes other fields, with refusal of illegal changes. -/
  | modCfgWrite (m : Master) (c : Fin 465) (v : Word)
  /-- SHADOW_WRITE (R226): A host write of a channel shadow sets its WR bit. -/
  | shadowWrite (m : Master) (c : Fin 465) (r : Fin 6) (v : Word)
  /-- GROUP_LOAD_ARM (R227): A host write of MOD_GLOAD arms groups for LOAD_ALL. -/
  | groupLoadArm (m : Master) (v : Word)
  /-- MOD_REF_WRITE (R221): A write of MOD_AREF or MOD_TREF is accepted only with the Sextant disabled. -/
  | modRefWrite (m : Master) (r : Fin 3) (v : Word)
  /-- GRID_POINT (R229): A channel reaches a carrier grid point, and its staged fields take effect. -/
  | gridPoint (c : Fin 465)
  /-- LOCAL_EDGE_OUTPUT (R43): A scheduled edge appears on a local or auxiliary output. -/
  | localEdgeOutput
  /-- OCL_LANE_ENABLE (R256): A lane's OCL_EN bit is set, so negotiation starts. -/
  | oclLaneEnable (m : Master) (hi : Bool) (v : Word)
  /-- OCL_LANE_DISABLE (R256): A lane's OCL_EN bit is cleared, so the lane goes to OFF. -/
  | oclLaneDisable (m : Master) (hi : Bool) (v : Word)
  /-- CAPQ_SEND (R256): In QUERY, a CAPQ is sent every 100 µs. -/
  | capqSend (l : Fin 56)
  /-- STATUS_CAP_RX (R257): A capability word arrives and is checked, which leads to CONFIG or FAIL. -/
  | statusCapRx (l : Fin 56) (f : LinkFrame)
  /-- SETCFG_RESEND (R256): SETCFG is sent again after 20 µs without an ACK, with FAIL after 3 sends. -/
  | setcfgResend (l : Fin 56)
  /-- STATUS_ACK_RX (R280): An ACK to a command arrives. -/
  | statusAckRx (l : Fin 56) (f : LinkFrame)
  /-- STATUS_PERIODIC_RX (R263): A PERIODIC status arrives, with the delay measurement and the status updates. -/
  | statusPeriodicRx (l : Fin 56) (f : LinkFrame) (sub : Fin 16)
  /-- FOREIGN_DETECT (R262): FOLLOW has been 0 for 8 periods on an active device's READY lane, so FOREIGN is raised. -/
  | foreignDetect (l : Fin 56)
  /-- SAMPLE_RX (R286): A SAMPLE frame arrives, is checked and is held for the commit. -/
  | sampleRx (l : Fin 56) (f : LinkFrame)
  /-- INBOX_COMMIT (R286): At the tick before engine start, upstream and hardware data are committed into the inbox. -/
  | inboxCommit
  /-- KEEP_STOPPED_SEND (R283): While the grid is stopped, KEEP and TIME frames are sent on their 20 µs timer. -/
  | keepStoppedSend
  /-- CMD_RETRANSMIT (R280): A CMD is resent after 20 µs without an answer, and fails after 3 sends. -/
  | cmdRetransmit (l : Fin 56)
  /-- LANE_COMMAND (R279): A host write of OCL_LCMD.GO issues a CMD on a lane. -/
  | laneCommand (m : Master) (v : Word)
  /-- LANE_RETRY (R256): A write of OCL_LCTRL.RETRY moves a failed lane back to QUERY. -/
  | laneRetry (m : Master) (l : Fin 56) (v : Word)
  /-- POD_EDGE_FRAME_RX (R268): A pod receives an EDGE frame and accepts or discards it by claim and timing. -/
  | podEdgeFrameRx (l : Fin 56) (b : Bool) (f : LinkFrame)
  /-- POD_WINDOW_START (R271): A pod window starts: the pod plays, replays or blocks. -/
  | podWindowStart (l : Fin 56)
  /-- POD_TRIP_RX (R276): A pod accepts a TRIP block and blocks within 100 ns. -/
  | podTripRx (l : Fin 56) (b : Bool) (p : BitVec 56)
  /-- POD_TIME_RX (R265): A pod stamps a TIME frame and steers its CT64. -/
  | podTimeRx (l : Fin 56) (b : Bool) (f : LinkFrame) (sub : Fin 16)
  /-- POD_CMD_RX (R281): A pod executes an accepted CMD at most once and answers it. -/
  | podCmdRx (l : Fin 56) (b : Bool) (f : LinkFrame)
  /-- POD_DESAT (R273): A pod detects desaturation or a gate fault, blocks the channel and latches the bit. -/
  | podDesat (l : Fin 56) (c : Fin 8) (gdf : Bool)
  /-- POD_LINK_LOSS (R277): A pod accepts no downstream frame for 500 µs, so it blocks. -/
  | podLinkLoss (l : Fin 56)
  /-- LANE_ENABLE (R298): A write of LANE_CFG.EN = 1 starts bring-up in CDR. -/
  | laneEnable (m : Master) (l : Fin 64) (v : Word)
  /-- LANE_DISABLE (R298): A write of LANE_CFG.EN = 0 turns the lane OFF. -/
  | laneDisable (m : Master) (l : Fin 64) (v : Word)
  /-- CDR_LOCK (R299): Signal and frequency have been in range for 10 µs, so the lane enters HUNT. -/
  | cdrLock (l : Fin 62)
  /-- CDR_LOSS (R299): The signal or the recovered clock is lost, so the lane returns to CDR. -/
  | cdrLoss (l : Fin 62)
  /-- HUNT_LOCK (R300): A candidate boundary shows 64 valid headers, so the lane enters POLTEST. -/
  | huntLock (l : Fin 62)
  /-- HUNT_FAIL (R300): 132 slips pass without lock, so the lane returns to CDR. -/
  | huntFail (l : Fin 62)
  /-- POLARITY_CONFIRM (R302): 4 IDLE blocks confirm the polarity, so the lane enters UP or ALIGN. -/
  | polarityConfirm (l : Fin 62)
  /-- POLARITY_INVERT (R302): 4 inverted IDLE blocks invert the receive polarity. -/
  | polarityInvert (l : Fin 62)
  /-- POLTEST_TIMEOUT (R302): The polarity test times out, so the lane returns to CDR. -/
  | poltestTimeout (l : Fin 62)
  /-- BLOCK_LOCK_LOSS (R301): 16 invalid headers in a window of 64 blocks, so the lane returns to HUNT. -/
  | blockLockLoss (l : Fin 62)
  /-- ALIGN_MARKER_SEND (R304): Every 16 384 blocks, a bonded port sends alignment markers. -/
  | alignMarkerSend (p : Fin 3)
  /-- ALIGN_MARKER_RX (R306): A marker arrives and is checked for port, lane and skew. -/
  | alignMarkerRx (p : Fin 3) (m0 m1 : BitVec 56) (skew : BitVec 16)
  /-- EQ_STEP (R308): The equaliser moves one code toward its target every 1 µs. -/
  | eqStep (l : Fin 62)
  /-- EYE_START (R310): A write of LANE_EYECTL.START starts an eye measurement. -/
  | eyeStart (m : Master) (l : Fin 64) (v : Word)
  /-- EYE_DONE (R310): An eye measurement ends, so BUSY clears and DONE is set. -/
  | eyeDone (l : Fin 64) (n : Word)
  /-- HOST_PCS_UP (R297): A host lane's PCS reports synchronisation or block lock. -/
  | hostPcsUp (hs1 : Bool)
  /-- BEACON_SEND (R322): Every 1 ms, a BEACON is broadcast on both rings. -/
  | beaconSend
  /-- BEACON_RX (R322): A BEACON updates the node table and is forwarded. -/
  | beaconRx (p : Side) (f : RingFrame)
  /-- BEACON_EXPIRY (R322): A table entry expires after 3 ms without a beacon. -/
  | beaconExpiry (id : Fin 512)
  /-- RING_HELLO_SEND (R328): A port sends a HELLO every 100 µs. -/
  | ringHelloSend (p : Side)
  /-- RING_HELLO_RX (R327): A HELLO arrives and moves the port from LOOP to INSERT or to UP. -/
  | ringHelloRx (p : Side) (f : RingFrame)
  /-- INSERT_TIMEOUT (R327): 100 ms in INSERT without a foreign HELLO, so the port moves to DOWN. -/
  | insertTimeout (p : Side)
  /-- SCHED_RX (R338): A SCHED frame arrives and is held for the commit. -/
  | schedRx (p : Side) (f : RingFrame)
  /-- FIX_RX (R343): A FIX frame arrives and assigns a fix bank. -/
  | fixRx (p : Side) (f : RingFrame)
  /-- FIX_LATCH (R344): At TFIX, the selected groups are latched into the bank. -/
  | fixLatch (b : Fin 4)
  /-- GUAR_DATA_RX (R332): A GUAR message arrives and is delivered, held or discarded. -/
  | guarDataRx (p : Side) (f : RingFrame)
  /-- GUAR_ACK_RX (R331): A GUAR ACK frees the messages it covers. -/
  | guarAckRx (p : Side) (f : RingFrame)
  /-- GUAR_RETRANSMIT (R331): An unacknowledged message is retransmitted after RTO on the other ring. -/
  | guarRetransmit (dst : Fin 512) (seq : Word)
  /-- LOG_EXPORT_RX (R611): The collecting node receives an exported Log fragment and streams complete records. -/
  | logExportRx (p : Side) (f : RingFrame)
  /-- LOG_GAP_REQUEST_RX (R611): An exporter receives a request for a missing record and resends it. -/
  | logGapRequestRx (p : Side) (f : RingFrame)
  /-- TWIN_HELLO_SEND (R348): A twin HELLO is sent every 1 ms until the partner answers. -/
  | twinHelloSend
  /-- TWIN_HELLO_RX (R348): A twin HELLO arrives, and the CFGCRC values are compared. -/
  | twinHelloRx (f : LinkFrame)
  /-- HB_STOPPED_SEND (R351): While the grid is stopped, a heartbeat is sent every 20 µs. -/
  | hbStoppedSend
  /-- HB_RX (R351): A twin heartbeat arrives. -/
  | hbRx (f : LinkFrame)
  /-- TWIN_LOST (R348): No heartbeat for 2 periods or 40 µs, so TSTATE becomes LOST. -/
  | twinLost
  /-- TWIN_WAIT_EXPIRY (R349): No partner heartbeat within WAIT of entering LINKS, so the device becomes ACTIVE. -/
  | twinWaitExpiry
  /-- MSTATE_RX (R355): The standby receives an MSTATE mirror frame. -/
  | mstateRx (f : LinkFrame)
  /-- MROWS_RX (R355): The standby receives mirrored rows. -/
  | mrowsRx (f : LinkFrame)
  /-- MMOD_RX (R353): The standby receives modulation mirror entries. -/
  | mmodRx (f : LinkFrame)
  /-- MEND_RX (R355): The standby receives the MEND with the mirror CRC. -/
  | mendRx (f : LinkFrame)
  /-- JRNL_RX (R357): The standby receives a journal record, stores it and answers JACK. -/
  | jrnlRx (f : LinkFrame)
  /-- JRNL_RESEND (R357): A journal record is resent every 20 µs until a JACK covers it. -/
  | jrnlResend (pos : Word)
  /-- JACK_RX (R593): A JACK secures the journal records it covers. -/
  | jackRx (f : LinkFrame)
  /-- CKPT_SEND (R364): A checkpoint of a cold session is sent at least every 100 ms. -/
  | ckptSend (n : Fin 3)
  /-- CKPT_RX (R364): The standby stores a checkpoint and answers CKACK. -/
  | ckptRx (f : LinkFrame)
  /-- CKACK_RX (R364): The active device receives a checkpoint acknowledgement. -/
  | ckackRx (f : LinkFrame)
  /-- YIELD_RX (R361): The standby receives YIELD and takes over at its next commit tick. -/
  | yieldRx (f : LinkFrame)
  /-- SWAP_RX (R367): The standby receives a SWAP naming the target period P. -/
  | swapRx (f : LinkFrame)
  /-- JSYNC_RX (R358): The standby replaces a flow's state with the state received. -/
  | jsyncRx (f : LinkFrame)
  /-- ADC_ENABLE (R376): A write of ADC_CTRL.EN = 1 is refused when any list names an invalid entry. -/
  | adcEnable (m : Master) (v : Word)
  /-- ADC_DISABLE (R376): A write of ADC_CTRL.EN = 0 aborts conversions and clears pending requests. -/
  | adcDisable (m : Master) (v : Word)
  /-- LIST_START_HOST (R377): A host write of ADC_LSTART starts a list, or sets LSTBUSY. -/
  | listStartHost (m : Master) (v : Word)
  /-- ENTRY_START (R379): A ready entry starts on all its positions once they are free. -/
  | entryStart (n : Fin 16)
  /-- CONVERSION_RESULT (R371): A conversion completes and its result is corrected. -/
  | conversionResult (e : Fin 128) (vs : List Rat)
  /-- INJECT_TRIGGER_HOST (R386): A write of ADC_INJGO triggers an injected request. -/
  | injectTriggerHost (m : Master) (v : Word)
  /-- INJECT_PENDING (R386): DELAY ticks after its trigger, the request becomes pending. -/
  | injectPending (j : Fin 4)
  /-- INJECT_CLAIM (R387): In the tick after pending, the request claims its positions and aborts list conversions. -/
  | injectClaim (j : Fin 4)
  /-- INJECT_START (R387): The injected request starts once its positions are free. -/
  | injectStart (j : Fin 4)
  /-- ENTRY_RESTART (R389): An aborted entry restarts from acquisition. -/
  | entryRestart (n : Fin 16)
  /-- SWAP_DUE (R390): ROTINT has passed and the spare has calibrated, so a swap becomes due. -/
  | swapDue
  /-- SWAP_START (R391): A due swap starts at the first allowed tick. -/
  | swapStart
  /-- SWAP_WINDOW_END (R392): The 2 µs swap window ends, and the incoming slice serves the position. -/
  | swapWindowEnd
  /-- CALIBRATION_DONE (R393): The spare ends its 400 µs calibration, and the constants are accepted or rejected. -/
  | calibrationDone (ofs gain : Word)
  /-- SLICE_RETIRE (R394): A write of ADC_RETIRE retires a slice. -/
  | sliceRetire (m : Master) (v : Word)
  /-- SDF_ENABLE (R402): A filter is enabled and aligns with any running filter of the same clock. -/
  | sdfEnable (m : Master) (n : Fin 16) (v : Word)
  /-- SDF_RESULT (R399): A sinc3 run ends, and the result is written, stamped and placed. -/
  | sdfResult (n : Fin 16) (sum : Fin 16777217)
  /-- SDF_STUCK (R403): A bitstream holds one level for STK clocks, so STUCK is set. -/
  | sdfStuck (n : Fin 16)
  /-- SDF_STUCK_END (R401): A stuck run ends, and the filter restarts its validity count. -/
  | sdfStuckEnd (n : Fin 16)
  /-- COMPARATOR_ASSERT (R411): A comparator output asserts and sets its latch asynchronously. -/
  | comparatorAssert (n : Fin 24) (hi lo : Bool)
  /-- COMPARATOR_DEASSERT (R407): A comparator output deasserts past its return level. -/
  | comparatorDeassert (n : Fin 24) (hi lo : Bool)
  /-- LATCH_CLEAR (R412): A host W1C of CMP_LATCH clears a latch, or sets CLRREF. -/
  | latchClear (m : Master) (v : Word)
  /-- CMP_CFG_WRITE (R409): A write of CMP_CFGn, with refusal of illegal windows. -/
  | cmpCfgWrite (m : Master) (n : Fin 24) (v : Word)
  /-- COMPARATOR_TEST (R418): A write of CMP_TEST.GO starts a self-test, or refuses it. -/
  | comparatorTest (m : Master) (v : Word)
  /-- TEST_SAMPLE (R420): After 1 µs, the test samples and judges the outputs. -/
  | testSample (hi lo : Bool)
  /-- TEST_SETTLE_END (R421): Settling ends, and the comparator watches its input again. -/
  | testSettleEnd (hi lo : Bool)
  /-- TRIPIN_CHANGE (R423): A TRIPIN pin has held a new level for its filter time. -/
  | tripinChange (n : Fin 8) (level : Bool)
  /-- TRIPIN_LATCH_CLEAR (R424): A host clear of TRIP_TLATCH clears a TRIPIN latch. -/
  | tripinLatchClear (m : Master) (v : Word)
  /-- TRIP_MASK_WRITE (R426): A write of TRIP_MASKt or TRIP_CGg takes effect at the next tick. -/
  | tripMaskWrite (m : Master) (t : Fin 36) (v : Word)
  /-- GATE_HOLD_END (R439): 20 µs after the supply closes, the channel starts. -/
  | gateHoldEnd (a : Fin 3)
  /-- AUX_INPUT_CHANGE (R440): An AXaIN pin changes, and the gates follow it. -/
  | auxInputChange (a : Fin 3) (p : Fin 6) (level : Bool)
  /-- VBS_MEASURE (R447): Every 1 µs, the bootstrap voltages are measured. -/
  | vbsMeasure (a : Fin 3) (v2 v1 v0 : Byte)
  /-- OVERCURRENT_DETECT (R452): The overcurrent comparator asserts outside blanking, so the channel faults with OC. -/
  | overcurrentDetect (a : Fin 3) (legs : Fin 8)
  /-- SLOPE_DETECT (R453): A steep current slope is detected, so the channel faults with SC and soft turn-off starts. -/
  | slopeDetect (a : Fin 3) (legs : Fin 8)
  /-- SOFT_TURNOFF_END (R454): After 2 µs, soft turn-off ends with the full sink. -/
  | softTurnoffEnd (a : Fin 3)
  /-- AUX_FAULT_CLEAR (R458): A write of AXD_FLTCLR clears FAULT, or sets CLRREF. -/
  | auxFaultClear (m : Master) (a : Fin 3) (v : Word)
  /-- VM_CONVERSION (R459): Every 1 µs, VM is converted and compared with its thresholds. -/
  | vmConversion (v : Fin 4096)
  /-- BRAKE_LIMIT (R465): BRK's on-time reaches BRKMAX in the window, so BRK turns off and BRKLIM is set. -/
  | brakeLimit
  /-- BRAKE_WINDOW_END (R465): A brake window ends, and the next one starts. -/
  | brakeWindowEnd
  /-- HALL_ENABLE (R474): A write of HALL_CFG.EN = 1 starts decoding with S undefined. -/
  | hallEnable (m : Master) (a : Fin 3) (v : Word)
  /-- HALL_CHANGE (R474): The filtered Hall state changes and is classified as a move or as illegal. -/
  | hallChange (a : Fin 3) (code : Fin 8)
  /-- HALL_CLEAR (R476): A write of HALL_CLR clears HALLF, or sets CLRREF. -/
  | hallClear (m : Master) (v : Word)
  /-- SPEED_WINDOW_END (R478): A speed window ends, and HALL_SPEED is written. -/
  | speedWindowEnd (a : Fin 3)
  /-- HOME_EDGE (R479): An active home edge captures the position, sets it or checks for slip. -/
  | homeEdge (a : Fin 3) (level : Bool)
  /-- SIN_CHANGE (R485): A safety input's filtered level changes, which changes demand or agreement. -/
  | sinChange (n : Fin 4) (b level : Bool)
  /-- DISCREPANCY_STROBE (R486): Every 1 ms, the discrepancy counts are updated. -/
  | discrepancyStrobe
  /-- SAFE_KEY_WRITE (R501): A write of SAFE_KEY unlocks the block, or locks it and computes SAFE_CRC. -/
  | safeKeyWrite (m : Master) (v : Word)
  /-- SAFE_CRC_CHECK (R501): Every 10 ms, the SAFE configuration is checked against SAFE_CRC. -/
  | safeCrcCheck
  /-- SAFE_OSC_FAIL (R502): The safety-logic oscillator leaves ±10 %, which applies SEAL. -/
  | safeOscFail
  /-- STO_PERIODIC_TEST (R499): Every STOINT, the supply element is opened for a test pulse. -/
  | stoPeriodicTest (a : Fin 3)
  /-- STO_TEST_END (R499): The test pulse ends and the readback is judged. -/
  | stoTestEnd (a : Fin 3) (opened : Bool)
  /-- SOUT_REQUEST_WRITE (R495): A write of SAFE_SOUTREQ requests outputs on or off. -/
  | soutRequestWrite (m : Master) (v : Word)
  /-- SOUT_PULSE_START (R496): Every TINT, an on output starts an off-pulse. -/
  | soutPulseStart (n : Fin 4)
  /-- SOUT_PULSE_END (R496): The off-pulse ends, and the output turns on again. -/
  | soutPulseEnd (n : Fin 4) (rb : Bool)
  /-- SOUT_OVERCURRENT (R498): The current limit has acted for 100 µs, so the output turns off and OC latches. -/
  | soutOvercurrent (n : Fin 4)
  /-- QSPI_WRFRAME (R579): The host writes one frame over QSPI. -/
  | qspiWrframe (h : HostHdr) (opc : BitVec 16) (body : List Word)
  /-- QSPI_RDSTAT (R579): The host reads the QSPI queue status. -/
  | qspiRdstat
  /-- QSPI_RDFRAME (R579): The host reads the next queued frame, which is removed after its last byte. -/
  | qspiRdframe (complete : Bool)
  /-- READ (R603): Command: read words. -/
  | read (h : HostHdr) (body : List Word)
  /-- WRITE (R603): Command: write words. -/
  | write (h : HostHdr) (body : List Word)
  /-- MODIFY (R603): Command: read-modify-write one word. -/
  | modify (h : HostHdr) (body : List Word)
  /-- STATUS (R603): Command: return the status words. -/
  | status (h : HostHdr) (body : List Word)
  /-- LOAD_PROGRAM (R208): Command: write the inactive PMEM bank and verify it on LAST. -/
  | loadProgram (h : HostHdr) (body : List Word)
  /-- LOAD_ALMANAC (R208): Command: write the inactive ALM bank and verify it on LAST. -/
  | loadAlmanac (h : HostHdr) (body : List Word)
  /-- SWAP_BANK (R209): Command: schedule a bank swap. -/
  | swapBank (h : HostHdr) (body : List Word)
  /-- SET_MODE (R185): Command: request a mode change. -/
  | setMode (h : HostHdr) (body : List Word)
  /-- ARM (R675): Command: move from LINKS to ARMED. -/
  | arm (h : HostHdr) (body : List Word)
  /-- RUN (R33): Command: move from ARMED to RUN. -/
  | run (h : HostHdr) (body : List Word)
  /-- BLOCK (R675): Command: move to BLOCKED. -/
  | block (h : HostHdr) (body : List Word)
  /-- RELEASE (R553): Command: move from BLOCKED to ARMED. -/
  | release (h : HostHdr) (body : List Word)
  /-- FIX (R342): Command: request a ring-wide fix. -/
  | fixCmd (h : HostHdr) (body : List Word)
  /-- FIX_READ (R603): Command: read a fix bank. -/
  | fixRead (h : HostHdr) (body : List Word)
  /-- LOG_ARM (R204): Command: arm the Log. -/
  | logArm (h : HostHdr) (body : List Word)
  /-- LOG_READ (R205): Command: read Log records. -/
  | logRead (h : HostHdr) (body : List Word)
  /-- CAL_ADC (R396): Command: force nine calibration swaps. -/
  | calAdc (h : HostHdr) (body : List Word)
  /-- CFG_COMMIT (R575): Command: stage and commit a configuration record. -/
  | cfgCommit (h : HostHdr) (body : List Word)
  /-- OFFDIAG (R467): Command: off-state diagnostics of auxiliary channels. -/
  | offdiag (h : HostHdr) (body : List Word)
  /-- SAFE_RESET (R494): Command: clear the safety latches and leave SAFE. -/
  | safeReset (h : HostHdr) (body : List Word)
  /-- PROOF_SWAP (R367): Command: planned role swap. -/
  | proofSwap (h : HostHdr) (body : List Word)
  /-- RESET (R559): Command: reset the device. -/
  | reset (h : HostHdr) (body : List Word)
  /-- EVENT_ACK (R609): Command: acknowledge events. -/
  | eventAck (h : HostHdr) (body : List Word)
  /-- JOURNAL_READ (R603): Command: read journal records. -/
  | journalRead (h : HostHdr) (body : List Word)
  /-- UPD_OPEN (R623): Command: open or resume an update session. -/
  | updOpen (h : HostHdr) (body : List Word)
  /-- UPD_CHUNK (R624): Command: write one piece of a chunk. -/
  | updChunk (h : HostHdr) (body : List Word)
  /-- UPD_STATUS (R637): Command: read the update status. -/
  | updStatus (h : HostHdr) (body : List Word)
  /-- UPD_RELAY (R629): Command: relay an image along the ring. -/
  | updRelay (h : HostHdr) (body : List Word)
  /-- UPD_ACTIVATE (R632): Command: activate a verified slot. -/
  | updActivate (h : HostHdr) (body : List Word)
  /-- UPD_CONFIRM (R634): Command: confirm the trial image. -/
  | updConfirm (h : HostHdr) (body : List Word)
  /-- UPD_ABORT (R626): Command: abort a session or a pending activation. -/
  | updAbort (h : HostHdr) (body : List Word)
  /-- COMMAND_START (R587): A taken-in command starts once its predecessors, its resource and its record allow. -/
  | commandStart
  /-- OPERATION_STEP (R605): One step of a stepped operation runs. -/
  | operationStep (n : Fin 8) (rd : List (BitVec 12)) (sto : Option (Fin 3))
  /-- NVM_WRITE_COMPLETE (R593): An NVM journal or record write completes, which secures the command or message. -/
  | nvmWriteComplete
  /-- EVENT_RESEND (R609): The latest EVENT is resent every RTO until acknowledged. -/
  | eventResend (f : Fin 5)
  /-- UPD_AGE_MINUTE (R626): Every powered minute, UPD_AGE is counted and saved. -/
  | updAgeMinute
  /-- RELAY_CHUNK_SEND (R629): The origin sends the next chunk at RRATE. -/
  | relayChunkSend
  /-- RCHUNK_RX (R631): A relayed chunk quarter arrives, is checked when complete, acknowledged and forwarded. -/
  | rchunkRx (p : Side) (f : RingFrame)
  /-- RACK_RX (R631): A relay acknowledgement arrives. -/
  | rackRx (p : Side) (f : RingFrame)
  /-- RELAY_RESEND (R631): A chunk is resent after 10 ms without RACK OK, and the relay stalls after 8 attempts. -/
  | relayResend (c : Fin 2048)
  /-- ACTIVATION_RESET (R632): At T, the activation is written and the device resets. -/
  | activationReset
  /-- TRIAL_CONFIRM (R634): The trial conditions hold, so the image is confirmed. -/
  | trialConfirm
  /-- TRIAL_WINDOW_END (R635): The confirmation window ends unconfirmed, so the slot fails and the device resets. -/
  | trialWindowEnd
  /-- OTP_CHECK (R619): Every 1 s, the OTP copies are compared, and a mismatch raises KEYINT. -/
  | otpCheck (bad : Option (Fin 5))
  /-- KEY_REVOKE (R620): A write of NVM_REVOKE with the key pattern revokes key slots. -/
  | keyRevoke (m : Master) (v : Word)
  /-- LOCKSTEP_MISMATCH (R555): The supervisor's two cores disagree, which raises the fixed-SEAL source LOCKSTEP in hardware. -/
  | lockstepMismatch
  /-- LC_PLL_LOCK (R525): An LC PLL acquires or regains lock, so the lanes of its group may recover their clocks again. -/
  | lcPllLock (b : Bool) (band : Fin 16)
  /-- HOST_PCS_DOWN (R297): HS0 loses PCS synchronisation or HS1 loses block lock, so the host port is no longer UP. -/
  | hostPcsDown (hs1 : Bool)
  /-- VAUX_BELOW_5V (R509): VAUX falls below about 5 V, so the always-on PMU_LAST and THERM_SDREC lose their contents. -/
  | vauxBelow5v
  /-- SOUT_READBACK_CHANGE (R497): An output's readback disagrees with the commanded level outside an off-pulse, after the 1 ms or 10 ms allowance, so RBERR latches and the output turns off. -/
  | soutReadbackChange (n : Fin 4) (rb : Bool)
  /-- POD_SAMPLE (R278): A pod reaches a sample instant OFS of its window, samples and stamps its channels, and sends a SAMPLE frame. -/
  | podSample (l : Fin 56) (slot : Fin 8) (vs : List (BitVec 16)) (temp : BitVec 16)
  /-- POD_EDGE_PLAY (R268): At ANCHOR plus a record's OFFSET, the pod sets an output to its LEVEL, under the interlock. -/
  | podEdgePlay (l : Fin 56) (e : Fin 256)
  /-- POD_KEEP_RX (R267): A pod receives a KEEP frame, which sets its window grid, its claim record and its link-loss timer. -/
  | podKeepRx (l : Fin 56) (b : Bool) (f : LinkFrame)
  /-- POD_BYPASS_COMPLETE (R274): The pod's bypass switch finishes moving, so BYPST changes and an extra PERIODIC is sent. -/
  | podBypassComplete (l : Fin 56) (fault : Bool)
  /-- POD_POWER_UP (R273): A pod powers up, blocks with every output off and starts with C_acc at 0. -/
  | podPowerUp (l : Fin 56) (cap : Word64)
  deriving DecidableEq, Repr

end Sys2Proof
end

