-- ==== Sys2Proof/Decode.lean ====
section
/-! DEFINITION. Decode.lean: the table's rows as words. The rows of spec/opcode_table.json carry no bits ("pattern" and "fields" are empty
for every row): a command of this block is an event, an access or a frame, not a coded word, so no word spells one. The engine's own
64-bit words are read in Machine/Words.lean (04 R174), where the loader needs them. -/
namespace Sys2Proof

/-- The command that a word spells by the table's bits: none, for the table gives bits to no row. -/
def decodeTableWord (_nbits _w : Nat) : Option Instr := none

end Sys2Proof
end

