-- ==== Sys2Proof/Config.lean ====
section
/-! DEFINITION. Config.lean: what the spec leaves open (free values, constants without a body) and the limits it fixes. No
proof can see a free value: a claim that holds for one holds for every one. Each is named in notes/assumptions. -/
namespace Sys2Proof.Config

/-- Whether a report of an inexact quantity shows the next higher code; the spec gives no rounding (DESIGN CHOICE, log 3). -/
opaque roundUp : Rat → Bool
/-- 1/√3 as the device computes it (02 R60; DESIGN CHOICE, log 3). -/
opaque invSqrt3 : Rat
/-- The cosine of an angle in turns as the device computes it (02 R64; DESIGN CHOICE, log 3). -/
opaque cosTurns : Rat → Rat
/-- The sine of an angle in turns as the device computes it (02 R64; DESIGN CHOICE, log 3). -/
opaque sinTurns : Rat → Rat
/-- atan2(y, x) / 2π in turns as the device computes it (02 R64; DESIGN CHOICE, log 3). -/
opaque atan2Turns : Rat → Rat → Rat
/-- The square root as the device computes it (02 R62; DESIGN CHOICE, log 3). -/
opaque sqrtRat : Rat → Rat
/-- The natural logarithm as the device computes it (14 R527; DESIGN CHOICE, log 3). -/
opaque lnRat : Rat → Rat
/-- A free word, by the number of free values drawn before it (DESIGN CHOICE, log 2). -/
opaque freeValue : Nat → BitVec 64
/-- The word that codes a cause in a YIELD frame; the spec names the causes and gives no codes (09 R359; DESIGN CHOICE, log 2). -/
opaque yieldCause : Nat → BitVec 64

end Sys2Proof.Config
end

