-- ==== Sys2Proof/Machine/RegMap.lean ====
section
/-! DEFINITION. Machine/RegMap.lean: the register map (18_address_map.md R639, R640 and the register and field tables
of every chapter): one row for each register or array of registers with its reset value and the access codes of its
bits (00_scope.md R8, R9), the addresses by name (`R`), and the fields by name (`F`). -/
namespace Sys2Proof.Machine

/-- A field of a register: the register's address, the field's lowest bit and its width. -/
structure Fld where
  addr : Nat
  lo : Nat
  width : Nat
  deriving DecidableEq, Repr

/-- A register, or an array of them, with its access codes as masks (R9): `rw` bits a write sets, `w1c` bits a written 1
clears, `rc` bits a read clears, `wo` bits a write acts on and a read shows as 0. A bit in none of the masks is RO. -/
structure RegRow where
  base : Nat
  stride : Nat
  count : Nat
  reset : Word
  rw : Word
  w1c : Word
  rc : Word
  wo : Word
  deriving DecidableEq, Repr

/-- The registers of the SYS block. -/
def regRowsSYS : List RegRow := [
  ⟨0x10000000, 0x0, 1, 0xB645601, 0x0, 0x0, 0x0, 0x0⟩ /- SYS_ID -/,
  ⟨0x10000004, 0x0, 1, 0x0, 0x0, 0x0, 0x0, 0x0⟩ /- SYS_SERIAL -/,
  ⟨0x10000008, 0x0, 1, 0x0, 0x0, 0x0, 0x0, 0x0⟩ /- SYS_LOT -/,
  ⟨0x1000000C, 0x0, 1, 0x38031809, 0x0, 0x0, 0x0, 0x0⟩ /- SYS_CAPS -/,
  ⟨0x10000010, 0x0, 1, 0xC00040, 0x0, 0x0, 0x0, 0x0⟩ /- SYS_MEM -/,
  ⟨0x10000014, 0x0, 1, 0x0, 0x0, 0x0, 0x0, 0x0⟩ /- SYS_IMGVER -/,
  ⟨0x10000020, 0x4, 4, 0x0, 0xFFFFFFFF, 0x0, 0x0, 0x0⟩ /- SYS_SCRATCH -/,
  ⟨0x10000040, 0x0, 1, 0x12, 0x0, 0x0, 0x0, 0x0⟩ /- SYS_STATE -/,
  ⟨0x10000044, 0x0, 1, 0x0, 0x0, 0x0, 0x0, 0x0⟩ /- SYS_REACT -/,
  ⟨0x10000048, 0x0, 1, 0x0, 0x0, 0x0, 0x0, 0x0⟩ /- SYS_IRQSRC -/,
  ⟨0x1000004C, 0x0, 1, 0x1, 0x7, 0x0, 0x0, 0x0⟩ /- SYS_CTRL -/,
  ⟨0x10000050, 0x0, 1, 0x1, 0x0, 0x0, 0x0, 0x0⟩ /- SYS_RSTCAUSE -/,
  ⟨0x10000054, 0x0, 1, 0x100, 0x0, 0x0, 0x0, 0x0⟩ /- SYS_STRAP -/,
  ⟨0x10000058, 0x0, 1, 0x0, 0x0, 0x0, 0x0, 0x0⟩ /- SYS_CFGST -/,
  ⟨0x1000005C, 0x0, 1, 0x0, 0x0, 0x0, 0x0, 0x0⟩ /- SYS_CFGGEN -/,
  ⟨0x10000060, 0x0, 1, 0x0, 0x0, 0x7F, 0x0, 0x0⟩ /- SYS_EVT -/]

/-- The registers of the PMU block. -/
def regRowsPMU : List RegRow := [
  ⟨0x10010000, 0x0, 1, 0x0, 0x0, 0x0, 0x0, 0x0⟩ /- PMU_STAT -/,
  ⟨0x10010004, 0x0, 1, 0x0, 0x0, 0xF, 0x0, 0x0⟩ /- PMU_EVT -/,
  ⟨0x10010008, 0x0, 1, 0x3390001, 0xFFF0003, 0x0, 0x0, 0x0⟩ /- PMU_CFG -/,
  ⟨0x1001000C, 0x0, 1, 0x0, 0x0, 0x0, 0x0, 0x0⟩ /- PMU_VAUX -/,
  ⟨0x10010010, 0x0, 1, 0x0, 0x0, 0x0, 0x0, 0x0⟩ /- PMU_VMON0 -/,
  ⟨0x10010014, 0x0, 1, 0x0, 0x0, 0x0, 0x0, 0x0⟩ /- PMU_VMON1 -/,
  ⟨0x10010018, 0x0, 1, 0x0, 0x0, 0x0, 0x0, 0x0⟩ /- PMU_VMON2 -/,
  ⟨0x1001001C, 0x0, 1, 0x0, 0x0, 0x0, 0xF7030000, 0x0⟩ /- PMU_LAST -/]

/-- The registers of the CLK block. -/
def regRowsCLK : List RegRow := [
  ⟨0x10020000, 0x0, 1, 0x0, 0x3, 0x0, 0x0, 0x0⟩ /- CLK_CFG -/,
  ⟨0x10020004, 0x0, 1, 0x0, 0x0, 0x3F00, 0x0, 0x0⟩ /- CLK_STAT -/,
  ⟨0x10020008, 0x0, 1, 0x64140100, 0xFFFFFFFF, 0x0, 0x0, 0x0⟩ /- CLK_LOCK -/,
  ⟨0x1002000C, 0x0, 1, 0x64, 0xFFFF, 0x0, 0x0, 0x0⟩ /- CLK_COAST -/,
  ⟨0x10020010, 0x0, 1, 0x0, 0x0, 0x0, 0x0, 0x0⟩ /- CLK_COASTT -/,
  ⟨0x10020014, 0x0, 1, 0x0, 0x0, 0x0, 0x0, 0x0⟩ /- CLK_BAND -/,
  ⟨0x10020018, 0x0, 1, 0x0, 0x0, 0x0, 0x0, 0x0⟩ /- CLK_PERR -/]

/-- The registers of the THERM block. -/
def regRowsTHERM : List RegRow := [
  ⟨0x10030000, 0x0, 1, 0x0, 0x0, 0xF0FFF, 0x0, 0x0⟩ /- THERM_EVT -/,
  ⟨0x10030004, 0x0, 1, 0x11, 0x0, 0x0, 0x0, 0x0⟩ /- THERM_BAND -/,
  ⟨0x10030008, 0x0, 1, 0x0, 0x0, 0x0, 0x0, 0x0⟩ /- THERM_VALID -/,
  ⟨0x1003000C, 0x0, 1, 0x0, 0x0, 0xFFF, 0x0, 0x0⟩ /- THERM_TXEVT -/,
  ⟨0x10030010, 0x4, 12, 0x0, 0x0, 0x0, 0x0, 0x0⟩ /- THERM_TS -/,
  ⟨0x10030040, 0x4, 4, 0x0, 0x0, 0x0, 0x0, 0x0⟩ /- THERM_TX -/,
  ⟨0x10030050, 0x4, 4, 0xF6E03E8, 0x8FFFFFFF, 0x0, 0x0, 0x0⟩ /- THERM_TXCFG -/,
  ⟨0x10030060, 0x4, 4, 0x32002A8, 0xFFFFFFFF, 0x0, 0x0, 0x0⟩ /- THERM_TXLIM -/,
  ⟨0x10030070, 0x0, 1, 0x0, 0x0, 0xC0000000, 0x0, 0x0⟩ /- THERM_SDREC -/,
  ⟨0x10030074, 0x0, 1, 0x0, 0x0, 0x0, 0x0, 0x0⟩ /- THERM_SDCNT -/]

/-- The registers of the CHRONO block. -/
def regRowsCHRONO : List RegRow := [
  ⟨0x10040000, 0x0, 1, 0x0, 0x0, 0x0, 0x0, 0x0⟩ /- CHRONO_NOW_LO -/,
  ⟨0x10040004, 0x0, 1, 0x0, 0x0, 0x0, 0x0, 0x0⟩ /- CHRONO_NOW_HI -/,
  ⟨0x10040008, 0x0, 1, 0x0, 0xFFFFFFFF, 0x0, 0x0, 0x0⟩ /- CHRONO_SET_LO -/,
  ⟨0x1004000C, 0x0, 1, 0x0, 0xFFFFFFFF, 0x0, 0x0, 0x0⟩ /- CHRONO_SET_HI -/,
  ⟨0x10040010, 0x0, 1, 0x5, 0x7, 0x0, 0x0, 0x0⟩ /- CHRONO_CTRL -/,
  ⟨0x10040014, 0x0, 1, 0x0, 0x0, 0x1F00, 0x0, 0x0⟩ /- CHRONO_STAT -/,
  ⟨0x10040018, 0x0, 1, 0x0, 0xFFFFFFFF, 0x0, 0x0, 0x0⟩ /- CHRONO_TRIM -/,
  ⟨0x1004001C, 0x0, 1, 0x0, 0x0, 0x0, 0x0, 0x0⟩ /- CHRONO_OFFSET -/,
  ⟨0x10040020, 0x0, 1, 0x0, 0x0, 0x0, 0x0, 0x0⟩ /- CHRONO_DELAY -/,
  ⟨0x10040024, 0x0, 1, 0x3E8320A, 0xFFFFFFFF, 0x0, 0x0, 0x0⟩ /- CHRONO_SERVO -/,
  ⟨0x10040028, 0x0, 1, 0x3E8, 0xFFFF, 0x0, 0x0, 0x0⟩ /- CHRONO_INT -/,
  ⟨0x1004002C, 0x0, 1, 0x0, 0xFFFFFFFF, 0x0, 0x0, 0x0⟩ /- CHRONO_ASYM -/]

/-- The registers of the SEXT block. -/
def regRowsSEXT : List RegRow := [
  ⟨0x10050000, 0x0, 1, 0x0, 0x7, 0x0, 0x0, 0x0⟩ /- SEXT_CTRL -/,
  ⟨0x10050004, 0x0, 1, 0x3E8, 0x7FF, 0x0, 0x0, 0x0⟩ /- SEXT_N -/,
  ⟨0x10050008, 0x0, 1, 0x42002D00, 0xFFFFFFFF, 0x0, 0x0, 0x0⟩ /- SEXT_FLIM -/,
  ⟨0x1005000C, 0x0, 1, 0x32000000, 0xFFFFFFFF, 0x0, 0x0, 0x0⟩ /- SEXT_FNOM -/,
  ⟨0x10050010, 0x0, 1, 0x58DB92, 0xFFFFFFFF, 0x0, 0x0, 0x0⟩ /- SEXT_KP -/,
  ⟨0x10050014, 0x0, 1, 0xF6BD7, 0xFFFFFFFF, 0x0, 0x0, 0x0⟩ /- SEXT_KI -/,
  ⟨0x10050018, 0x0, 1, 0x38E005B, 0xFFFFFFFF, 0x0, 0x0, 0x0⟩ /- SEXT_WIN -/,
  ⟨0x1005001C, 0x0, 1, 0x16C0308, 0xFFFF0FFF, 0x0, 0x0, 0x0⟩ /- SEXT_LCFG -/,
  ⟨0x10050020, 0x0, 1, 0x40002666, 0xFFFFFFFF, 0x0, 0x0, 0x0⟩ /- SEXT_AMP -/,
  ⟨0x10050024, 0x0, 1, 0x0, 0xFFFFFF, 0x0, 0x0, 0x0⟩ /- SEXT_SRCIDX -/,
  ⟨0x10050028, 0x0, 1, 0x0, 0xFFFFFFFF, 0x0, 0x0, 0x0⟩ /- SEXT_OFS -/,
  ⟨0x1005002C, 0x0, 1, 0x0, 0xFFFFFFFF, 0x0, 0x0, 0x0⟩ /- SEXT_COASTMAX -/,
  ⟨0x10050030, 0x0, 1, 0x0, 0x0, 0x3F00, 0x0, 0x0⟩ /- SEXT_STAT -/,
  ⟨0x10050034, 0x0, 1, 0x0, 0x0, 0x0, 0x0, 0x0⟩ /- SEXT_ANGLE -/,
  ⟨0x10050038, 0x0, 1, 0x0, 0x0, 0x0, 0x0, 0x0⟩ /- SEXT_FREQ -/,
  ⟨0x1005003C, 0x0, 1, 0x0, 0x0, 0x0, 0x0, 0x0⟩ /- SEXT_PERR -/,
  ⟨0x10050040, 0x0, 1, 0x0, 0x0, 0x0, 0x0, 0x0⟩ /- SEXT_SERR -/,
  ⟨0x10050044, 0x0, 1, 0x0, 0x0, 0x0, 0x0, 0x0⟩ /- SEXT_PIDX -/,
  ⟨0x10050048, 0x0, 1, 0x0, 0x0, 0x0, 0x0, 0x0⟩ /- SEXT_B1_LO -/,
  ⟨0x1005004C, 0x0, 1, 0x0, 0x0, 0x0, 0x0, 0x0⟩ /- SEXT_B1_HI -/,
  ⟨0x10050050, 0x0, 1, 0x0, 0x0, 0x0, 0x0, 0x0⟩ /- SEXT_B2_LO -/,
  ⟨0x10050054, 0x0, 1, 0x0, 0x0, 0x0, 0x0, 0x0⟩ /- SEXT_B2_HI -/,
  ⟨0x10050058, 0x0, 1, 0x0, 0x0, 0x0, 0x0, 0x0⟩ /- SEXT_COAST_T -/,
  ⟨0x1005005C, 0x0, 1, 0x0, 0x0, 0x0, 0x0, 0x0⟩ /- SEXT_LOCKCNT -/,
  ⟨0x10050060, 0x0, 1, 0x0, 0x0, 0x0, 0x0, 0x0⟩ /- SEXT_AMPL -/,
  ⟨0x10050064, 0x0, 1, 0xBD65, 0x0, 0x0, 0x0, 0x0⟩ /- SEXT_DMIN -/,
  ⟨0x10050068, 0x0, 1, 0x115C7, 0x0, 0x0, 0x0, 0x0⟩ /- SEXT_DMAX -/]

/-- The registers of the ENG block. -/
def regRowsENG : List RegRow := [
  ⟨0x10100000, 0x0, 1, 0x1002, 0xFF03, 0x0, 0x0, 0x0⟩ /- ENG_CTRL -/,
  ⟨0x10100004, 0x0, 1, 0x0, 0x0, 0x7F00, 0x0, 0x0⟩ /- ENG_STAT -/,
  ⟨0x10100008, 0x0, 1, 0x1F401F4, 0xFFFFFFFF, 0x0, 0x0, 0x0⟩ /- ENG_TIMING -/,
  ⟨0x1010000C, 0x0, 1, 0xFDC, 0x0, 0x0, 0x0, 0x0⟩ /- ENG_BUDGET -/,
  ⟨0x10100010, 0x0, 1, 0xFD7, 0x0, 0x0, 0x0, 0x0⟩ /- ENG_LIMIT -/,
  ⟨0x10100014, 0x0, 1, 0x4000400, 0x7FF07FF, 0x0, 0x0, 0x0⟩ /- ENG_ALMLEN -/,
  ⟨0x10100018, 0x0, 1, 0x0, 0x0, 0x0, 0x0, 0x0⟩ /- ENG_ROWCYC -/,
  ⟨0x1010001C, 0x0, 1, 0x0, 0x0, 0x0, 0x0, 0x0⟩ /- ENG_LASTCYC -/,
  ⟨0x10100020, 0x0, 1, 0x0, 0x0, 0x0, 0x0, 0x0⟩ /- ENG_STALL -/,
  ⟨0x10100024, 0x0, 1, 0x0, 0x0, 0x0, 0xFFFFFFFF, 0x0⟩ /- ENG_PEAKCYC -/,
  ⟨0x10100028, 0x0, 1, 0x3, 0xFF, 0x0, 0x0, 0x0⟩ /- ENG_OVR_CFG -/,
  ⟨0x1010002C, 0x0, 1, 0x0, 0x0, 0x0, 0x0, 0x0⟩ /- ENG_OVR_CNT -/,
  ⟨0x10100030, 0x0, 1, 0x0, 0x0, 0x0, 0x0, 0x0⟩ /- ENG_OVR_RUN -/,
  ⟨0x10100034, 0x0, 1, 0x0, 0x0, 0x0, 0x0, 0x0⟩ /- ENG_OVR_INFO -/,
  ⟨0x10100038, 0x0, 1, 0x0, 0x0, 0x0, 0x0, 0x0⟩ /- ENG_OVR_T_LO -/,
  ⟨0x1010003C, 0x0, 1, 0x0, 0x0, 0x0, 0x0, 0x0⟩ /- ENG_OVR_T_HI -/,
  ⟨0x10100040, 0x0, 1, 0x0, 0x0, 0x0, 0x0, 0x0⟩ /- ENG_PCNT_LO -/,
  ⟨0x10100044, 0x0, 1, 0x0, 0x0, 0x0, 0x0, 0x0⟩ /- ENG_PCNT_HI -/,
  ⟨0x10100048, 0x0, 1, 0x0, 0x0, 0x0, 0x0, 0x0⟩ /- ENG_ROW -/,
  ⟨0x1010004C, 0x0, 1, 0x0, 0x0, 0x0, 0x0, 0x0⟩ /- ENG_STALLSRC -/,
  ⟨0x10100050, 0x0, 1, 0xFFFFFFFF, 0xFFFFFFFF, 0x0, 0x0, 0x0⟩ /- ENG_LANEEN_LO -/,
  ⟨0x10100054, 0x0, 1, 0xFFFFFFFF, 0xFFFFFFFF, 0x0, 0x0, 0x0⟩ /- ENG_LANEEN_HI -/,
  ⟨0x10100058, 0x0, 1, 0x0, 0x7FF00FF, 0x0, 0x0, 0x0⟩ /- ENG_SPAGE_V -/,
  ⟨0x1010005C, 0x0, 1, 0x0, 0x3FFF07FF, 0x0, 0x0, 0x0⟩ /- ENG_SPAGE_S -/,
  ⟨0x10100060, 0x0, 1, 0x0, 0x7FF03FF, 0x0, 0x0, 0x0⟩ /- ENG_INBOX -/,
  ⟨0x10100064, 0x0, 1, 0x0, 0x7FF01FF, 0x0, 0x0, 0x0⟩ /- ENG_MIRROR -/,
  ⟨0x10100068, 0x0, 1, 0x0, 0x0, 0x0, 0x0, 0x0⟩ /- ENG_LADLE -/,
  ⟨0x10100070, 0x0, 1, 0x0, 0x0, 0xFFFFFFFF, 0x0, 0x0⟩ /- ENG_FLG_SAT_LO -/,
  ⟨0x10100074, 0x0, 1, 0x0, 0x0, 0xFFFFFFFF, 0x0, 0x0⟩ /- ENG_FLG_SAT_HI -/,
  ⟨0x10100078, 0x0, 1, 0x0, 0x0, 0xFFFFFFFF, 0x0, 0x0⟩ /- ENG_FLG_AOV_LO -/,
  ⟨0x1010007C, 0x0, 1, 0x0, 0x0, 0xFFFFFFFF, 0x0, 0x0⟩ /- ENG_FLG_AOV_HI -/,
  ⟨0x10100080, 0x0, 1, 0x0, 0x0, 0xFFFFFFFF, 0x0, 0x0⟩ /- ENG_FLG_DZ_LO -/,
  ⟨0x10100084, 0x0, 1, 0x0, 0x0, 0xFFFFFFFF, 0x0, 0x0⟩ /- ENG_FLG_DZ_HI -/,
  ⟨0x10100088, 0x0, 1, 0x0, 0x0, 0xFFFFFFFF, 0x0, 0x0⟩ /- ENG_FLG_LUT_LO -/,
  ⟨0x1010008C, 0x0, 1, 0x0, 0x0, 0xFFFFFFFF, 0x0, 0x0⟩ /- ENG_FLG_LUT_HI -/,
  ⟨0x10100090, 0x0, 1, 0x0, 0x0, 0xFFFFFFFF, 0x0, 0x0⟩ /- ENG_FLG_LOWC_LO -/,
  ⟨0x10100094, 0x0, 1, 0x0, 0x0, 0xFFFFFFFF, 0x0, 0x0⟩ /- ENG_FLG_LOWC_HI -/,
  ⟨0x10100098, 0x0, 1, 0x0, 0x0, 0x3, 0x0, 0x0⟩ /- ENG_SFLG -/]

/-- The registers of the ALM block. -/
def regRowsALM : List RegRow := [
  ⟨0x110E8000, 0x0, 1, 0x0, 0x70000, 0x0, 0x0, 0x0⟩ /- ALM_MODE -/,
  ⟨0x110E8004, 0x0, 1, 0x1, 0xFF, 0x0, 0x0, 0x0⟩ /- ALM_MCFG -/,
  ⟨0x110E8008, 0x0, 1, 0x0, 0x80003FFF, 0x0, 0x0, 0x0⟩ /- ALM_MREQ -/,
  ⟨0x110E800C, 0x0, 1, 0x0, 0x7FF000F, 0x0, 0x0, 0x0⟩ /- ALM_HOVSRC -/,
  ⟨0x110E8010, 0x0, 1, 0x0, 0x7FF0000, 0x0, 0x0, 0x0⟩ /- ALM_HOVDST -/,
  ⟨0x110E8014, 0x0, 1, 0x0, 0x0, 0x0, 0x0, 0x0⟩ /- ALM_SWAP -/,
  ⟨0x110E8018, 0x0, 1, 0x0, 0x0, 0x0, 0x0, 0x0⟩ /- ALM_SWAPP_LO -/,
  ⟨0x110E801C, 0x0, 1, 0x0, 0x0, 0x0, 0x0, 0x0⟩ /- ALM_SWAPP_HI -/,
  ⟨0x110E8020, 0x0, 1, 0x0, 0x0, 0xF, 0x0, 0x0⟩ /- ALM_STAT -/,
  ⟨0x110E8024, 0x0, 1, 0x0, 0x0, 0x0, 0x0, 0x0⟩ /- ALM_MCNT -/]

/-- The registers of the LOG block. -/
def regRowsLOG : List RegRow := [
  ⟨0x17000000, 0x0, 1, 0x0, 0x6, 0x0, 0x0, 0x8⟩ /- LOG_CTRL -/,
  ⟨0x17000004, 0x0, 1, 0x0, 0x0, 0x700, 0x0, 0x0⟩ /- LOG_STAT -/,
  ⟨0x17000008, 0x0, 1, 0x0, 0x7F, 0x0, 0x0, 0x0⟩ /- LOG_CFG -/,
  ⟨0x1700000C, 0x0, 1, 0x0, 0xFFFFFFFF, 0x0, 0x0, 0x0⟩ /- LOG_PREPOST -/,
  ⟨0x17000010, 0x0, 1, 0x80000040, 0x0, 0x0, 0x0, 0x0⟩ /- LOG_RECSZ -/,
  ⟨0x17000014, 0x0, 1, 0x0, 0xFFFF, 0x0, 0x0, 0x0⟩ /- LOG_CAPOFS -/,
  ⟨0x17000018, 0x0, 1, 0x0, 0x0, 0x0, 0x0, 0x0⟩ /- LOG_TRIGPOS -/,
  ⟨0x1700001C, 0x0, 1, 0x0, 0x0, 0x0, 0x0, 0x0⟩ /- LOG_FIRST -/,
  ⟨0x17000020, 0x0, 1, 0x0, 0x0, 0x0, 0x0, 0x0⟩ /- LOG_TRIGT_LO -/,
  ⟨0x17000024, 0x0, 1, 0x0, 0x0, 0x0, 0x0, 0x0⟩ /- LOG_TRIGT_HI -/,
  ⟨0x17000028, 0x0, 1, 0x0, 0x0, 0x0, 0x0, 0x0⟩ /- LOG_DROP -/,
  ⟨0x17000040, 0x4, 4, 0x0, 0xF03F007F, 0x0, 0x0, 0x0⟩ /- LOG_TRIG -/,
  ⟨0x17000050, 0x4, 4, 0x0, 0xFFFFFFFF, 0x0, 0x0, 0x0⟩ /- LOG_THR -/,
  ⟨0x17000100, 0x4, 64, 0x0, 0xFFFFFFFF, 0x0, 0x0, 0x0⟩ /- LOG_SIG -/]

/-- The registers of the MOD block. -/
def regRowsMOD : List RegRow := [
  ⟨0x12000000, 0x40, 448, 0x400000, 0xFFEF00F9, 0x0, 0x0, 0x0⟩ /- MOD_CFG -/,
  ⟨0x12000004, 0x40, 448, 0x4000, 0xFFFFFFF, 0x0, 0x0, 0x0⟩ /- MOD_PERIOD -/,
  ⟨0x12000008, 0x40, 448, 0x0, 0xFFFFFFF, 0x0, 0x0, 0x0⟩ /- MOD_CMPA -/,
  ⟨0x1200000C, 0x40, 448, 0x0, 0xFFFFFFF, 0x0, 0x0, 0x0⟩ /- MOD_CMPB -/,
  ⟨0x12000010, 0x40, 448, 0x0, 0xFFFFFFF, 0x0, 0x0, 0x0⟩ /- MOD_PHASE -/,
  ⟨0x12000014, 0x40, 448, 0x0, 0xFFF0FFF, 0x0, 0x0, 0x0⟩ /- MOD_DT -/,
  ⟨0x12000018, 0x40, 448, 0x0, 0xFFF, 0x0, 0x0, 0x0⟩ /- MOD_MINP -/,
  ⟨0x1200001C, 0x40, 448, 0x0, 0xFFFFFFFF, 0x0, 0x0, 0x0⟩ /- MOD_SLEW -/,
  ⟨0x12000020, 0x40, 448, 0x4000, 0x0, 0x0, 0x0, 0x0⟩ /- MOD_ACT_PERIOD -/,
  ⟨0x12000024, 0x40, 448, 0x0, 0x0, 0x0, 0x0, 0x0⟩ /- MOD_ACT_CMPA -/,
  ⟨0x12000028, 0x40, 448, 0x0, 0x0, 0x0, 0x0, 0x0⟩ /- MOD_ACT_CMPB -/,
  ⟨0x1200002C, 0x40, 448, 0x0, 0x0, 0x0, 0x0, 0x0⟩ /- MOD_ACT_PHASE -/,
  ⟨0x12000030, 0x40, 448, 0x0, 0x0, 0x0, 0x0, 0x0⟩ /- MOD_ACT_DT -/,
  ⟨0x12000034, 0x40, 448, 0x0, 0x0, 0xFF, 0x0, 0x0⟩ /- MOD_CHST -/,
  ⟨0x12000038, 0x40, 448, 0x0, 0x0, 0x0, 0x0, 0x0⟩ /- MOD_ACT_MINP -/,
  ⟨0x1200003C, 0x40, 448, 0x0, 0x0, 0x0, 0x0, 0x0⟩ /- MOD_NIDX -/,
  ⟨0x12010000, 0x40, 8, 0x400000, 0xFFEF00F9, 0x0, 0x0, 0x0⟩ /- MOD_CFG (local pairs) -/,
  ⟨0x12010400, 0x40, 9, 0x400000, 0xFFEF00F9, 0x0, 0x0, 0x0⟩ /- MOD_CFG (auxiliary legs) -/,
  ⟨0x12010004, 0x40, 8, 0x4000, 0xFFFFFFF, 0x0, 0x0, 0x0⟩ /- MOD_PERIOD (local pairs) -/,
  ⟨0x12010404, 0x40, 9, 0x4000, 0xFFFFFFF, 0x0, 0x0, 0x0⟩ /- MOD_PERIOD (auxiliary legs) -/,
  ⟨0x12010008, 0x40, 8, 0x0, 0xFFFFFFF, 0x0, 0x0, 0x0⟩ /- MOD_CMPA (local pairs) -/,
  ⟨0x12010408, 0x40, 9, 0x0, 0xFFFFFFF, 0x0, 0x0, 0x0⟩ /- MOD_CMPA (auxiliary legs) -/,
  ⟨0x1201000C, 0x40, 8, 0x0, 0xFFFFFFF, 0x0, 0x0, 0x0⟩ /- MOD_CMPB (local pairs) -/,
  ⟨0x1201040C, 0x40, 9, 0x0, 0xFFFFFFF, 0x0, 0x0, 0x0⟩ /- MOD_CMPB (auxiliary legs) -/,
  ⟨0x12010010, 0x40, 8, 0x0, 0xFFFFFFF, 0x0, 0x0, 0x0⟩ /- MOD_PHASE (local pairs) -/,
  ⟨0x12010410, 0x40, 9, 0x0, 0xFFFFFFF, 0x0, 0x0, 0x0⟩ /- MOD_PHASE (auxiliary legs) -/,
  ⟨0x12010014, 0x40, 8, 0x0, 0xFFF0FFF, 0x0, 0x0, 0x0⟩ /- MOD_DT (local pairs) -/,
  ⟨0x12010414, 0x40, 9, 0x0, 0xFFF0FFF, 0x0, 0x0, 0x0⟩ /- MOD_DT (auxiliary legs) -/,
  ⟨0x12010018, 0x40, 8, 0x0, 0xFFF, 0x0, 0x0, 0x0⟩ /- MOD_MINP (local pairs) -/,
  ⟨0x12010418, 0x40, 9, 0x0, 0xFFF, 0x0, 0x0, 0x0⟩ /- MOD_MINP (auxiliary legs) -/,
  ⟨0x1201001C, 0x40, 8, 0x0, 0xFFFFFFFF, 0x0, 0x0, 0x0⟩ /- MOD_SLEW (local pairs) -/,
  ⟨0x1201041C, 0x40, 9, 0x0, 0xFFFFFFFF, 0x0, 0x0, 0x0⟩ /- MOD_SLEW (auxiliary legs) -/,
  ⟨0x12010020, 0x40, 8, 0x4000, 0x0, 0x0, 0x0, 0x0⟩ /- MOD_ACT_PERIOD (local pairs) -/,
  ⟨0x12010420, 0x40, 9, 0x4000, 0x0, 0x0, 0x0, 0x0⟩ /- MOD_ACT_PERIOD (auxiliary legs) -/,
  ⟨0x12010024, 0x40, 8, 0x0, 0x0, 0x0, 0x0, 0x0⟩ /- MOD_ACT_CMPA (local pairs) -/,
  ⟨0x12010424, 0x40, 9, 0x0, 0x0, 0x0, 0x0, 0x0⟩ /- MOD_ACT_CMPA (auxiliary legs) -/,
  ⟨0x12010028, 0x40, 8, 0x0, 0x0, 0x0, 0x0, 0x0⟩ /- MOD_ACT_CMPB (local pairs) -/,
  ⟨0x12010428, 0x40, 9, 0x0, 0x0, 0x0, 0x0, 0x0⟩ /- MOD_ACT_CMPB (auxiliary legs) -/,
  ⟨0x1201002C, 0x40, 8, 0x0, 0x0, 0x0, 0x0, 0x0⟩ /- MOD_ACT_PHASE (local pairs) -/,
  ⟨0x1201042C, 0x40, 9, 0x0, 0x0, 0x0, 0x0, 0x0⟩ /- MOD_ACT_PHASE (auxiliary legs) -/,
  ⟨0x12010030, 0x40, 8, 0x0, 0x0, 0x0, 0x0, 0x0⟩ /- MOD_ACT_DT (local pairs) -/,
  ⟨0x12010430, 0x40, 9, 0x0, 0x0, 0x0, 0x0, 0x0⟩ /- MOD_ACT_DT (auxiliary legs) -/,
  ⟨0x12010034, 0x40, 8, 0x0, 0x0, 0xFF, 0x0, 0x0⟩ /- MOD_CHST (local pairs) -/,
  ⟨0x12010434, 0x40, 9, 0x0, 0x0, 0xFF, 0x0, 0x0⟩ /- MOD_CHST (auxiliary legs) -/,
  ⟨0x12010038, 0x40, 8, 0x0, 0x0, 0x0, 0x0, 0x0⟩ /- MOD_ACT_MINP (local pairs) -/,
  ⟨0x12010438, 0x40, 9, 0x0, 0x0, 0x0, 0x0, 0x0⟩ /- MOD_ACT_MINP (auxiliary legs) -/,
  ⟨0x1201003C, 0x40, 8, 0x0, 0x0, 0x0, 0x0, 0x0⟩ /- MOD_NIDX (local pairs) -/,
  ⟨0x1201043C, 0x40, 9, 0x0, 0x0, 0x0, 0x0, 0x0⟩ /- MOD_NIDX (auxiliary legs) -/,
  ⟨0x12010800, 0x0, 1, 0x0, 0x0, 0x0, 0x0, 0xFFFF⟩ /- MOD_GLOAD -/,
  ⟨0x12010804, 0x0, 1, 0x0, 0x0, 0x0, 0x0, 0x0⟩ /- MOD_GARM -/,
  ⟨0x12010808, 0x0, 1, 0xFA00, 0xFFFFFF, 0x0, 0x0, 0x0⟩ /- MOD_AREF -/,
  ⟨0x1201080C, 0x0, 1, 0x0, 0x0, 0x1, 0x0, 0x0⟩ /- MOD_GSTAT -/,
  ⟨0x12010810, 0x0, 1, 0x0, 0xFFFFFFFF, 0x0, 0x0, 0x0⟩ /- MOD_TREF_LO -/,
  ⟨0x12010814, 0x0, 1, 0x0, 0xFFFFFFFF, 0x0, 0x0, 0x0⟩ /- MOD_TREF_HI -/,
  ⟨0x12010818, 0x0, 1, 0x0, 0x0, 0x0, 0x0, 0x0⟩ /- MOD_GENT -/,
  ⟨0x1201081C, 0x0, 1, 0x0, 0x0, 0x0, 0x0, 0x0⟩ /- MOD_FSUM -/,
  ⟨0x12010820, 0x0, 1, 0x0, 0x0, 0x0, 0x0, 0x0⟩ /- MOD_MPCNT -/]

/-- The registers of the OCL block. -/
def regRowsOCL : List RegRow := [
  ⟨0x13100000, 0x0, 1, 0x1, 0xFFFF, 0x0, 0x0, 0x0⟩ /- OCL_CLAIM -/,
  ⟨0x13100004, 0x0, 1, 0x200808, 0xFFFF7F, 0x0, 0x0, 0x0⟩ /- OCL_TCFG -/,
  ⟨0x13100008, 0x0, 1, 0x104, 0x1FF0F1F, 0x0, 0x0, 0x0⟩ /- OCL_INMAP -/,
  ⟨0x1310000C, 0x4, 4, 0x0, 0xFFFFFFFF, 0x0, 0x0, 0x0⟩ /- OCL_SMPOFS -/,
  ⟨0x13100020, 0x0, 1, 0x0, 0x800007FF, 0x0, 0x0, 0x0⟩ /- OCL_BYPREQ -/,
  ⟨0x13100024, 0x0, 1, 0x0, 0x0, 0x0, 0x0, 0x8000FF3F⟩ /- OCL_LCMD -/,
  ⟨0x13100028, 0x0, 1, 0x0, 0xFFFFFFFF, 0x0, 0x0, 0x0⟩ /- OCL_LCMDP_LO -/,
  ⟨0x1310002C, 0x0, 1, 0x0, 0xFFFFFFFF, 0x0, 0x0, 0x0⟩ /- OCL_LCMDP_HI -/,
  ⟨0x13100030, 0x0, 1, 0x0, 0x0, 0x0, 0x0, 0x0⟩ /- OCL_LCMDST -/,
  ⟨0x13100034, 0x0, 1, 0x0, 0x0, 0x0, 0x0, 0x0⟩ /- OCL_LCMDDATA -/,
  ⟨0x13100038, 0x0, 1, 0x0, 0x0, 0x1, 0x0, 0x0⟩ /- OCL_GSTAT -/,
  ⟨0x13100040, 0x0, 1, 0x0, 0xFFFFFFFF, 0x0, 0x0, 0x0⟩ /- OCL_EN_LO -/,
  ⟨0x13100044, 0x0, 1, 0x0, 0xFFFFFF, 0x0, 0x0, 0x0⟩ /- OCL_EN_HI -/,
  ⟨0x13100048, 0x0, 1, 0x0, 0xFFFFFFFF, 0x0, 0x0, 0x0⟩ /- OCL_REQ_LO -/,
  ⟨0x1310004C, 0x0, 1, 0x0, 0xFFFFFF, 0x0, 0x0, 0x0⟩ /- OCL_REQ_HI -/,
  ⟨0x13100050, 0x0, 1, 0x0, 0x0, 0x0, 0x0, 0x0⟩ /- OCL_READY_LO -/,
  ⟨0x13100054, 0x0, 1, 0x0, 0x0, 0x0, 0x0, 0x0⟩ /- OCL_READY_HI -/,
  ⟨0x13100058, 0x0, 1, 0x0, 0x0, 0x0, 0x0, 0x0⟩ /- OCL_BYP_LO -/,
  ⟨0x1310005C, 0x0, 1, 0x0, 0x0, 0x0, 0x0, 0x0⟩ /- OCL_BYP_HI -/,
  ⟨0x13100060, 0x0, 1, 0x0, 0x0, 0x0, 0x0, 0x0⟩ /- OCL_FOLLOW_LO -/,
  ⟨0x13100064, 0x0, 1, 0x0, 0x0, 0x0, 0x0, 0x0⟩ /- OCL_FOLLOW_HI -/,
  ⟨0x13101000, 0x40, 56, 0x38200000, 0xFFFFFC00, 0x0, 0x0, 0x0⟩ /- OCL_LCFG -/,
  ⟨0x13101004, 0x40, 56, 0x0, 0xFFFF0FFF, 0x0, 0x0, 0x0⟩ /- OCL_LVB -/,
  ⟨0x13101008, 0x40, 56, 0x0, 0x0, 0x0, 0x0, 0x0⟩ /- OCL_LSTATE -/,
  ⟨0x1310100C, 0x40, 56, 0x0, 0x0, 0x0, 0x0, 0x0⟩ /- OCL_LCAP_LO -/,
  ⟨0x13101010, 0x40, 56, 0x0, 0x0, 0x0, 0x0, 0x0⟩ /- OCL_LCAP_HI -/,
  ⟨0x13101014, 0x40, 56, 0x0, 0x0, 0x0, 0x0, 0x0⟩ /- OCL_LDELAY -/,
  ⟨0x13101018, 0x40, 56, 0x0, 0xFFFF, 0x0, 0x0, 0x0⟩ /- OCL_LASYM -/,
  ⟨0x1310101C, 0x40, 56, 0x0, 0x0, 0x0, 0x0, 0x0⟩ /- OCL_LRMAX -/,
  ⟨0x13101020, 0x40, 56, 0x0, 0x0, 0x0, 0x0, 0x0⟩ /- OCL_LPST -/,
  ⟨0x13101024, 0x40, 56, 0x0, 0x0, 0x0, 0x0, 0x0⟩ /- OCL_LPERR -/,
  ⟨0x13101028, 0x40, 56, 0x0, 0x0, 0x1FFF, 0x0, 0x0⟩ /- OCL_LSTAT -/,
  ⟨0x1310102C, 0x40, 56, 0x0, 0x0, 0x0, 0x0, 0x0⟩ /- OCL_LCRC -/,
  ⟨0x13101030, 0x40, 56, 0x0, 0x0, 0x0, 0x0, 0x0⟩ /- OCL_LHOLD -/,
  ⟨0x13101034, 0x40, 56, 0x0, 0x0, 0x0, 0x0, 0x0⟩ /- OCL_LSEQ -/,
  ⟨0x13101038, 0x40, 56, 0x0, 0x0, 0x0, 0x0, 0x0⟩ /- OCL_LFSTAMP -/,
  ⟨0x1310103C, 0x40, 56, 0x0, 0x0, 0x0, 0x0, 0x1⟩ /- OCL_LCTRL -/]

/-- The registers of the LANE block. -/
def regRowsLANE : List RegRow := [
  ⟨0x13000000, 0x400, 56, 0x102, 0x33F, 0x0, 0x0, 0x0⟩ /- LANE_CFG -/,
  ⟨0x1300E000, 0x400, 6, 0x2, 0x3F, 0x0, 0x0, 0x0⟩ /- LANE_CFG -/,
  ⟨0x1300F800, 0x0, 1, 0x800, 0xC3D, 0x0, 0x0, 0x0⟩ /- LANE_CFG -/,
  ⟨0x1300FC00, 0x0, 1, 0x0, 0x3D, 0x0, 0x0, 0x0⟩ /- LANE_CFG -/,
  ⟨0x13000004, 0x400, 62, 0x0, 0x0, 0x7E0, 0x0, 0x0⟩ /- LANE_STAT -/,
  ⟨0x1300F804, 0x400, 2, 0x0, 0x0, 0x480, 0x0, 0x0⟩ /- LANE_STAT -/,
  ⟨0x13000008, 0x400, 62, 0x7766, 0xFFFF, 0x0, 0x0, 0x0⟩ /- LANE_EQPRE -/,
  ⟨0x1300000C, 0x400, 62, 0x0, 0x8000000F, 0x0, 0x0, 0x0⟩ /- LANE_EQCTL -/,
  ⟨0x13000010, 0x400, 64, 0x8, 0x7F, 0x0, 0x0, 0x0⟩ /- LANE_TXCFG -/,
  ⟨0x13000014, 0x400, 62, 0x0, 0x0, 0x0, 0x0, 0x0⟩ /- LANE_HDRERR -/,
  ⟨0x13000018, 0x400, 62, 0x0, 0x0, 0x0, 0x0, 0x0⟩ /- LANE_LOCKLOSS -/,
  ⟨0x1300001C, 0x400, 62, 0x0, 0x0, 0x0, 0x0, 0x0⟩ /- LANE_HUNTCNT -/,
  ⟨0x13000020, 0x400, 62, 0x0, 0xFFFFFFFF, 0x0, 0x0, 0x0⟩ /- LANE_TSOFS -/,
  ⟨0x1300FC20, 0x0, 1, 0x0, 0xFFFFFFFF, 0x0, 0x0, 0x0⟩ /- LANE_TSOFS -/,
  ⟨0x13000024, 0x400, 64, 0x0, 0xF0FF3F, 0x0, 0x0, 0x80000000⟩ /- LANE_EYECTL -/,
  ⟨0x13000028, 0x400, 64, 0x0, 0x0, 0x0, 0x0, 0x0⟩ /- LANE_EYEERR -/,
  ⟨0x1300002C, 0x400, 62, 0x0, 0x0, 0x0, 0x0, 0x0⟩ /- LANE_PRBSERR -/,
  ⟨0x13010000, 0x0, 1, 0x0, 0x0, 0x0, 0x0, 0x0⟩ /- LANE_UP_LO -/,
  ⟨0x13010004, 0x0, 1, 0x0, 0x0, 0x0, 0x0, 0x0⟩ /- LANE_UP_HI -/,
  ⟨0x13010008, 0x0, 1, 0x0, 0x0, 0x0, 0x0, 0x0⟩ /- LANE_PORT -/,
  ⟨0x1301000C, 0x0, 1, 0x0, 0x0, 0x0, 0x0, 0x0⟩ /- LANE_SKEW_E -/,
  ⟨0x13010010, 0x0, 1, 0x0, 0x0, 0x0, 0x0, 0x0⟩ /- LANE_SKEW_W -/,
  ⟨0x13010014, 0x0, 1, 0x0, 0x0, 0x0, 0x0, 0x0⟩ /- LANE_SKEW_T -/]

/-- The registers of the RING block. -/
def regRowsRING : List RegRow := [
  ⟨0x13200000, 0x0, 1, 0x1FF0000, 0xC1FF01FF, 0x0, 0x0, 0x0⟩ /- RING_CFG -/,
  ⟨0x13200004, 0x0, 1, 0x0, 0x0, 0x1FF0000, 0x0, 0x0⟩ /- RING_STAT -/,
  ⟨0x13200008, 0x0, 1, 0x0, 0x0, 0x0, 0x0, 0x0⟩ /- RING_TOPO -/,
  ⟨0x1320000C, 0x0, 1, 0x0, 0x0, 0x0, 0x0, 0x0⟩ /- RING_HOPS -/,
  ⟨0x13200010, 0x0, 1, 0x1F4, 0xFFFF, 0x0, 0x0, 0x0⟩ /- RING_GCFG -/,
  ⟨0x13200014, 0x0, 1, 0x0, 0x0, 0x0, 0x0, 0x0⟩ /- RING_GQ -/,
  ⟨0x13200018, 0x0, 1, 0x0, 0xFFFF81FF, 0x0, 0x0, 0x0⟩ /- RING_DOMCFG -/,
  ⟨0x1320001C, 0x0, 1, 0x28, 0xFF, 0x0, 0x0, 0x0⟩ /- RING_DOMAWIN -/,
  ⟨0x13200020, 0x4, 16, 0x0, 0x81FF000F, 0x0, 0x0, 0x0⟩ /- RING_DOMTBL -/,
  ⟨0x13200060, 0x0, 1, 0x0, 0x0, 0x0, 0x0, 0x0⟩ /- RING_DOMCHK -/,
  ⟨0x13200064, 0x0, 1, 0x3F, 0x7FF0F7F, 0x0, 0x0, 0x0⟩ /- RING_FIXCFG -/,
  ⟨0x13200068, 0x0, 1, 0x0, 0x0, 0x0, 0x0, 0x0⟩ /- RING_FIXSTAT -/,
  ⟨0x13200070, 0x0, 1, 0x0, 0x0, 0x0, 0x0, 0x0⟩ /- RING_FWD -/,
  ⟨0x13200074, 0x0, 1, 0x0, 0x0, 0x0, 0x0, 0x0⟩ /- RING_CRCERR -/,
  ⟨0x13200078, 0x0, 1, 0x0, 0x0, 0x0, 0x0, 0x0⟩ /- RING_PREEMPT -/,
  ⟨0x1320007C, 0x0, 1, 0x0, 0x0, 0x0, 0x0, 0x0⟩ /- RING_GRETRY -/,
  ⟨0x13201000, 0x4, 2048, 0x0, 0x0, 0x0, 0x0, 0x0⟩ /- RING_FIXBANK -/]

/-- The registers of the TWIN block. -/
def regRowsTWIN : List RegRow := [
  ⟨0x13300000, 0x0, 1, 0x1432, 0xC1FFFFFF, 0x0, 0x0, 0x0⟩ /- TWIN_CFG -/,
  ⟨0x13300004, 0x0, 1, 0x0, 0x0, 0x1FFE00, 0x0, 0x0⟩ /- TWIN_STAT -/,
  ⟨0x13300008, 0x0, 1, 0x0, 0x0, 0x0, 0x0, 0x0⟩ /- TWIN_CLAIMS -/,
  ⟨0x1330000C, 0x0, 1, 0x0, 0x0, 0x0, 0x0, 0x0⟩ /- TWIN_TOFS -/,
  ⟨0x13300010, 0x0, 1, 0x100, 0x3FF, 0x0, 0x0, 0x0⟩ /- TWIN_MCFG -/,
  ⟨0x13300014, 0x0, 1, 0x0, 0x0, 0x0, 0x0, 0x0⟩ /- TWIN_MFIT -/,
  ⟨0x13300018, 0x0, 1, 0x0, 0x0, 0x0, 0x0, 0x0⟩ /- TWIN_MLAST -/,
  ⟨0x1330001C, 0x0, 1, 0x0, 0x0, 0x0, 0x0, 0x0⟩ /- TWIN_FOCNT -/,
  ⟨0x13300020, 0x0, 1, 0x0, 0x0, 0x0, 0x0, 0x0⟩ /- TWIN_MISSCNT -/,
  ⟨0x13300024, 0x0, 1, 0x0, 0x0, 0x0, 0x0, 0x0⟩ /- TWIN_MLATE -/,
  ⟨0x13300028, 0x0, 1, 0x0, 0x0, 0x0, 0x0, 0x0⟩ /- TWIN_SWAPP_LO -/,
  ⟨0x1330002C, 0x0, 1, 0x0, 0x0, 0x0, 0x0, 0x0⟩ /- TWIN_SWAPP_HI -/,
  ⟨0x13300030, 0x0, 1, 0x0, 0x0, 0x0, 0x0, 0x0⟩ /- TWIN_CKPT -/]

/-- The registers of the ADC block. -/
def regRowsADC : List RegRow := [
  ⟨0x14000000, 0x0, 1, 0x6, 0x7, 0x0, 0x0, 0x0⟩ /- ADC_CTRL -/,
  ⟨0x14000004, 0x0, 1, 0x0, 0x0, 0xFF8, 0x0, 0x0⟩ /- ADC_STAT -/,
  ⟨0x14000008, 0x0, 1, 0x4, 0x3F, 0x0, 0x0, 0x0⟩ /- ADC_ROT -/,
  ⟨0x1400000C, 0x0, 1, 0x76543210, 0x0, 0x0, 0x0, 0x0⟩ /- ADC_MAP -/,
  ⟨0x14000010, 0x0, 1, 0x8, 0x0, 0x0, 0x0, 0x0⟩ /- ADC_SPARE -/,
  ⟨0x14000014, 0x0, 1, 0x7D00040, 0xFFFFFFFF, 0x0, 0x0, 0x0⟩ /- ADC_CALLIM -/,
  ⟨0x14000018, 0x0, 1, 0x0, 0xBCFFBCFF, 0x0, 0x0, 0x0⟩ /- ADC_IDLESTART -/,
  ⟨0x1400001C, 0x0, 1, 0x0, 0x0, 0x0, 0x0, 0xFFFF⟩ /- ADC_LSTART -/,
  ⟨0x14000020, 0x0, 1, 0x0, 0x0, 0x0, 0x0, 0x0⟩ /- ADC_LBUSY -/,
  ⟨0x14000024, 0x0, 1, 0x0, 0x0, 0x0, 0x0, 0x0⟩ /- ADC_PREEMPT -/,
  ⟨0x14000028, 0x0, 1, 0x0, 0x0, 0x0, 0x0, 0x0⟩ /- ADC_SWAPCNT -/,
  ⟨0x1400002C, 0x0, 1, 0x0, 0x0, 0x0, 0x0, 0x1FF⟩ /- ADC_RETIRE -/,
  ⟨0x14000040, 0x4, 16, 0x1, 0x7F00FF, 0x0, 0x0, 0x0⟩ /- ADC_LIST -/,
  ⟨0x14000080, 0x4, 4, 0x0, 0xB01FFF7F, 0x0, 0x0, 0x0⟩ /- ADC_INJ -/,
  ⟨0x14000090, 0x0, 1, 0x0, 0x0, 0x0, 0x0, 0xF⟩ /- ADC_INJGO -/,
  ⟨0x14000094, 0x0, 1, 0x0, 0x0, 0x0, 0x0, 0x0⟩ /- ADC_INJSTAT -/,
  ⟨0x14001000, 0x4, 1024, 0x0, 0x0, 0x0, 0x0, 0x0⟩ /- ADC_RES -/,
  ⟨0x14002000, 0x4, 1024, 0x0, 0xFFFFFFFF, 0x0, 0x0, 0x0⟩ /- ADC_ENT -/,
  ⟨0x14003000, 0x8, 36, 0x0, 0x0, 0x0, 0x0, 0x0⟩ /- ADC_CALOFS -/,
  ⟨0x14003004, 0x8, 36, 0x40000000, 0x0, 0x0, 0x0, 0x0⟩ /- ADC_CALGAIN -/]

/-- The registers of the SDF block. -/
def regRowsSDF : List RegRow := [
  ⟨0x14010000, 0x0, 1, 0xA0A0A0A, 0xFFFFFFFF, 0x0, 0x0, 0x0⟩ /- SDF_CLK -/,
  ⟨0x14010004, 0x0, 1, 0x0, 0x0, 0xFFFF, 0x0, 0x0⟩ /- SDF_STUCK -/,
  ⟨0x14010008, 0x0, 1, 0x0, 0x0, 0xFFFF, 0x0, 0x0⟩ /- SDF_LIMIT -/,
  ⟨0x1401000C, 0x0, 1, 0x0, 0x0, 0xFFFF, 0x0, 0x0⟩ /- SDF_CLIP -/,
  ⟨0x14010010, 0x0, 1, 0x0, 0x0, 0x1, 0x0, 0x0⟩ /- SDF_GSTAT -/,
  ⟨0x14010100, 0x20, 16, 0x400040, 0x87FF01FF, 0x0, 0x0, 0x0⟩ /- SDF_CFG -/,
  ⟨0x14010104, 0x20, 16, 0x7FFF8000, 0xFFFFFFFF, 0x0, 0x0, 0x0⟩ /- SDF_LIM -/,
  ⟨0x14010108, 0x20, 16, 0x0, 0xF03F07FF, 0x0, 0x0, 0x0⟩ /- SDF_PLACE -/,
  ⟨0x1401010C, 0x20, 16, 0x0, 0x3FFF, 0x0, 0x0, 0x0⟩ /- SDF_SWORD -/,
  ⟨0x14010110, 0x20, 16, 0x0, 0x0, 0x0, 0x0, 0x0⟩ /- SDF_RES -/,
  ⟨0x14010114, 0x20, 16, 0x0, 0x0, 0x0, 0x0, 0x0⟩ /- SDF_RSTAMP_LO -/,
  ⟨0x14010118, 0x20, 16, 0x0, 0x0, 0x0, 0x0, 0x0⟩ /- SDF_RSTAMP_HI -/]

/-- The registers of the CMP block. -/
def regRowsCMP : List RegRow := [
  ⟨0x14020000, 0x0, 1, 0xFFFFFF, 0x0, 0xFFFFFF, 0x0, 0x0⟩ /- CMP_LATCH -/,
  ⟨0x14020004, 0x0, 1, 0xFFFFFF, 0x0, 0x0, 0x0, 0x0⟩ /- CMP_OUT -/,
  ⟨0x14020008, 0x0, 1, 0x0, 0x7800001F, 0x0, 0x0, 0x80000000⟩ /- CMP_TEST -/,
  ⟨0x1402000C, 0x0, 1, 0x0, 0x0, 0x0, 0x0, 0x0⟩ /- CMP_TSTAT -/,
  ⟨0x14020010, 0x0, 1, 0x0, 0x0, 0xF, 0x0, 0x0⟩ /- CMP_STAT -/,
  ⟨0x14020014, 0x0, 1, 0x0, 0x0, 0x0, 0x0, 0x0⟩ /- CMP_SETCNT -/,
  ⟨0x14020100, 0x10, 24, 0x0, 0xFFFFFFFF, 0x0, 0x0, 0x0⟩ /- CMP_CFG -/,
  ⟨0x14020108, 0x10, 24, 0x0, 0x0, 0x0, 0x0, 0x0⟩ /- CMP_STAMP_LO -/,
  ⟨0x1402010C, 0x10, 24, 0x0, 0x0, 0x0, 0x0, 0x0⟩ /- CMP_STAMP_HI -/]

/-- The registers of the TRIP block. -/
def regRowsTRIP : List RegRow := [
  ⟨0x14030000, 0x0, 1, 0x0, 0x1, 0x0, 0x0, 0x0⟩ /- TRIP_CFG -/,
  ⟨0x14030004, 0x0, 1, 0x0, 0x0, 0x0, 0x0, 0x0⟩ /- TRIP_ACT -/,
  ⟨0x14030008, 0x0, 1, 0xFF, 0x0, 0xFF, 0x0, 0x0⟩ /- TRIP_TLATCH -/,
  ⟨0x1403000C, 0x0, 1, 0xFF, 0x0, 0x0, 0x0, 0x0⟩ /- TRIP_TIN -/,
  ⟨0x14030010, 0x0, 1, 0x0, 0x0, 0x3, 0x0, 0x0⟩ /- TRIP_STAT -/,
  ⟨0x14030014, 0x0, 1, 0x0, 0x0, 0x0, 0x0, 0x0⟩ /- TRIP_CNT -/,
  ⟨0x14030100, 0x4, 8, 0x0, 0x801F110F, 0x0, 0x0, 0x0⟩ /- TRIP_TINC -/,
  ⟨0x14030140, 0x8, 8, 0x0, 0x0, 0x0, 0x0, 0x0⟩ /- TRIP_TSTAMP_LO -/,
  ⟨0x14030144, 0x8, 8, 0x0, 0x0, 0x0, 0x0, 0x0⟩ /- TRIP_TSTAMP_HI -/,
  ⟨0x14030200, 0x4, 20, 0x0, 0xFFFFFFFF, 0x0, 0x0, 0x0⟩ /- TRIP_MASK -/,
  ⟨0x14030280, 0x8, 8, 0x0, 0xFFFFFFFF, 0x0, 0x0, 0x0⟩ /- TRIP_CG_LO -/,
  ⟨0x14030284, 0x8, 8, 0x0, 0xFFFFFF, 0x0, 0x0, 0x0⟩ /- TRIP_CG_HI -/]

/-- The registers of the AXD block. -/
def regRowsAXD : List RegRow := [
  ⟨0x15000000, 0x0, 1, 0xAF00A8C, 0xFFF0FFF, 0x0, 0x0, 0x0⟩ /- AXD_VMCFG -/,
  ⟨0x15000004, 0x0, 1, 0xBB80190, 0xFFF0FFF, 0x0, 0x0, 0x0⟩ /- AXD_VMLIM -/,
  ⟨0x15000008, 0x0, 1, 0x640064, 0x8FFF0FFF, 0x0, 0x0, 0x0⟩ /- AXD_BRKCFG -/,
  ⟨0x1500000C, 0x0, 1, 0x0, 0x0, 0x0, 0x0, 0x0⟩ /- AXD_VM -/,
  ⟨0x15000010, 0x0, 1, 0x0, 0x0, 0x7, 0x0, 0x0⟩ /- AXD_GSTAT -/,
  ⟨0x15000014, 0x0, 1, 0x0, 0x0, 0x0, 0x0, 0x0⟩ /- AXD_BRKCNT -/,
  ⟨0x15000018, 0x0, 1, 0x32, 0xFF, 0x0, 0x0, 0x0⟩ /- AXD_DIAGCFG -/,
  ⟨0x1500001C, 0x0, 1, 0x0, 0x0, 0x0, 0x0, 0x0⟩ /- AXD_DIAGSTAT -/,
  ⟨0x15000100, 0x100, 3, 0x4000000, 0xEE000000, 0x0, 0x0, 0x0⟩ /- AXD_CHCFG -/,
  ⟨0x15000104, 0x100, 3, 0x640064, 0xFF01FF, 0x0, 0x0, 0x0⟩ /- AXD_BST -/,
  ⟨0x15000108, 0x100, 3, 0x64C80064, 0xFFFF83FF, 0x0, 0x0, 0x0⟩ /- AXD_PROT -/,
  ⟨0x1500010C, 0x100, 3, 0x320014, 0x3300FF, 0x0, 0x0, 0x0⟩ /- AXD_BAND0 -/,
  ⟨0x15000110, 0x100, 3, 0x330014, 0x3300FF, 0x0, 0x0, 0x0⟩ /- AXD_BAND1 -/,
  ⟨0x15000114, 0x100, 3, 0x33001E, 0x3300FF, 0x0, 0x0, 0x0⟩ /- AXD_BAND2 -/,
  ⟨0x15000118, 0x100, 3, 0x220032, 0x3300FF, 0x0, 0x0, 0x0⟩ /- AXD_BAND3 -/,
  ⟨0x1500011C, 0x100, 3, 0x0, 0x0, 0xFFC, 0x0, 0x0⟩ /- AXD_CHSTAT -/,
  ⟨0x15000120, 0x100, 3, 0x0, 0x0, 0x0, 0x0, 0x0⟩ /- AXD_SCINFO -/,
  ⟨0x15000124, 0x100, 3, 0x0, 0x0, 0x0, 0x0, 0x0⟩ /- AXD_SCSTAMP_LO -/,
  ⟨0x15000128, 0x100, 3, 0x0, 0x0, 0x0, 0x0, 0x0⟩ /- AXD_SCSTAMP_HI -/,
  ⟨0x1500012C, 0x100, 3, 0x0, 0x0, 0x0, 0x0, 0x1⟩ /- AXD_FLTCLR -/,
  ⟨0x15000130, 0x100, 3, 0x0, 0x0, 0x0, 0x0, 0x0⟩ /- AXD_REFCNT -/,
  ⟨0x15000134, 0x100, 3, 0x0, 0x0, 0x0, 0x0, 0x0⟩ /- AXD_BSUVCNT -/,
  ⟨0x15000138, 0x100, 3, 0x0, 0x0, 0x0, 0x0, 0x0⟩ /- AXD_VBS -/,
  ⟨0x1500013C, 0x100, 3, 0x0, 0x0, 0x0, 0x0, 0x0⟩ /- AXD_DIAGRES -/]

/-- The registers of the HALL block. -/
def regRowsHALL : List RegRow := [
  ⟨0x15010000, 0x0, 1, 0x0, 0x0, 0x7, 0x0, 0x0⟩ /- HALL_GSTAT -/,
  ⟨0x15010004, 0x0, 1, 0x0, 0x0, 0x0, 0x0, 0x7⟩ /- HALL_CLR -/,
  ⟨0x15010100, 0x40, 3, 0xA0006, 0xF87F0FFF, 0x0, 0x0, 0x0⟩ /- HALL_CFG -/,
  ⟨0x15010104, 0x40, 3, 0x7, 0x0, 0x0, 0x0, 0x0⟩ /- HALL_STATE -/,
  ⟨0x15010108, 0x40, 3, 0x0, 0xFFFFFFFF, 0x0, 0x0, 0x0⟩ /- HALL_POS -/,
  ⟨0x1501010C, 0x40, 3, 0x0, 0x0, 0x0, 0x0, 0x0⟩ /- HALL_SPEED -/,
  ⟨0x15010110, 0x40, 3, 0x0, 0xFFFFFFFF, 0x0, 0x0, 0x0⟩ /- HALL_HOMEPOS -/,
  ⟨0x15010114, 0x40, 3, 0x0, 0x0, 0x0, 0x0, 0x0⟩ /- HALL_HOMECAP -/,
  ⟨0x15010118, 0x40, 3, 0x0, 0x0, 0x0, 0x0, 0x0⟩ /- HALL_ILLCNT -/,
  ⟨0x1501011C, 0x40, 3, 0x0, 0x0, 0x6, 0x0, 0x0⟩ /- HALL_STAT -/,
  ⟨0x15010120, 0x40, 3, 0x0, 0x0, 0x0, 0x0, 0x0⟩ /- HALL_TSTAMP_LO -/,
  ⟨0x15010124, 0x40, 3, 0x0, 0x0, 0x0, 0x0, 0x0⟩ /- HALL_TSTAMP_HI -/,
  ⟨0x15010128, 0x40, 3, 0x0, 0x0, 0x0, 0x0, 0x0⟩ /- HALL_HSTAMP_LO -/,
  ⟨0x1501012C, 0x40, 3, 0x0, 0x0, 0x0, 0x0, 0x0⟩ /- HALL_HSTAMP_HI -/,
  ⟨0x15010130, 0x40, 3, 0x0, 0x80003FFF, 0x0, 0x0, 0x0⟩ /- HALL_PLACE -/]

/-- The registers of the SAFE block. -/
def regRowsSAFE : List RegRow := [
  ⟨0x15020000, 0x0, 1, 0x0, 0x0, 0x0, 0x0, 0xFFFFFFFF⟩ /- SAFE_KEY -/,
  ⟨0x15020004, 0x0, 1, 0x0, 0x0, 0x0, 0x0, 0x0⟩ /- SAFE_STAT -/,
  ⟨0x15020008, 0x0, 1, 0x0, 0x0, 0x0, 0x0, 0x0⟩ /- SAFE_CRC -/,
  ⟨0x1502000C, 0x0, 1, 0x1403E8, 0x1F3FFF, 0x0, 0x0, 0x0⟩ /- SAFE_STOTEST -/,
  ⟨0x15020010, 0x0, 1, 0x0, 0xF, 0x0, 0x0, 0x0⟩ /- SAFE_SOUTREQ -/,
  ⟨0x15020014, 0x0, 1, 0x0, 0x0, 0x0, 0x0, 0x0⟩ /- SAFE_SINSTAT -/,
  ⟨0x15020018, 0x0, 1, 0x0, 0x0, 0x8FFFF8FF, 0x0, 0x0⟩ /- SAFE_EVT -/,
  ⟨0x1502001C, 0x0, 1, 0x0, 0x80003FFF, 0x0, 0x0, 0x0⟩ /- SAFE_PLACE -/,
  ⟨0x15020100, 0x10, 4, 0x14000A, 0xC3FF00FF, 0x0, 0x0, 0x0⟩ /- SAFE_SINCFG -/,
  ⟨0x15020140, 0x20, 3, 0x40000000, 0xC00000FF, 0x0, 0x0, 0x0⟩ /- SAFE_CHCFG -/,
  ⟨0x15020144, 0x20, 3, 0x1020064, 0xFFFFFFFF, 0x0, 0x0, 0x0⟩ /- SAFE_SS1 -/,
  ⟨0x15020148, 0x20, 3, 0x0, 0x0, 0x0, 0x0, 0x0⟩ /- SAFE_CHSTAT -/,
  ⟨0x150201A0, 0x10, 4, 0x301E000A, 0xBFFF00FF, 0x0, 0x0, 0x0⟩ /- SAFE_SOUTCFG -/,
  ⟨0x150201A4, 0x10, 4, 0x0, 0x0, 0x0, 0x0, 0x0⟩ /- SAFE_SOUTSTAT -/]

/-- The registers of the HOST block. -/
def regRowsHOST : List RegRow := [
  ⟨0x16000000, 0x0, 1, 0x7, 0xF, 0x0, 0x0, 0x0⟩ /- HOST_CTRL -/,
  ⟨0x16000004, 0x0, 1, 0x0, 0x0, 0x7F, 0x0, 0x0⟩ /- HOST_STAT -/,
  ⟨0x16000008, 0x0, 1, 0x88B5, 0xFFFF, 0x0, 0x0, 0x0⟩ /- HOST_ETYPE -/,
  ⟨0x1600000C, 0x0, 1, 0x0, 0x0, 0x0, 0x0, 0x0⟩ /- HOST_MAC_LO -/,
  ⟨0x16000010, 0x0, 1, 0x0, 0x0, 0x0, 0x0, 0x0⟩ /- HOST_MAC_HI -/,
  ⟨0x16000014, 0x0, 1, 0xFFFFFF, 0xFFFFFF, 0x0, 0x0, 0x0⟩ /- HOST_IRQMASK -/,
  ⟨0x16000018, 0x0, 1, 0x1F0064, 0x1FFFFF, 0x0, 0x0, 0x0⟩ /- HOST_EVTCFG -/,
  ⟨0x1600001C, 0x0, 1, 0x0, 0x0, 0x0, 0x0, 0x0⟩ /- HOST_EVTNUM -/,
  ⟨0x16000020, 0x0, 1, 0x0, 0x0, 0x0, 0x0, 0x0⟩ /- HOST_JPOS -/,
  ⟨0x16000024, 0x0, 1, 0x80000, 0x0, 0x0, 0x0, 0x0⟩ /- HOST_JFREE -/,
  ⟨0x16000028, 0x0, 1, 0x0, 0x0, 0x0, 0x0, 0x0⟩ /- HOST_RXERR -/,
  ⟨0x1600002C, 0x0, 1, 0x0, 0x0, 0x0, 0x0, 0x0⟩ /- HOST_DROP -/,
  ⟨0x16000030, 0x0, 1, 0x0, 0xC00001FF, 0x0, 0x0, 0x0⟩ /- HOST_LOGCFG -/,
  ⟨0x16000034, 0x0, 1, 0x0, 0xFFFFFFFF, 0x0, 0x0, 0x0⟩ /- HOST_LOGMAC_LO -/,
  ⟨0x16000038, 0x0, 1, 0x0, 0xFFFF, 0x0, 0x0, 0x0⟩ /- HOST_LOGMAC_HI -/,
  ⟨0x1600003C, 0x0, 1, 0x0, 0x0, 0x0, 0x0, 0x0⟩ /- HOST_LOGLOST -/,
  ⟨0x16000040, 0x0, 1, 0x0, 0x0, 0x0, 0x0, 0x0⟩ /- HOST_QSTAT -/,
  ⟨0x16000100, 0x10, 4, 0x0, 0x80000000, 0x0, 0x0, 0x0⟩ /- HOST_FLOW_CFG -/,
  ⟨0x16000104, 0x10, 4, 0x0, 0xFFFFFFFF, 0x0, 0x0, 0x0⟩ /- HOST_FLOW_MAC_LO -/,
  ⟨0x16000108, 0x10, 4, 0x0, 0xFFFF, 0x0, 0x0, 0x0⟩ /- HOST_FLOW_MAC_HI -/,
  ⟨0x16000180, 0x8, 5, 0x1, 0x0, 0x0, 0x0, 0x0⟩ /- HOST_FLOW_N -/,
  ⟨0x16000184, 0x8, 5, 0x1, 0x0, 0x0, 0x0, 0x0⟩ /- HOST_FLOW_D -/,
  ⟨0x16000200, 0x10, 8, 0x0, 0x0, 0x0, 0x0, 0x0⟩ /- HOST_OP_STAT -/,
  ⟨0x16000204, 0x10, 8, 0x0, 0x0, 0x0, 0x0, 0x0⟩ /- HOST_OP_SEQ -/,
  ⟨0x16000208, 0x10, 8, 0x0, 0x0, 0x0, 0x0, 0x0⟩ /- HOST_OP_DONE -/,
  ⟨0x1600020C, 0x10, 8, 0x0, 0x0, 0x0, 0x0, 0x0⟩ /- HOST_OP_TOTAL -/]

/-- The registers of the UPD block. -/
def regRowsUPD : List RegRow := [
  ⟨0x16010000, 0x0, 1, 0xC11E0258, 0xCFFFFFFF, 0x0, 0x0, 0x0⟩ /- UPD_CFG -/,
  ⟨0x16010004, 0x0, 1, 0x0, 0x0, 0x7FF, 0x0, 0x0⟩ /- UPD_STAT -/,
  ⟨0x16010008, 0x0, 1, 0x500, 0x0, 0x0, 0x0, 0x0⟩ /- UPD_SLOT -/,
  ⟨0x1601000C, 0x0, 1, 0x0, 0x0, 0x0, 0x0, 0x0⟩ /- UPD_SESSION -/,
  ⟨0x16010010, 0x0, 1, 0x0, 0x0, 0x0, 0x0, 0x0⟩ /- UPD_PROG -/,
  ⟨0x16010014, 0x0, 1, 0x0, 0x0, 0x0, 0x0, 0x0⟩ /- UPD_AGE -/,
  ⟨0x16010018, 0x0, 1, 0x0, 0x0, 0x0, 0x0, 0x0⟩ /- UPD_TRIAL -/,
  ⟨0x1601001C, 0x0, 1, 0x0, 0x0, 0x0, 0x0, 0x0⟩ /- UPD_OKRUN -/,
  ⟨0x16010020, 0x0, 1, 0x0, 0x0, 0x0, 0x0, 0x0⟩ /- UPD_ACTT_LO -/,
  ⟨0x16010024, 0x0, 1, 0x0, 0x0, 0x0, 0x0, 0x0⟩ /- UPD_ACTT_HI -/,
  ⟨0x16010028, 0x0, 1, 0x0, 0x0, 0x0, 0x0, 0x0⟩ /- UPD_VERA -/,
  ⟨0x1601002C, 0x0, 1, 0x0, 0x0, 0x0, 0x0, 0x0⟩ /- UPD_VERB -/,
  ⟨0x16010030, 0x0, 1, 0x0, 0x0, 0x0, 0x0, 0x0⟩ /- UPD_RLY -/]

/-- The registers of the NVM block. -/
def regRowsNVM : List RegRow := [
  ⟨0x16020000, 0x0, 1, 0x0, 0x0, 0x1F, 0x0, 0x0⟩ /- NVM_STAT -/,
  ⟨0x16020004, 0x0, 1, 0x0, 0x0, 0x0, 0x0, 0x0⟩ /- NVM_ECCADDR -/,
  ⟨0x16020008, 0x0, 1, 0x0, 0x0, 0x0, 0x0, 0x0⟩ /- NVM_WRCNT -/,
  ⟨0x1602000C, 0x0, 1, 0x0, 0x0, 0x0, 0x0, 0x0⟩ /- NVM_KEYS -/,
  ⟨0x16020010, 0x0, 1, 0x0, 0x0, 0x0, 0x0, 0xFFFF000F⟩ /- NVM_REVOKE -/,
  ⟨0x16020100, 0x4, 32, 0x0, 0x0, 0x0, 0x0, 0x0⟩ /- NVM_KEYHASH -/]

/-- The register rows of the block whose window holds `a` (R639); the window is told by the upper 16 address bits. -/
def regRowsAt (a : Nat) : List RegRow :=
  match a / 0x10000 with
  | 0x1000 => regRowsSYS
  | 0x1001 => regRowsPMU
  | 0x1002 => regRowsCLK
  | 0x1003 => regRowsTHERM
  | 0x1004 => regRowsCHRONO
  | 0x1005 => regRowsSEXT
  | 0x1010 => regRowsENG
  | 0x110E => regRowsALM
  | 0x1200 => regRowsMOD
  | 0x1201 => regRowsMOD
  | 0x1300 => regRowsLANE
  | 0x1301 => regRowsLANE
  | 0x1310 => regRowsOCL
  | 0x1320 => regRowsRING
  | 0x1330 => regRowsTWIN
  | 0x1400 => regRowsADC
  | 0x1401 => regRowsSDF
  | 0x1402 => regRowsCMP
  | 0x1403 => regRowsTRIP
  | 0x1500 => regRowsAXD
  | 0x1501 => regRowsHALL
  | 0x1502 => regRowsSAFE
  | 0x1600 => regRowsHOST
  | 0x1601 => regRowsUPD
  | 0x1602 => regRowsNVM
  | 0x1700 => regRowsLOG
  | _ => []

/-- Whether a row holds the register at address `a`. -/
def RegRow.holds (r : RegRow) (a : Nat) : Bool :=
  r.base ≤ a && (if r.count ≤ 1 then a == r.base else (a - r.base) % r.stride == 0 && (a - r.base) / r.stride < r.count)

/-- The row of the register at `a`; none at an unassigned offset (R14). -/
def regRowAt (a : Nat) : Option RegRow := (regRowsAt a).find? (·.holds a)

/-- The value of the register at `a` after power-on reset (R8); 0 at an unassigned offset. -/
def regReset (a : Nat) : Word := match regRowAt a with | some r => r.reset | none => 0

namespace R
abbrev SYS_ID : Nat := 0x10000000
abbrev SYS_SERIAL : Nat := 0x10000004
abbrev SYS_LOT : Nat := 0x10000008
abbrev SYS_CAPS : Nat := 0x1000000C
abbrev SYS_MEM : Nat := 0x10000010
abbrev SYS_IMGVER : Nat := 0x10000014
abbrev SYS_SCRATCH (n : Nat) : Nat := 0x10000020 + 0x4 * n
abbrev SYS_STATE : Nat := 0x10000040
abbrev SYS_REACT : Nat := 0x10000044
abbrev SYS_IRQSRC : Nat := 0x10000048
abbrev SYS_CTRL : Nat := 0x1000004C
abbrev SYS_RSTCAUSE : Nat := 0x10000050
abbrev SYS_STRAP : Nat := 0x10000054
abbrev SYS_CFGST : Nat := 0x10000058
abbrev SYS_CFGGEN : Nat := 0x1000005C
abbrev SYS_EVT : Nat := 0x10000060
abbrev PMU_STAT : Nat := 0x10010000
abbrev PMU_EVT : Nat := 0x10010004
abbrev PMU_CFG : Nat := 0x10010008
abbrev PMU_VAUX : Nat := 0x1001000C
abbrev PMU_VMON0 : Nat := 0x10010010
abbrev PMU_VMON1 : Nat := 0x10010014
abbrev PMU_VMON2 : Nat := 0x10010018
abbrev PMU_LAST : Nat := 0x1001001C
abbrev CLK_CFG : Nat := 0x10020000
abbrev CLK_STAT : Nat := 0x10020004
abbrev CLK_LOCK : Nat := 0x10020008
abbrev CLK_COAST : Nat := 0x1002000C
abbrev CLK_COASTT : Nat := 0x10020010
abbrev CLK_BAND : Nat := 0x10020014
abbrev CLK_PERR : Nat := 0x10020018
abbrev THERM_EVT : Nat := 0x10030000
abbrev THERM_BAND : Nat := 0x10030004
abbrev THERM_VALID : Nat := 0x10030008
abbrev THERM_TXEVT : Nat := 0x1003000C
abbrev THERM_TS (n : Nat) : Nat := 0x10030010 + 0x4 * n
abbrev THERM_TX (n : Nat) : Nat := 0x10030040 + 0x4 * n
abbrev THERM_TXCFG (n : Nat) : Nat := 0x10030050 + 0x4 * n
abbrev THERM_TXLIM (n : Nat) : Nat := 0x10030060 + 0x4 * n
abbrev THERM_SDREC : Nat := 0x10030070
abbrev THERM_SDCNT : Nat := 0x10030074
abbrev CHRONO_NOW_LO : Nat := 0x10040000
abbrev CHRONO_NOW_HI : Nat := 0x10040004
abbrev CHRONO_SET_LO : Nat := 0x10040008
abbrev CHRONO_SET_HI : Nat := 0x1004000C
abbrev CHRONO_CTRL : Nat := 0x10040010
abbrev CHRONO_STAT : Nat := 0x10040014
abbrev CHRONO_TRIM : Nat := 0x10040018
abbrev CHRONO_OFFSET : Nat := 0x1004001C
abbrev CHRONO_DELAY : Nat := 0x10040020
abbrev CHRONO_SERVO : Nat := 0x10040024
abbrev CHRONO_INT : Nat := 0x10040028
abbrev CHRONO_ASYM : Nat := 0x1004002C
abbrev SEXT_CTRL : Nat := 0x10050000
abbrev SEXT_N : Nat := 0x10050004
abbrev SEXT_FLIM : Nat := 0x10050008
abbrev SEXT_FNOM : Nat := 0x1005000C
abbrev SEXT_KP : Nat := 0x10050010
abbrev SEXT_KI : Nat := 0x10050014
abbrev SEXT_WIN : Nat := 0x10050018
abbrev SEXT_LCFG : Nat := 0x1005001C
abbrev SEXT_AMP : Nat := 0x10050020
abbrev SEXT_SRCIDX : Nat := 0x10050024
abbrev SEXT_OFS : Nat := 0x10050028
abbrev SEXT_COASTMAX : Nat := 0x1005002C
abbrev SEXT_STAT : Nat := 0x10050030
abbrev SEXT_ANGLE : Nat := 0x10050034
abbrev SEXT_FREQ : Nat := 0x10050038
abbrev SEXT_PERR : Nat := 0x1005003C
abbrev SEXT_SERR : Nat := 0x10050040
abbrev SEXT_PIDX : Nat := 0x10050044
abbrev SEXT_B1_LO : Nat := 0x10050048
abbrev SEXT_B1_HI : Nat := 0x1005004C
abbrev SEXT_B2_LO : Nat := 0x10050050
abbrev SEXT_B2_HI : Nat := 0x10050054
abbrev SEXT_COAST_T : Nat := 0x10050058
abbrev SEXT_LOCKCNT : Nat := 0x1005005C
abbrev SEXT_AMPL : Nat := 0x10050060
abbrev SEXT_DMIN : Nat := 0x10050064
abbrev SEXT_DMAX : Nat := 0x10050068
abbrev ENG_CTRL : Nat := 0x10100000
abbrev ENG_STAT : Nat := 0x10100004
abbrev ENG_TIMING : Nat := 0x10100008
abbrev ENG_BUDGET : Nat := 0x1010000C
abbrev ENG_LIMIT : Nat := 0x10100010
abbrev ENG_ALMLEN : Nat := 0x10100014
abbrev ENG_ROWCYC : Nat := 0x10100018
abbrev ENG_LASTCYC : Nat := 0x1010001C
abbrev ENG_STALL : Nat := 0x10100020
abbrev ENG_PEAKCYC : Nat := 0x10100024
abbrev ENG_OVR_CFG : Nat := 0x10100028
abbrev ENG_OVR_CNT : Nat := 0x1010002C
abbrev ENG_OVR_RUN : Nat := 0x10100030
abbrev ENG_OVR_INFO : Nat := 0x10100034
abbrev ENG_OVR_T_LO : Nat := 0x10100038
abbrev ENG_OVR_T_HI : Nat := 0x1010003C
abbrev ENG_PCNT_LO : Nat := 0x10100040
abbrev ENG_PCNT_HI : Nat := 0x10100044
abbrev ENG_ROW : Nat := 0x10100048
abbrev ENG_STALLSRC : Nat := 0x1010004C
abbrev ENG_LANEEN_LO : Nat := 0x10100050
abbrev ENG_LANEEN_HI : Nat := 0x10100054
abbrev ENG_SPAGE_V : Nat := 0x10100058
abbrev ENG_SPAGE_S : Nat := 0x1010005C
abbrev ENG_INBOX : Nat := 0x10100060
abbrev ENG_MIRROR : Nat := 0x10100064
abbrev ENG_LADLE : Nat := 0x10100068
abbrev ENG_FLG_SAT_LO : Nat := 0x10100070
abbrev ENG_FLG_SAT_HI : Nat := 0x10100074
abbrev ENG_FLG_AOV_LO : Nat := 0x10100078
abbrev ENG_FLG_AOV_HI : Nat := 0x1010007C
abbrev ENG_FLG_DZ_LO : Nat := 0x10100080
abbrev ENG_FLG_DZ_HI : Nat := 0x10100084
abbrev ENG_FLG_LUT_LO : Nat := 0x10100088
abbrev ENG_FLG_LUT_HI : Nat := 0x1010008C
abbrev ENG_FLG_LOWC_LO : Nat := 0x10100090
abbrev ENG_FLG_LOWC_HI : Nat := 0x10100094
abbrev ENG_SFLG : Nat := 0x10100098
abbrev ALM_MODE : Nat := 0x110E8000
abbrev ALM_MCFG : Nat := 0x110E8004
abbrev ALM_MREQ : Nat := 0x110E8008
abbrev ALM_HOVSRC : Nat := 0x110E800C
abbrev ALM_HOVDST : Nat := 0x110E8010
abbrev ALM_SWAP : Nat := 0x110E8014
abbrev ALM_SWAPP_LO : Nat := 0x110E8018
abbrev ALM_SWAPP_HI : Nat := 0x110E801C
abbrev ALM_STAT : Nat := 0x110E8020
abbrev ALM_MCNT : Nat := 0x110E8024
abbrev LOG_CTRL : Nat := 0x17000000
abbrev LOG_STAT : Nat := 0x17000004
abbrev LOG_CFG : Nat := 0x17000008
abbrev LOG_PREPOST : Nat := 0x1700000C
abbrev LOG_RECSZ : Nat := 0x17000010
abbrev LOG_CAPOFS : Nat := 0x17000014
abbrev LOG_TRIGPOS : Nat := 0x17000018
abbrev LOG_FIRST : Nat := 0x1700001C
abbrev LOG_TRIGT_LO : Nat := 0x17000020
abbrev LOG_TRIGT_HI : Nat := 0x17000024
abbrev LOG_DROP : Nat := 0x17000028
abbrev LOG_TRIG (n : Nat) : Nat := 0x17000040 + 0x4 * n
abbrev LOG_THR (n : Nat) : Nat := 0x17000050 + 0x4 * n
abbrev LOG_SIG (n : Nat) : Nat := 0x17000100 + 0x4 * n
abbrev MOD_CFG (n : Nat) : Nat := 0x12000000 + 0x40 * n
abbrev MOD_PERIOD (n : Nat) : Nat := 0x12000004 + 0x40 * n
abbrev MOD_CMPA (n : Nat) : Nat := 0x12000008 + 0x40 * n
abbrev MOD_CMPB (n : Nat) : Nat := 0x1200000C + 0x40 * n
abbrev MOD_PHASE (n : Nat) : Nat := 0x12000010 + 0x40 * n
abbrev MOD_DT (n : Nat) : Nat := 0x12000014 + 0x40 * n
abbrev MOD_MINP (n : Nat) : Nat := 0x12000018 + 0x40 * n
abbrev MOD_SLEW (n : Nat) : Nat := 0x1200001C + 0x40 * n
abbrev MOD_ACT_PERIOD (n : Nat) : Nat := 0x12000020 + 0x40 * n
abbrev MOD_ACT_CMPA (n : Nat) : Nat := 0x12000024 + 0x40 * n
abbrev MOD_ACT_CMPB (n : Nat) : Nat := 0x12000028 + 0x40 * n
abbrev MOD_ACT_PHASE (n : Nat) : Nat := 0x1200002C + 0x40 * n
abbrev MOD_ACT_DT (n : Nat) : Nat := 0x12000030 + 0x40 * n
abbrev MOD_CHST (n : Nat) : Nat := 0x12000034 + 0x40 * n
abbrev MOD_ACT_MINP (n : Nat) : Nat := 0x12000038 + 0x40 * n
abbrev MOD_NIDX (n : Nat) : Nat := 0x1200003C + 0x40 * n
abbrev MOD_GLOAD : Nat := 0x12010800
abbrev MOD_GARM : Nat := 0x12010804
abbrev MOD_AREF : Nat := 0x12010808
abbrev MOD_GSTAT : Nat := 0x1201080C
abbrev MOD_TREF_LO : Nat := 0x12010810
abbrev MOD_TREF_HI : Nat := 0x12010814
abbrev MOD_GENT : Nat := 0x12010818
abbrev MOD_FSUM : Nat := 0x1201081C
abbrev MOD_MPCNT : Nat := 0x12010820
abbrev OCL_CLAIM : Nat := 0x13100000
abbrev OCL_TCFG : Nat := 0x13100004
abbrev OCL_INMAP : Nat := 0x13100008
abbrev OCL_SMPOFS (n : Nat) : Nat := 0x1310000C + 0x4 * n
abbrev OCL_BYPREQ : Nat := 0x13100020
abbrev OCL_LCMD : Nat := 0x13100024
abbrev OCL_LCMDP_LO : Nat := 0x13100028
abbrev OCL_LCMDP_HI : Nat := 0x1310002C
abbrev OCL_LCMDST : Nat := 0x13100030
abbrev OCL_LCMDDATA : Nat := 0x13100034
abbrev OCL_GSTAT : Nat := 0x13100038
abbrev OCL_EN_LO : Nat := 0x13100040
abbrev OCL_EN_HI : Nat := 0x13100044
abbrev OCL_REQ_LO : Nat := 0x13100048
abbrev OCL_REQ_HI : Nat := 0x1310004C
abbrev OCL_READY_LO : Nat := 0x13100050
abbrev OCL_READY_HI : Nat := 0x13100054
abbrev OCL_BYP_LO : Nat := 0x13100058
abbrev OCL_BYP_HI : Nat := 0x1310005C
abbrev OCL_FOLLOW_LO : Nat := 0x13100060
abbrev OCL_FOLLOW_HI : Nat := 0x13100064
abbrev OCL_LCFG (n : Nat) : Nat := 0x13101000 + 0x40 * n
abbrev OCL_LVB (n : Nat) : Nat := 0x13101004 + 0x40 * n
abbrev OCL_LSTATE (n : Nat) : Nat := 0x13101008 + 0x40 * n
abbrev OCL_LCAP_LO (n : Nat) : Nat := 0x1310100C + 0x40 * n
abbrev OCL_LCAP_HI (n : Nat) : Nat := 0x13101010 + 0x40 * n
abbrev OCL_LDELAY (n : Nat) : Nat := 0x13101014 + 0x40 * n
abbrev OCL_LASYM (n : Nat) : Nat := 0x13101018 + 0x40 * n
abbrev OCL_LRMAX (n : Nat) : Nat := 0x1310101C + 0x40 * n
abbrev OCL_LPST (n : Nat) : Nat := 0x13101020 + 0x40 * n
abbrev OCL_LPERR (n : Nat) : Nat := 0x13101024 + 0x40 * n
abbrev OCL_LSTAT (n : Nat) : Nat := 0x13101028 + 0x40 * n
abbrev OCL_LCRC (n : Nat) : Nat := 0x1310102C + 0x40 * n
abbrev OCL_LHOLD (n : Nat) : Nat := 0x13101030 + 0x40 * n
abbrev OCL_LSEQ (n : Nat) : Nat := 0x13101034 + 0x40 * n
abbrev OCL_LFSTAMP (n : Nat) : Nat := 0x13101038 + 0x40 * n
abbrev OCL_LCTRL (n : Nat) : Nat := 0x1310103C + 0x40 * n
abbrev LANE_CFG (n : Nat) : Nat := 0x13000000 + 0x400 * n
abbrev LANE_STAT (n : Nat) : Nat := 0x13000004 + 0x400 * n
abbrev LANE_EQPRE (n : Nat) : Nat := 0x13000008 + 0x400 * n
abbrev LANE_EQCTL (n : Nat) : Nat := 0x1300000C + 0x400 * n
abbrev LANE_TXCFG (n : Nat) : Nat := 0x13000010 + 0x400 * n
abbrev LANE_HDRERR (n : Nat) : Nat := 0x13000014 + 0x400 * n
abbrev LANE_LOCKLOSS (n : Nat) : Nat := 0x13000018 + 0x400 * n
abbrev LANE_HUNTCNT (n : Nat) : Nat := 0x1300001C + 0x400 * n
abbrev LANE_TSOFS (n : Nat) : Nat := 0x13000020 + 0x400 * n
abbrev LANE_EYECTL (n : Nat) : Nat := 0x13000024 + 0x400 * n
abbrev LANE_EYEERR (n : Nat) : Nat := 0x13000028 + 0x400 * n
abbrev LANE_PRBSERR (n : Nat) : Nat := 0x1300002C + 0x400 * n
abbrev LANE_UP_LO : Nat := 0x13010000
abbrev LANE_UP_HI : Nat := 0x13010004
abbrev LANE_PORT : Nat := 0x13010008
abbrev LANE_SKEW_E : Nat := 0x1301000C
abbrev LANE_SKEW_W : Nat := 0x13010010
abbrev LANE_SKEW_T : Nat := 0x13010014
abbrev RING_CFG : Nat := 0x13200000
abbrev RING_STAT : Nat := 0x13200004
abbrev RING_TOPO : Nat := 0x13200008
abbrev RING_HOPS : Nat := 0x1320000C
abbrev RING_GCFG : Nat := 0x13200010
abbrev RING_GQ : Nat := 0x13200014
abbrev RING_DOMCFG : Nat := 0x13200018
abbrev RING_DOMAWIN : Nat := 0x1320001C
abbrev RING_DOMTBL (n : Nat) : Nat := 0x13200020 + 0x4 * n
abbrev RING_DOMCHK : Nat := 0x13200060
abbrev RING_FIXCFG : Nat := 0x13200064
abbrev RING_FIXSTAT : Nat := 0x13200068
abbrev RING_FWD : Nat := 0x13200070
abbrev RING_CRCERR : Nat := 0x13200074
abbrev RING_PREEMPT : Nat := 0x13200078
abbrev RING_GRETRY : Nat := 0x1320007C
abbrev TWIN_CFG : Nat := 0x13300000
abbrev TWIN_STAT : Nat := 0x13300004
abbrev TWIN_CLAIMS : Nat := 0x13300008
abbrev TWIN_TOFS : Nat := 0x1330000C
abbrev TWIN_MCFG : Nat := 0x13300010
abbrev TWIN_MFIT : Nat := 0x13300014
abbrev TWIN_MLAST : Nat := 0x13300018
abbrev TWIN_FOCNT : Nat := 0x1330001C
abbrev TWIN_MISSCNT : Nat := 0x13300020
abbrev TWIN_MLATE : Nat := 0x13300024
abbrev TWIN_SWAPP_LO : Nat := 0x13300028
abbrev TWIN_SWAPP_HI : Nat := 0x1330002C
abbrev TWIN_CKPT : Nat := 0x13300030
abbrev ADC_CTRL : Nat := 0x14000000
abbrev ADC_STAT : Nat := 0x14000004
abbrev ADC_ROT : Nat := 0x14000008
abbrev ADC_MAP : Nat := 0x1400000C
abbrev ADC_SPARE : Nat := 0x14000010
abbrev ADC_CALLIM : Nat := 0x14000014
abbrev ADC_IDLESTART : Nat := 0x14000018
abbrev ADC_LSTART : Nat := 0x1400001C
abbrev ADC_LBUSY : Nat := 0x14000020
abbrev ADC_PREEMPT : Nat := 0x14000024
abbrev ADC_SWAPCNT : Nat := 0x14000028
abbrev ADC_RETIRE : Nat := 0x1400002C
abbrev ADC_LIST (n : Nat) : Nat := 0x14000040 + 0x4 * n
abbrev ADC_INJ (n : Nat) : Nat := 0x14000080 + 0x4 * n
abbrev ADC_INJGO : Nat := 0x14000090
abbrev ADC_INJSTAT : Nat := 0x14000094
abbrev SDF_CLK : Nat := 0x14010000
abbrev SDF_STUCK : Nat := 0x14010004
abbrev SDF_LIMIT : Nat := 0x14010008
abbrev SDF_CLIP : Nat := 0x1401000C
abbrev SDF_GSTAT : Nat := 0x14010010
abbrev SDF_CFG (n : Nat) : Nat := 0x14010100 + 0x20 * n
abbrev SDF_LIM (n : Nat) : Nat := 0x14010104 + 0x20 * n
abbrev SDF_PLACE (n : Nat) : Nat := 0x14010108 + 0x20 * n
abbrev SDF_SWORD (n : Nat) : Nat := 0x1401010C + 0x20 * n
abbrev SDF_RES (n : Nat) : Nat := 0x14010110 + 0x20 * n
abbrev SDF_RSTAMP_LO (n : Nat) : Nat := 0x14010114 + 0x20 * n
abbrev SDF_RSTAMP_HI (n : Nat) : Nat := 0x14010118 + 0x20 * n
abbrev CMP_LATCH : Nat := 0x14020000
abbrev CMP_OUT : Nat := 0x14020004
abbrev CMP_TEST : Nat := 0x14020008
abbrev CMP_TSTAT : Nat := 0x1402000C
abbrev CMP_STAT : Nat := 0x14020010
abbrev CMP_SETCNT : Nat := 0x14020014
abbrev CMP_CFG (n : Nat) : Nat := 0x14020100 + 0x10 * n
abbrev CMP_STAMP_LO (n : Nat) : Nat := 0x14020108 + 0x10 * n
abbrev CMP_STAMP_HI (n : Nat) : Nat := 0x1402010C + 0x10 * n
abbrev TRIP_CFG : Nat := 0x14030000
abbrev TRIP_ACT : Nat := 0x14030004
abbrev TRIP_TLATCH : Nat := 0x14030008
abbrev TRIP_TIN : Nat := 0x1403000C
abbrev TRIP_STAT : Nat := 0x14030010
abbrev TRIP_CNT : Nat := 0x14030014
abbrev TRIP_TINC (n : Nat) : Nat := 0x14030100 + 0x4 * n
abbrev TRIP_TSTAMP_LO (n : Nat) : Nat := 0x14030140 + 0x8 * n
abbrev TRIP_TSTAMP_HI (n : Nat) : Nat := 0x14030144 + 0x8 * n
abbrev TRIP_MASK (n : Nat) : Nat := 0x14030200 + 0x4 * n
abbrev TRIP_CG_LO (n : Nat) : Nat := 0x14030280 + 0x8 * n
abbrev TRIP_CG_HI (n : Nat) : Nat := 0x14030284 + 0x8 * n
abbrev AXD_VMCFG : Nat := 0x15000000
abbrev AXD_VMLIM : Nat := 0x15000004
abbrev AXD_BRKCFG : Nat := 0x15000008
abbrev AXD_VM : Nat := 0x1500000C
abbrev AXD_GSTAT : Nat := 0x15000010
abbrev AXD_BRKCNT : Nat := 0x15000014
abbrev AXD_DIAGCFG : Nat := 0x15000018
abbrev AXD_DIAGSTAT : Nat := 0x1500001C
abbrev AXD_CHCFG (n : Nat) : Nat := 0x15000100 + 0x100 * n
abbrev AXD_BST (n : Nat) : Nat := 0x15000104 + 0x100 * n
abbrev AXD_PROT (n : Nat) : Nat := 0x15000108 + 0x100 * n
abbrev AXD_BAND0 (n : Nat) : Nat := 0x1500010C + 0x100 * n
abbrev AXD_BAND1 (n : Nat) : Nat := 0x15000110 + 0x100 * n
abbrev AXD_BAND2 (n : Nat) : Nat := 0x15000114 + 0x100 * n
abbrev AXD_BAND3 (n : Nat) : Nat := 0x15000118 + 0x100 * n
abbrev AXD_CHSTAT (n : Nat) : Nat := 0x1500011C + 0x100 * n
abbrev AXD_SCINFO (n : Nat) : Nat := 0x15000120 + 0x100 * n
abbrev AXD_SCSTAMP_LO (n : Nat) : Nat := 0x15000124 + 0x100 * n
abbrev AXD_SCSTAMP_HI (n : Nat) : Nat := 0x15000128 + 0x100 * n
abbrev AXD_FLTCLR (n : Nat) : Nat := 0x1500012C + 0x100 * n
abbrev AXD_REFCNT (n : Nat) : Nat := 0x15000130 + 0x100 * n
abbrev AXD_BSUVCNT (n : Nat) : Nat := 0x15000134 + 0x100 * n
abbrev AXD_VBS (n : Nat) : Nat := 0x15000138 + 0x100 * n
abbrev AXD_DIAGRES (n : Nat) : Nat := 0x1500013C + 0x100 * n
abbrev HALL_GSTAT : Nat := 0x15010000
abbrev HALL_CLR : Nat := 0x15010004
abbrev HALL_CFG (n : Nat) : Nat := 0x15010100 + 0x40 * n
abbrev HALL_STATE (n : Nat) : Nat := 0x15010104 + 0x40 * n
abbrev HALL_POS (n : Nat) : Nat := 0x15010108 + 0x40 * n
abbrev HALL_SPEED (n : Nat) : Nat := 0x1501010C + 0x40 * n
abbrev HALL_HOMEPOS (n : Nat) : Nat := 0x15010110 + 0x40 * n
abbrev HALL_HOMECAP (n : Nat) : Nat := 0x15010114 + 0x40 * n
abbrev HALL_ILLCNT (n : Nat) : Nat := 0x15010118 + 0x40 * n
abbrev HALL_STAT (n : Nat) : Nat := 0x1501011C + 0x40 * n
abbrev HALL_TSTAMP_LO (n : Nat) : Nat := 0x15010120 + 0x40 * n
abbrev HALL_TSTAMP_HI (n : Nat) : Nat := 0x15010124 + 0x40 * n
abbrev HALL_HSTAMP_LO (n : Nat) : Nat := 0x15010128 + 0x40 * n
abbrev HALL_HSTAMP_HI (n : Nat) : Nat := 0x1501012C + 0x40 * n
abbrev HALL_PLACE (n : Nat) : Nat := 0x15010130 + 0x40 * n
abbrev SAFE_KEY : Nat := 0x15020000
abbrev SAFE_STAT : Nat := 0x15020004
abbrev SAFE_CRC : Nat := 0x15020008
abbrev SAFE_STOTEST : Nat := 0x1502000C
abbrev SAFE_SOUTREQ : Nat := 0x15020010
abbrev SAFE_SINSTAT : Nat := 0x15020014
abbrev SAFE_EVT : Nat := 0x15020018
abbrev SAFE_PLACE : Nat := 0x1502001C
abbrev SAFE_SINCFG (n : Nat) : Nat := 0x15020100 + 0x10 * n
abbrev SAFE_CHCFG (n : Nat) : Nat := 0x15020140 + 0x20 * n
abbrev SAFE_SS1 (n : Nat) : Nat := 0x15020144 + 0x20 * n
abbrev SAFE_CHSTAT (n : Nat) : Nat := 0x15020148 + 0x20 * n
abbrev SAFE_SOUTCFG (n : Nat) : Nat := 0x150201A0 + 0x10 * n
abbrev SAFE_SOUTSTAT (n : Nat) : Nat := 0x150201A4 + 0x10 * n
abbrev HOST_CTRL : Nat := 0x16000000
abbrev HOST_STAT : Nat := 0x16000004
abbrev HOST_ETYPE : Nat := 0x16000008
abbrev HOST_MAC_LO : Nat := 0x1600000C
abbrev HOST_MAC_HI : Nat := 0x16000010
abbrev HOST_IRQMASK : Nat := 0x16000014
abbrev HOST_EVTCFG : Nat := 0x16000018
abbrev HOST_EVTNUM : Nat := 0x1600001C
abbrev HOST_JPOS : Nat := 0x16000020
abbrev HOST_JFREE : Nat := 0x16000024
abbrev HOST_RXERR : Nat := 0x16000028
abbrev HOST_DROP : Nat := 0x1600002C
abbrev HOST_LOGCFG : Nat := 0x16000030
abbrev HOST_LOGMAC_LO : Nat := 0x16000034
abbrev HOST_LOGMAC_HI : Nat := 0x16000038
abbrev HOST_LOGLOST : Nat := 0x1600003C
abbrev HOST_QSTAT : Nat := 0x16000040
abbrev HOST_FLOW_CFG (n : Nat) : Nat := 0x16000100 + 0x10 * n
abbrev HOST_FLOW_MAC_LO (n : Nat) : Nat := 0x16000104 + 0x10 * n
abbrev HOST_FLOW_MAC_HI (n : Nat) : Nat := 0x16000108 + 0x10 * n
abbrev HOST_FLOW_N (n : Nat) : Nat := 0x16000180 + 0x8 * n
abbrev HOST_FLOW_D (n : Nat) : Nat := 0x16000184 + 0x8 * n
abbrev HOST_OP_STAT (n : Nat) : Nat := 0x16000200 + 0x10 * n
abbrev HOST_OP_SEQ (n : Nat) : Nat := 0x16000204 + 0x10 * n
abbrev HOST_OP_DONE (n : Nat) : Nat := 0x16000208 + 0x10 * n
abbrev HOST_OP_TOTAL (n : Nat) : Nat := 0x1600020C + 0x10 * n
abbrev UPD_CFG : Nat := 0x16010000
abbrev UPD_STAT : Nat := 0x16010004
abbrev UPD_SLOT : Nat := 0x16010008
abbrev UPD_SESSION : Nat := 0x1601000C
abbrev UPD_PROG : Nat := 0x16010010
abbrev UPD_AGE : Nat := 0x16010014
abbrev UPD_TRIAL : Nat := 0x16010018
abbrev UPD_OKRUN : Nat := 0x1601001C
abbrev UPD_ACTT_LO : Nat := 0x16010020
abbrev UPD_ACTT_HI : Nat := 0x16010024
abbrev UPD_VERA : Nat := 0x16010028
abbrev UPD_VERB : Nat := 0x1601002C
abbrev UPD_RLY : Nat := 0x16010030
abbrev NVM_STAT : Nat := 0x16020000
abbrev NVM_ECCADDR : Nat := 0x16020004
abbrev NVM_WRCNT : Nat := 0x16020008
abbrev NVM_KEYS : Nat := 0x1602000C
abbrev NVM_REVOKE : Nat := 0x16020010
/-- Word `w` of ADC result word `n`. -/
abbrev ADC_RES (n w : Nat) : Nat := 0x14001000 + 0x10 * n + 4 * w
/-- Word `w` of ADC entry `e`. -/
abbrev ADC_ENT (e w : Nat) : Nat := 0x14002000 + 0x20 * e + 4 * w
/-- Word `w` of fix bank `n`. -/
abbrev RING_FIXBANK (n w : Nat) : Nat := 0x13201000 + 0x800 * n + 4 * w
/-- Word `w` of the key hash of slot `k`. -/
abbrev NVM_KEYHASH (k w : Nat) : Nat := 0x16020100 + 0x20 * k + 4 * w
/-- The offset constant of slice `i` in band `b`. -/
abbrev ADC_CALOFS (i b : Nat) : Nat := 0x14003000 + 0x20 * i + 8 * b
/-- The gain constant of slice `i` in band `b`. -/
abbrev ADC_CALGAIN (i b : Nat) : Nat := 0x14003004 + 0x20 * i + 8 * b
end R

namespace F
def SYS_ID_PART : Fld := ⟨0x10000000, 8, 24⟩
def SYS_ID_MAJOR : Fld := ⟨0x10000000, 4, 4⟩
def SYS_ID_MINOR : Fld := ⟨0x10000000, 0, 4⟩
def SYS_CAPS_CELLS : Fld := ⟨0x1000000C, 24, 8⟩
def SYS_CAPS_AUX : Fld := ⟨0x1000000C, 16, 8⟩
def SYS_CAPS_CMP : Fld := ⟨0x1000000C, 8, 8⟩
def SYS_CAPS_ADC : Fld := ⟨0x1000000C, 0, 8⟩
def SYS_MEM_MRAM : Fld := ⟨0x10000010, 16, 16⟩
def SYS_MEM_SRAM : Fld := ⟨0x10000010, 0, 16⟩
def SYS_STATE_TRIAL : Fld := ⟨0x10000040, 5, 1⟩
def SYS_STATE_ROLE : Fld := ⟨0x10000040, 4, 1⟩
def SYS_STATE_STATE : Fld := ⟨0x10000040, 0, 4⟩
def SYS_REACT_SRCV : Fld := ⟨0x10000044, 31, 1⟩
def SYS_REACT_LEVEL : Fld := ⟨0x10000044, 24, 3⟩
def SYS_REACT_BLOCK : Fld := ⟨0x10000044, 16, 5⟩
def SYS_REACT_SRC : Fld := ⟨0x10000044, 0, 6⟩
def SYS_IRQSRC_IRQ : Fld := ⟨0x10000048, 0, 24⟩
def SYS_CTRL_REQTWIN : Fld := ⟨0x1000004C, 2, 1⟩
def SYS_CTRL_REQRING : Fld := ⟨0x1000004C, 1, 1⟩
def SYS_CTRL_AUTOARM : Fld := ⟨0x1000004C, 0, 1⟩
def SYS_RSTCAUSE_WARM : Fld := ⟨0x10000050, 16, 16⟩
def SYS_RSTCAUSE_IGN : Fld := ⟨0x10000050, 8, 6⟩
def SYS_RSTCAUSE_SRC : Fld := ⟨0x10000050, 0, 6⟩
def SYS_STRAP_RSTIGN : Fld := ⟨0x10000054, 9, 1⟩
def SYS_STRAP_RSTLVL : Fld := ⟨0x10000054, 8, 1⟩
def SYS_STRAP_STRAP : Fld := ⟨0x10000054, 0, 4⟩
def SYS_CFGST_CFG_DEF : Fld := ⟨0x10000058, 31, 1⟩
def SYS_CFGST_COPY : Fld := ⟨0x10000058, 24, 2⟩
def SYS_CFGST_BADB : Fld := ⟨0x10000058, 17, 1⟩
def SYS_CFGST_BADA : Fld := ⟨0x10000058, 16, 1⟩
def SYS_EVT_LOCKSTEP : Fld := ⟨0x10000060, 6, 1⟩
def SYS_EVT_ADDRERR : Fld := ⟨0x10000060, 5, 1⟩
def SYS_EVT_CFGREJ : Fld := ⟨0x10000060, 4, 1⟩
def SYS_EVT_RSTINFO : Fld := ⟨0x10000060, 3, 1⟩
def SYS_EVT_RST_STUCK : Fld := ⟨0x10000060, 2, 1⟩
def SYS_EVT_CFGBAD : Fld := ⟨0x10000060, 1, 1⟩
def SYS_EVT_CFGDEF : Fld := ⟨0x10000060, 0, 1⟩
def PMU_STAT_VGDBAD : Fld := ⟨0x10010000, 10, 1⟩
def PMU_STAT_VGDLIM : Fld := ⟨0x10010000, 9, 1⟩
def PMU_STAT_PFAIL : Fld := ⟨0x10010000, 8, 1⟩
def PMU_STAT_PGVGD : Fld := ⟨0x10010000, 4, 1⟩
def PMU_STAT_PGIO33 : Fld := ⟨0x10010000, 3, 1⟩
def PMU_STAT_PGIO18 : Fld := ⟨0x10010000, 2, 1⟩
def PMU_STAT_PGSRD : Fld := ⟨0x10010000, 1, 1⟩
def PMU_STAT_PGCORE : Fld := ⟨0x10010000, 0, 1⟩
def PMU_EVT_RETRY : Fld := ⟨0x10010004, 3, 1⟩
def PMU_EVT_CFGREJ : Fld := ⟨0x10010004, 2, 1⟩
def PMU_EVT_VGDPG : Fld := ⟨0x10010004, 1, 1⟩
def PMU_EVT_PFAIL : Fld := ⟨0x10010004, 0, 1⟩
def PMU_CFG_PFWTHR : Fld := ⟨0x10010008, 16, 12⟩
def PMU_CFG_FSWSEL : Fld := ⟨0x10010008, 0, 2⟩
def PMU_VAUX_VAUX : Fld := ⟨0x1001000C, 0, 12⟩
def PMU_VMON0_VSRD : Fld := ⟨0x10010010, 16, 16⟩
def PMU_VMON0_VCORE : Fld := ⟨0x10010010, 0, 16⟩
def PMU_VMON1_VIO33 : Fld := ⟨0x10010014, 16, 16⟩
def PMU_VMON1_VIO18 : Fld := ⟨0x10010014, 0, 16⟩
def PMU_VMON2_IGD : Fld := ⟨0x10010018, 16, 16⟩
def PMU_VMON2_VGD : Fld := ⟨0x10010018, 0, 16⟩
def PMU_LAST_CAUSE : Fld := ⟨0x1001001C, 28, 4⟩
def PMU_LAST_RAIL : Fld := ⟨0x1001001C, 24, 3⟩
def PMU_LAST_NFLT : Fld := ⟨0x1001001C, 16, 2⟩
def CLK_CFG_REFMODE : Fld := ⟨0x10020000, 0, 2⟩
def CLK_STAT_CFGREJ : Fld := ⟨0x10020004, 13, 1⟩
def CLK_STAT_LCUNLK : Fld := ⟨0x10020004, 12, 1⟩
def CLK_STAT_BANDLIM : Fld := ⟨0x10020004, 11, 1⟩
def CLK_STAT_COASTLIM : Fld := ⟨0x10020004, 10, 1⟩
def CLK_STAT_UNLOCK : Fld := ⟨0x10020004, 9, 1⟩
def CLK_STAT_REFLOSS : Fld := ⟨0x10020004, 8, 1⟩
def CLK_STAT_REFOK : Fld := ⟨0x10020004, 4, 1⟩
def CLK_STAT_LCBLOCK : Fld := ⟨0x10020004, 3, 1⟩
def CLK_STAT_LCALOCK : Fld := ⟨0x10020004, 2, 1⟩
def CLK_STAT_COAST : Fld := ⟨0x10020004, 1, 1⟩
def CLK_STAT_LOCK : Fld := ⟨0x10020004, 0, 1⟩
def CLK_LOCK_UNLKWIN : Fld := ⟨0x10020008, 24, 8⟩
def CLK_LOCK_LOCKWIN : Fld := ⟨0x10020008, 16, 8⟩
def CLK_LOCK_LOCKCNT : Fld := ⟨0x10020008, 0, 16⟩
def CLK_COAST_COASTMAX : Fld := ⟨0x1002000C, 0, 16⟩
def CLK_BAND_REFMODE : Fld := ⟨0x10020014, 24, 2⟩
def CLK_BAND_LCB : Fld := ⟨0x10020014, 16, 4⟩
def CLK_BAND_LCA : Fld := ⟨0x10020014, 8, 4⟩
def CLK_BAND_SYS : Fld := ⟨0x10020014, 0, 4⟩
def CLK_PERR_PERR : Fld := ⟨0x10020018, 0, 16⟩
def THERM_EVT_CFGREJ : Fld := ⟨0x10030000, 19, 1⟩
def THERM_EVT_SDRST : Fld := ⟨0x10030000, 18, 1⟩
def THERM_EVT_DIEDEG : Fld := ⟨0x10030000, 17, 1⟩
def THERM_EVT_BANDCHG : Fld := ⟨0x10030000, 16, 1⟩
def THERM_EVT_TSBAD : Fld := ⟨0x10030000, 0, 12⟩
def THERM_BAND_DEGA : Fld := ⟨0x10030004, 9, 1⟩
def THERM_BAND_DEGL : Fld := ⟨0x10030004, 8, 1⟩
def THERM_BAND_ANA : Fld := ⟨0x10030004, 4, 2⟩
def THERM_BAND_LOGIC : Fld := ⟨0x10030004, 0, 2⟩
def THERM_VALID_VALID : Fld := ⟨0x10030008, 0, 12⟩
def THERM_TXEVT_TXBAD : Fld := ⟨0x1003000C, 8, 4⟩
def THERM_TXEVT_TXALARM : Fld := ⟨0x1003000C, 4, 4⟩
def THERM_TXEVT_TXWARN : Fld := ⟨0x1003000C, 0, 4⟩
def THERM_TS_READING (n : Nat) : Fld := ⟨0x10030010 + 0x4 * n, 0, 16⟩
def THERM_TX_READING (n : Nat) : Fld := ⟨0x10030040 + 0x4 * n, 0, 16⟩
def THERM_TXCFG_EN (n : Nat) : Fld := ⟨0x10030050 + 0x4 * n, 31, 1⟩
def THERM_TXCFG_B (n : Nat) : Fld := ⟨0x10030050 + 0x4 * n, 16, 12⟩
def THERM_TXCFG_R25 (n : Nat) : Fld := ⟨0x10030050 + 0x4 * n, 0, 16⟩
def THERM_TXLIM_ALARM (n : Nat) : Fld := ⟨0x10030060 + 0x4 * n, 16, 16⟩
def THERM_TXLIM_WARN (n : Nat) : Fld := ⟨0x10030060 + 0x4 * n, 0, 16⟩
def THERM_SDREC_LOGIC : Fld := ⟨0x10030070, 31, 1⟩
def THERM_SDREC_ANA : Fld := ⟨0x10030070, 30, 1⟩
def THERM_SDREC_LUNC : Fld := ⟨0x10030070, 29, 1⟩
def THERM_SDREC_AUNC : Fld := ⟨0x10030070, 28, 1⟩
def THERM_SDREC_SENSOR : Fld := ⟨0x10030070, 24, 4⟩
def THERM_SDREC_READING : Fld := ⟨0x10030070, 0, 16⟩
def THERM_SDCNT_LOGIC : Fld := ⟨0x10030074, 16, 16⟩
def THERM_SDCNT_ANA : Fld := ⟨0x10030074, 0, 16⟩
def CHRONO_CTRL_STEPEN : Fld := ⟨0x10040010, 2, 1⟩
def CHRONO_CTRL_TK : Fld := ⟨0x10040010, 1, 1⟩
def CHRONO_CTRL_SERVO : Fld := ⟨0x10040010, 0, 1⟩
def CHRONO_STAT_PARLOST : Fld := ⟨0x10040014, 12, 1⟩
def CHRONO_STAT_FAR : Fld := ⟨0x10040014, 11, 1⟩
def CHRONO_STAT_TRIMLIM : Fld := ⟨0x10040014, 10, 1⟩
def CHRONO_STAT_STEPREJ : Fld := ⟨0x10040014, 9, 1⟩
def CHRONO_STAT_STEPPED : Fld := ⟨0x10040014, 8, 1⟩
def CHRONO_STAT_SYNC : Fld := ⟨0x10040014, 3, 1⟩
def CHRONO_STAT_TSTATE : Fld := ⟨0x10040014, 0, 3⟩
def CHRONO_SERVO_STEP_THR : Fld := ⟨0x10040024, 16, 16⟩
def CHRONO_SERVO_SLEW : Fld := ⟨0x10040024, 8, 8⟩
def CHRONO_SERVO_SYNC_WIN : Fld := ⟨0x10040024, 0, 8⟩
def CHRONO_INT_SYNC_INT : Fld := ⟨0x10040028, 0, 16⟩
def SEXT_CTRL_SRC : Fld := ⟨0x10050000, 2, 1⟩
def SEXT_CTRL_CONN : Fld := ⟨0x10050000, 1, 1⟩
def SEXT_CTRL_EN : Fld := ⟨0x10050000, 0, 1⟩
def SEXT_N_N : Fld := ⟨0x10050004, 0, 11⟩
def SEXT_FLIM_F_MAX : Fld := ⟨0x10050008, 16, 16⟩
def SEXT_FLIM_F_MIN : Fld := ⟨0x10050008, 0, 16⟩
def SEXT_WIN_UNLK_WIN : Fld := ⟨0x10050018, 16, 16⟩
def SEXT_WIN_LOCK_WIN : Fld := ⟨0x10050018, 0, 16⟩
def SEXT_LCFG_SLEW_MAX : Fld := ⟨0x1005001C, 16, 16⟩
def SEXT_LCFG_LOSS_CNT : Fld := ⟨0x1005001C, 8, 4⟩
def SEXT_LCFG_LOCK_CYC : Fld := ⟨0x1005001C, 0, 8⟩
def SEXT_AMP_VNOM : Fld := ⟨0x10050020, 16, 16⟩
def SEXT_AMP_AMP_MIN : Fld := ⟨0x10050020, 0, 16⟩
def SEXT_SRCIDX_C : Fld := ⟨0x10050024, 16, 8⟩
def SEXT_SRCIDX_B : Fld := ⟨0x10050024, 8, 8⟩
def SEXT_SRCIDX_A : Fld := ⟨0x10050024, 0, 8⟩
def SEXT_STAT_MISS : Fld := ⟨0x10050030, 13, 1⟩
def SEXT_STAT_COASTLIM : Fld := ⟨0x10050030, 12, 1⟩
def SEXT_STAT_CFGREJ : Fld := ⟨0x10050030, 11, 1⟩
def SEXT_STAT_CLAMP : Fld := ⟨0x10050030, 10, 1⟩
def SEXT_STAT_REFLOSS : Fld := ⟨0x10050030, 9, 1⟩
def SEXT_STAT_UNLOCK : Fld := ⟨0x10050030, 8, 1⟩
def SEXT_STAT_COAST : Fld := ⟨0x10050030, 4, 1⟩
def SEXT_STAT_LOCK : Fld := ⟨0x10050030, 3, 1⟩
def SEXT_STAT_STATE : Fld := ⟨0x10050030, 0, 3⟩
def SEXT_PIDX_K : Fld := ⟨0x10050044, 0, 11⟩
def SEXT_AMPL_AMPL : Fld := ⟨0x10050060, 0, 16⟩
def ENG_CTRL_STALLCAP : Fld := ⟨0x10100000, 8, 8⟩
def ENG_CTRL_PEEKHOLD : Fld := ⟨0x10100000, 1, 1⟩
def ENG_CTRL_EN : Fld := ⟨0x10100000, 0, 1⟩
def ENG_STAT_FLGSUM : Fld := ⟨0x10100004, 16, 5⟩
def ENG_STAT_ECCU : Fld := ⟨0x10100004, 14, 1⟩
def ENG_STAT_ECCC : Fld := ⟨0x10100004, 13, 1⟩
def ENG_STAT_ACTWR : Fld := ⟨0x10100004, 12, 1⟩
def ENG_STAT_BUDREJ : Fld := ⟨0x10100004, 11, 1⟩
def ENG_STAT_CFGREJ : Fld := ⟨0x10100004, 10, 1⟩
def ENG_STAT_OVRLIM : Fld := ⟨0x10100004, 9, 1⟩
def ENG_STAT_OVERRUN : Fld := ⟨0x10100004, 8, 1⟩
def ENG_STAT_ABANK : Fld := ⟨0x10100004, 5, 1⟩
def ENG_STAT_PBANK : Fld := ⟨0x10100004, 4, 1⟩
def ENG_STAT_ESTATE : Fld := ⟨0x10100004, 0, 3⟩
def ENG_TIMING_T_LEAD : Fld := ⟨0x10100008, 16, 16⟩
def ENG_TIMING_T_START : Fld := ⟨0x10100008, 0, 16⟩
def ENG_ALMLEN_LEN1 : Fld := ⟨0x10100014, 16, 11⟩
def ENG_ALMLEN_LEN0 : Fld := ⟨0x10100014, 0, 11⟩
def ENG_OVR_CFG_OVR_LIM : Fld := ⟨0x10100028, 0, 8⟩
def ENG_OVR_INFO_REMAIN : Fld := ⟨0x10100034, 20, 12⟩
def ENG_OVR_INFO_ROW : Fld := ⟨0x10100034, 10, 10⟩
def ENG_OVR_INFO_BLK : Fld := ⟨0x10100034, 6, 4⟩
def ENG_ROW_ROW : Fld := ⟨0x10100048, 0, 10⟩
def ENG_STALLSRC_SRC : Fld := ⟨0x1010004C, 0, 5⟩
def ENG_SPAGE_V_BASE : Fld := ⟨0x10100058, 16, 11⟩
def ENG_SPAGE_V_NROWS : Fld := ⟨0x10100058, 0, 8⟩
def ENG_SPAGE_S_BASE : Fld := ⟨0x1010005C, 16, 14⟩
def ENG_SPAGE_S_NWORDS : Fld := ⟨0x1010005C, 0, 11⟩
def ENG_INBOX_BASE : Fld := ⟨0x10100060, 16, 11⟩
def ENG_INBOX_NROWS : Fld := ⟨0x10100060, 0, 10⟩
def ENG_MIRROR_BASE : Fld := ⟨0x10100064, 16, 11⟩
def ENG_MIRROR_NROWS : Fld := ⟨0x10100064, 0, 9⟩
def ENG_LADLE_COUNT : Fld := ⟨0x10100068, 0, 10⟩
def ENG_SFLG_SDZ : Fld := ⟨0x10100098, 1, 1⟩
def ENG_SFLG_SSAT : Fld := ⟨0x10100098, 0, 1⟩
def ALM_MODE_PEND : Fld := ⟨0x110E8000, 19, 1⟩
def ALM_MODE_NEXT : Fld := ⟨0x110E8000, 16, 3⟩
def ALM_MODE_PREV : Fld := ⟨0x110E8000, 8, 3⟩
def ALM_MODE_CUR : Fld := ⟨0x110E8000, 0, 3⟩
def ALM_MCFG_DEF : Fld := ⟨0x110E8004, 0, 8⟩
def ALM_MREQ_EN : Fld := ⟨0x110E8008, 31, 1⟩
def ALM_MREQ_WORD : Fld := ⟨0x110E8008, 0, 14⟩
def ALM_HOVSRC_BASE : Fld := ⟨0x110E800C, 16, 11⟩
def ALM_HOVSRC_NROWS : Fld := ⟨0x110E800C, 0, 4⟩
def ALM_HOVDST_BASE : Fld := ⟨0x110E8010, 16, 11⟩
def ALM_SWAP_PEND : Fld := ⟨0x110E8014, 31, 1⟩
def ALM_SWAP_ATP : Fld := ⟨0x110E8014, 30, 1⟩
def ALM_SWAP_SEL : Fld := ⟨0x110E8014, 4, 2⟩
def ALM_SWAP_VERA : Fld := ⟨0x110E8014, 1, 1⟩
def ALM_SWAP_VERP : Fld := ⟨0x110E8014, 0, 1⟩
def ALM_STAT_SWAPPED : Fld := ⟨0x110E8020, 3, 1⟩
def ALM_STAT_CFGREJ : Fld := ⟨0x110E8020, 2, 1⟩
def ALM_STAT_MODEREJ : Fld := ⟨0x110E8020, 1, 1⟩
def ALM_STAT_OFSLATE : Fld := ⟨0x110E8020, 0, 1⟩
def LOG_CTRL_FORCE : Fld := ⟨0x17000000, 3, 1⟩
def LOG_CTRL_CAPPT : Fld := ⟨0x17000000, 2, 1⟩
def LOG_CTRL_STREAM : Fld := ⟨0x17000000, 1, 1⟩
def LOG_STAT_TRIGSRC : Fld := ⟨0x17000004, 12, 4⟩
def LOG_STAT_CFGREJ : Fld := ⟨0x17000004, 10, 1⟩
def LOG_STAT_RDREJ : Fld := ⟨0x17000004, 9, 1⟩
def LOG_STAT_SHORTPRE : Fld := ⟨0x17000004, 8, 1⟩
def LOG_STAT_STATE : Fld := ⟨0x17000004, 0, 3⟩
def LOG_CFG_NSIG : Fld := ⟨0x17000008, 0, 7⟩
def LOG_PREPOST_POST : Fld := ⟨0x1700000C, 16, 16⟩
def LOG_PREPOST_PRE : Fld := ⟨0x1700000C, 0, 16⟩
def LOG_RECSZ_NSLOT : Fld := ⟨0x17000010, 16, 16⟩
def LOG_RECSZ_SIZE : Fld := ⟨0x17000010, 0, 13⟩
def LOG_CAPOFS_OFS : Fld := ⟨0x17000014, 0, 16⟩
def LOG_TRIGPOS_SLOT : Fld := ⟨0x17000018, 0, 16⟩
def LOG_FIRST_HELD : Fld := ⟨0x1700001C, 16, 16⟩
def LOG_FIRST_SLOT : Fld := ⟨0x1700001C, 0, 16⟩
def LOG_TRIG_EN (n : Nat) : Fld := ⟨0x17000040 + 0x4 * n, 31, 1⟩
def LOG_TRIG_TYPE (n : Nat) : Fld := ⟨0x17000040 + 0x4 * n, 28, 3⟩
def LOG_TRIG_SIG (n : Nat) : Fld := ⟨0x17000040 + 0x4 * n, 16, 6⟩
def LOG_TRIG_SEL (n : Nat) : Fld := ⟨0x17000040 + 0x4 * n, 0, 7⟩
def LOG_SIG_TYPE (n : Nat) : Fld := ⟨0x17000100 + 0x4 * n, 30, 2⟩
def LOG_SIG_SEL (n : Nat) : Fld := ⟨0x17000100 + 0x4 * n, 0, 30⟩
def MOD_CFG_GRP (n : Nat) : Fld := ⟨0x12000000 + 0x40 * n, 28, 4⟩
def MOD_CFG_LSET (n : Nat) : Fld := ⟨0x12000000 + 0x40 * n, 21, 7⟩
def MOD_CFG_SAFEL (n : Nat) : Fld := ⟨0x12000000 + 0x40 * n, 18, 2⟩
def MOD_CFG_SAFEH (n : Nat) : Fld := ⟨0x12000000 + 0x40 * n, 16, 2⟩
def MOD_CFG_STRICT (n : Nat) : Fld := ⟨0x12000000 + 0x40 * n, 7, 1⟩
def MOD_CFG_POLICY (n : Nat) : Fld := ⟨0x12000000 + 0x40 * n, 6, 1⟩
def MOD_CFG_MODE (n : Nat) : Fld := ⟨0x12000000 + 0x40 * n, 4, 2⟩
def MOD_CFG_BASE (n : Nat) : Fld := ⟨0x12000000 + 0x40 * n, 3, 1⟩
def MOD_CFG_EN (n : Nat) : Fld := ⟨0x12000000 + 0x40 * n, 0, 1⟩
def MOD_PERIOD_V (n : Nat) : Fld := ⟨0x12000004 + 0x40 * n, 0, 28⟩
def MOD_CMPA_V (n : Nat) : Fld := ⟨0x12000008 + 0x40 * n, 0, 28⟩
def MOD_CMPB_V (n : Nat) : Fld := ⟨0x1200000C + 0x40 * n, 0, 28⟩
def MOD_PHASE_V (n : Nat) : Fld := ⟨0x12000010 + 0x40 * n, 0, 28⟩
def MOD_DT_DTR (n : Nat) : Fld := ⟨0x12000014 + 0x40 * n, 16, 12⟩
def MOD_DT_DTF (n : Nat) : Fld := ⟨0x12000014 + 0x40 * n, 0, 12⟩
def MOD_MINP_MINP (n : Nat) : Fld := ⟨0x12000018 + 0x40 * n, 0, 12⟩
def MOD_SLEW_SLEWP (n : Nat) : Fld := ⟨0x1200001C + 0x40 * n, 16, 16⟩
def MOD_SLEW_SLEWC (n : Nat) : Fld := ⟨0x1200001C + 0x40 * n, 0, 16⟩
def MOD_CHST_DPH (n : Nat) : Fld := ⟨0x12000034 + 0x40 * n, 28, 4⟩
def MOD_CHST_STG (n : Nat) : Fld := ⟨0x12000034 + 0x40 * n, 27, 1⟩
def MOD_CHST_SLEWING (n : Nat) : Fld := ⟨0x12000034 + 0x40 * n, 26, 1⟩
def MOD_CHST_WR (n : Nat) : Fld := ⟨0x12000034 + 0x40 * n, 16, 7⟩
def MOD_CHST_EQOVF (n : Nat) : Fld := ⟨0x12000034 + 0x40 * n, 7, 1⟩
def MOD_CHST_CFGREJ (n : Nat) : Fld := ⟨0x12000034 + 0x40 * n, 6, 1⟩
def MOD_CHST_SLEWLIM (n : Nat) : Fld := ⟨0x12000034 + 0x40 * n, 5, 1⟩
def MOD_CHST_MPFORCE (n : Nat) : Fld := ⟨0x12000034 + 0x40 * n, 4, 1⟩
def MOD_CHST_MINPULSE (n : Nat) : Fld := ⟨0x12000034 + 0x40 * n, 3, 1⟩
def MOD_CHST_PERREJ (n : Nat) : Fld := ⟨0x12000034 + 0x40 * n, 2, 1⟩
def MOD_CHST_LDREJ (n : Nat) : Fld := ⟨0x12000034 + 0x40 * n, 1, 1⟩
def MOD_CHST_PARTIAL (n : Nat) : Fld := ⟨0x12000034 + 0x40 * n, 0, 1⟩
def MOD_GLOAD_G : Fld := ⟨0x12010800, 0, 16⟩
def MOD_GARM_G : Fld := ⟨0x12010804, 0, 16⟩
def MOD_AREF_AREF : Fld := ⟨0x12010808, 0, 24⟩
def MOD_GSTAT_CFGREJ : Fld := ⟨0x1201080C, 0, 1⟩
def MOD_GENT_GENT : Fld := ⟨0x12010818, 0, 8⟩
def MOD_FSUM_FSUM : Fld := ⟨0x1201081C, 0, 8⟩
def OCL_CLAIM_CLAIM : Fld := ⟨0x13100000, 0, 16⟩
def OCL_TCFG_VMAX : Fld := ⟨0x13100004, 16, 8⟩
def OCL_TCFG_DWIN : Fld := ⟨0x13100004, 8, 8⟩
def OCL_TCFG_TINT : Fld := ⟨0x13100004, 0, 7⟩
def OCL_INMAP_OFS : Fld := ⟨0x13100008, 16, 9⟩
def OCL_INMAP_F : Fld := ⟨0x13100008, 8, 4⟩
def OCL_INMAP_S : Fld := ⟨0x13100008, 0, 5⟩
def OCL_SMPOFS_ODD (n : Nat) : Fld := ⟨0x1310000C + 0x4 * n, 16, 16⟩
def OCL_SMPOFS_EVEN (n : Nat) : Fld := ⟨0x1310000C + 0x4 * n, 0, 16⟩
def OCL_BYPREQ_EN : Fld := ⟨0x13100020, 31, 1⟩
def OCL_BYPREQ_ROW : Fld := ⟨0x13100020, 0, 11⟩
def OCL_LCMD_GO : Fld := ⟨0x13100024, 31, 1⟩
def OCL_LCMD_OPC : Fld := ⟨0x13100024, 8, 8⟩
def OCL_LCMD_LANE : Fld := ⟨0x13100024, 0, 6⟩
def OCL_LCMDST_BUSY : Fld := ⟨0x13100030, 31, 1⟩
def OCL_LCMDST_FAILED : Fld := ⟨0x13100030, 30, 1⟩
def OCL_LCMDST_RESULT : Fld := ⟨0x13100030, 16, 8⟩
def OCL_LCMDST_OPC : Fld := ⟨0x13100030, 8, 8⟩
def OCL_LCMDST_LANE : Fld := ⟨0x13100030, 0, 6⟩
def OCL_GSTAT_CFGREJ : Fld := ⟨0x13100038, 0, 1⟩
def OCL_EN_HI_V : Fld := ⟨0x13100044, 0, 24⟩
def OCL_REQ_HI_V : Fld := ⟨0x1310004C, 0, 24⟩
def OCL_LCFG_ACCMAX (n : Nat) : Fld := ⟨0x13101000 + 0x40 * n, 28, 4⟩
def OCL_LCFG_NCHREQ (n : Nat) : Fld := ⟨0x13101000 + 0x40 * n, 24, 4⟩
def OCL_LCFG_RMIN (n : Nat) : Fld := ⟨0x13101000 + 0x40 * n, 16, 8⟩
def OCL_LCFG_VBSRC (n : Nat) : Fld := ⟨0x13101000 + 0x40 * n, 12, 4⟩
def OCL_LCFG_BYPREQ (n : Nat) : Fld := ⟨0x13101000 + 0x40 * n, 11, 1⟩
def OCL_LCFG_LLBYP (n : Nat) : Fld := ⟨0x13101000 + 0x40 * n, 10, 1⟩
def OCL_LVB_VBYP (n : Nat) : Fld := ⟨0x13101004 + 0x40 * n, 16, 16⟩
def OCL_LVB_DTMIN (n : Nat) : Fld := ⟨0x13101004 + 0x40 * n, 0, 12⟩
def OCL_LSTATE_VER (n : Nat) : Fld := ⟨0x13101008 + 0x40 * n, 24, 8⟩
def OCL_LSTATE_REASON (n : Nat) : Fld := ⟨0x13101008 + 0x40 * n, 8, 4⟩
def OCL_LSTATE_FOLLOW (n : Nat) : Fld := ⟨0x13101008 + 0x40 * n, 7, 1⟩
def OCL_LSTATE_TLOCK (n : Nat) : Fld := ⟨0x13101008 + 0x40 * n, 6, 1⟩
def OCL_LSTATE_STATE (n : Nat) : Fld := ⟨0x13101008 + 0x40 * n, 0, 3⟩
def OCL_LDELAY_DDN (n : Nat) : Fld := ⟨0x13101014 + 0x40 * n, 0, 24⟩
def OCL_LASYM_ASYM (n : Nat) : Fld := ⟨0x13101018 + 0x40 * n, 0, 16⟩
def OCL_LRMAX_RMAX (n : Nat) : Fld := ⟨0x1310101C + 0x40 * n, 0, 8⟩
def OCL_LPERR_TEMP (n : Nat) : Fld := ⟨0x13101024 + 0x40 * n, 16, 16⟩
def OCL_LPERR_PERR (n : Nat) : Fld := ⟨0x13101024 + 0x40 * n, 0, 16⟩
def OCL_LSTAT_CLASH (n : Nat) : Fld := ⟨0x13101028 + 0x40 * n, 12, 1⟩
def OCL_LSTAT_FOREIGN (n : Nat) : Fld := ⟨0x13101028 + 0x40 * n, 11, 1⟩
def OCL_LSTAT_LVLERR (n : Nat) : Fld := ⟨0x13101028 + 0x40 * n, 10, 1⟩
def OCL_LSTAT_HOLD (n : Nat) : Fld := ⟨0x13101028 + 0x40 * n, 9, 1⟩
def OCL_LSTAT_TERR (n : Nat) : Fld := ⟨0x13101028 + 0x40 * n, 8, 1⟩
def OCL_LSTAT_DJUMP (n : Nat) : Fld := ⟨0x13101028 + 0x40 * n, 7, 1⟩
def OCL_LSTAT_CRCERR (n : Nat) : Fld := ⟨0x13101028 + 0x40 * n, 6, 1⟩
def OCL_LSTAT_CMDFAIL (n : Nat) : Fld := ⟨0x13101028 + 0x40 * n, 5, 1⟩
def OCL_LSTAT_NOCAP (n : Nat) : Fld := ⟨0x13101028 + 0x40 * n, 4, 1⟩
def OCL_LSTAT_BYPCHG (n : Nat) : Fld := ⟨0x13101028 + 0x40 * n, 3, 1⟩
def OCL_LSTAT_GDF (n : Nat) : Fld := ⟨0x13101028 + 0x40 * n, 2, 1⟩
def OCL_LSTAT_DESAT (n : Nat) : Fld := ⟨0x13101028 + 0x40 * n, 1, 1⟩
def OCL_LSTAT_LINKDN (n : Nat) : Fld := ⟨0x13101028 + 0x40 * n, 0, 1⟩
def OCL_LCTRL_RETRY (n : Nat) : Fld := ⟨0x1310103C + 0x40 * n, 0, 1⟩
def LANE_CFG_ANEN (n : Nat) : Fld := ⟨0x13000000 + 0x400 * n, 11, 1⟩
def LANE_CFG_HSMODE (n : Nat) : Fld := ⟨0x13000000 + 0x400 * n, 10, 1⟩
def LANE_CFG_RATE (n : Nat) : Fld := ⟨0x13000000 + 0x400 * n, 8, 2⟩
def LANE_CFG_LOOP (n : Nat) : Fld := ⟨0x13000000 + 0x400 * n, 5, 1⟩
def LANE_CFG_PRBS (n : Nat) : Fld := ⟨0x13000000 + 0x400 * n, 4, 1⟩
def LANE_CFG_TXPOL (n : Nat) : Fld := ⟨0x13000000 + 0x400 * n, 3, 1⟩
def LANE_CFG_RXPOL (n : Nat) : Fld := ⟨0x13000000 + 0x400 * n, 2, 1⟩
def LANE_CFG_AUTOPOL (n : Nat) : Fld := ⟨0x13000000 + 0x400 * n, 1, 1⟩
def LANE_CFG_EN (n : Nat) : Fld := ⟨0x13000000 + 0x400 * n, 0, 1⟩
def LANE_STAT_EQCODE (n : Nat) : Fld := ⟨0x13000004 + 0x400 * n, 28, 4⟩
def LANE_STAT_BAND (n : Nat) : Fld := ⟨0x13000004 + 0x400 * n, 26, 2⟩
def LANE_STAT_RXINV (n : Nat) : Fld := ⟨0x13000004 + 0x400 * n, 25, 1⟩
def LANE_STAT_CFGREJ (n : Nat) : Fld := ⟨0x13000004 + 0x400 * n, 10, 1⟩
def LANE_STAT_SKEWERR (n : Nat) : Fld := ⟨0x13000004 + 0x400 * n, 9, 1⟩
def LANE_STAT_PORTERR (n : Nat) : Fld := ⟨0x13000004 + 0x400 * n, 8, 1⟩
def LANE_STAT_POLINV (n : Nat) : Fld := ⟨0x13000004 + 0x400 * n, 7, 1⟩
def LANE_STAT_HUNTFAIL (n : Nat) : Fld := ⟨0x13000004 + 0x400 * n, 6, 1⟩
def LANE_STAT_LOCKLOSS (n : Nat) : Fld := ⟨0x13000004 + 0x400 * n, 5, 1⟩
def LANE_STAT_LSTATE (n : Nat) : Fld := ⟨0x13000004 + 0x400 * n, 0, 3⟩
def LANE_EQPRE_B3 (n : Nat) : Fld := ⟨0x13000008 + 0x400 * n, 12, 4⟩
def LANE_EQPRE_B2 (n : Nat) : Fld := ⟨0x13000008 + 0x400 * n, 8, 4⟩
def LANE_EQPRE_B1 (n : Nat) : Fld := ⟨0x13000008 + 0x400 * n, 4, 4⟩
def LANE_EQPRE_B0 (n : Nat) : Fld := ⟨0x13000008 + 0x400 * n, 0, 4⟩
def LANE_EQCTL_OVR (n : Nat) : Fld := ⟨0x1300000C + 0x400 * n, 31, 1⟩
def LANE_EQCTL_CODE (n : Nat) : Fld := ⟨0x1300000C + 0x400 * n, 0, 4⟩
def LANE_TXCFG_DEEMPH (n : Nat) : Fld := ⟨0x13000010 + 0x400 * n, 4, 3⟩
def LANE_TXCFG_SWING (n : Nat) : Fld := ⟨0x13000010 + 0x400 * n, 0, 4⟩
def LANE_TSOFS_TX (n : Nat) : Fld := ⟨0x13000020 + 0x400 * n, 16, 16⟩
def LANE_TSOFS_RX (n : Nat) : Fld := ⟨0x13000020 + 0x400 * n, 0, 16⟩
def LANE_EYECTL_START (n : Nat) : Fld := ⟨0x13000024 + 0x400 * n, 31, 1⟩
def LANE_EYECTL_BUSY (n : Nat) : Fld := ⟨0x13000024 + 0x400 * n, 30, 1⟩
def LANE_EYECTL_DONE (n : Nat) : Fld := ⟨0x13000024 + 0x400 * n, 29, 1⟩
def LANE_EYECTL_ABORT (n : Nat) : Fld := ⟨0x13000024 + 0x400 * n, 28, 1⟩
def LANE_EYECTL_EQCHG (n : Nat) : Fld := ⟨0x13000024 + 0x400 * n, 27, 1⟩
def LANE_EYECTL_DUR (n : Nat) : Fld := ⟨0x13000024 + 0x400 * n, 20, 4⟩
def LANE_EYECTL_VOFS (n : Nat) : Fld := ⟨0x13000024 + 0x400 * n, 8, 8⟩
def LANE_EYECTL_PH (n : Nat) : Fld := ⟨0x13000024 + 0x400 * n, 0, 6⟩
def LANE_PORT_REVT : Fld := ⟨0x13010008, 6, 1⟩
def LANE_PORT_REVW : Fld := ⟨0x13010008, 5, 1⟩
def LANE_PORT_REVE : Fld := ⟨0x13010008, 4, 1⟩
def LANE_PORT_ALT : Fld := ⟨0x13010008, 2, 1⟩
def LANE_PORT_ALW : Fld := ⟨0x13010008, 1, 1⟩
def LANE_PORT_ALE : Fld := ⟨0x13010008, 0, 1⟩
def LANE_SKEW_E_V : Fld := ⟨0x1301000C, 0, 16⟩
def LANE_SKEW_W_V : Fld := ⟨0x13010010, 0, 16⟩
def LANE_SKEW_T_V : Fld := ⟨0x13010014, 0, 16⟩
def RING_CFG_EN : Fld := ⟨0x13200000, 31, 1⟩
def RING_CFG_PAIR : Fld := ⟨0x13200000, 30, 1⟩
def RING_CFG_TKAUTO : Fld := ⟨0x13200000, 24, 1⟩
def RING_CFG_TKPRI : Fld := ⟨0x13200000, 16, 8⟩
def RING_CFG_ID : Fld := ⟨0x13200000, 0, 9⟩
def RING_STAT_CFGREJ : Fld := ⟨0x13200004, 24, 1⟩
def RING_STAT_SPLIT : Fld := ⟨0x13200004, 23, 1⟩
def RING_STAT_GPAUSE : Fld := ⟨0x13200004, 22, 1⟩
def RING_STAT_FIXOVF : Fld := ⟨0x13200004, 21, 1⟩
def RING_STAT_FIXLATE : Fld := ⟨0x13200004, 20, 1⟩
def RING_STAT_DOMFAIL : Fld := ⟨0x13200004, 19, 1⟩
def RING_STAT_PORTDN : Fld := ⟨0x13200004, 18, 1⟩
def RING_STAT_TKCHG : Fld := ⟨0x13200004, 17, 1⟩
def RING_STAT_DUPID : Fld := ⟨0x13200004, 16, 1⟩
def RING_STAT_BYPW : Fld := ⟨0x13200004, 9, 1⟩
def RING_STAT_BYPE : Fld := ⟨0x13200004, 8, 1⟩
def RING_STAT_WSTATE : Fld := ⟨0x13200004, 4, 3⟩
def RING_STAT_ESTATE : Fld := ⟨0x13200004, 0, 3⟩
def RING_TOPO_COUNT : Fld := ⟨0x13200008, 16, 10⟩
def RING_TOPO_ISTK : Fld := ⟨0x13200008, 14, 1⟩
def RING_TOPO_PARENT : Fld := ⟨0x13200008, 13, 1⟩
def RING_TOPO_TKKNOWN : Fld := ⟨0x13200008, 12, 1⟩
def RING_TOPO_TKID : Fld := ⟨0x13200008, 0, 9⟩
def RING_HOPS_W : Fld := ⟨0x1320000C, 16, 9⟩
def RING_HOPS_E : Fld := ⟨0x1320000C, 0, 9⟩
def RING_GCFG_RTO : Fld := ⟨0x13200010, 0, 16⟩
def RING_GQ_UNACK : Fld := ⟨0x13200014, 8, 8⟩
def RING_GQ_HELD : Fld := ⟨0x13200014, 0, 8⟩
def RING_DOMCFG_EN : Fld := ⟨0x13200018, 31, 1⟩
def RING_DOMCFG_DOMID : Fld := ⟨0x13200018, 23, 8⟩
def RING_DOMCFG_POS : Fld := ⟨0x13200018, 19, 4⟩
def RING_DOMCFG_SLOTLEN : Fld := ⟨0x13200018, 15, 4⟩
def RING_DOMCFG_OFS : Fld := ⟨0x13200018, 0, 9⟩
def RING_DOMAWIN_AWIN : Fld := ⟨0x1320001C, 0, 8⟩
def RING_DOMTBL_V (n : Nat) : Fld := ⟨0x13200020 + 0x4 * n, 31, 1⟩
def RING_DOMTBL_ID (n : Nat) : Fld := ⟨0x13200020 + 0x4 * n, 16, 9⟩
def RING_DOMTBL_POS (n : Nat) : Fld := ⟨0x13200020 + 0x4 * n, 0, 4⟩
def RING_DOMCHK_PASS : Fld := ⟨0x13200060, 31, 1⟩
def RING_DOMCHK_H : Fld := ⟨0x13200060, 16, 5⟩
def RING_DOMCHK_TARR : Fld := ⟨0x13200060, 0, 16⟩
def RING_FIXCFG_ROWBASE : Fld := ⟨0x13200064, 16, 11⟩
def RING_FIXCFG_NROWS : Fld := ⟨0x13200064, 8, 4⟩
def RING_FIXCFG_FIXSEL : Fld := ⟨0x13200064, 0, 7⟩
def TWIN_CFG_EN : Fld := ⟨0x13300000, 31, 1⟩
def TWIN_CFG_PRIME : Fld := ⟨0x13300000, 30, 1⟩
def TWIN_CFG_PARTNER : Fld := ⟨0x13300000, 16, 9⟩
def TWIN_CFG_WAIT : Fld := ⟨0x13300000, 8, 8⟩
def TWIN_CFG_TMAX : Fld := ⟨0x13300000, 0, 8⟩
def TWIN_STAT_COLDRST : Fld := ⟨0x13300004, 18, 3⟩
def TWIN_STAT_CFGREJ : Fld := ⟨0x13300004, 17, 1⟩
def TWIN_STAT_SWAPFAIL : Fld := ⟨0x13300004, 16, 1⟩
def TWIN_STAT_TSKEW : Fld := ⟨0x13300004, 15, 1⟩
def TWIN_STAT_MLAG : Fld := ⟨0x13300004, 14, 1⟩
def TWIN_STAT_CFGMIS : Fld := ⟨0x13300004, 13, 1⟩
def TWIN_STAT_NOTAKE : Fld := ⟨0x13300004, 12, 1⟩
def TWIN_STAT_DEPOSED : Fld := ⟨0x13300004, 11, 1⟩
def TWIN_STAT_YIELDED : Fld := ⟨0x13300004, 10, 1⟩
def TWIN_STAT_TAKEOVER : Fld := ⟨0x13300004, 9, 1⟩
def TWIN_STAT_MISSRUN : Fld := ⟨0x13300004, 7, 2⟩
def TWIN_STAT_MSYNC : Fld := ⟨0x13300004, 6, 1⟩
def TWIN_STAT_ELIG : Fld := ⟨0x13300004, 5, 1⟩
def TWIN_STAT_ROLE : Fld := ⟨0x13300004, 4, 1⟩
def TWIN_STAT_TSTATE : Fld := ⟨0x13300004, 0, 3⟩
def TWIN_CLAIMS_PARTNER : Fld := ⟨0x13300008, 16, 16⟩
def TWIN_CLAIMS_OWN : Fld := ⟨0x13300008, 0, 16⟩
def TWIN_MCFG_MODMAX : Fld := ⟨0x13300010, 0, 10⟩
def TWIN_MFIT_FIT : Fld := ⟨0x13300014, 31, 1⟩
def TWIN_MFIT_TM : Fld := ⟨0x13300014, 0, 16⟩
def TWIN_MLAST_BLOCKS : Fld := ⟨0x13300018, 16, 16⟩
def TWIN_MLAST_NS : Fld := ⟨0x13300018, 0, 16⟩
def TWIN_CKPT_AGE : Fld := ⟨0x13300030, 16, 16⟩
def TWIN_CKPT_HELD : Fld := ⟨0x13300030, 0, 3⟩
def ADC_CTRL_QUIET : Fld := ⟨0x14000000, 2, 1⟩
def ADC_CTRL_ROTEN : Fld := ⟨0x14000000, 1, 1⟩
def ADC_CTRL_EN : Fld := ⟨0x14000000, 0, 1⟩
def ADC_STAT_POSDN : Fld := ⟨0x14000004, 11, 1⟩
def ADC_STAT_SPARELOST : Fld := ⟨0x14000004, 10, 1⟩
def ADC_STAT_CALFAIL : Fld := ⟨0x14000004, 9, 1⟩
def ADC_STAT_DSTREJ : Fld := ⟨0x14000004, 8, 1⟩
def ADC_STAT_INJOVL : Fld := ⟨0x14000004, 7, 1⟩
def ADC_STAT_LSTBUSY : Fld := ⟨0x14000004, 6, 1⟩
def ADC_STAT_CLIP : Fld := ⟨0x14000004, 5, 1⟩
def ADC_STAT_PLAUS : Fld := ⟨0x14000004, 4, 1⟩
def ADC_STAT_CFGREJ : Fld := ⟨0x14000004, 3, 1⟩
def ADC_STAT_CALBUSY : Fld := ⟨0x14000004, 1, 1⟩
def ADC_STAT_SWAPWIN : Fld := ⟨0x14000004, 0, 1⟩
def ADC_ROT_ROTINT : Fld := ⟨0x14000008, 0, 6⟩
def ADC_SPARE_RETIRED : Fld := ⟨0x14000010, 16, 9⟩
def ADC_SPARE_Q : Fld := ⟨0x14000010, 4, 3⟩
def ADC_SPARE_SPARE : Fld := ⟨0x14000010, 0, 4⟩
def ADC_CALLIM_GAINMAX : Fld := ⟨0x14000014, 16, 16⟩
def ADC_CALLIM_OFSMAX : Fld := ⟨0x14000014, 0, 16⟩
def ADC_IDLESTART_BEN : Fld := ⟨0x14000018, 31, 1⟩
def ADC_IDLESTART_BLIST : Fld := ⟨0x14000018, 26, 4⟩
def ADC_IDLESTART_BOFS : Fld := ⟨0x14000018, 16, 8⟩
def ADC_IDLESTART_AEN : Fld := ⟨0x14000018, 15, 1⟩
def ADC_IDLESTART_ALIST : Fld := ⟨0x14000018, 10, 4⟩
def ADC_IDLESTART_AOFS : Fld := ⟨0x14000018, 0, 8⟩
def ADC_LSTART_L : Fld := ⟨0x1400001C, 0, 16⟩
def ADC_LBUSY_L : Fld := ⟨0x14000020, 0, 16⟩
def ADC_RETIRE_S : Fld := ⟨0x1400002C, 0, 9⟩
def ADC_LIST_FIRST (n : Nat) : Fld := ⟨0x14000040 + 0x4 * n, 16, 7⟩
def ADC_LIST_COUNT (n : Nat) : Fld := ⟨0x14000040 + 0x4 * n, 0, 8⟩
def ADC_INJ_EN (n : Nat) : Fld := ⟨0x14000080 + 0x4 * n, 31, 1⟩
def ADC_INJ_TRIG (n : Nat) : Fld := ⟨0x14000080 + 0x4 * n, 28, 2⟩
def ADC_INJ_SRC (n : Nat) : Fld := ⟨0x14000080 + 0x4 * n, 16, 5⟩
def ADC_INJ_DELAY (n : Nat) : Fld := ⟨0x14000080 + 0x4 * n, 8, 8⟩
def ADC_INJ_ENTRY (n : Nat) : Fld := ⟨0x14000080 + 0x4 * n, 0, 7⟩
def ADC_INJGO_J : Fld := ⟨0x14000090, 0, 4⟩
def ADC_INJSTAT_CONV : Fld := ⟨0x14000094, 4, 4⟩
def ADC_INJSTAT_PEND : Fld := ⟨0x14000094, 0, 4⟩
def SDF_STUCK_F : Fld := ⟨0x14010004, 0, 16⟩
def SDF_LIMIT_F : Fld := ⟨0x14010008, 0, 16⟩
def SDF_CLIP_F : Fld := ⟨0x1401000C, 0, 16⟩
def SDF_GSTAT_CFGREJ : Fld := ⟨0x14010010, 0, 1⟩
def SDF_CFG_EN (n : Nat) : Fld := ⟨0x14010100 + 0x20 * n, 31, 1⟩
def SDF_CFG_CLKSEL (n : Nat) : Fld := ⟨0x14010100 + 0x20 * n, 25, 2⟩
def SDF_CFG_EDGE (n : Nat) : Fld := ⟨0x14010100 + 0x20 * n, 24, 1⟩
def SDF_CFG_STK (n : Nat) : Fld := ⟨0x14010100 + 0x20 * n, 16, 8⟩
def SDF_CFG_OSR (n : Nat) : Fld := ⟨0x14010100 + 0x20 * n, 0, 9⟩
def SDF_LIM_HI (n : Nat) : Fld := ⟨0x14010104 + 0x20 * n, 16, 16⟩
def SDF_LIM_LO (n : Nat) : Fld := ⟨0x14010104 + 0x20 * n, 0, 16⟩
def SDF_PLACE_MODE (n : Nat) : Fld := ⟨0x14010108 + 0x20 * n, 30, 2⟩
def SDF_PLACE_VEN (n : Nat) : Fld := ⟨0x14010108 + 0x20 * n, 29, 1⟩
def SDF_PLACE_SEN (n : Nat) : Fld := ⟨0x14010108 + 0x20 * n, 28, 1⟩
def SDF_PLACE_LANE (n : Nat) : Fld := ⟨0x14010108 + 0x20 * n, 16, 6⟩
def SDF_PLACE_VROW (n : Nat) : Fld := ⟨0x14010108 + 0x20 * n, 0, 11⟩
def SDF_SWORD_SWORD (n : Nat) : Fld := ⟨0x1401010C + 0x20 * n, 0, 14⟩
def SDF_RES_VALID (n : Nat) : Fld := ⟨0x14010110 + 0x20 * n, 18, 1⟩
def SDF_RES_CLIP (n : Nat) : Fld := ⟨0x14010110 + 0x20 * n, 17, 1⟩
def SDF_RES_R (n : Nat) : Fld := ⟨0x14010110 + 0x20 * n, 0, 16⟩
def CMP_LATCH_L : Fld := ⟨0x14020000, 0, 24⟩
def CMP_OUT_O : Fld := ⟨0x14020004, 0, 24⟩
def CMP_TEST_GO : Fld := ⟨0x14020008, 31, 1⟩
def CMP_TEST_ALLOWRUN : Fld := ⟨0x14020008, 30, 1⟩
def CMP_TEST_SWAP : Fld := ⟨0x14020008, 29, 1⟩
def CMP_TEST_TIE : Fld := ⟨0x14020008, 27, 2⟩
def CMP_TEST_CMPSEL : Fld := ⟨0x14020008, 0, 5⟩
def CMP_TSTAT_BUSY : Fld := ⟨0x1402000C, 31, 1⟩
def CMP_TSTAT_RESULT : Fld := ⟨0x1402000C, 29, 2⟩
def CMP_TSTAT_OLO : Fld := ⟨0x1402000C, 17, 1⟩
def CMP_TSTAT_OHI : Fld := ⟨0x1402000C, 16, 1⟩
def CMP_TSTAT_CMPSEL : Fld := ⟨0x1402000C, 0, 5⟩
def CMP_STAT_STFAIL : Fld := ⟨0x14020010, 3, 1⟩
def CMP_STAT_TESTREJ : Fld := ⟨0x14020010, 2, 1⟩
def CMP_STAT_CLRREF : Fld := ⟨0x14020010, 1, 1⟩
def CMP_STAT_CFGREJ : Fld := ⟨0x14020010, 0, 1⟩
def CMP_CFG_HI (n : Nat) : Fld := ⟨0x14020100 + 0x10 * n, 22, 10⟩
def CMP_CFG_LO (n : Nat) : Fld := ⟨0x14020100 + 0x10 * n, 12, 10⟩
def CMP_CFG_HYS (n : Nat) : Fld := ⟨0x14020100 + 0x10 * n, 8, 4⟩
def CMP_CFG_SENSE (n : Nat) : Fld := ⟨0x14020100 + 0x10 * n, 6, 2⟩
def CMP_CFG_CLRPS (n : Nat) : Fld := ⟨0x14020100 + 0x10 * n, 5, 1⟩
def CMP_CFG_CLRCH (n : Nat) : Fld := ⟨0x14020100 + 0x10 * n, 0, 5⟩
def TRIP_CFG_BRKSAFE : Fld := ⟨0x14030000, 0, 1⟩
def TRIP_ACT_SAFETY : Fld := ⟨0x14030004, 31, 1⟩
def TRIP_ACT_THERM : Fld := ⟨0x14030004, 30, 1⟩
def TRIP_ACT_T : Fld := ⟨0x14030004, 0, 20⟩
def TRIP_TLATCH_L : Fld := ⟨0x14030008, 0, 8⟩
def TRIP_TIN_I : Fld := ⟨0x1403000C, 0, 8⟩
def TRIP_STAT_CLRREF : Fld := ⟨0x14030010, 1, 1⟩
def TRIP_STAT_CFGREJ : Fld := ⟨0x14030010, 0, 1⟩
def TRIP_TINC_EN (n : Nat) : Fld := ⟨0x14030100 + 0x4 * n, 31, 1⟩
def TRIP_TINC_CLRCH (n : Nat) : Fld := ⟨0x14030100 + 0x4 * n, 16, 5⟩
def TRIP_TINC_CLRPS (n : Nat) : Fld := ⟨0x14030100 + 0x4 * n, 12, 1⟩
def TRIP_TINC_TPOL (n : Nat) : Fld := ⟨0x14030100 + 0x4 * n, 8, 1⟩
def TRIP_TINC_FILT (n : Nat) : Fld := ⟨0x14030100 + 0x4 * n, 0, 4⟩
def TRIP_CG_HI_V (n : Nat) : Fld := ⟨0x14030284 + 0x8 * n, 0, 24⟩
def AXD_VMCFG_BRKON : Fld := ⟨0x15000000, 16, 12⟩
def AXD_VMCFG_BRKOFF : Fld := ⟨0x15000000, 0, 12⟩
def AXD_VMLIM_OVSD : Fld := ⟨0x15000004, 16, 12⟩
def AXD_VMLIM_VMUV : Fld := ⟨0x15000004, 0, 12⟩
def AXD_BRKCFG_EN : Fld := ⟨0x15000008, 31, 1⟩
def AXD_BRKCFG_BRKWIN : Fld := ⟨0x15000008, 16, 12⟩
def AXD_BRKCFG_BRKMAX : Fld := ⟨0x15000008, 0, 12⟩
def AXD_VM_BRK : Fld := ⟨0x1500000C, 31, 1⟩
def AXD_VM_VM : Fld := ⟨0x1500000C, 0, 12⟩
def AXD_GSTAT_BRKLIM : Fld := ⟨0x15000010, 2, 1⟩
def AXD_GSTAT_VMUV : Fld := ⟨0x15000010, 1, 1⟩
def AXD_GSTAT_CFGREJ : Fld := ⟨0x15000010, 0, 1⟩
def AXD_DIAGCFG_DSETTLE : Fld := ⟨0x15000018, 0, 8⟩
def AXD_DIAGSTAT_BUSY : Fld := ⟨0x1500001C, 31, 1⟩
def AXD_DIAGSTAT_CH : Fld := ⟨0x1500001C, 24, 2⟩
def AXD_DIAGSTAT_MEAS : Fld := ⟨0x1500001C, 16, 4⟩
def AXD_CHCFG_SRC (n : Nat) : Fld := ⟨0x15000100 + 0x100 * n, 31, 1⟩
def AXD_CHCFG_INPOL (n : Nat) : Fld := ⟨0x15000100 + 0x100 * n, 30, 1⟩
def AXD_CHCFG_TRIPGS (n : Nat) : Fld := ⟨0x15000100 + 0x100 * n, 29, 1⟩
def AXD_CHCFG_GAIN (n : Nat) : Fld := ⟨0x15000100 + 0x100 * n, 26, 2⟩
def AXD_CHCFG_SHPOS (n : Nat) : Fld := ⟨0x15000100 + 0x100 * n, 25, 1⟩
def AXD_BST_TBST (n : Nat) : Fld := ⟨0x15000104 + 0x100 * n, 16, 8⟩
def AXD_BST_TREF (n : Nat) : Fld := ⟨0x15000104 + 0x100 * n, 0, 9⟩
def AXD_PROT_SLTHR (n : Nat) : Fld := ⟨0x15000108 + 0x100 * n, 24, 8⟩
def AXD_PROT_OCTHR (n : Nat) : Fld := ⟨0x15000108 + 0x100 * n, 15, 9⟩
def AXD_PROT_TBLANK (n : Nat) : Fld := ⟨0x15000108 + 0x100 * n, 0, 10⟩
def AXD_BAND0_ISNK (n : Nat) : Fld := ⟨0x1500010C + 0x100 * n, 20, 2⟩
def AXD_BAND0_ISRC (n : Nat) : Fld := ⟨0x1500010C + 0x100 * n, 16, 2⟩
def AXD_BAND0_DTFLOOR (n : Nat) : Fld := ⟨0x1500010C + 0x100 * n, 0, 8⟩
def AXD_BAND1_ISNK (n : Nat) : Fld := ⟨0x15000110 + 0x100 * n, 20, 2⟩
def AXD_BAND1_ISRC (n : Nat) : Fld := ⟨0x15000110 + 0x100 * n, 16, 2⟩
def AXD_BAND1_DTFLOOR (n : Nat) : Fld := ⟨0x15000110 + 0x100 * n, 0, 8⟩
def AXD_BAND2_ISNK (n : Nat) : Fld := ⟨0x15000114 + 0x100 * n, 20, 2⟩
def AXD_BAND2_ISRC (n : Nat) : Fld := ⟨0x15000114 + 0x100 * n, 16, 2⟩
def AXD_BAND2_DTFLOOR (n : Nat) : Fld := ⟨0x15000114 + 0x100 * n, 0, 8⟩
def AXD_BAND3_ISNK (n : Nat) : Fld := ⟨0x15000118 + 0x100 * n, 20, 2⟩
def AXD_BAND3_ISRC (n : Nat) : Fld := ⟨0x15000118 + 0x100 * n, 16, 2⟩
def AXD_BAND3_DTFLOOR (n : Nat) : Fld := ⟨0x15000118 + 0x100 * n, 0, 8⟩
def AXD_CHSTAT_FAULT (n : Nat) : Fld := ⟨0x1500011C + 0x100 * n, 31, 1⟩
def AXD_CHSTAT_GSW (n : Nat) : Fld := ⟨0x1500011C + 0x100 * n, 30, 1⟩
def AXD_CHSTAT_DIAG (n : Nat) : Fld := ⟨0x1500011C + 0x100 * n, 29, 1⟩
def AXD_CHSTAT_DIAGF (n : Nat) : Fld := ⟨0x1500011C + 0x100 * n, 11, 1⟩
def AXD_CHSTAT_CLRREF (n : Nat) : Fld := ⟨0x1500011C + 0x100 * n, 10, 1⟩
def AXD_CHSTAT_CFGREJ (n : Nat) : Fld := ⟨0x1500011C + 0x100 * n, 9, 1⟩
def AXD_CHSTAT_INTLK (n : Nat) : Fld := ⟨0x1500011C + 0x100 * n, 8, 1⟩
def AXD_CHSTAT_VGDUV (n : Nat) : Fld := ⟨0x1500011C + 0x100 * n, 7, 1⟩
def AXD_CHSTAT_VMOV (n : Nat) : Fld := ⟨0x1500011C + 0x100 * n, 6, 1⟩
def AXD_CHSTAT_BSUVF (n : Nat) : Fld := ⟨0x1500011C + 0x100 * n, 5, 1⟩
def AXD_CHSTAT_BSUV (n : Nat) : Fld := ⟨0x1500011C + 0x100 * n, 4, 1⟩
def AXD_CHSTAT_OC (n : Nat) : Fld := ⟨0x1500011C + 0x100 * n, 3, 1⟩
def AXD_CHSTAT_SC (n : Nat) : Fld := ⟨0x1500011C + 0x100 * n, 2, 1⟩
def AXD_SCINFO_LEGSM (n : Nat) : Fld := ⟨0x15000120 + 0x100 * n, 16, 3⟩
def AXD_SCINFO_LEGS (n : Nat) : Fld := ⟨0x15000120 + 0x100 * n, 0, 3⟩
def AXD_FLTCLR_CLR (n : Nat) : Fld := ⟨0x1500012C + 0x100 * n, 0, 1⟩
def AXD_VBS_L2 (n : Nat) : Fld := ⟨0x15000138 + 0x100 * n, 16, 8⟩
def AXD_VBS_L1 (n : Nat) : Fld := ⟨0x15000138 + 0x100 * n, 8, 8⟩
def AXD_VBS_L0 (n : Nat) : Fld := ⟨0x15000138 + 0x100 * n, 0, 8⟩
def AXD_DIAGRES_L2 (n : Nat) : Fld := ⟨0x1500013C + 0x100 * n, 8, 4⟩
def AXD_DIAGRES_L1 (n : Nat) : Fld := ⟨0x1500013C + 0x100 * n, 4, 4⟩
def AXD_DIAGRES_L0 (n : Nat) : Fld := ⟨0x1500013C + 0x100 * n, 0, 4⟩
def HALL_GSTAT_CLRREF : Fld := ⟨0x15010000, 2, 1⟩
def HALL_GSTAT_DSTREJ : Fld := ⟨0x15010000, 1, 1⟩
def HALL_GSTAT_CFGREJ : Fld := ⟨0x15010000, 0, 1⟩
def HALL_CLR_C : Fld := ⟨0x15010004, 0, 3⟩
def HALL_CFG_EN (n : Nat) : Fld := ⟨0x15010100 + 0x40 * n, 31, 1⟩
def HALL_CFG_HEN (n : Nat) : Fld := ⟨0x15010100 + 0x40 * n, 30, 1⟩
def HALL_CFG_HPOL (n : Nat) : Fld := ⟨0x15010100 + 0x40 * n, 29, 1⟩
def HALL_CFG_SETPOS (n : Nat) : Fld := ⟨0x15010100 + 0x40 * n, 28, 1⟩
def HALL_CFG_AUTOHOME (n : Nat) : Fld := ⟨0x15010100 + 0x40 * n, 27, 1⟩
def HALL_CFG_WIN (n : Nat) : Fld := ⟨0x15010100 + 0x40 * n, 16, 7⟩
def HALL_CFG_SPR (n : Nat) : Fld := ⟨0x15010100 + 0x40 * n, 0, 12⟩
def HALL_STATE_CODE (n : Nat) : Fld := ⟨0x15010104 + 0x40 * n, 8, 3⟩
def HALL_STATE_S (n : Nat) : Fld := ⟨0x15010104 + 0x40 * n, 0, 3⟩
def HALL_SPEED_V (n : Nat) : Fld := ⟨0x1501010C + 0x40 * n, 0, 16⟩
def HALL_STAT_HALLF (n : Nat) : Fld := ⟨0x1501011C + 0x40 * n, 31, 1⟩
def HALL_STAT_HOMED (n : Nat) : Fld := ⟨0x1501011C + 0x40 * n, 30, 1⟩
def HALL_STAT_ILLRUN (n : Nat) : Fld := ⟨0x1501011C + 0x40 * n, 28, 2⟩
def HALL_STAT_SLIP (n : Nat) : Fld := ⟨0x1501011C + 0x40 * n, 2, 1⟩
def HALL_STAT_ILLEGAL (n : Nat) : Fld := ⟨0x1501011C + 0x40 * n, 1, 1⟩
def HALL_PLACE_EN (n : Nat) : Fld := ⟨0x15010130 + 0x40 * n, 31, 1⟩
def HALL_PLACE_SWORD (n : Nat) : Fld := ⟨0x15010130 + 0x40 * n, 0, 14⟩
def SAFE_STAT_UNLOCKED : Fld := ⟨0x15020004, 31, 1⟩
def SAFE_STAT_SOUT : Fld := ⟨0x15020004, 0, 4⟩
def SAFE_STOTEST_STOPW : Fld := ⟨0x1502000C, 16, 5⟩
def SAFE_STOTEST_STOINT : Fld := ⟨0x1502000C, 0, 14⟩
def SAFE_SOUTREQ_REQ : Fld := ⟨0x15020010, 0, 4⟩
def SAFE_EVT_CFGREJ : Fld := ⟨0x15020018, 31, 1⟩
def SAFE_EVT_SOUTOC : Fld := ⟨0x15020018, 24, 4⟩
def SAFE_EVT_RBERR : Fld := ⟨0x15020018, 20, 4⟩
def SAFE_EVT_STO : Fld := ⟨0x15020018, 17, 3⟩
def SAFE_EVT_SS1TO : Fld := ⟨0x15020018, 14, 3⟩
def SAFE_EVT_SS1ENV : Fld := ⟨0x15020018, 11, 3⟩
def SAFE_EVT_DISC : Fld := ⟨0x15020018, 4, 4⟩
def SAFE_EVT_DEM : Fld := ⟨0x15020018, 0, 4⟩
def SAFE_PLACE_EN : Fld := ⟨0x1502001C, 31, 1⟩
def SAFE_PLACE_SWORD : Fld := ⟨0x1502001C, 0, 14⟩
def SAFE_SINCFG_EN (n : Nat) : Fld := ⟨0x15020100 + 0x10 * n, 31, 1⟩
def SAFE_SINCFG_MODE (n : Nat) : Fld := ⟨0x15020100 + 0x10 * n, 30, 1⟩
def SAFE_SINCFG_DISC (n : Nat) : Fld := ⟨0x15020100 + 0x10 * n, 16, 10⟩
def SAFE_SINCFG_FILT (n : Nat) : Fld := ⟨0x15020100 + 0x10 * n, 0, 8⟩
def SAFE_CHCFG_EN (n : Nat) : Fld := ⟨0x15020140 + 0x20 * n, 31, 1⟩
def SAFE_CHCFG_RSTLOCK (n : Nat) : Fld := ⟨0x15020140 + 0x20 * n, 30, 1⟩
def SAFE_CHCFG_SS1MASK (n : Nat) : Fld := ⟨0x15020140 + 0x20 * n, 4, 4⟩
def SAFE_CHCFG_STOMASK (n : Nat) : Fld := ⟨0x15020140 + 0x20 * n, 0, 4⟩
def SAFE_SS1_DEC (n : Nat) : Fld := ⟨0x15020144 + 0x20 * n, 24, 8⟩
def SAFE_SS1_MARG (n : Nat) : Fld := ⟨0x15020144 + 0x20 * n, 16, 8⟩
def SAFE_SS1_STILL (n : Nat) : Fld := ⟨0x15020144 + 0x20 * n, 8, 8⟩
def SAFE_SS1_MAXW (n : Nat) : Fld := ⟨0x15020144 + 0x20 * n, 0, 8⟩
def SAFE_CHSTAT_STO (n : Nat) : Fld := ⟨0x15020148 + 0x20 * n, 31, 1⟩
def SAFE_CHSTAT_SS1 (n : Nat) : Fld := ⟨0x15020148 + 0x20 * n, 30, 1⟩
def SAFE_CHSTAT_WAITRST (n : Nat) : Fld := ⟨0x15020148 + 0x20 * n, 29, 1⟩
def SAFE_CHSTAT_TEST (n : Nat) : Fld := ⟨0x15020148 + 0x20 * n, 28, 1⟩
def SAFE_CHSTAT_J (n : Nat) : Fld := ⟨0x15020148 + 0x20 * n, 16, 8⟩
def SAFE_CHSTAT_E (n : Nat) : Fld := ⟨0x15020148 + 0x20 * n, 0, 16⟩
def SAFE_SOUTCFG_EN (n : Nat) : Fld := ⟨0x150201A0 + 0x10 * n, 31, 1⟩
def SAFE_SOUTCFG_LINKCH (n : Nat) : Fld := ⟨0x150201A0 + 0x10 * n, 28, 2⟩
def SAFE_SOUTCFG_LINKMASK (n : Nat) : Fld := ⟨0x150201A0 + 0x10 * n, 24, 4⟩
def SAFE_SOUTCFG_TPULSE (n : Nat) : Fld := ⟨0x150201A0 + 0x10 * n, 16, 8⟩
def SAFE_SOUTCFG_TINT (n : Nat) : Fld := ⟨0x150201A0 + 0x10 * n, 0, 8⟩
def SAFE_SOUTSTAT_ON (n : Nat) : Fld := ⟨0x150201A4 + 0x10 * n, 31, 1⟩
def SAFE_SOUTSTAT_RB (n : Nat) : Fld := ⟨0x150201A4 + 0x10 * n, 30, 1⟩
def SAFE_SOUTSTAT_RBERR (n : Nat) : Fld := ⟨0x150201A4 + 0x10 * n, 29, 1⟩
def SAFE_SOUTSTAT_OC (n : Nat) : Fld := ⟨0x150201A4 + 0x10 * n, 28, 1⟩
def HOST_CTRL_QIRQ : Fld := ⟨0x16000000, 3, 1⟩
def HOST_CTRL_QEN : Fld := ⟨0x16000000, 2, 1⟩
def HOST_CTRL_HS1EN : Fld := ⟨0x16000000, 1, 1⟩
def HOST_CTRL_HS0EN : Fld := ⟨0x16000000, 0, 1⟩
def HOST_STAT_CFGREJ : Fld := ⟨0x16000004, 6, 1⟩
def HOST_STAT_LOGLOST : Fld := ⟨0x16000004, 5, 1⟩
def HOST_STAT_QOVF : Fld := ⟨0x16000004, 4, 1⟩
def HOST_STAT_RESETFIN : Fld := ⟨0x16000004, 3, 1⟩
def HOST_STAT_JFULL : Fld := ⟨0x16000004, 2, 1⟩
def HOST_STAT_UNKNOWN : Fld := ⟨0x16000004, 1, 1⟩
def HOST_STAT_RXERR : Fld := ⟨0x16000004, 0, 1⟩
def HOST_ETYPE_ETYPE : Fld := ⟨0x16000008, 0, 16⟩
def HOST_MAC_HI_V : Fld := ⟨0x16000010, 0, 16⟩
def HOST_IRQMASK_M : Fld := ⟨0x16000014, 0, 24⟩
def HOST_EVTCFG_EVT : Fld := ⟨0x16000018, 16, 5⟩
def HOST_EVTCFG_RTO : Fld := ⟨0x16000018, 0, 16⟩
def HOST_LOGCFG_EN : Fld := ⟨0x16000030, 31, 1⟩
def HOST_LOGCFG_EXPORT : Fld := ⟨0x16000030, 30, 1⟩
def HOST_LOGCFG_NODE : Fld := ⟨0x16000030, 0, 9⟩
def HOST_LOGMAC_HI_V : Fld := ⟨0x16000038, 0, 16⟩
def HOST_QSTAT_QUEUED : Fld := ⟨0x16000040, 16, 8⟩
def HOST_QSTAT_NEXT : Fld := ⟨0x16000040, 0, 16⟩
def HOST_FLOW_CFG_EN (n : Nat) : Fld := ⟨0x16000100 + 0x10 * n, 31, 1⟩
def HOST_FLOW_MAC_HI_V (n : Nat) : Fld := ⟨0x16000108 + 0x10 * n, 0, 16⟩
def HOST_OP_STAT_BUSY (n : Nat) : Fld := ⟨0x16000200 + 0x10 * n, 31, 1⟩
def HOST_OP_STAT_FLOW (n : Nat) : Fld := ⟨0x16000200 + 0x10 * n, 16, 3⟩
def HOST_OP_STAT_OPC (n : Nat) : Fld := ⟨0x16000200 + 0x10 * n, 0, 16⟩
def UPD_CFG_RLYACC : Fld := ⟨0x16010000, 31, 1⟩
def UPD_CFG_AUTOCONF : Fld := ⟨0x16010000, 30, 1⟩
def UPD_CFG_RRATE : Fld := ⟨0x16010000, 24, 4⟩
def UPD_CFG_EXPIRY : Fld := ⟨0x16010000, 16, 8⟩
def UPD_CFG_CONFWIN : Fld := ⟨0x16010000, 0, 16⟩
def UPD_STAT_SSTATE : Fld := ⟨0x16010004, 30, 2⟩
def UPD_STAT_TRIAL : Fld := ⟨0x16010004, 29, 1⟩
def UPD_STAT_NOIMAGE : Fld := ⟨0x16010004, 28, 1⟩
def UPD_STAT_CFGREJ : Fld := ⟨0x16010004, 10, 1⟩
def UPD_STAT_ACTCAN : Fld := ⟨0x16010004, 9, 1⟩
def UPD_STAT_ALTBOOT : Fld := ⟨0x16010004, 8, 1⟩
def UPD_STAT_RLYSTALL : Fld := ⟨0x16010004, 7, 1⟩
def UPD_STAT_SESSEXP : Fld := ⟨0x16010004, 6, 1⟩
def UPD_STAT_VERFAIL : Fld := ⟨0x16010004, 5, 1⟩
def UPD_STAT_SIGFAIL : Fld := ⟨0x16010004, 4, 1⟩
def UPD_STAT_CHUNKBAD : Fld := ⟨0x16010004, 3, 1⟩
def UPD_STAT_FALLBACK : Fld := ⟨0x16010004, 2, 1⟩
def UPD_STAT_CONFIRMED : Fld := ⟨0x16010004, 1, 1⟩
def UPD_STAT_ACTLATE : Fld := ⟨0x16010004, 0, 1⟩
def UPD_SLOT_B : Fld := ⟨0x16010008, 12, 3⟩
def UPD_SLOT_A : Fld := ⟨0x16010008, 8, 3⟩
def UPD_SLOT_ACTPEND : Fld := ⟨0x16010008, 2, 1⟩
def UPD_SLOT_ACTSLOT : Fld := ⟨0x16010008, 1, 1⟩
def UPD_SLOT_RUN : Fld := ⟨0x16010008, 0, 1⟩
def UPD_PROG_DONE : Fld := ⟨0x16010010, 16, 11⟩
def UPD_PROG_NCH : Fld := ⟨0x16010010, 0, 11⟩
def UPD_TRIAL_SEC : Fld := ⟨0x16010018, 16, 16⟩
def UPD_TRIAL_OKRUN : Fld := ⟨0x16010018, 2, 1⟩
def UPD_TRIAL_LINKS : Fld := ⟨0x16010018, 1, 1⟩
def UPD_TRIAL_TESTS : Fld := ⟨0x16010018, 0, 1⟩
def UPD_RLY_BUSY : Fld := ⟨0x16010030, 31, 1⟩
def UPD_RLY_DIR : Fld := ⟨0x16010030, 30, 1⟩
def UPD_RLY_ACKED : Fld := ⟨0x16010030, 16, 11⟩
def UPD_RLY_HOPS : Fld := ⟨0x16010030, 0, 9⟩
def NVM_STAT_BUSY : Fld := ⟨0x16020000, 31, 1⟩
def NVM_STAT_CFGREJ : Fld := ⟨0x16020000, 4, 1⟩
def NVM_STAT_KEYINT : Fld := ⟨0x16020000, 3, 1⟩
def NVM_STAT_PFREJ : Fld := ⟨0x16020000, 2, 1⟩
def NVM_STAT_ECCU : Fld := ⟨0x16020000, 1, 1⟩
def NVM_STAT_ECCC : Fld := ⟨0x16020000, 0, 1⟩
def NVM_KEYS_REVOKED : Fld := ⟨0x1602000C, 4, 4⟩
def NVM_KEYS_PROG : Fld := ⟨0x1602000C, 0, 4⟩
def NVM_REVOKE_KEY : Fld := ⟨0x16020010, 16, 16⟩
def NVM_REVOKE_SLOTS : Fld := ⟨0x16020010, 0, 4⟩
end F

end Sys2Proof.Machine
end

