-- ==== Sys2Proof/Machine/FaultMap.lean ====
section
/-! DEFINITION. Machine/FaultMap.lean: the blocks with fault sources (15_faults_reset_startup.md R541, R542, Table 1), the
sources of each block in the order of its source table with their default reactions, and the base of each block's fault
registers (18_address_map.md R640). A source is named by its block's index and its own index. -/
namespace Sys2Proof.Machine

/-- A fault source: block index b (Table 1 of 15) and source index (R541). -/
structure Src where
  blk : Nat
  idx : Nat
  deriving DecidableEq, Repr

/-- The default reaction of a source and whether it is fixed (Tables 4 and 6 of 15). -/
structure SrcDef where
  react : Nat
  fixed : Bool
  deriving DecidableEq, Repr

namespace B
abbrev SYS : Nat := 0
abbrev PMU : Nat := 1
abbrev CLK : Nat := 2
abbrev THERM : Nat := 3
abbrev CHRONO : Nat := 4
abbrev SEXT : Nat := 5
abbrev ENG : Nat := 6
abbrev ALM : Nat := 7
abbrev MOD : Nat := 8
abbrev LANE : Nat := 9
abbrev OCL : Nat := 10
abbrev RING : Nat := 11
abbrev TWIN : Nat := 12
abbrev ADC : Nat := 13
abbrev SDF : Nat := 14
abbrev CMP : Nat := 15
abbrev TRIP : Nat := 16
abbrev AXD : Nat := 17
abbrev HALL : Nat := 18
abbrev SAFE : Nat := 19
abbrev HOST : Nat := 20
abbrev UPD : Nat := 21
abbrev NVM : Nat := 22
abbrev LOG : Nat := 23
end B

namespace Q
def SYS_LOCKSTEP : Src := ⟨0, 0⟩
def SYS_ADDRERR : Src := ⟨0, 1⟩
def SYS_CFGDEF : Src := ⟨0, 2⟩
def SYS_CFGBAD : Src := ⟨0, 3⟩
def SYS_RST_STUCK : Src := ⟨0, 4⟩
def SYS_RSTINFO : Src := ⟨0, 5⟩
def SYS_CFGREJ : Src := ⟨0, 6⟩
def PMU_PFAIL : Src := ⟨1, 0⟩
def PMU_VGDPG : Src := ⟨1, 1⟩
def PMU_RETRY : Src := ⟨1, 2⟩
def PMU_CFGREJ : Src := ⟨1, 3⟩
def CLK_REFLOSS : Src := ⟨2, 0⟩
def CLK_UNLOCK : Src := ⟨2, 1⟩
def CLK_COASTLIM : Src := ⟨2, 2⟩
def CLK_BANDLIM : Src := ⟨2, 3⟩
def CLK_LCUNLK : Src := ⟨2, 4⟩
def CLK_CFGREJ : Src := ⟨2, 5⟩
def THERM_BANDCHG : Src := ⟨3, 0⟩
def THERM_TSBAD : Src := ⟨3, 1⟩
def THERM_DIEDEG : Src := ⟨3, 2⟩
def THERM_TXWARN : Src := ⟨3, 3⟩
def THERM_TXALARM : Src := ⟨3, 4⟩
def THERM_TXBAD : Src := ⟨3, 5⟩
def THERM_SDRST : Src := ⟨3, 6⟩
def THERM_CFGREJ : Src := ⟨3, 7⟩
def CHRONO_FAR : Src := ⟨4, 0⟩
def CHRONO_PARLOST : Src := ⟨4, 1⟩
def CHRONO_TRIMLIM : Src := ⟨4, 2⟩
def CHRONO_STEPREJ : Src := ⟨4, 3⟩
def SEXT_UNLOCK : Src := ⟨5, 0⟩
def SEXT_COASTLIM : Src := ⟨5, 1⟩
def SEXT_MISS : Src := ⟨5, 2⟩
def SEXT_REFLOSS : Src := ⟨5, 3⟩
def SEXT_CLAMP : Src := ⟨5, 4⟩
def SEXT_CFGREJ : Src := ⟨5, 5⟩
def ENG_OVERRUN : Src := ⟨6, 0⟩
def ENG_OVRLIM : Src := ⟨6, 1⟩
def ENG_ECCU : Src := ⟨6, 2⟩
def ENG_ECCC : Src := ⟨6, 3⟩
def ENG_BUDREJ : Src := ⟨6, 4⟩
def ENG_SAT : Src := ⟨6, 5⟩
def ENG_AOV : Src := ⟨6, 6⟩
def ENG_DZ : Src := ⟨6, 7⟩
def ENG_LUT : Src := ⟨6, 8⟩
def ENG_LOWC : Src := ⟨6, 9⟩
def ENG_SSAT : Src := ⟨6, 10⟩
def ENG_SDZ : Src := ⟨6, 11⟩
def ENG_CFGREJ : Src := ⟨6, 12⟩
def ENG_ACTWR : Src := ⟨6, 13⟩
def ALM_OFSLATE : Src := ⟨7, 0⟩
def ALM_MODEREJ : Src := ⟨7, 1⟩
def ALM_CFGREJ : Src := ⟨7, 2⟩
def MOD_PARTIAL : Src := ⟨8, 0⟩
def MOD_LDREJ : Src := ⟨8, 1⟩
def MOD_PERREJ : Src := ⟨8, 2⟩
def MOD_MINPULSE : Src := ⟨8, 3⟩
def MOD_MPFORCE : Src := ⟨8, 4⟩
def MOD_SLEWLIM : Src := ⟨8, 5⟩
def MOD_EQOVF : Src := ⟨8, 6⟩
def MOD_CFGREJ : Src := ⟨8, 7⟩
def LANE_LOCKLOSS : Src := ⟨9, 0⟩
def LANE_HUNTFAIL : Src := ⟨9, 1⟩
def LANE_POLINV : Src := ⟨9, 2⟩
def LANE_PORTERR : Src := ⟨9, 3⟩
def LANE_SKEWERR : Src := ⟨9, 4⟩
def LANE_CFGREJ : Src := ⟨9, 5⟩
def OCL_DESAT : Src := ⟨10, 0⟩
def OCL_GDF : Src := ⟨10, 1⟩
def OCL_LINKDN : Src := ⟨10, 2⟩
def OCL_BYPCHG : Src := ⟨10, 3⟩
def OCL_CMDFAIL : Src := ⟨10, 4⟩
def OCL_TERR : Src := ⟨10, 5⟩
def OCL_DJUMP : Src := ⟨10, 6⟩
def OCL_LVLERR : Src := ⟨10, 7⟩
def OCL_CLASH : Src := ⟨10, 8⟩
def OCL_FOREIGN : Src := ⟨10, 9⟩
def OCL_HOLD : Src := ⟨10, 10⟩
def OCL_CRCERR : Src := ⟨10, 11⟩
def OCL_NOCAP : Src := ⟨10, 12⟩
def OCL_CFGREJ : Src := ⟨10, 13⟩
def RING_DUPID : Src := ⟨11, 0⟩
def RING_PORTDN : Src := ⟨11, 1⟩
def RING_DOMFAIL : Src := ⟨11, 2⟩
def RING_SPLIT : Src := ⟨11, 3⟩
def RING_TKCHG : Src := ⟨11, 4⟩
def RING_FIXLATE : Src := ⟨11, 5⟩
def RING_FIXOVF : Src := ⟨11, 6⟩
def RING_GPAUSE : Src := ⟨11, 7⟩
def RING_CFGREJ : Src := ⟨11, 8⟩
def TWIN_TAKEOVER : Src := ⟨12, 0⟩
def TWIN_DEPOSED : Src := ⟨12, 1⟩
def TWIN_NOTAKE : Src := ⟨12, 2⟩
def TWIN_CFGMIS : Src := ⟨12, 3⟩
def TWIN_TSKEW : Src := ⟨12, 4⟩
def TWIN_SWAPFAIL : Src := ⟨12, 5⟩
def TWIN_MLAG : Src := ⟨12, 6⟩
def TWIN_CFGREJ : Src := ⟨12, 7⟩
def ADC_PLAUS : Src := ⟨13, 0⟩
def ADC_POSDN : Src := ⟨13, 1⟩
def ADC_SPARELOST : Src := ⟨13, 2⟩
def ADC_CALFAIL : Src := ⟨13, 3⟩
def ADC_CLIP : Src := ⟨13, 4⟩
def ADC_LSTBUSY : Src := ⟨13, 5⟩
def ADC_INJOVL : Src := ⟨13, 6⟩
def ADC_DSTREJ : Src := ⟨13, 7⟩
def ADC_CFGREJ : Src := ⟨13, 8⟩
def SDF_STUCK : Src := ⟨14, 0⟩
def SDF_LIMIT : Src := ⟨14, 1⟩
def SDF_CLIP : Src := ⟨14, 2⟩
def SDF_CFGREJ : Src := ⟨14, 3⟩
def CMP_CMP (n : Nat) : Src := ⟨15, 0 + n⟩
def CMP_STFAIL : Src := ⟨15, 24⟩
def CMP_TESTREJ : Src := ⟨15, 25⟩
def CMP_CLRREF : Src := ⟨15, 26⟩
def CMP_CFGREJ : Src := ⟨15, 27⟩
def TRIP_TIN (n : Nat) : Src := ⟨16, 0 + n⟩
def TRIP_CLRREF : Src := ⟨16, 8⟩
def TRIP_CFGREJ : Src := ⟨16, 9⟩
def AXD_SC : Src := ⟨17, 0⟩
def AXD_OC : Src := ⟨17, 1⟩
def AXD_VMOV : Src := ⟨17, 2⟩
def AXD_VGDUV : Src := ⟨17, 3⟩
def AXD_BSUVF : Src := ⟨17, 4⟩
def AXD_BRKLIM : Src := ⟨17, 5⟩
def AXD_DIAGF : Src := ⟨17, 6⟩
def AXD_BSUV : Src := ⟨17, 7⟩
def AXD_INTLK : Src := ⟨17, 8⟩
def AXD_VMUV : Src := ⟨17, 9⟩
def AXD_CLRREF : Src := ⟨17, 10⟩
def AXD_CFGREJ : Src := ⟨17, 11⟩
def HALL_HALLF : Src := ⟨18, 0⟩
def HALL_SLIP : Src := ⟨18, 1⟩
def HALL_ILLEGAL : Src := ⟨18, 2⟩
def HALL_DSTREJ : Src := ⟨18, 3⟩
def HALL_CLRREF : Src := ⟨18, 4⟩
def HALL_CFGREJ : Src := ⟨18, 5⟩
def SAFE_DEM (n : Nat) : Src := ⟨19, 0 + n⟩
def SAFE_DISC (n : Nat) : Src := ⟨19, 4 + n⟩
def SAFE_SS1ENV : Src := ⟨19, 8⟩
def SAFE_SS1TO : Src := ⟨19, 9⟩
def SAFE_STO : Src := ⟨19, 10⟩
def SAFE_RBERR (n : Nat) : Src := ⟨19, 11 + n⟩
def SAFE_SOUTOC : Src := ⟨19, 15⟩
def SAFE_CFGREJ : Src := ⟨19, 16⟩
def SAFE_STOTEST : Src := ⟨19, 17⟩
def SAFE_CFGCRC : Src := ⟨19, 18⟩
def SAFE_SLCLK : Src := ⟨19, 19⟩
def SAFE_SELFTEST : Src := ⟨19, 20⟩
def HOST_RXERR : Src := ⟨20, 0⟩
def HOST_UNKNOWN : Src := ⟨20, 1⟩
def HOST_JFULL : Src := ⟨20, 2⟩
def HOST_RESETFIN : Src := ⟨20, 3⟩
def HOST_QOVF : Src := ⟨20, 4⟩
def HOST_LOGLOST : Src := ⟨20, 5⟩
def HOST_CFGREJ : Src := ⟨20, 6⟩
def UPD_SIGFAIL : Src := ⟨21, 0⟩
def UPD_VERFAIL : Src := ⟨21, 1⟩
def UPD_FALLBACK : Src := ⟨21, 2⟩
def UPD_CONFIRMED : Src := ⟨21, 3⟩
def UPD_SESSEXP : Src := ⟨21, 4⟩
def UPD_RLYSTALL : Src := ⟨21, 5⟩
def UPD_ACTCAN : Src := ⟨21, 6⟩
def UPD_ALTBOOT : Src := ⟨21, 7⟩
def UPD_CHUNKBAD : Src := ⟨21, 8⟩
def UPD_ACTLATE : Src := ⟨21, 9⟩
def UPD_CFGREJ : Src := ⟨21, 10⟩
def NVM_KEYINT : Src := ⟨22, 0⟩
def NVM_ECCU : Src := ⟨22, 1⟩
def NVM_PFREJ : Src := ⟨22, 2⟩
def NVM_ECCC : Src := ⟨22, 3⟩
def NVM_CFGREJ : Src := ⟨22, 4⟩
def LOG_TRIG : Src := ⟨23, 0⟩
def LOG_DONE : Src := ⟨23, 1⟩
def LOG_DROP : Src := ⟨23, 2⟩
def LOG_RDREJ : Src := ⟨23, 3⟩
def LOG_CFGREJ : Src := ⟨23, 4⟩
end Q

/-- The sources of each block with their default reactions, in the order of the source tables. -/
def srcDefs (b : Nat) : List SrcDef :=
  match b with
  | 0 => [⟨6, true⟩, ⟨1, false⟩, ⟨2, false⟩, ⟨2, false⟩, ⟨2, false⟩, ⟨2, false⟩, ⟨1, false⟩] -- SYS
  | 1 => [⟨2, false⟩, ⟨2, false⟩, ⟨2, false⟩, ⟨1, false⟩] -- PMU
  | 2 => [⟨2, false⟩, ⟨2, false⟩, ⟨4, false⟩, ⟨2, false⟩, ⟨2, false⟩, ⟨1, false⟩] -- CLK
  | 3 => [⟨0, false⟩, ⟨2, false⟩, ⟨2, false⟩, ⟨2, false⟩, ⟨4, false⟩, ⟨2, false⟩, ⟨2, false⟩, ⟨1, false⟩] -- THERM
  | 4 => [⟨2, false⟩, ⟨2, false⟩, ⟨2, false⟩, ⟨1, false⟩] -- CHRONO
  | 5 => [⟨2, false⟩, ⟨4, false⟩, ⟨1, false⟩, ⟨1, false⟩, ⟨0, false⟩, ⟨1, false⟩] -- SEXT
  | 6 => [⟨2, false⟩, ⟨4, false⟩, ⟨4, false⟩, ⟨1, false⟩, ⟨2, false⟩, ⟨1, false⟩, ⟨1, false⟩, ⟨1, false⟩, ⟨1, false⟩, ⟨1, false⟩, ⟨1, false⟩, ⟨1, false⟩, ⟨1, false⟩, ⟨1, false⟩] -- ENG
  | 7 => [⟨1, false⟩, ⟨2, false⟩, ⟨1, false⟩] -- ALM
  | 8 => [⟨1, false⟩, ⟨2, false⟩, ⟨2, false⟩, ⟨0, false⟩, ⟨1, false⟩, ⟨1, false⟩, ⟨4, false⟩, ⟨1, false⟩] -- MOD
  | 9 => [⟨1, false⟩, ⟨1, false⟩, ⟨1, false⟩, ⟨2, false⟩, ⟨2, false⟩, ⟨1, false⟩] -- LANE
  | 10 => [⟨4, false⟩, ⟨2, false⟩, ⟨2, false⟩, ⟨2, false⟩, ⟨2, false⟩, ⟨2, false⟩, ⟨2, false⟩, ⟨2, false⟩, ⟨2, false⟩, ⟨2, false⟩, ⟨1, false⟩, ⟨1, false⟩, ⟨1, false⟩, ⟨1, false⟩] -- OCL
  | 11 => [⟨2, false⟩, ⟨2, false⟩, ⟨2, false⟩, ⟨2, false⟩, ⟨1, false⟩, ⟨1, false⟩, ⟨1, false⟩, ⟨1, false⟩, ⟨1, false⟩] -- RING
  | 12 => [⟨2, false⟩, ⟨2, false⟩, ⟨2, false⟩, ⟨2, false⟩, ⟨2, false⟩, ⟨2, false⟩, ⟨1, false⟩, ⟨1, false⟩] -- TWIN
  | 13 => [⟨2, false⟩, ⟨4, false⟩, ⟨2, false⟩, ⟨2, false⟩, ⟨1, false⟩, ⟨1, false⟩, ⟨1, false⟩, ⟨1, false⟩, ⟨1, false⟩] -- ADC
  | 14 => [⟨2, false⟩, ⟨2, false⟩, ⟨1, false⟩, ⟨1, false⟩] -- SDF
  | 15 => List.replicate 24 ⟨1, false⟩ ++ [⟨2, false⟩, ⟨1, false⟩, ⟨1, false⟩, ⟨1, false⟩] -- CMP
  | 16 => List.replicate 8 ⟨4, false⟩ ++ [⟨1, false⟩, ⟨1, false⟩] -- TRIP
  | 17 => [⟨2, false⟩, ⟨2, false⟩, ⟨2, false⟩, ⟨2, false⟩, ⟨2, false⟩, ⟨2, false⟩, ⟨2, false⟩, ⟨1, false⟩, ⟨1, false⟩, ⟨1, false⟩, ⟨1, false⟩, ⟨1, false⟩] -- AXD
  | 18 => [⟨2, false⟩, ⟨2, false⟩, ⟨1, false⟩, ⟨1, false⟩, ⟨1, false⟩, ⟨1, false⟩] -- HALL
  | 19 => List.replicate 4 ⟨2, false⟩ ++ List.replicate 4 ⟨5, false⟩ ++ [⟨2, false⟩, ⟨2, false⟩, ⟨1, false⟩] ++ List.replicate 4 ⟨5, false⟩ ++ [⟨2, false⟩, ⟨1, false⟩, ⟨6, true⟩, ⟨6, true⟩, ⟨6, true⟩, ⟨6, true⟩] -- SAFE
  | 20 => [⟨1, false⟩, ⟨1, false⟩, ⟨2, false⟩, ⟨2, false⟩, ⟨1, false⟩, ⟨1, false⟩, ⟨1, false⟩] -- HOST
  | 21 => [⟨2, false⟩, ⟨2, false⟩, ⟨2, false⟩, ⟨2, false⟩, ⟨2, false⟩, ⟨2, false⟩, ⟨2, false⟩, ⟨2, false⟩, ⟨1, false⟩, ⟨1, false⟩, ⟨1, false⟩] -- UPD
  | 22 => [⟨6, true⟩, ⟨2, false⟩, ⟨2, false⟩, ⟨1, false⟩, ⟨1, false⟩] -- NVM
  | 23 => [⟨2, false⟩, ⟨2, false⟩, ⟨1, false⟩, ⟨1, false⟩, ⟨1, false⟩] -- LOG
  | _ => []

/-- The base of the fault registers of block `b` (R640). -/
def fltBase (b : Nat) : Nat :=
  match b with
  | 0 => 0x100000F0
  | 1 => 0x100100F0
  | 2 => 0x100200F0
  | 3 => 0x100300F0
  | 4 => 0x100400F0
  | 5 => 0x100500F0
  | 6 => 0x101000F0
  | 7 => 0x110E80F0
  | 8 => 0x120108F0
  | 9 => 0x130100F0
  | 10 => 0x131000F0
  | 11 => 0x132000F0
  | 12 => 0x133000F0
  | 13 => 0x140000F0
  | 14 => 0x140100F0
  | 15 => 0x140200F0
  | 16 => 0x140300F0
  | 17 => 0x150000F0
  | 18 => 0x150100F0
  | 19 => 0x150200F0
  | 20 => 0x160000F0
  | 21 => 0x160100F0
  | 22 => 0x160200F0
  | 23 => 0x170000F0
  | _ => 0

/-- The block whose fault registers lie at `a`, with the offset 0, 4, 8 or 12. -/
def fltBlockAt (a : Nat) : Option (Nat × Nat) :=
  ((List.range 24).find? fun b => fltBase b ≤ a && a < fltBase b + 16).map fun b => (b, (a - fltBase b) / 4 * 4)

end Sys2Proof.Machine
end

