-- ==== Sys2Proof/Machine/State.lean ====
section
/-! DEFINITION. Machine/State.lean: everything the spec gives the machine, as plain data. Registers of the address map are
held in one file `regs`, by address (their names, fields and reset values stand in Machine/RegMap.lean); addressed RAM is
held byte by byte in `mem`; the state that is no register (what a rule makes a block remember) has a structure for each
block. Tables indexed by a number (a channel, a lane, a source) hold only the entries that differ from the value the
operations name as the entry's default, keys rising. -/
namespace Sys2Proof.Machine

/-- Why a step can stop with a fault: no command of the block does, since the spec gives every command, every access and every state
an effect (an access outside the map is recorded and changes nothing: 00 R15, 15 R556). Safe. -/
inductive Fault where
  deriving DecidableEq, Repr

/-- Why a command is refused. -/
inductive Refusal where
  /-- The row of that mnemonic has no meaning yet. Raised by `exec` alone, by no arm today. Safe: the machine stops. -/
  | notModelled (mnemonic : String)
  deriving DecidableEq, Repr

/-- What the device hands to a wire. -/
inductive OutMsg where
  /-- A frame to a host (16 Table 2): port, destination address, KIND, flow, SEQ, OPC, CLASS, FLAGS, NODE and body words. -/
  | host (port : HostPort) (dst kind flow seq opc cls flags node : Nat) (body : List Word)
  /-- The 4 bytes that answer RDSTAT on the QSPI port (16 R579). -/
  | qspiStat (w : Word)
  /-- A frame on a cell lane. -/
  | cell (lane : Nat) (f : LinkFrame)
  /-- A burst of 4 TRIP blocks on a cell lane with a claim (07 R275). -/
  | trip (lane claim : Nat)
  /-- A frame on a ring port. -/
  | ring (port : Side) (f : RingFrame)
  /-- A ring port breaks off the frame it is sending, which it will send again (09 R319). -/
  | ringBreak (port : Side)
  /-- A frame on the twin link. -/
  | twin (f : LinkFrame)
  /-- Alignment markers on the lanes of a bonded port (08 R304): 0 east, 1 west, 2 twin; P of logical lanes 0 and 1. -/
  | marker (port : Nat) (p0 p1 : BitVec 56)
  /-- A frame a pod sends upstream on a lane of port A (false) or B (true). -/
  | pod (lane : Nat) (b : Bool) (f : LinkFrame)
  /-- A transition of a local or auxiliary output at a CT64 instant (02 R43): channel, high side, level. -/
  | edge (chan : Nat) (high : Bool) (level : Nat) (t : Nat)
  deriving DecidableEq, Repr

/-- One fault source's word (15 Table 4): PEND, IE, the highest reaction applied and the reaction in force. -/
structure SrcWord where
  pend : Bool
  ie : Bool
  rlvl : Nat
  react : Nat
  deriving DecidableEq, Repr

/-- The first-error capture of a block (15 Table 5). -/
structure Capture where
  valid : Bool
  master : Nat
  acc : Nat
  merge : Nat
  src : Nat
  addr : Nat
  stamp : Nat
  types : Nat
  deriving DecidableEq, Repr

/-- The access that a raise records (15 R545): CAP_INFO's MASTER and ACC, and CAP_ADDR. -/
structure Acc where
  master : Nat
  acc : Nat
  addr : Nat
  deriving DecidableEq, Repr

/-- The fault registers of all blocks: source words by 64 b + s, captures and REJ by b, FLT_IDX by 8 b + master, and the
local outputs that BLOCK_LOCAL holds, as (block, source, output) (R543 to R551); output `none` is every output; `recent` are the
raises of the tick `recentAt`, in order (R11, R546). -/
structure FaultSt where
  src : List (Nat × SrcWord)
  cap : List (Nat × Capture)
  rej : List (Nat × Bool)
  idx : List (Nat × Nat)
  held : List (Nat × Nat × Option Nat)
  recent : List (Src × Acc)
  recentAt : Nat
  deriving DecidableEq, Repr

/-- What the bus remembers: the high words captured by reads of low words (R16) and the held writes of low words (R17), each
by 2^32 × master + address of the low word; the last word read, by master; the captured words 1 to 3 of ADC and SDF results
(R383), by 2^32 × master + address; the claims deferred by the master priority (R54, R55) and those held while the engine
runs (R131, R132); the bits that the device has set in the tick `freshAt`, by address (R11), with the value before the tick of
each RC register it has changed; and the resources served in the tick `servedAt`, each with the code of its master. -/
structure BusSt where
  caps : List (Nat × Word)
  lows : List (Nat × Option Word)
  rdata : List (Nat × Word)
  rescap : List (Nat × Word)
  deferred : List Claim
  held : List Claim
  served : List (Nat × Nat)
  servedAt : Nat
  fresh : List (Nat × Word)
  rcPrev : List (Nat × Word)
  freshAt : Nat
  deriving DecidableEq, Repr

/-- A move between device states that waits for the next period boundary (R32), and the commands that asked for it; none for
automatic arming. -/
structure PendMove where
  target : Nat
  owners : List CmdKey
  deriving DecidableEq, Repr

/-- The device as a whole: pending move, the source that caused the stopping state in force, the SEALED latch of each die,
which die is shut down, the reset pin's filter, what the last reset leaves for BOOT and CONFIG to do, whether the supervisor has still to write
SEXT_CTRL.EN in LINKS (15 R567), the CT64 of the last reset, the configuration copy in use (false A) and the record being staged. -/
structure SysSt where
  move : Option PendMove
  cause : Option Src
  sealL : Bool
  sealA : Bool
  offL : Bool
  offA : Bool
  resetHeld : Bool
  porBoot : Bool
  firstConfig : Bool
  thermBoot : Bool
  sextDue : Bool
  rstAt : Option Nat
  copyInUse : Option Bool
  stage : List (Nat × Word)
  deriving DecidableEq, Repr

/-- The Chronometer's state beside its registers: CT64 with its 32 fraction bits (R39), the servo's two terms in parts of
2^32 CT64 per tick (R90), the run of offsets within SYNC_WIN (R93), and the run of failed exchanges (R94). -/
structure ChronoSt where
  ct : Word64
  frac : Nat
  ftrim : Rat
  ptrim : Rat
  inWin : Nat
  failRun : Nat
  deriving DecidableEq, Repr

/-- The Sextant's state beside its registers (R64 to R80), exact: the loop; whether the grid has begun, the period's index and
its count from b_0, b_k, b_{k+1} and, once committed, b_{k+2}, and the last 16
boundaries before b_k, newest first; the stamp used by the update before the last one; whether the first valid update has been made; and the runs of
suspect, valid and invalid updates in the present state. -/
structure SextSt where
  th : Rat
  f : Rat
  i : Rat
  thPrev : Rat
  fPrev : Rat
  sPrev : Nat
  sOld : Nat
  eps : Rat
  begun : Bool
  comm : Bool
  k : Nat
  kAbs : Nat
  b0 : Nat
  b1 : Nat
  b2 : Nat
  past : List Nat
  first : Bool
  suspectRun : Nat
  validRun : Nat
  invalidRun : Nat
  deriving DecidableEq, Repr

/-- What a write-back changes (04 R148): lanes of a vector register, of an accumulator, a sum into an accumulator (R150),
bits of a lane mask, a scalar register. Lane values are listed by lane, 0 to 63. -/
inductive WbAct where
  | vec (r : Nat) (mask : Word64) (vals : List (BitVec 16))
  | acc (r : Nat) (mask : Word64) (vals : List (BitVec 40))
  | accum (r : Nat) (mask : Word64) (adds : List Int)
  | mask (k : Nat) (sel val : Word64)
  | scal (r : Nat) (val : Word)
  deriving DecidableEq, Repr

/-- A write-back in flight: the cycles until it falls due, its changes, the lanes in which it sets each lane flag (in the
order SAT, AOV, DZ, LUT, LOWC), and the scalar flags it sets. -/
structure Wb where
  left : Nat
  acts : List WbAct
  flags : List Word64
  ssat : Bool
  sdz : Bool
  deriving DecidableEq, Repr

/-- A ladle entry (03 R115, 04 R168): target, channel, field, and the value of each selected lane. -/
structure LadleEntry where
  tgt : Nat
  ch : Nat
  fld : Nat
  vals : List (Nat × Nat)
  deriving DecidableEq, Repr

/-- The engine beside its registers and memories (03, 04). `v`, `a`, `k`, `sr` hold the registers that are not 0: lane n of
V r at 64 r + n, of A r at 64 r + n. `vOpen` is the V-slot instruction of the open word. `pV`, `wV`, `pS`, `wS`
are the bits P and W of the state regions, bit i for logical row or word i of the region. `blocks` are
the static cycle counts of the blocks that the row runs in this period, `doneBlks` of them complete; `ran` counts the engine cycles
since the engine start; `sget` are the values latched there (04 R165); `entryDue`: the entry block of the mode has still to run in a
completed period (05 R188); `budOk`: the active Almanac bank has passed the budget check. `modeOwner` is the SET_MODE of the
pending request, `modeTaken` that of the request taken at the deadline; `swapRipe` says that a deadline has followed the
acceptance of a swap (R210); `actVer` holds the verified marks of the active banks, bit 0 PMEM, bit 1 ALM. -/
structure EngSt where
  v : List (Nat × BitVec 16)
  a : List (Nat × BitVec 40)
  k : List (Nat × Word64)
  sr : List (Nat × Word)
  pend : List Wb
  vOpen : Option Instr
  ladle : List LadleEntry
  armed : Nat
  slot : List (Nat × BitVec 16)
  pV : Nat
  wV : Nat
  pS : Nat
  wS : Nat
  blocks : List Nat
  doneBlks : Nat
  ran : Nat
  waited : Nat
  stallSrc : Nat
  sget : List Word
  entryDue : Bool
  budOk : Bool
  modeNext : Option Nat
  modeOwner : Option CmdKey
  modeTaken : Option CmdKey
  swapRipe : Bool
  actVer : Nat
  swapOwner : Option CmdKey
  deriving DecidableEq, Repr

/-- The Log beside its registers (05 R196 to R206): the slot the next record takes, the records of this capture, those before the
trigger record that it keeps, the records still to capture in POST, what happened in the period (flags that changed from clear
to set, by FMASK bit; events, by SEL bit), FORCE, the data of a capture that waits for the deadline, whether it is split (R199),
and whether the period was abandoned and has been captured. -/
structure LogSt where
  next : Nat
  count : Nat
  pre : Nat
  post : Nat
  flagsSeen : Nat
  events : Nat
  force : Bool
  open_ : Option (List Byte)
  split : Bool
  abandoned : Bool
  captured : Bool
  deriving DecidableEq, Repr


/-- The comparators and trip inputs beside their registers (11): stages asserted, by comparator; filtered TRIPIN levels;
the comparator under test, whether its forcing has ended, its SWAP and TIE, and the stages' outputs
sampled before it. -/
structure CmpSt where
  hi : Nat
  lo : Nat
  pins : Nat
  test : Option Nat
  settling : Bool
  swap : Bool
  tie : Nat
  preHi : Bool
  preLo : Bool
  deriving DecidableEq, Repr

/-- The Hall channels beside their registers (13 R472 to R482), by channel: filtered code (none before the first one after
EN), filtered home level, S, moves of the speed window. -/
structure HallSt where
  code : List (Nat × Option Nat)
  sector : List (Nat × Option Nat)
  moves : List (Nat × Int)
  home : Nat
  deriving DecidableEq, Repr

/-- The safety logic beside its registers (13 R483 to R503): filtered levels of SINnA and SINnB, discrepancy counts, DISCF,
v0 of SS1 by channel, the channels whose ended SS1 holds STO, the outputs in an off-pulse, the channels in a test pulse,
those whose periodic test is deferred, and whether SAFE_CRC has been computed. -/
structure SafeSt where
  sinA : Nat
  sinB : Nat
  cnt : List (Nat × Nat)
  disc : Nat
  v0 : List (Nat × Nat)
  ss1Held : Nat
  pulse : Nat
  deferred : Nat
  crcDone : Bool
  deriving DecidableEq, Repr

/-- The auxiliary stages beside their registers (12): channels in the 20 µs hold after their supply closed, in soft turn-off;
external inputs by 6 a + i; VGD below its lock-out, VMOV condition; by leg 3 a + l: events in a row (R449), H held off and
forced refresh (R447) with its end, H on seen and event seen in the channel period; the gates by 2 leg + side with the CT64 at
which each last began to turn off; and the brake requested and cut by its window limit. -/
structure AxdSt where
  hold : Nat
  soft : Nat
  pins : Nat
  vgdLow : Bool
  vmov : Bool
  evRun : List (Nat × Nat)
  hOff : Nat
  refresh : Nat
  refEnd : List (Nat × Nat)
  hSeen : Nat
  evSeen : Nat
  gates : Nat
  offAt : List (Nat × Nat)
  brkReq : Bool
  brkCut : Bool
  deriving DecidableEq, Repr

/-- An edge of a reference in time order (06 R225): its time, the level after it, whether it is an edge or only a grid point,
the dead time that follows it and MINP (ET), and whether it is droppable (R237). -/
structure RefEdge where
  t : Int
  lvl : Bool
  edge : Bool
  dead : Nat
  minp : Nat
  drop : Bool
  deriving DecidableEq, Repr

/-- An edge of an output: its time, side (true: H) and level. -/
structure OutEdge where
  t : Int
  high : Bool
  level : Bool
  deriving DecidableEq, Repr

/-- What the registers of a channel show from a grid point on (06 R229): its real time, n, the active fields in the order of
R226, the reference level, and what came about there. -/
structure GridEv where
  t : Int
  n : Nat
  act : List Nat
  lvl : Bool
  took : Bool
  perrej : Bool
  slewlim : Bool
  slewing : Bool
  deriving DecidableEq, Repr

/-- The bootstrap refresh of an auxiliary leg in generated time (12 R444, R445): the time from which b counts, the start of the
L-on interval in progress, the outputs' levels, the levels of the signals of step 5, and the refresh in progress: when its L
turns on and off and when H may turn on. -/
structure RefrSt where
  b : Int
  lOn : Option Int
  h : Bool
  l : Bool
  sh : Bool
  sl : Bool
  cur : Option (Int × Int × Int)
  deriving DecidableEq, Repr

/-- A modulation channel beside its registers (06): staged fields; last loaded CMPA, CMPB, PHASE (R231); the active fields as
edge generation holds them, in the order of R226; a start not yet generated (R219) and the first load after it still to come;
n, g_n, L_n in channel time once the grid has started; reference edges of the period still to map; edges rounded into a later
window; the error term (R234); the reference level; both outputs off (R238); the last accepted edge; the turn-on still to
come; levels at the end of the generated window, and at its start, with its edges by offset; the records of the last schedule sent, by offset; grid points generated and
not yet reached; the refresh of an auxiliary leg. -/
structure ChSt where
  staged : List (Nat × Nat)
  tgt : List Nat
  act : List Nat
  starting : Bool
  firstLoad : Bool
  inGrid : Bool
  n : Nat
  g : Int
  len : Nat
  raw : List RefEdge
  late : List RefEdge
  err : Int
  lvl : Bool
  off : Bool
  last : Option RefEdge
  pend : Option OutEdge
  endH : Bool
  endL : Bool
  startH : Bool
  startL : Bool
  edges : List OutEdge
  sched : List OutEdge
  grid : List GridEv
  refr : RefrSt
  deriving DecidableEq, Repr

/-- The MOD block beside its registers: channels by number (cell 8 n + c, local pair 448 + i, auxiliary leg 464 + 3 a + l); the
records of each lane for the window generated last, with the start levels (R240, R241) and whether its queue overflowed; the
windows in a row that each pod replays (R238); the local and auxiliary edges still to play; by local output (pair i, 8 + leg):
signals of H and L, those that wait for a grid point after an override (R244), and those running in the window being played
and in the window generated last (R219, R220); the levels at the local pins, 0 off, 1 on, 2
high-impedance, by 2 i + side. -/
structure ModSt where
  ch : List (Nat × ChSt)
  win : List (Nat × (Nat × Bool × List Word))
  replays : List (Nat × Nat)
  play : List (Nat × OutEdge)
  sigH : Nat
  sigL : Nat
  wait : Nat
  run : Nat
  runNext : Nat
  pins : List (Nat × Nat)
  deriving DecidableEq, Repr

/-- A list of the ADC that runs (10 R379): its number, the entry it has reached and the last one, whether that entry converts
(else it waits), the tick from which it waits, whether it restarts after an abort, and whether its positions are reserved. -/
structure ListRun where
  list : Nat
  entry : Nat
  last : Nat
  conv : Bool
  ready : Nat
  retry : Bool
  reserved : Bool
  deriving DecidableEq, Repr

/-- A conversion in progress (10 R371): the entry, the list or injected request that started it, its start tick's stamp, and for
each used slot the position, the serving slice and the band of the constants. -/
structure ConvRun where
  entry : Nat
  inj : Option Nat
  list : Nat
  hold : Nat
  retry : Bool
  slots : List (Nat × Nat × Nat × Nat)
  deriving DecidableEq, Repr

/-- The converters beside their registers (10): lists that run, conversions in progress, phases of the injected requests (0
idle, 1 waiting out DELAY, 2 pending, 3 claimed, 4 converting); the position of the open swap window and the slice it takes; a
swap due; the slices to retire when they leave their positions; whether the spare has completed its calibration; consecutive failed
calibrations by slice; the forced swaps of CAL_ADC to come; results that have set PLAUS in this period; the sigma-delta filters:
results still to write with VALID = 0, filters stuck, filters with a valid result since the last Sextant update, and those with
one to place at the commit tick. -/
structure AdcSt where
  lists : List ListRun
  convs : List ConvRun
  inj : List (Nat × Nat)
  swapPos : Option Nat
  swapDue : Bool
  retireWait : Nat
  calDone : Bool
  calFails : List (Nat × Nat)
  forced : Nat
  plaus : List Nat
  sdfFirst : List (Nat × Nat)
  stuck : Nat
  sdfNew : Nat
  sdfHeld : Nat
  deriving DecidableEq, Repr


/-- Power, clocks and temperature beside their registers (14): rails started since VAUX became valid; VAUX valid now; the 100 ms
wait after a PMU fault; off after the third fault in a row; the FSWSEL in use; whether the PLL's loop is closed or closing; the
CT64 at which the coast began; sensors held invalid, their valid rounds in a row; whether no round has ended yet; by die (logic,
analog) the highest reading of a first qualifying round, with its sensor, and the rounds in a row without a valid sensor; thermistor inputs
that have reached WARN and ALARM and not fallen 3 °C below. -/
structure PwrSt where
  rails : Nat
  vauxOk : Bool
  retry : Bool
  off : Bool
  fsw : Nat
  loop : Bool
  coastAt : Nat
  badTs : Nat
  tsRun : List (Nat × Nat)
  firstRound : Bool
  hotL : Option (Nat × Int)
  hotA : Option (Nat × Int)
  noneL : Nat
  noneA : Nat
  txW : Nat
  txA : Nat
  deriving DecidableEq, Repr

/-- A valid entry of the node table (09 R322); `hopE` and `hopW` are the hops toward the node when a frame leaves on the east and on
the west port. -/
structure NodeEnt where
  serial : Word
  tkpri : Nat
  pair : Bool
  role : Bool
  dlye : Nat
  dlyw : Nat
  hopE : Nat
  hopW : Nat
  deriving DecidableEq, Repr

/-- A GUAR message sent and not yet covered by an ACK (R331), with what its record waits for (R333) and the ring it used last. -/
structure GMsg where
  dst : Nat
  orig : Nat
  seq : Nat
  payload : List Word
  nvmWait : Bool
  jackWait : Bool
  last : Option Side
  deriving DecidableEq, Repr

/-- The receive state of a GUAR flow from one ORIG (R332): N, messages held out of order; the deliveries not yet in the NVM journal and
those without a JACK, by their numbers, and the port on which an ACK waits for them (R333). -/
structure GuarRx where
  next : Nat
  held : List (Nat × List Word)
  waitN : List Nat
  waitJ : List Nat
  ackDue : Option Side
  deriving DecidableEq, Repr

/-- A fix bank (R343, R344): its state as 09 Table 5 codes it, its FIXID, TFIX, and the CT64 of its latch. -/
structure FixBank where
  state : Nat
  fixid : Nat
  tfix : Nat
  t : Nat
  deriving DecidableEq, Repr

/-- The ring agent beside its registers: node table; GUAR flows; the TIME exchanges in flight on each port, as (TSEQ, t1), with the
next TSEQ and the link delays in ns; broadcasts seen with the tick of their arrival (R320); SCHED frames received since the last
commit with that tick, and the age of each position's rows (R338, R339); whether a duplicate ID silences the node (R323);
GUAR and BULK frames that wait for each port, the frame each port (0 east, 1 west) is sending with the CT64 at which it ends
(R319); fix banks; the stretch's segment delays and the members' hop counts of the last domain check (R341). -/
structure RingSt where
  nodes : List (Nat × NodeEnt)
  gtx : List GMsg
  gnext : List (Nat × Nat)
  grx : List (Nat × GuarRx)
  xchgE : Option (Nat × Nat)
  xchgW : Option (Nat × Nat)
  tseqE : Nat
  tseqW : Nat
  dlyE : Nat
  dlyW : Nat
  seen : List (RingFrame × Nat)
  slots : List (RingFrame × Nat)
  ages : List (Nat × Nat)
  quiet : Bool
  low : List (Side × Nat × RingFrame)
  cur : List (Nat × (RingFrame × Nat))
  banks : List (Nat × FixBank)
  chkDly : List Nat
  chkHops : List (Nat × Nat)
  deriving DecidableEq, Repr

/-- A mirror being received by a standby (R355): the data of MSTATE, rows, modulation entries, all data blocks of MSTATE, MROWS and MMOD in
order, frames so far, whether MEND has closed it with a CRC that matches, and whether the mode and swap of MSTATE have been taken. -/
structure MirrorIn where
  state : List Word64
  rows : List (Nat × List Word64)
  mods : List (Word64 × Word64)
  words : List Word64
  frames : Nat
  ended : Bool
  taken : Bool
  deriving DecidableEq, Repr

/-- What a journal record secures when its NVM write completes or its JACK arrives (R333; 16 R593). -/
inductive JSec where
  | cmd (k : CmdKey)
  | guarSend (dst seq : Nat)
  | guarDeliver (orig seq : Nat)
  | nothing
  deriving DecidableEq, Repr

/-- The twin agent beside its registers: next SEQ; the partner's role, state and PRIME (which no frame carries: DESIGN CHOICE, log 2) and whether its HELLO was
seen; the last HB's arrival and b_{k+1}, own HB stamps (newest first), whether an HB arrived since LINKS began, the delay in CT64;
a higher claim sighted in PERIODIC (R363), YIELD received; journal records without a JACK, with what they secure and
their data blocks; the mirror in reception; modulation fields whose change waits and the contents last seen (R353); periods since
the last install; checkpoints held with the tick of the newest; the swap target, the PROOF_SWAP that asked for it, and a swap not
made (R367); the resynchronisation of this standby (0 none, 1 awaited, 2 under way, 3 received) and whether the partner has been
resynchronised (R358); received records that wait for their NVM write before JACK. -/
structure TwinSt where
  seq : Nat
  partnerRole : Bool
  partnerState : Nat
  partnerPrime : Option Bool
  helloSeen : Bool
  hbArr : Nat
  hbAnchor : Option Nat
  hbSent : List Nat
  hbSince : Bool
  dly : Rat
  depose : Bool
  yieldSeen : Bool
  unacked : List (Nat × JSec × List Word64)
  mirror : MirrorIn
  mmodQ : List Nat
  modSeen : List (Nat × (Word64 × Word64))
  sinceInstall : Nat
  ckpts : List (Nat × List Word64)
  ckptT : Nat
  swapP : Option Nat
  swapOwner : Option CmdKey
  swapFailed : Bool
  resync : Nat
  synced : Bool
  jackDue : List Nat
  deriving DecidableEq, Repr

/-- An NVM write in progress (16 R593, 09 R333, R357, R364): a record with what it secures and, on a standby, the position to
answer with JACK; a checkpoint; another write. -/
inductive NvmJob where
  | record (sec : JSec) (jack : Option Nat)
  | ckpt (session : Nat)
  | other
  deriving DecidableEq, Repr


/-- A CMD outstanding on a cell lane (07 R280): OPC, SEQ, data, sends so far, who asked for it (0 the device's SETCFG, 1 the host,
2 the program), and whether a sending is due. -/
structure OclCmd where
  opc : Nat
  seq : Nat
  data : List Word64
  sends : Nat
  src : Nat
  due : Bool
  deriving DecidableEq, Repr

/-- A SAMPLE frame held for the commit (R286). -/
structure OclSample where
  slot : Nat
  stamp : Nat
  vals : List (BitVec 16)
  deriving DecidableEq, Repr

/-- A cell lane's link beside its registers (07): the next SEQ down, the last SEQ up; CAPQ sent without an answer; the SETCFG
blocks sent last; the index of the next TIME frame and T1 of the latest; twice each of the last accepted values of d and of those
not accepted in a row, oldest first (R264), and the accepted ones in a row; periods in a row with FOLLOW 0; the CLAIM of
the last PERIODIC; the command outstanding and a host command that waits; the commanded bypass state; whether the lane is held
bypassed (1), or waits for BYPST open after an acknowledged BYPOPEN (2); SAMPLE frames since the last commit; the frame on the
wire with the CT64 at which it ends, frames that wait for it, and the end of the TRIP burst in progress. -/
structure OclLane where
  seq : Nat
  rxSeq : Option Nat
  capSends : Nat
  cfg : List Word64
  tseq : Nat
  t1 : Option Nat
  dAcc : List Int
  dRej : List Int
  dRun : Nat
  followRun : Nat
  perClaim : Option Nat
  cmd : Option OclCmd
  hostWait : Option (Nat × List Word64)
  commanded : Bool
  held : Nat
  samples : List OclSample
  cur : Option (LinkFrame × Nat)
  queue : List LinkFrame
  burstEnd : Nat
  deriving DecidableEq, Repr

/-- The cell links: lanes by number, and the 20 µs steps since the grid stopped (R283). -/
structure OclSt where
  lanes : List (Nat × OclLane)
  stopCnt : Nat
  deriving DecidableEq, Repr

/-- One port of a pod: the next SEQ up; the last CMD accepted, as (SEQ, OPC, CLAIM), with its ACK (R281); TSEQ, T2 and e of
the latest TIME frame. -/
structure PodPort where
  seq : Nat
  lastCmd : Option ((Nat × Nat × Nat) × Word64)
  tseq : Nat
  t2 : Nat
  perr : Int
  deriving DecidableEq, Repr

/-- A frame that a pod has accepted for a window to come: ANCHOR, WLEN, CLAIM, and the EDGE frame's contents: TRIP, EMPTY,
SLVL, records; none for a KEEP frame. -/
structure PodWin where
  anchor : Nat
  wlen : Nat
  claim : Nat
  edge : Option (Bool × Bool × Nat × List Word)
  deriving DecidableEq, Repr

/-- A pod (07): whether it is powered; its CT64 minus the device's; capability; TLOCK and accepted TIME frames in a row within the bound; ports A
and B; claims sighted as (claim, port, age in windows); C_acc, and its value at the end of the window before; the current window's start and the last WLEN; accepted frames for
windows to come; the last schedule played with its WLEN; whether it plays, records still to play in the window and turn-ons that
the interlock delays, as (output, CT64); HOLD; blocked, and the blocks that need more than an EDGE frame to end: by TLOCK, by
power-up or PODRST; blocked by link loss; TRIPPED; DESAT, GDF, and the channels they block; BYPST, whether its switch moves to closed, whether it is in link loss now; the applied SETCFG; output levels as SLVL; LATE, INTLK, LVLERR and CLASH
since the last PERIODIC, FSTAMP to report; the temperature. -/
structure PodSt where
  on : Bool
  off : Int
  cap : Word64
  tlock : Bool
  tlockRun : Nat
  portA : PodPort
  portB : PodPort
  sight : List (Nat × Bool × Nat)
  cacc : Nat
  cPrev : Nat
  wStart : Nat
  wLen : Nat
  wins : List PodWin
  sched : List Word
  playing : Bool
  play : List Word
  delayed : List (Nat × Nat)
  hold : Nat
  blocked : Bool
  tlockBlk : Bool
  needCfg : Bool
  llost : Bool
  tripped : Bool
  desat : Nat
  gdf : Nat
  chb : Nat
  bypst : Nat
  bypClose : Bool
  loss : Bool
  cfg : List Word64
  outs : Nat
  late : Bool
  intlk : Bool
  lvlerr : Bool
  clash : Bool
  fstamp : Nat
  temp : BitVec 16
  deriving DecidableEq, Repr

/-- A bonded port (08 R304 to R306): the count of its next marker, matching marker slots in a row, and the buffered position and
crossing that they showed. -/
structure BondPort where
  mcnt : Nat
  run : Nat
  skew : Int
  rev : Bool
  deriving DecidableEq, Repr

/-- The serial lanes beside their registers: bonded ports (0 east, 1 west, 2 twin); lanes, by bit, whose test modes took effect
when EN was written 1 (R312). -/
structure SerSt where
  ports : List (Nat × BondPort)
  test : Nat
  deriving DecidableEq, Repr

/-- A command as its frame brought it: its key, the SEQ its host gave it, and its sender: the source address, or for a command of
another node the identity it came from. The key's flow is 0 to 4 for the device's own flows, 16 + f for a command of flow f that the
partner sent (16 R600), 1024 + ORIG for one that the ring delivered, whose key then counts by the GUAR number (R601). -/
structure HCmd where
  key : CmdKey
  hseq : Nat
  opc : Nat
  cls : Nat
  node : Nat
  body : List Word
  src : Nat
  port : HostPort
  deriving DecidableEq, Repr

/-- A command taken in and not yet final: what its record still waits for (R593), whether it has started (R595), whether
ACCEPTED was sent (R590), UNMIRRORED, PARTNER and REMOTE of its record, and its place in the order of take-in: the tick, the flow within it, and the count (R587). -/
structure HRec where
  cmd : HCmd
  nvmWait : Bool
  jackWait : Bool
  started : Bool
  accepted : Bool
  unmirrored : Bool
  partner : Bool
  remote : Bool
  apply : Bool
  tick : Nat
  prio : Nat
  order : Nat
  deriving DecidableEq, Repr

/-- A kept final response: response word, up to 16 bytes of data, and UNMIRRORED of its command (R591). -/
structure HFinal where
  seq : Nat
  word : Word
  data : List Word
  unmirrored : Bool
  deriving DecidableEq, Repr

/-- What the device keeps of a flow beside N and D (R584, R589, R591, R609); each query with the take-ins before it. -/
structure FlowSt where
  held : List HCmd
  taken : List HRec
  finals : List HFinal
  queries : List (Nat × HCmd)
  event : Option OutMsg
  lastEvent : Nat
  addr : Nat
  port : HostPort
  deriving DecidableEq, Repr

/-- A journal record (16 Table 5) without its check word. -/
structure JRec where
  pos : Nat
  kind : Nat
  flow : Nat
  cls : Nat
  flags : Nat
  seq : Nat
  opc : Nat
  t : Nat
  body : List Word
  deriving DecidableEq, Repr

/-- A stepped operation in its slot (R605): the command, and the operation's own counters. -/
structure OpSlot where
  cmd : HCmd
  aux : List Nat
  words : List Word
  deriving DecidableEq, Repr

/-- A READ, WRITE or MODIFY in progress (R603, R644): its command, the words served, the values read, the claim that it waits for. -/
structure HostAcc where
  cmd : HCmd
  i : Nat
  vals : List Word
  wait : Option Claim
  deriving DecidableEq, Repr

/-- The host block beside its registers: flows, journals (RAM and NVM), slots, the QSPI queue (newest last), commands that the ring or
the partner gave, queries that another node answers, READ, WRITE and MODIFY commands with words still to serve (R603), the exported Log
records kept for resending and the collector's last record number of each origin (R611), and the Log record number. -/
structure HostSt where
  flows : List (Nat × FlowSt)
  ramJ : List JRec
  nvmJ : List JRec
  late : List (JRec × JSec)
  order : Nat
  ops : List (Nat × OpSlot)
  queue : List OutMsg
  ringCmds : List HRec
  remQ : List HCmd
  accs : List HostAcc
  recNo : Nat
  exported : List (Nat × List Byte)
  collect : List (Nat × Nat)
  parts : List (Nat × List (Nat × List Byte))
  missing : List (Nat × Nat)
  rebuilt : Bool
  deriving DecidableEq, Repr

/-- The boot record (17 R614, R621): slot states (17 Table 4) and image versions, the slot named for activation, and whether a
trial's window has ended unconfirmed since the last BOOT (R635). -/
structure BootRec where
  stA : Nat
  stB : Nat
  verA : Nat
  verB : Nat
  act : Option Nat
  fell : Bool
  deriving DecidableEq, Repr

/-- The session record (17 R623 to R626): SESSION, the digest that chunk 0 must have, NCH, a bit for each piece (8 c + i), the minutes of
UPD_AGE, and whether a relay opened it. -/
structure Session where
  session : Nat
  digest : List Byte
  nch : Nat
  pieces : Nat
  age : Nat
  relay : Bool
  deriving DecidableEq, Repr

/-- The MRAM beside the journal (17 R613): the bytes of the image slots by offset (0 where none is listed), the configuration copies in words,
the boot record, the session record; and the NVM writes in progress. -/
structure NvmSt where
  mram : List Host.Cell
  cfgA : List Word
  cfgB : List Word
  boot : BootRec
  sess : Option Session
  jobs : List NvmJob
  deriving DecidableEq, Repr

/-- A chunk that a relay sends (17 R629, R631): its number, times sent, and hops left. -/
structure RlyChunk where
  chunk : Nat
  sends : Nat
  hops : Nat
  deriving DecidableEq, Repr

/-- A relay that this device sends, as its origin or as a hop: the command that asked for it at the origin, SESSION, the slot read,
the port, hops, NCH, the origin's ID, the next chunk of the origin, chunks without RACK OK, the count of those with it. -/
structure Relay where
  owner : Option HCmd
  session : Nat
  slot : Nat
  side : Side
  hops : Nat
  nch : Nat
  origin : Nat
  next : Nat
  sent : List RlyChunk
  acked : Nat
  deriving DecidableEq, Repr

/-- An activation that waits for its reset (17 R632): its command, the slot, and the instant. -/
structure ActWait where
  cmd : HCmd
  slot : Nat
  t : Nat
  deriving DecidableEq, Repr

/-- Firmware update beside the registers and the MRAM: the slot under verification for no command of its own (a relay or a checkpoint
completed it); the activation that waits; UPD_CONFIRM commands that wait; whether one was taken in; whether the boot-record write of
a confirmation waits for PFAIL to clear; the CT64 at which a trial's BOOT began; whether the self-tests passed; and the relay this
device sends. -/
structure UpdSt where
  verify : Option Nat
  act : Option ActWait
  confirmers : List CmdKey
  confirmIn : Bool
  confWait : Bool
  trialAt : Nat
  testsOk : Bool
  relay : Option Relay
  deriving DecidableEq, Repr

/-- The state of the block. `pending` holds the commands that wait, first in, first out. `free` counts the free values drawn
(it is the model's own field: DESIGN CHOICE, log 2), `tx` is what the device has handed to its wires, oldest first. -/
structure State where
  pending : List Instr
  regs : List (Nat × Word)
  mem : List Host.Cell
  faults : FaultSt
  bus : BusSt
  sys : SysSt
  chrono : ChronoSt
  sext : SextSt
  cmp : CmpSt
  hall : HallSt
  safe : SafeSt
  axd : AxdSt
  mod : ModSt
  adc : AdcSt
  eng : EngSt
  log : LogSt
  ser : SerSt
  ocl : OclSt
  pods : List (Nat × PodSt)
  ring : RingSt
  twin : TwinSt
  nvm : NvmSt
  upd : UpdSt
  pwr : PwrSt
  host : HostSt
  tx : List OutMsg
  free : Nat
  deriving DecidableEq, Repr

/-- The machine right after a power-on reset (15 R563; 18 R647): every register at its reset value, RAM cleared, CT64 0. -/
def State.reset : State :=
  { pending := [], regs := [], mem := []
    faults := { src := [], cap := [], rej := [], idx := [], held := [], recent := [], recentAt := 0 }
    bus := { caps := [], lows := [], rdata := [], rescap := [], deferred := [], held := [], served := [], servedAt := 0,
             fresh := [], rcPrev := [], freshAt := 0 }
    sys := { move := none, cause := none, sealL := false, sealA := false, offL := false, offA := false, resetHeld := false,
             porBoot := true, firstConfig := true, thermBoot := false, sextDue := false, rstAt := none, copyInUse := none, stage := [] }
    chrono := { ct := 0, frac := 0, ftrim := 0, ptrim := 0, inWin := 0, failRun := 0 }
    sext := { th := 0, f := 0, i := 0, thPrev := 0, fPrev := 0, sPrev := 0, sOld := 0, eps := 0, begun := false, comm := false, k := 0, kAbs := 0, b0 := 0, b1 := 0, b2 := 0, past := [],
              first := false, suspectRun := 0, validRun := 0, invalidRun := 0 }
    cmp := { hi := 0xFFFFFF, lo := 0xFFFFFF, pins := 0, test := none, settling := false, swap := false, tie := 0,
             preHi := false, preLo := false }
    hall := { code := [], sector := [], moves := [], home := 0 }
    safe := { sinA := 0, sinB := 0, cnt := [], disc := 0, v0 := [], ss1Held := 0, pulse := 0, deferred := 0, crcDone := false }
    axd := { hold := 0, soft := 0, pins := 0, vgdLow := false, vmov := false, evRun := [], hOff := 0, refresh := 0, refEnd := [],
             hSeen := 0, evSeen := 0, gates := 0, offAt := [], brkReq := false, brkCut := false }
    mod := { ch := [], win := [], replays := [], play := [], sigH := 0, sigL := 0, wait := 0, run := 0, runNext := 0, pins := [] }
    adc := { lists := [], convs := [], inj := [], swapPos := none, swapDue := false, retireWait := 0, calDone := false,
             calFails := [], forced := 0, plaus := [], sdfFirst := [], stuck := 0, sdfNew := 0, sdfHeld := 0 }
    eng := { v := [], a := [], k := [], sr := [], pend := [], vOpen := none, ladle := [], armed := 0, slot := [], pV := 0, wV := 0,
             pS := 0, wS := 0, blocks := [], doneBlks := 0, ran := 0, waited := 0, stallSrc := 0, sget := [],
             entryDue := false, budOk := false, modeNext := none, modeOwner := none, modeTaken := none, swapRipe := false, actVer := 0,
             swapOwner := none }
    log := { next := 0, count := 0, pre := 0, post := 0, flagsSeen := 0, events := 0, force := false, open_ := none, split := false,
             abandoned := false, captured := false }
    ser := { ports := [], test := 0 }
    ocl := { lanes := [], stopCnt := 0 }, pods := []
    ring := { nodes := [], gtx := [], gnext := [], grx := [], xchgE := none, xchgW := none, tseqE := 0, tseqW := 0, dlyE := 0,
              dlyW := 0, seen := [], slots := [], ages := [], quiet := false, low := [], cur := [], banks := [], chkDly := [], chkHops := [] }
    twin := { seq := 0, partnerRole := false, partnerState := 0, partnerPrime := none, helloSeen := false, hbArr := 0, hbAnchor := none,
              hbSent := [], hbSince := false, dly := 0, depose := false, yieldSeen := false, unacked := [],
              mirror := { state := [], rows := [], mods := [], words := [], frames := 0, ended := false, taken := false },
              mmodQ := [], modSeen := [], sinceInstall := 0, ckpts := [], ckptT := 0, swapP := none, swapOwner := none,
              swapFailed := false, resync := 0, synced := false, jackDue := [] }
    nvm := { mram := [], cfgA := [], cfgB := [], jobs := [], boot := { stA := 5, stB := 0, verA := 0, verB := 0, act := none, fell := false }, sess := none }
    upd := { verify := none, act := none, confirmers := [], confirmIn := false, confWait := false, trialAt := 0, testsOk := false,
             relay := none }
    pwr := { rails := 5, vauxOk := true, retry := false, off := false, fsw := 1, loop := true, coastAt := 0, badTs := 0, tsRun := [],
             firstRound := true, hotL := none, hotA := none, noneL := 0, noneA := 0, txW := 0, txA := 0 }
    host := { flows := [], ramJ := [], nvmJ := [], late := [], order := 0, ops := [], queue := [], ringCmds := [], remQ := [], accs := [], recNo := 0,
              exported := [], collect := [], parts := [], missing := [], rebuilt := false }
    tx := [], free := 0 }

end Sys2Proof.Machine
end

