-- ==== Sys2Proof/Machine/Ops.lean ====
section
/-! DEFINITION. Machine/Ops.lean: the named operations over registers, memory and time that every meaning uses. -/
namespace Sys2Proof.Machine

/-! ### Tables by number -/

/-- The entry at `k`; `d` where none is listed. -/
def spGet {α : Type} (d : α) : List (Nat × α) → Nat → α
  | [], _ => d
  | (k', v) :: r, k => if k = k' then v else spGet d r k

/-- The list without an entry at `k`. -/
def spDel {α : Type} (m : List (Nat × α)) (k : Nat) : List (Nat × α) := m.filter fun e => e.1 != k

/-- The list with `v` at `k`. -/
def spIns {α : Type} : List (Nat × α) → Nat → α → List (Nat × α)
  | [], k, v => [(k, v)]
  | (k', v') :: r, k, v => if k = k' then (k, v) :: r else if k < k' then (k, v) :: (k', v') :: r else (k', v') :: spIns r k v

/-- Write `v` at `k`, keeping no entry equal to the default `d`. -/
def spPut {α : Type} [DecidableEq α] (d : α) (m : List (Nat × α)) (k : Nat) (v : α) : List (Nat × α) :=
  if v = d then spDel m k else spIns m k v

/-- Keys strictly rising from `lo` on, and no entry equal to its default. -/
def spWf {α : Type} [DecidableEq α] (d : Nat → α) : Nat → List (Nat × α) → Bool
  | _, [] => true
  | lo, (k, v) :: r => decide (lo ≤ k) && decide (v ≠ d k) && spWf d (k + 1) r

/-! ### Registers and fields (R7 to R9) -/

/-- The register at `a` as the device holds it; its reset value where no write has changed it. -/
def State.reg (s : State) (a : Nat) : Word := spGet (regReset a) s.regs a

/-- The device sets the register at `a`. -/
def State.setReg (s : State) (a : Nat) (v : Word) : State := { s with regs := spPut (regReset a) s.regs a v }

/-- The register as a number. -/
def State.regN (s : State) (a : Nat) : Nat := (s.reg a).toNat

/-- The device sets the register at `a` to a number, modulo 2^32. -/
def State.setRegN (s : State) (a n : Nat) : State := s.setReg a (BitVec.ofNat 32 n)

/-- The mask of `w` bits from bit `lo`. -/
def maskW (lo w : Nat) : Word := BitVec.ofNat 32 ((2 ^ w - 1) * 2 ^ lo)

/-- A field of a word. -/
def fldOf (f : Fld) (v : Word) : Nat := v.toNat / 2 ^ f.lo % 2 ^ f.width

/-- A word with a field set to `n` modulo 2^width. -/
def withFld (f : Fld) (v : Word) (n : Nat) : Word :=
  (v &&& ~~~ maskW f.lo f.width) ||| BitVec.ofNat 32 (n % 2 ^ f.width * 2 ^ f.lo)

/-- The value of a field. -/
def State.get (s : State) (f : Fld) : Nat := fldOf f (s.reg f.addr)

/-- The device sets a field. -/
def State.set (s : State) (f : Fld) (n : Nat) : State := s.setReg f.addr (withFld f (s.reg f.addr) n)

/-- Whether a field is not 0. -/
def State.on (s : State) (f : Fld) : Bool := s.get f != 0

/-- CT64 of the present tick (R39). -/
def State.now (s : State) : Nat := s.chrono.ct.toNat

/-- The bits of the register at `a` that the device has set in this tick; a write in this tick does not clear them (R11). -/
def State.fresh (s : State) (a : Nat) : Word := if s.bus.freshAt = s.now then spGet 0 s.bus.fresh a else 0

/-- Note that the device sets bits of the register at `a` in this tick. -/
def State.mark (s : State) (a : Nat) (mask : Word) : State :=
  if s.bus.freshAt = s.now then { s with bus := { s.bus with fresh := spIns s.bus.fresh a (s.fresh a ||| mask) } }
  else { s with bus := { s.bus with fresh := [(a, mask)], rcPrev := [], freshAt := s.now } }

/-- The device sets an RC register (R9, R11). -/
def State.setRC (s : State) (a : Nat) (v : Word) : State :=
  let old := s.reg a
  let first := s.fresh a == 0
  let s := s.mark a (BitVec.allOnes 32)
  let s := if first then { s with bus := { s.bus with rcPrev := spIns s.bus.rcPrev a old } } else s
  s.setReg a v

/-- The device sets a flag. -/
def State.flag (s : State) (f : Fld) : State := (s.mark f.addr (maskW f.lo f.width)).set f 1

/-- The device sets a flag to a Bool. -/
def State.setB (s : State) (f : Fld) (b : Bool) : State := s.set f (b2n b)

/-- The device ORs bits into a field. -/
def State.orFld (s : State) (f : Fld) (n : Nat) : State :=
  (s.mark f.addr (BitVec.ofNat 32 (n % 2 ^ f.width * 2 ^ f.lo))).set f (s.get f ||| n)

/-- Bit `i` of a field. -/
def State.fbit (s : State) (f : Fld) (i : Nat) : Bool := (s.get f).testBit i

/-- The device sets bit `i` of a field to `b`. -/
def State.setFbit (s : State) (f : Fld) (i : Nat) (b : Bool) : State :=
  if b then s.orFld f (2 ^ i) else s.set f (s.get f - (if (s.get f).testBit i then 2 ^ i else 0))

/-- Whether a write in this tick may clear bit `i` of a field (R11). -/
def State.clearable (s : State) (f : Fld) (i : Nat) : Bool := !(s.fresh f.addr).toNat.testBit (f.lo + i)

/-- A signed field. -/
def State.getS (s : State) (f : Fld) : Int := signedOf f.width (s.get f)

/-- Count a register up by `k`, saturating at 0xFFFF_FFFF. -/
def State.count (s : State) (a k : Nat) : State := s.setRegN a (satAdd 32 (s.regN a) k)

/-- The 64-bit quantity at `a` and `a + 4` (R16). -/
def State.reg64 (s : State) (a : Nat) : Nat := s.regN a + 2 ^ 32 * s.regN (a + 4)

/-- The device sets the 64-bit quantity at `a` and `a + 4`. -/
def State.setReg64 (s : State) (a n : Nat) : State := (s.setRegN a n).setRegN (a + 4) (n / 2 ^ 32)

/-- The value a register takes under a write of `v` by its access codes: RW bits take the bit, W1C bits clear on 1 (R9). -/
def writtenBy (row : RegRow) (old v : Word) : Word :=
  (old &&& ~~~ row.rw &&& ~~~ (v &&& row.w1c)) ||| (v &&& row.rw)

/-- The value that a write of `v` by its access codes would leave in the register at `a`. -/
def State.wouldBe (s : State) (a : Nat) (v : Word) : Word :=
  match regRowAt a with
  | some row => writtenBy { row with w1c := row.w1c &&& ~~~ s.fresh a } (s.reg a) v
  | none => s.reg a

/-- A write of the register at `a` by its access codes alone; a W1C bit that the device has set in this tick stays set (R11),
and an unassigned offset ignores the write (R9, R14). -/
def State.plainWrite (s : State) (a : Nat) (v : Word) : State :=
  match regRowAt a with
  | some _ => s.setReg a (s.wouldBe a v)
  | none => s

/-! ### Addressed RAM (VDM, SDM, PMEM, ALM and Log memory), byte by byte, little-endian (R7) -/

/-- The byte at `a`; RAM reads 0 until written, as BOOT leaves it (15 R566). -/
def memGet (m : List Host.Cell) (a : Nat) : Byte := spGet 0 m a

/-- The memory with the byte `b` at `a`. -/
def memPut (m : List Host.Cell) (a : Nat) (b : Byte) : List Host.Cell := spPut 0 m a b

/-- The memory's canonical form: addresses strictly rising, no byte listed that reads 0 anyway. -/
def Memory.wf (m : List Host.Cell) : Bool := spWf (fun _ => 0) 0 m

/-- `n` bytes from `a`, the lowest address least significant. -/
def memRead (m : List Host.Cell) (a : Nat) : Nat → Nat
  | 0 => 0
  | n + 1 => (memGet m a).toNat + 256 * memRead m (a + 1) n

/-- `n` bytes of `v` to `a`. -/
def memWrite (m : List Host.Cell) (a : Nat) : Nat → Nat → List Host.Cell
  | 0, _ => m
  | n + 1, v => memWrite (memPut m a (BitVec.ofNat 8 v)) (a + 1) n (v / 256)

/-- `n` bytes of memory from `a`. -/
def State.load (s : State) (a n : Nat) : Nat := memRead s.mem a n

/-- Store `n` bytes of `v` at `a`. -/
def State.store (s : State) (a n v : Nat) : State := { s with mem := memWrite s.mem a n v }

/-- The memory with every byte of `lo .. hi - 1` reading 0. -/
def memClear (m : List Host.Cell) (lo hi : Nat) : List Host.Cell := m.filter fun c => c.1 < lo || hi ≤ c.1

/-- The byte address of lane `n` of physical VDM row `r` (18 Table 2). -/
def vdmAddr (r n : Nat) : Nat := 0x11000000 + 128 * r + 2 * n
/-- The byte address of physical SDM word `w`. -/
def sdmAddr (w : Nat) : Nat := 0x11080000 + 4 * w
/-- The byte address of word `w` of PMEM bank `b` (03 Table 2). -/
def pmemAddr (b w : Nat) : Nat := 0x110C0000 + 0x10000 * b + 8 * w
/-- The byte address of row `r` of ALM bank `b`. -/
def almAddr (b r : Nat) : Nat := 0x110E0000 + 0x4000 * b + 16 * r

/-! ### Time, free values and the wire -/

/-- The signed difference `a - b` of two CT64 values (R42). -/
def ctDiff (a b : Nat) : Int := (BitVec.ofInt 64 ((a : Int) - b)).toInt

/-- `a + d` as a CT64 value. -/
def ctAdd (a : Nat) (d : Int) : Nat := (BitVec.ofInt 64 ((a : Int) + d)).toNat

/-- Draw a free value. -/
def State.draw (s : State) : BitVec 64 × State := (Config.freeValue s.free, { s with free := s.free + 1 })

/-- Hand something to the wire. -/
def State.send (s : State) (m : OutMsg) : State := { s with tx := s.tx ++ [m] }

/-- Hand several things to the wire, in order. -/
def State.sendAll (s : State) (l : List OutMsg) : State := { s with tx := s.tx ++ l }

/-- An inexact quantity as a report shows it: exact where it is a whole number of codes, else one of the two neighbours. -/
def quantize (x : Rat) : Int := if x.den = 1 then x.num else x.floor + (if Config.roundUp x then 1 else 0)

/-- A rational rounded to the nearest integer, an exact half away from zero (R6). -/
def roundRat (x : Rat) : Int := roundDiv x.num x.den

/-- A rational limited to `lo..hi` (R5). -/
def clampRat (lo hi x : Rat) : Rat := if x < lo then lo else if hi < x then hi else x

/-- One bit step of the reflected CRC-32 (07 R249). -/
def crcBit (c : Word) : Word := if c.getLsbD 0 then (c >>> 1) ^^^ 0xEDB88320#32 else c >>> 1

/-- One byte step of the CRC-32. -/
def crcByte (c : Word) (b : Byte) : Word := Nat.repeat crcBit 8 (c ^^^ b.zeroExtend 32)

/-- The CRC-32 of IEEE 802.3 over bytes (07 R249). -/
def crc32 (l : List Byte) : Word := ~~~ (l.foldl crcByte 0xFFFFFFFF#32)

/-- The bytes of a word, least significant first. -/
def wordBytes (w : Word) : List Byte := (List.range 4).map fun i => (w >>> (8 * i)).truncate 8

/-- The bytes of a 64-bit block, least significant first. -/
def blockBytes (w : Word64) : List Byte := (List.range 8).map fun i => (w >>> (8 * i)).truncate 8

/-! ### Device state codes (15 Table 16) -/
def stOFF : Nat := 0
def stPMU_UP : Nat := 1
def stBOOT : Nat := 2
def stCONFIG : Nat := 3
def stDEFAULT : Nat := 4
def stLINKS : Nat := 5
def stARMED : Nat := 6
def stRUN : Nat := 7
def stDEGRADED : Nat := 8
def stBLOCKED : Nat := 9
def stSAFE : Nat := 10
def stSEALED : Nat := 11
def stTHERMAL : Nat := 12

/-- The device's state code. -/
def State.dev (s : State) : Nat := s.get F.SYS_STATE_STATE

/-- Whether the device's role is ACTIVE. -/
def State.active (s : State) : Bool := s.on F.SYS_STATE_ROLE

end Sys2Proof.Machine
end

