-- ==== Sys2Proof/Machine/HostBase.lean ====
section
/-! DEFINITION. Machine/HostBase.lean: what every block needs of the host port and the links: sending a frame to a flow,
journal records, GUAR messages, and the final response of a command (16_host_commands.md; 09_ring_and_twin.md R331, R357). -/
namespace Sys2Proof.Machine

/-- A flow nothing has happened on. -/
def flowInit : FlowSt :=
  { held := [], taken := [], finals := [], queries := [], event := none, lastEvent := 0, addr := 0, port := .hs0 }

def State.flow (s : State) (f : Nat) : FlowSt := spGet flowInit s.host.flows f
def State.setFlow (s : State) (f : Nat) (v : FlowSt) : State :=
  { s with host := { s.host with flows := spPut flowInit s.host.flows f v } }

/-! ### Sequence numbers (R584) -/

/-- The next number in the ring 1 .. 0xFFFF_FFFF. -/
def seqNext (n : Nat) : Nat := if n = 0xFFFFFFFF then 1 else n + 1

/-- The distance from `a` to `b` in the ring of 2^32 - 1 numbers. -/
def seqDist (a b : Nat) : Nat := (b + (2 ^ 32 - 1) - a % (2 ^ 32 - 1)) % (2 ^ 32 - 1)

/-- Whether `a` is before `n`. -/
def seqBefore (a n : Nat) : Bool := 1 ≤ seqDist a n && seqDist a n ≤ 2 ^ 31 - 1

/-! ### Frames to hosts -/

/-- The byte length of a frame of the protocol (R580). -/
def hostFrameLen (m : OutMsg) : Nat := match m with | .host _ _ _ _ _ _ _ _ _ body => 20 + 4 * body.length | _ => 0

/-- HOST_QSTAT and the queue after a change of the queue (R579). -/
def State.setQueue (s : State) (q : List OutMsg) : State :=
  let s := { s with host := { s.host with queue := q } }
  (s.set F.HOST_QSTAT_QUEUED q.length).set F.HOST_QSTAT_NEXT (match q with | [] => 0 | m :: _ => hostFrameLen m)

/-- Send a frame to a host port: onto Ethernet, or into the QSPI queue of 64 frames, whose overflow discards the newest
frame and sets QOVF (R579). `settle` raises the source when the bit has changed (R612). -/
def State.toHost (s : State) (m : OutMsg) : State :=
  match m with
  | .host .qspi _ _ _ _ _ _ _ _ _ =>
    if s.host.queue.length < 64 then s.setQueue (s.host.queue ++ [m]) else s.flag F.HOST_STAT_QOVF
  | _ => s.send m

/-- The node ID of this device. -/
def State.nodeId (s : State) : Nat := s.get F.RING_CFG_ID

/-- Send a RSP frame for a command: response word, data, FLAGS (R590). -/
def State.respond (s : State) (c : HCmd) (word : Nat) (flags : Nat) (data : List Word) : State :=
  s.toHost (.host c.port c.src 2 c.key.flow c.hseq c.opc c.cls flags s.nodeId (BitVec.ofNat 32 word :: data))

/-- FAILED with a reason and SEQFREE: the number is not consumed (R584, R590). -/
def State.failFree (s : State) (c : HCmd) (reason : Nat) : State := s.respond c (3 + 256 * reason) 2 []

/-! ### GUAR messages (09 R330, R331) -/

/-- The identity of a node (R330). -/
def State.identityOf (s : State) (id : Nat) : Nat := if s.on F.RING_CFG_PAIR then id / 2 * 2 else id

def guarRxInit : GuarRx := { next := 1, held := [], waitN := [], waitJ := [], ackDue := none }

/-- Whether the twin partner is LINKED (09 R348). -/
def State.linked (s : State) : Bool := s.get F.TWIN_STAT_TSTATE == 2

/-- Start an NVM write. -/
def State.nvmStart (s : State) (j : NvmJob) : State :=
  ({ s with nvm := { s.nvm with jobs := s.nvm.jobs ++ [j] } }).flag F.NVM_STAT_BUSY

/-- The parts of a GUAR flow's record and counters in RING_GQ. -/
def State.guarCount (s : State) : State :=
  (s.set F.RING_GQ_UNACK s.ring.gtx.length).set F.RING_GQ_HELD
    (s.ring.grx.foldl (fun n e => n + e.2.held.length) 0)

/-- The frame of the protocol that a GUAR message carries: the 16-byte header, then the body (R602 bounds both). -/
def guarFrame (kind : Nat) (c : HCmd) (node : Nat) (body : List Word) : List Word :=
  [BitVec.ofNat 32 (1 + 256 * kind + 65536 * (4 * body.length)), BitVec.ofNat 32 c.hseq,
   BitVec.ofNat 32 (c.opc + 65536 * c.cls), BitVec.ofNat 32 node] ++ body

/-! ### The journal (R593 to R595) -/

/-- The bytes a record takes (16 Table 5). -/
def JRec.size (r : JRec) : Nat := 28 + 4 * r.body.length

/-- The words of a record without its check word; BLEN counts T and the body (DEDUCED, log 31). -/
def JRec.words (r : JRec) : List Word :=
  [BitVec.ofNat 32 r.pos, BitVec.ofNat 32 (r.kind + 256 * r.flow + 65536 * r.cls + 2 ^ 24 * r.flags), BitVec.ofNat 32 r.seq,
   BitVec.ofNat 32 (r.opc + 65536 * (8 + 4 * r.body.length)), BitVec.ofNat 32 r.t, BitVec.ofNat 32 (r.t / 2 ^ 32)] ++ r.body

/-- The words of a record with its check word (16 Table 5). -/
def JRec.full (r : JRec) : List Word := r.words ++ [crc32 (r.words.flatMap wordBytes)]

/-- Words packed two to a data block, the first in the low half. -/
def pack64 : List Word → List Word64
  | a :: b :: r => (b ++ a) :: pack64 r
  | [a] => [BitVec.zeroExtend 64 a]
  | [] => []

/-- Data blocks unpacked into words. -/
def unpack64 (l : List Word64) : List Word := l.flatMap fun d : Word64 => [d.truncate 32, (d >>> 32).truncate 32]

/-- The newest GUAR records of a journal: kind 4 by destination (field OPC), kind 5 by the ORIG in the body. -/
def JRec.guarFlow (r : JRec) : Nat := if r.kind = 4 then r.opc else (r.body.getD 1 0).toNat

/-- Whether a GUAR record must stay: its message is not covered, its command is not final, or it is the newest of its flow
(09 R331, R333). -/
def State.guarKeeps (s : State) (r : JRec) : Bool :=
  (r.kind != 4 && r.kind != 5) ||
  !(s.host.nvmJ.any fun q => q.kind == r.kind && q.guarFlow == r.guarFlow && seqBefore r.seq q.seq) ||
  (r.kind == 4 && s.ring.gtx.any fun m => m.dst == r.opc && m.seq == r.seq) ||
  (r.kind == 5 && s.host.ringCmds.any fun e => e.cmd.key == ⟨1024 + r.guarFlow, r.seq⟩)

/-- Free the GUAR records that need not stay. -/
def State.freeGuar (s : State) : State :=
  let gone := (s.host.nvmJ.filter (!s.guarKeeps ·)).foldl (fun a r => a + r.size) 0
  ({ s with host := { s.host with nvmJ := s.host.nvmJ.filter s.guarKeeps } }).setRegN R.HOST_JFREE (s.regN R.HOST_JFREE + gone)

/-- A twin frame of this device with the next SEQ, sent while both lanes of the twin port are UP (09 R347; 08 R295). -/
def State.twinSend (s : State) (ftype tspec : Nat) (data : List Word64) : State :=
  if s.get (F.LANE_STAT_LSTATE 60) = 5 && s.get (F.LANE_STAT_LSTATE 61) = 5 && s.on F.TWIN_CFG_EN then
    let f : LinkFrame := { ftype, claim := s.get F.OCL_CLAIM_CLAIM, seq := s.twin.seq, len := data.length, tspec, data, ok := true }
    ({ s with twin := { s.twin with seq := (s.twin.seq + 1) % 256 } }).send (.twin f)
  else s

/-- Whether power fails (14 R512). -/
def State.pfail (s : State) : Bool := s.on F.PMU_STAT_PFAIL

/-- Whether a stepped or queued command is a QUERY of the device's own flows, answered without a record. -/
def HCmd.ownQuery (c : HCmd) : Bool := c.cls == 0 && c.key.flow < 16

/-- Put a record into the NVM journal and start its write; while PFAIL is set no write starts and the record waits (14 R512). -/
def State.nvmRecord (s : State) (r : JRec) (sec : JSec) (jack : Option Nat) : State :=
  if s.pfail then { s with host := { s.host with late := s.host.late ++ [(r, sec)] } }
  else
    (({ s with host := { s.host with nvmJ := s.host.nvmJ ++ [r] } }).setRegN R.HOST_JFREE (s.regN R.HOST_JFREE - r.size)).nvmStart
      (.record sec jack)

/-- The records that go to a LINKED partner: commands and GUAR records of the ACTIVE device, results, and queries for the partner
(09 R357; 16 R600). -/
def State.mirrors (s : State) (kind cls : Nat) : Bool :=
  s.linked && ((s.active && (kind == 1 || kind == 4 || kind == 5)) || kind == 6 || (kind == 1 && cls == 0))

/-- Add a journal record: to the RAM journal or, when `nvm`, to the NVM journal; and in a JRNL frame to a LINKED partner (R357). -/
def State.journal (s : State) (nvm : Bool) (sec : JSec) (kind flow cls flags seq opc : Nat) (body : List Word) : State :=
  let pos := (s.regN R.HOST_JPOS + 1) % 2 ^ 32
  let flags := flags + b2n (s.mirrors kind cls)
  let r : JRec := { pos, kind, flow, cls, flags, seq, opc, t := s.now, body }
  let s := s.setRegN R.HOST_JPOS pos
  let s := if nvm then s.nvmRecord r sec none else { s with host := { s.host with ramJ := s.host.ramJ ++ [r] } }
  if s.mirrors kind cls then
    let d := pack64 r.full
    ({ s with twin := { s.twin with unacked := s.twin.unacked ++ [(pos, sec, d)] } }).twinSend 7 0 d
  else s

/-- Give a message to the GUAR flow toward identity `dst`; it is written to the NVM journal, and to a linked standby, before
it is first sent (09 R331, R333). Its record names `dst` in the field OPC (DESIGN CHOICE, log 30). -/
def State.guarSend (s : State) (dst : Nat) (payload : List Word) : State :=
  let q := spGet 1 s.ring.gnext dst
  let me := s.identityOf s.nodeId
  let m : GMsg := { dst, orig := me, seq := q, payload, nvmWait := true, jackWait := s.linked && s.active, last := none }
  let s := { s with ring := { s.ring with gtx := s.ring.gtx ++ [m], gnext := spPut 1 s.ring.gnext dst (seqNext q) } }
  (s.journal true (.guarSend dst q) 4 15 0 0 q dst ([BitVec.ofNat 32 q, BitVec.ofNat 32 me] ++ payload)).guarCount

/-- Free the records of final commands whose number has left the 256 numbers of R591 (R594). -/
def State.freeJournal (s : State) (f : Nat) : State :=
  let n := s.regN (R.HOST_FLOW_N f)
  let keep (r : JRec) : Bool :=
    r.flow != f || r.kind == 4 || r.kind == 5 || seqDist r.seq n ≤ 256 || (s.flow f).taken.any (·.cmd.key.seq == r.seq)
  let gone := (s.host.nvmJ.filter (!keep ·)).foldl (fun a r => a + r.size) 0
  ({ s with host := { s.host with nvmJ := s.host.nvmJ.filter keep, ramJ := s.host.ramJ.filter keep } }).setRegN R.HOST_JFREE
    (s.regN R.HOST_JFREE + gone)

/-! ### Final responses -/

/-- D of a flow: the lowest number taken in and not final, else N (R584). -/
def State.updateD (s : State) (f : Nat) : State :=
  s.setRegN (R.HOST_FLOW_D f) (match (s.flow f).taken with | r :: _ => r.cmd.key.seq | [] => s.regN (R.HOST_FLOW_N f))

/-- Release the stepped slots of a command (R606). -/
def State.freeSlot (s : State) (k : CmdKey) (opc : Nat) : State :=
  match s.host.ops.find? fun e => e.2.cmd.key == k && e.2.cmd.opc == opc with
  | some (n, _) => ({ s with host := { s.host with ops := s.host.ops.filter (·.1 != n) } }).set (F.HOST_OP_STAT_BUSY n) 0
  | none => s

/-- The FINAL record of a PERSIST command (R595). -/
def State.finalRec (s : State) (flow : Nat) (c : HCmd) (words : List Word) : State :=
  if c.cls = 2 then s.journal true .nothing 3 flow 2 0 c.key.seq c.opc words else s

/-- The final response of a command of the device's own flows (R590, R591, R594, R595): the record leaves the flow's list, the
response is kept, D moves, a PERSIST command gets its FINAL record, and the host is answered unless the record was applied as
STANDBY. -/
def State.finishOwn (s : State) (k : CmdKey) (word : Nat) (data : List Word) : State :=
  let fl := s.flow k.flow
  match fl.taken.find? (·.cmd.key == k) with
  | none => s
  | some r =>
    let fin : HFinal := { seq := k.seq, word := BitVec.ofNat 32 word, data := data.take 4, unmirrored := r.unmirrored }
    let s := s.setFlow k.flow { fl with taken := fl.taken.filter (·.cmd.key != k), finals := (fin :: fl.finals).take 256 }
    let s := (s.updateD k.flow).freeSlot k r.cmd.opc
    let s := s.finalRec k.flow r.cmd (fin.word :: fin.data)
    let s := if r.apply then s else s.respond r.cmd word (b2n r.unmirrored) data
    s.freeJournal k.flow

/-- The final response of a command that the ring delivered: a GUAR message to its origin (R601), unless it was applied as
STANDBY; a PERSIST command gets its FINAL record. -/
def State.finishRing (s : State) (r : HRec) (word : Nat) (data : List Word) : State :=
  let words := BitVec.ofNat 32 word :: data
  let s := (s.finalRec 15 r.cmd (words.take 5)).freeGuar
  if r.apply then s else s.guarSend r.cmd.src (guarFrame 2 r.cmd s.nodeId words)

/-- The final response of a command that the partner sent: a RESULT record (R600), which also makes final the record of it that this
device keeps (R594): in its flow, or as delivered by the ring. -/
def State.finishPartner (s : State) (k : CmdKey) (r : HRec) (word : Nat) (data : List Word) : State :=
  let s := s.journal false .nothing 6 (k.flow - 16) r.cmd.cls 0 k.seq r.cmd.opc (BitVec.ofNat 32 word :: data.take 4)
  if k.flow < 21 then s.finishOwn ⟨k.flow - 16, k.seq⟩ word data
  else
    match s.host.ringCmds.find? fun e => e.partner && e.apply && e.cmd.key.seq == k.seq && e.cmd.opc == r.cmd.opc with
    | some e => ({ s with host := { s.host with ringCmds := s.host.ringCmds.filter (·.cmd.key != e.cmd.key) } }).finishRing e word data
    | none => s

/-- The final response of a taken-in command, by where it came from. -/
def State.finish (s : State) (k : CmdKey) (reason : Nat) (data : List Word) (ok : Bool) : State :=
  let word := if ok then 2 + 256 * reason else 3 + 256 * reason
  if k.flow < 5 then s.finishOwn k word data
  else
    match s.host.ringCmds.find? (·.cmd.key == k) with
    | none => s
    | some r =>
      let s := ({ s with host := { s.host with ringCmds := s.host.ringCmds.filter (·.cmd.key != k) } }).freeSlot k r.cmd.opc
      if k.flow < 1024 then s.finishPartner k r word data else s.finishRing r word data

/-- Finish a command as DONE. -/
def State.done (s : State) (k : CmdKey) (data : List Word) : State := s.finish k 0 data true
/-- Finish a command as FAILED with a reason (16 Table 4). -/
def State.failed (s : State) (k : CmdKey) (reason : Nat) : State := s.finish k reason [] false
/-- The commands that this device executes and that have started (R587). -/
def State.running (s : State) : List HCmd :=
  (((List.range 5).flatMap (fun f => (s.flow f).taken) ++ s.host.ringCmds).filter fun r => r.started && !r.remote && !r.partner).map (·.cmd)

/-- Finish an optional owner's command. -/
def State.doneOpt (s : State) (k : Option CmdKey) (data : List Word) : State := match k with | some k => s.done k data | none => s
def State.failedOpt (s : State) (k : Option CmdKey) (reason : Nat) : State := match k with | some k => s.failed k reason | none => s

end Sys2Proof.Machine
end

