-- ==== Sys2Proof/Machine/Moves.lean ====
section
/-! DEFINITION. Machine/Moves.lean: raising a fault source, its reaction, the capture, and the moves of the device between
states that a stopping cause makes (15_faults_reset_startup.md R541 to R555; 01_stack_and_pods.md R31 to R36; 03 R676). -/
namespace Sys2Proof.Machine

/-- Hardware without an access, naming an address or index. -/
def hw (addr : Nat) : Acc := ⟨7, 0, addr⟩

/-- A write by a master. -/
def wr (m : Master) (addr : Nat) : Acc := ⟨m.code, 2, addr⟩

/-- A read by a master. -/
def rd (m : Master) (addr : Nat) : Acc := ⟨m.code, 1, addr⟩

/-! ### Source words and captures (R543, R545) -/

def srcKey (q : Src) : Nat := 64 * q.blk + q.idx

/-- The source word after reset (Table 4). -/
def srcWord0 (q : Src) : SrcWord :=
  match (srcDefs q.blk)[q.idx]? with
  | some d => { pend := false, ie := true, rlvl := 0, react := d.react }
  | none => { pend := false, ie := false, rlvl := 0, react := 0 }

def State.src (s : State) (q : Src) : SrcWord := spGet (srcWord0 q) s.faults.src (srcKey q)
def State.setSrc (s : State) (q : Src) (w : SrcWord) : State :=
  { s with faults := { s.faults with src := spPut (srcWord0 q) s.faults.src (srcKey q) w } }

def cap0 : Capture := { valid := false, master := 0, acc := 0, merge := 0, src := 0, addr := 0, stamp := 0, types := 0 }
def State.cap (s : State) (b : Nat) : Capture := spGet cap0 s.faults.cap b
def State.setCap (s : State) (b : Nat) (c : Capture) : State :=
  { s with faults := { s.faults with cap := spPut cap0 s.faults.cap b c } }

/-- Fill the capture, or merge into it (R545). -/
def Capture.take (c : Capture) (i : Nat) (a : Acc) (now : Nat) : Capture :=
  if c.valid then { c with merge := min (c.merge + 1) 1023, types := c.types ||| 2 ^ i }
  else { valid := true, master := a.master, acc := a.acc, merge := 0, src := i, addr := a.addr, stamp := now, types := 2 ^ i }

/-- The sources of a block. -/
def srcsOf (b : Nat) : List Src := (List.range (srcDefs b).length).map fun i => ⟨b, i⟩

/-- All sources of the device, in the order of R51. -/
def allSrcs : List Src := (List.range 24).flatMap srcsOf

/-- The pending sources of a block. -/
def State.pendSrcs (s : State) (b : Nat) : List Src := (srcsOf b).filter fun q => (s.src q).pend

/-- The interrupt request of a block (R547). -/
def State.irqOf (s : State) (b : Nat) : Bool := (srcsOf b).any fun q => (s.src q).pend && (s.src q).ie && 2 ≤ (s.src q).rlvl

/-- SYS_IRQSRC (R547). -/
def State.irqSrc (s : State) : Nat := (List.range 24).foldl (fun n b => if s.irqOf b then n + 2 ^ b else n) 0

/-- The highest RLVL pending anywhere (SYS_REACT.LEVEL). -/
def State.level (s : State) : Nat := allSrcs.foldl (fun n q => if (s.src q).pend then max n (s.src q).rlvl else n) 0

/-- SYS_REACT as it reads (15 Table 14). -/
def State.reactWord (s : State) : Nat :=
  2 ^ 24 * s.level + (match s.sys.cause with | some q => 2 ^ 31 + 2 ^ 16 * q.blk + q.idx | none => 0)

/-! ### Local outputs (R551) -/

/-- The local output that a capture address names (Table 7): a channel (cell channel 8 n + c; local pair i 448 + i; auxiliary
leg 464 + i), a cell lane, an auxiliary channel; none where the address names none. -/
def localOut (b a : Nat) : Option Nat :=
  if b = B.MOD then
    if 0x12000000 ≤ a ∧ a < 0x12007000 then some ((a - 0x12000000) / 0x40)
    else if 0x12010000 ≤ a ∧ a < 0x12010640 then some (448 + (a - 0x12010000) / 0x40) else none
  else if b = B.OCL then if 0x13101000 ≤ a ∧ a < 0x13101E00 then some ((a - 0x13101000) / 0x40) else none
  else if b = B.AXD then if 0x15000100 ≤ a ∧ a < 0x15000400 then some ((a - 0x15000100) / 0x100) else none
  else none

/-- Whether a block has local outputs (Table 7). -/
def hasLocal (b : Nat) : Bool := b == B.MOD || b == B.OCL || b == B.AXD

/-- Whether BLOCK_LOCAL holds output `o` of block `b`. -/
def State.heldOut (s : State) (b o : Nat) : Bool :=
  s.faults.held.any fun e => e.1 == b && (e.2.2 == none || e.2.2 == some o)

/-! ### Moves of the device (01 Table 6) -/

/-- Set the device's state. -/
def State.setDev (s : State) (st : Nat) : State := s.set F.SYS_STATE_STATE st

/-- Whether a stopping state may be entered from `cur` (01 Table 6, R35). -/
def stopAllowed (cur target : Nat) : Bool :=
  if target = stBLOCKED then cur == stARMED || cur == stRUN || cur == stDEGRADED
  else if target = stSAFE then stLINKS ≤ cur && cur ≤ stBLOCKED
  else if target = stTHERMAL then stBOOT ≤ cur && cur ≤ stSAFE
  else if target = stSEALED then stBOOT ≤ cur && cur != stSEALED
  else false

/-! ### Bank swaps and mode requests (05 R185 to R191, R208 to R213) -/

/-- p (03 R118). -/
def State.pcnt (s : State) : Nat := s.reg64 R.ENG_PCNT_LO

/-- The pending swap exchanges the banks it names; the verified marks go with the banks (R208, R210). -/
def State.exchangeBanks (s : State) : State :=
  let sel := s.get F.ALM_SWAP_SEL
  let one (i : Nat) (bank ver : Fld) (s : State) : State :=
    if sel.testBit i then
      let old := s.eng.actVer
      let s := { s with eng := { s.eng with actVer := old - (if old.testBit i then 2 ^ i else 0) + s.get ver * 2 ^ i } }
      (s.set bank (1 - s.get bank)).setB ver (old.testBit i)
    else s
  let s := one 1 F.ENG_STAT_ABANK F.ALM_SWAP_VERA (one 0 F.ENG_STAT_PBANK F.ALM_SWAP_VERP s)
  let k := s.eng.swapOwner
  let s := { s with eng := { s.eng with swapOwner := none, swapRipe := false, budOk := true } }
  let s := ((s.set F.ALM_SWAP_PEND 0).set F.ALM_SWAP_ATP 0).set F.ALM_SWAP_SEL 0
  (s.flag F.ALM_STAT_SWAPPED).doneOpt k [BitVec.ofNat 32 s.pcnt, BitVec.ofNat 32 (s.pcnt / 2 ^ 32)]

/-- Whether a mode is defined (R184). -/
def State.modeDefined (s : State) (m : Nat) : Bool := s.fbit F.ALM_MCFG_DEF m

/-- A mode becomes current while the Helm is stopped (R191). -/
def State.modeStopped (s : State) (m : Nat) (owner : Option CmdKey) : State :=
  (((s.set F.ALM_MODE_PEND 0).set F.ALM_MODE_NEXT m).set F.ALM_MODE_CUR m).doneOpt owner []

/-- What waits for a boundary when the Helm stops takes effect then: a swap (R213) and a request for a defined mode
(R191). -/
def State.settleStopped (s : State) : State :=
  let s := if s.on F.ALM_SWAP_PEND then s.exchangeBanks else s
  let k := s.eng.modeTaken
  let next := s.eng.modeNext
  let s := { s with eng := { s.eng with modeNext := none, modeTaken := none, entryDue := false } }
  let s := match next with
    | some m => s.modeStopped m k
    | none => s.doneOpt k []
  if s.on F.ALM_MODE_PEND && s.modeDefined (s.get F.ALM_MODE_NEXT) then
    let k := s.eng.modeOwner
    ({ s with eng := { s.eng with modeOwner := none } }).modeStopped (s.get F.ALM_MODE_NEXT) k
  else s

/-- The Helm stops in this tick (R676). -/
def State.helmStop (s : State) : State :=
  if s.get F.ENG_STAT_ESTATE = 0 then s
  else (({ s with eng := { s.eng with pend := [], vOpen := none, wV := 0, wS := 0, ladle := [], armed := 0, slot := [],
                                      blocks := [], doneBlks := 0 } }).set F.ENG_STAT_ESTATE 0).settleStopped

/-- Cancel the pending move: the commands that asked for it are answered FAILED, RUN with RUNCOND and the others with STATE
(R36). -/
def State.cancelMove (s : State) : State :=
  match s.sys.move with
  | none => s
  | some m =>
    let s := { s with sys := { s.sys with move := none } }
    m.owners.foldl (fun s k => s.failed k (if m.target = stRUN then 0x29 else 0x01)) s

/-- YIELD with a cause to a linked partner (R359); the coding of the causes is free (DESIGN CHOICE, log 2). The causes count from 0 in the
order of R359: SEAL, THERMAL, RESET, watchdog, PROOF_SWAP. -/
def State.yield (s : State) (cause : Nat) : State :=
  if s.active && s.linked then (s.twinSend 0xB 0 [Config.yieldCause cause]).flag F.TWIN_STAT_YIELDED else s

/-- The actions of entry to SEALED or THERMAL beside those of BLOCKED and SAFE: the Helm stops (R676) and the ring bypass
outputs are released (01 Table 5). -/
def State.stopDeep (s : State) : State := ((s.helmStop).set F.RING_STAT_BYPE 0).set F.RING_STAT_BYPW 0

/-- A stopping cause acts (R31, R32, R36): where the table allows the move it cancels a pending move and the device enters the
state in this tick; SYS_REACT names the source that caused it. Elsewhere nothing changes (R552). -/
def State.enterStop (s : State) (target : Nat) (cause : Option Src) : State :=
  if stopAllowed s.dev target then
    let s := s.cancelMove.setDev target
    let s := { s with sys := { s.sys with cause := cause } }
    if target = stSEALED then (({ s with sys := { s.sys with sealL := true, sealA := true } }).yield 0).stopDeep
    else if target = stTHERMAL then s.stopDeep else s
  else s

/-- Hold the local outputs that a raise names (R551). -/
def State.holdLocal (s : State) (q : Src) (a : Acc) : State :=
  if hasLocal q.blk then
    let e := (q.blk, q.idx, localOut q.blk a.addr)
    if s.faults.held.contains e then s else { s with faults := { s.faults with held := s.faults.held ++ [e] } }
  else s

/-- Apply a reaction; each includes those before it (R550). -/
def State.applyReact (s : State) (q : Src) (a : Acc) (r : Nat) : State :=
  let s := if 3 ≤ r then s.holdLocal q a else s
  if r = 4 then s.enterStop stBLOCKED (some q)
  else if r = 5 then s.enterStop stSAFE (some q)
  else if r = 6 then s.enterStop stSEALED (some q) else s

/-- The raises of this tick so far. -/
def State.recent (s : State) : List (Src × Acc) := if s.faults.recentAt = s.now then s.faults.recent else []

/-- Note a raise of this tick. -/
def State.noteRaise (s : State) (q : Src) (a : Acc) : State :=
  { s with faults := { s.faults with recent := s.recent ++ [(q, a)], recentAt := s.now } }

/-- Where `bus.rcPrev` keeps the REACT that a source had at the start of the tick in which it is written (R544). -/
def reactKey (q : Src) : Nat := 2 ^ 40 + srcKey q

/-- REACT of a source at the start of this tick (R544). -/
def State.reactNow (s : State) (q : Src) : Nat :=
  if s.bus.freshAt = s.now then (spGet (BitVec.ofNat 32 (s.src q).react) s.bus.rcPrev (reactKey q)).toNat else (s.src q).react

/-- Note REACT before its first write of the tick. -/
def State.noteReact (s : State) (q : Src) : State :=
  let s := s.mark (reactKey q) 0
  { s with bus := { s.bus with rcPrev := spIns s.bus.rcPrev (reactKey q) (BitVec.ofNat 32 (s.reactNow q)) } }

/-- Raise a fault source (R544). -/
def State.raise (s : State) (q : Src) (a : Acc) : State :=
  let w := s.src q
  let r := s.reactNow q
  if r = 0 then s
  else
    let s := s.noteRaise q a
    let s := s.setSrc q { w with pend := true, rlvl := max w.rlvl r }
    let s := s.setCap q.blk ((s.cap q.blk).take q.idx a s.now)
    s.applyReact q a r

/-- Set a status bit and raise its source. -/
def State.fault (s : State) (f : Fld) (q : Src) (a : Acc) : State := (s.flag f).raise q a

/-- Set a status bit; its source is raised when the bit changes from clear to set. -/
def State.faultNew (s : State) (f : Fld) (q : Src) (a : Acc) : State := if s.on f then s else (s.flag f).raise q a

/-- Set bit `i` of a status field; its source is raised when the bit changes from clear to set. -/
def State.faultBit (s : State) (f : Fld) (i : Nat) (q : Src) (a : Acc) : State :=
  if s.fbit f i then s else (s.setFbit f i true).raise q a

/-! ### Entries to ARMED, LINKS and the other states -/

/-- The first pending source with the RLVL given, in the order of R51. -/
def State.pendingAt (s : State) (lvl : Nat) : Option Src := allSrcs.find? fun q => (s.src q).pend && (s.src q).rlvl == lvl

/-- Whether a source holds RELEASE (R553). -/
def State.activeSource (s : State) : Bool := allSrcs.any fun q => (s.src q).pend && 4 ≤ (s.src q).rlvl

/-- Leave the stopping states: SYS_REACT names no source. -/
def State.clearCause (s : State) : State := { s with sys := { s.sys with cause := none } }

/-- Enter LINKS; a pending SAFE source moves on to SAFE in the same tick (R552). -/
def State.enterLinks (s : State) : State :=
  let s := (s.setDev stLINKS).clearCause
  match s.pendingAt 5 with | some q => s.enterStop stSAFE (some q) | none => s

/-- Enter ARMED at a boundary for commands or automatically; a pending BLOCK_STACK source moves on to BLOCKED, and a
command is answered FAILED ACTIVESRC (R36, R552), else DONE. -/
def State.enterArmed (s : State) (owners : List CmdKey) : State :=
  let s := (s.setDev stARMED).clearCause
  match s.pendingAt 4 with
  | some q => owners.foldl (fun s k => s.failed k 0x2A) (s.enterStop stBLOCKED (some q))
  | none => owners.foldl (fun s k => s.done k []) s

/-- Whether any enabled cell reports its bypass closed (R31). -/
def State.bypassSeen (s : State) : Bool :=
  (s.regN R.OCL_BYP_LO &&& s.regN R.OCL_EN_LO) != 0 || (s.regN R.OCL_BYP_HI &&& s.regN R.OCL_EN_HI) != 0

end Sys2Proof.Machine
end

