-- ==== Sys2Proof/Machine/Pins.lean ====
section
/-! DEFINITION. Machine/Pins.lean: the trip matrix (11 R425 to R427) and what stands at the local pairs, the gates of the
auxiliary stages and the brake output (01 Table 5; 06 R242, R244; 12 R440 to R443, R466). -/
namespace Sys2Proof.Machine

/-! ### The trip matrix -/

/-- The selectable sources that are set: comparator latches 0 to 23, TRIPIN latches 24 to 31 (R425). -/
def State.tripSources (s : State) : Nat := s.get F.CMP_LATCH_L + 2 ^ 24 * s.get F.TRIP_TLATCH_L

/-- The fixed source SAFETY. -/
def State.safetySrc (s : State) : Bool := s.dev == stSAFE || s.dev == stSEALED

/-- The fixed source THERM. -/
def State.thermSrc (s : State) : Bool := s.sys.offL || s.sys.offA || s.dev == stTHERMAL

/-- Whether target `t` is tripped (R426). -/
def State.tripped (s : State) (t : Nat) : Bool :=
  (s.regN (R.TRIP_MASK t) &&& s.tripSources) != 0 || s.safetySrc || s.thermSrc

/-- TRIP_ACT (11 Table 9). -/
def State.tripAct (s : State) : Nat :=
  (List.range 20).foldl (fun n t => if s.tripped t then n + 2 ^ t else n) 0
    + (if s.thermSrc then 2 ^ 30 else 0) + (if s.safetySrc then 2 ^ 31 else 0)

/-- The lanes of group `g`, by bit. -/
def State.cgLanes (s : State) (g : Nat) : Nat := s.reg64 (R.TRIP_CG_LO g)

/-- Whether a tripped target covers a cell lane (R427). -/
def State.laneTripped (s : State) (l : Nat) : Bool := (List.range 8).any fun g => s.tripped (12 + g) && (s.cgLanes g).testBit l

/-! ### Channels -/

/-- The register index of a channel: the channel block of channel `c` lies at 0x12000000 + 0x40 × `ri c` (06 Table 1). -/
def ri (c : Nat) : Nat := if c < 448 then c else c + 576

/-- The channels by number: cells, local pairs, auxiliary legs. -/
def allChans : List Nat := List.range 456 ++ (List.range 9).map (464 + ·)

/-- The channels of the local outputs, by output 0 to 16. -/
def localChan (j : Nat) : Nat := if j < 8 then 448 + j else 456 + j

def refr0 : RefrSt := { b := 0, lOn := none, h := false, l := false, sh := false, sl := false, cur := none }

/-- A channel after reset: the active PERIOD is 0x4000 (06 Table 4). -/
def ch0 : ChSt :=
  { staged := [], tgt := [0, 0, 0], act := [0x4000, 0, 0, 0, 0, 0, 0], starting := false, firstLoad := false, inGrid := false, n := 0,
    g := 0, len := 0, raw := [], late := [], err := 0, lvl := false, off := true, last := none, pend := none, endH := false,
    endL := false, startH := false, startL := false, edges := [], sched := [], grid := [], refr := refr0 }

def State.chan (s : State) (c : Nat) : ChSt := spGet ch0 s.mod.ch c
def State.setChan (s : State) (c : Nat) (x : ChSt) : State := { s with mod := { s.mod with ch := spPut ch0 s.mod.ch c x } }

/-- Bit `n` of a number set to `b`. -/
def putBit (x n : Nat) (b : Bool) : Nat := if b then x ||| 2 ^ n else if x.testBit n then x - 2 ^ n else x

/-! ### Local outputs -/

/-- Whether the device's state lets local channels run (R242). -/
def runState (d : Nat) : Bool := d == stARMED || d == stRUN || d == stDEGRADED

/-- The trip target of local output `j`: pairs 0 to 7, then the auxiliary channels 8 to 10. -/
def targetOf (j : Nat) : Nat := if j < 8 then j else 8 + (j - 8) / 3

/-- Whether a trip or BLOCK_LOCAL holds local output `j` (06 R244, 15 Table 7). -/
def State.overridden (s : State) (j : Nat) : Bool := s.tripped (targetOf j) || s.heldOut B.MOD (localChan j)

/-- Whether the gate signals of local output `j` drive its pins (R242, R244). -/
def State.drives (s : State) (j : Nat) : Bool :=
  s.mod.run.testBit j && runState s.dev && !s.overridden j && !s.mod.wait.testBit j && s.get F.SEXT_STAT_STATE != 0

/-- The safe state of one side of local output `j`. -/
def State.safeOf (s : State) (j : Nat) (high : Bool) : Nat :=
  if high then s.get (F.MOD_CFG_SAFEH (ri (localChan j))) else s.get (F.MOD_CFG_SAFEL (ri (localChan j)))

/-- The level at a pin of local pair `j`: 0 off, 1 on, 2 high-impedance (01 Table 5). -/
def State.pairPin (s : State) (j : Nat) (high : Bool) : Nat :=
  if s.dev = stOFF || s.dev = stPMU_UP then 2
  else if s.dev = stBOOT || s.dev = stDEFAULT || s.dev = stTHERMAL then 0
  else if s.drives j then b2n ((if high then s.mod.sigH else s.mod.sigL).testBit j)
  else s.safeOf j high

/-! ### Auxiliary gates (12 Table 3) -/

/-- Whether input `i` of channel `a` is on (R433). -/
def State.auxIn (s : State) (a i : Nat) : Bool := s.axd.pins.testBit (6 * a + i) != s.on (F.AXD_CHCFG_INPOL a)

/-- The requests of leg `k` by the levels of Table 3 from level 4 down. -/
def State.legReq (s : State) (k : Nat) (high : Bool) : Bool :=
  let a := k / 3
  let pinsSrc := s.on (F.AXD_CHCFG_SRC a)
  let free := if pinsSrc then runState s.dev && !s.overridden (8 + k) else s.drives (8 + k)
  if !free then s.safeOf (8 + k) high == 1
  else
    let sig := if pinsSrc then s.auxIn a (2 * (k % 3) + (if high then 0 else 1)) else (if high then s.mod.sigH else s.mod.sigL).testBit (8 + k)
    if high then sig && !s.axd.hOff.testBit k else sig || s.axd.refresh.testBit k

/-- Whether a level above 4 holds all gates of channel `a` off (R443). -/
def State.gatesHeld (s : State) (a : Nat) : Bool :=
  s.axd.soft.testBit a || !s.on (F.AXD_CHSTAT_GSW a) || s.axd.hold.testBit a || s.axd.vgdLow || s.on (F.AXD_CHSTAT_FAULT a)
    || s.on (F.AXD_CHSTAT_DIAG a)

/-- The gate of one side of leg `k`, after the interlock (R441). -/
def State.gateOf (s : State) (k : Nat) (high : Bool) : Bool :=
  !s.gatesHeld (k / 3) && s.legReq k high && !s.legReq k (!high)

/-- Whether both inputs of a leg request on (R441). -/
def State.bothOn (s : State) (k : Nat) : Bool := !s.gatesHeld (k / 3) && s.legReq k true && s.legReq k false

/-- The temperature band of the analog die in force. -/
def State.bandA (s : State) : Nat := s.get F.THERM_BAND_ANA

/-- The dead-time floor of channel `a` in the band in force, in common ticks (R441). -/
def State.floorOf (s : State) (a : Nat) : Nat :=
  match s.bandA with
  | 0 => s.get (F.AXD_BAND0_DTFLOOR a)
  | 1 => s.get (F.AXD_BAND1_DTFLOOR a)
  | 2 => s.get (F.AXD_BAND2_DTFLOOR a)
  | _ => s.get (F.AXD_BAND3_DTFLOOR a)

/-! ### Refreshing the pins -/

/-- An output of a channel moves at `t`. -/
def State.edgeOut (s : State) (c : Nat) (high : Bool) (level : Nat) (t : Nat) : State := s.send (.edge c high level t)

/-- One pin of a local pair takes its level at `t`. -/
def State.pairAt (s : State) (t j : Nat) (high : Bool) : State :=
  let i := 2 * j + (if high then 0 else 1)
  let p := s.pairPin j high
  if spGet 0 s.mod.pins i = p then s
  else ({ s with mod := { s.mod with pins := spPut 0 s.mod.pins i p } }).edgeOut (localChan j) high p t

/-- One gate of a leg takes its level at `t`; it turns on no earlier than the floor after its complement began to turn off
(R441). -/
def State.gateAt (s : State) (t k : Nat) (high : Bool) : State :=
  let i := 2 * k + (if high then 0 else 1)
  let o := 2 * k + (if high then 1 else 0)
  let on := s.gateOf k high
  if s.axd.gates.testBit i = on then s
  else
    let s := { s with axd := { s.axd with gates := putBit s.axd.gates i on } }
    if on then s.edgeOut (464 + k) high 1 (max t (spGet 0 s.axd.offAt o + 16 * s.floorOf (k / 3)))
    else ({ s with axd := { s.axd with offAt := spPut 0 s.axd.offAt i t } }).edgeOut (464 + k) high 0 t

/-- Note what an override leaves to wait for the next grid point (06 R244; 12 R439, R458). -/
def State.noteWait (s : State) : State :=
  let w := (List.range 17).foldl (fun w j =>
    if s.overridden j || (8 ≤ j && (s.axd.hold.testBit ((j - 8) / 3) || !s.on (F.AXD_CHSTAT_GSW ((j - 8) / 3))
        || s.on (F.AXD_CHSTAT_FAULT ((j - 8) / 3)))) then w ||| 2 ^ j else w) s.mod.wait
  { s with mod := { s.mod with wait := w } }

/-- Whether BRK is on (01 Table 5, 12 R463 to R466). -/
def State.brkDue (s : State) : Bool :=
  if s.axd.vgdLow || s.dev = stOFF || s.dev = stPMU_UP || s.dev = stBOOT || s.dev = stDEFAULT || s.dev = stTHERMAL then false
  else if s.tripped 11 || !runState s.dev then s.on F.TRIP_CFG_BRKSAFE
  else s.on F.AXD_BRKCFG_EN && s.axd.brkReq && !s.axd.brkCut

/-- BRK takes its level; a turn-on counts (12 Table 7). -/
def State.brkAt (s : State) : State :=
  let on := s.brkDue
  if s.on F.AXD_VM_BRK = on then s else let s := s.setB F.AXD_VM_BRK on; if on then s.count R.AXD_BRKCNT 1 else s

/-- Every local pin, gate and BRK takes its level at `t`. -/
def State.pinsAt (s : State) (t : Nat) : State :=
  let s := s.noteWait.brkAt
  let s := (List.range 8).foldl (fun s j => (s.pairAt t j true).pairAt t j false) s
  (List.range 9).foldl (fun s k =>
    let s := if s.bothOn k then s.faultNew (F.AXD_CHSTAT_INTLK (k / 3)) Q.AXD_INTLK (hw (0x15000100 + 0x100 * (k / 3))) else s
    if s.gateOf k true then (s.gateAt t k false).gateAt t k true else (s.gateAt t k true).gateAt t k false) s

end Sys2Proof.Machine
end

