-- ==== Sys2Proof/Machine/OclBase.lean ====
section
/-! DEFINITION. Machine/OclBase.lean: what the device sends on the cell lanes: the wire of a lane, the commands, the states of the
negotiation and the TRIP bursts (07_cell_link.md R247 to R285). -/
namespace Sys2Proof.Machine

/-! ### Lane states (Table 15) -/
def loOFF : Nat := 0
def loDOWN : Nat := 1
def loQUERY : Nat := 2
def loCONFIG : Nat := 3
def loTSYNC : Nat := 4
def loREADY : Nat := 5
def loFAIL : Nat := 6

def lane0 : OclLane :=
  { seq := 0, rxSeq := none, capSends := 0, cfg := [], tseq := 0, t1 := none, dAcc := [], dRej := [], dRun := 0, followRun := 0,
    perClaim := none, cmd := none, hostWait := none, commanded := false, held := 0, samples := [], cur := none, queue := [],
    burstEnd := 0 }

def State.lane (s : State) (l : Nat) : OclLane := spGet lane0 s.ocl.lanes l
def State.setLane (s : State) (l : Nat) (x : OclLane) : State :=
  { s with ocl := { s.ocl with lanes := spPut lane0 s.ocl.lanes l x } }
/-- The link state of a lane. -/
def State.ostate (s : State) (l : Nat) : Nat := s.get (F.OCL_LSTATE_STATE l)

/-- The register base of a lane, as captures name it (R287). -/
def oclBase (l : Nat) : Nat := 0x13101000 + 0x40 * l

/-- Set a bit of OCL_LSTAT; its source is raised when the bit changes from clear to set (R287). -/
def State.oclFault (s : State) (l : Nat) (f : Nat → Fld) (q : Src) : State := s.faultNew (f l) q (hw (oclBase l))

/-- Bit `l` of a pair of registers. -/
def State.pairBit (s : State) (lo : Nat) (l : Nat) : Bool := (s.regN (lo + 4 * (l / 32))).testBit (l % 32)
def State.setPairBit (s : State) (lo : Nat) (l : Nat) (b : Bool) : State :=
  s.setRegN (lo + 4 * (l / 32)) (putBit (s.regN (lo + 4 * (l / 32))) (l % 32) b)

/-- Whether a serial lane is block-locked: UP (08 R298). -/
def State.laneLocked (s : State) (l : Nat) : Bool := s.get (F.LANE_STAT_LSTATE l) == 5

/-- Whether the device sends on its cell lanes (01 Table 5; R256). -/
def State.oclSends (s : State) : Bool := stLINKS ≤ s.dev && s.dev ≤ stSAFE

/-! ### The wire of a lane -/

/-- T_blk in parts of 2.5 ps, by LANE_CFG.RATE (Table 2). -/
def tblkOf (rate : Nat) : Nat := if rate = 0 then 21120 else if rate = 1 then 10560 else 8448
def State.tblk (s : State) (l : Nat) : Nat := tblkOf (s.get (F.LANE_CFG_RATE l))

/-- The time `n` blocks take on a lane, in CT64 rounded up. -/
def State.blocksTime (s : State) (l n : Nat) : Nat := (n * s.tblk l + 124) / 125

/-- The deadline tick that comes next while the grid runs (R283). -/
def State.nextDeadline (s : State) : Nat :=
  let lead : Int := 16 * s.get F.ENG_TIMING_T_LEAD
  let d := ctAdd s.sext.b1 (-lead)
  if 0 < ctDiff d s.now then d else ctAdd s.sext.b2 (-lead)

/-- Whether the period grid runs (02 R80). -/
def State.gridRuns (s : State) : Bool := s.get F.SEXT_STAT_STATE != 0 && s.sext.begun

/-- Whether a TIME or CMD frame started now ends before the next deadline tick (R283). -/
def State.fits (s : State) (l len : Nat) : Bool :=
  !s.gridRuns || 0 < ctDiff s.nextDeadline (s.now + s.blocksTime l (len + 2))

/-- Whether a lane's wire is busy with a frame or a TRIP burst. -/
def State.laneBusy (s : State) (l : Nat) : Bool :=
  (match (s.lane l).cur with | some (_, t) => 0 < ctDiff t s.now | none => false) || 0 < ctDiff (s.lane l).burstEnd s.now

/-- Start a frame on the wire. A TIME frame takes T1 now, with the lane's correction (R263, 08 R309). -/
def State.wire (s : State) (l : Nat) (f : LinkFrame) : State :=
  let x := s.lane l
  let t := ctAdd s.now (signedOf 16 (s.get (F.LANE_TSOFS_TX l)))
  let f := if f.ftype = 1 then { f with data := BitVec.ofNat 64 t :: f.data.tail } else f
  let x := { x with cur := some (f, s.now + s.blocksTime l (f.len + 2)), t1 := if f.ftype = 1 then some t else x.t1 }
  (s.setLane l x).send (.cell l f)

/-- A new frame of a lane with the next SEQ (R251). -/
def State.newFrame (s : State) (l ftype tspec : Nat) (data : List Word64) : LinkFrame × State :=
  let x := s.lane l
  ({ ftype, claim := s.get F.OCL_CLAIM_CLAIM, seq := x.seq, len := data.length, tspec, data, ok := true },
   s.setLane l { x with seq := (x.seq + 1) % 256 })

/-- The frame of the outstanding command (R280): it keeps its SEQ. -/
def State.cmdFrame (s : State) (c : OclCmd) : LinkFrame :=
  { ftype := 3, claim := s.get F.OCL_CLAIM_CLAIM, seq := c.seq, len := c.data.length, tspec := c.opc, data := c.data, ok := true }

/-- An idle lane goes on with the frames that wait for it, then with a command that is due (R283). A TIME frame that no longer
fits before the deadline is not sent. -/
def State.lanePump (s : State) (l : Nat) : State :=
  if s.laneBusy l || !s.laneLocked l || !s.oclSends then s
  else
    let x := s.lane l
    match x.queue with
    | f :: r =>
      let s := s.setLane l { x with queue := r }
      if f.ftype = 1 && !s.fits l f.len then s else s.wire l f
    | [] =>
      match x.cmd with
      | some c =>
        if c.due && s.fits l c.data.length then
          (s.setLane l { x with cmd := some { c with due := false, sends := c.sends + 1 } }).wire l (s.cmdFrame c)
        else s
      | none => s

/-- All lanes go on with what waits (in every tick). -/
def State.oclPump (s : State) : State := s.ocl.lanes.foldl (fun s e => s.lanePump e.1) s

/-- Put a frame on a lane: now, or behind what is on the wire. -/
def State.laneSend (s : State) (l : Nat) (f : LinkFrame) : State :=
  (s.setLane l { s.lane l with queue := (s.lane l).queue ++ [f] }).lanePump l

/-- A TIME frame (Table 6, R264). -/
def State.sendTime (s : State) (l : Nat) : State :=
  let x := s.lane l
  let ddn := BitVec.ofNat 64 (s.get (F.OCL_LDELAY_DDN l))
  let s := s.setLane l { x with tseq := (x.tseq + 1) % 256 }
  let (f, s) := s.newFrame l 1 x.tseq [0, ddn]
  s.laneSend l f

/-- A KEEP frame (Table 7). -/
def State.sendKeep (s : State) (l anchor wlen : Nat) : State :=
  let (f, s) := s.newFrame l 4 0 [BitVec.ofNat 64 anchor, BitVec.ofNat 64 (wlen % 2 ^ 24 * 2 ^ 40)]
  s.laneSend l f

/-! ### Commands (R253, R279, R280) -/

/-- LEN of a CMD by its opcode; none for a reserved one (Table 8). -/
def cmdLen (opc : Nat) : Option Nat :=
  if opc = 1 then some 1 else if opc = 2 then some 4 else if 3 ≤ opc ∧ opc ≤ 5 then some 0
  else if opc = 6 ∨ opc = 7 then some 1 else if opc = 8 then some 0 else none

/-- A safe level as the SAFE field carries it: 0b10 as off (R253). -/
def safeBit (v : Nat) : Nat := b2n (v == 1)

/-- The data blocks of SETCFG for a lane (Table 9). -/
def State.setcfgData (s : State) (l : Nat) : List Word64 :=
  let safe := (List.range 8).foldl (fun n c =>
    n + 4 ^ c * (safeBit (s.get (F.MOD_CFG_SAFEH (8 * l + c))) + 2 * safeBit (s.get (F.MOD_CFG_SAFEL (8 * l + c))))) 0
  let b0 := s.get (F.OCL_LVB_DTMIN l) * 2 ^ 40 + s.get (F.OCL_LVB_VBYP l) * 2 ^ 24 + s.get (F.OCL_LCFG_VBSRC l) * 2 ^ 18
    + s.get (F.OCL_LCFG_LLBYP l) * 2 ^ 17 + s.get F.OCL_INMAP_S % 32 * 2 ^ 12 + s.get F.OCL_INMAP_F * 2 ^ 8 + s.get (F.OCL_LSTATE_VER l)
  let two (i : Nat) := s.regN (R.OCL_SMPOFS (2 * i)) + 2 ^ 32 * s.regN (R.OCL_SMPOFS (2 * i + 1))
  [BitVec.ofNat 64 b0, BitVec.ofNat 64 safe, BitVec.ofNat 64 (two 0), BitVec.ofNat 64 (two 1)]

/-- Issue a command: it takes the next SEQ and goes out when it can. -/
def State.issueCmd (s : State) (l opc src : Nat) (data : List Word64) : State :=
  let x := s.lane l
  let c : OclCmd := { opc, seq := x.seq, data, sends := 0, src, due := true }
  let x := { x with seq := (x.seq + 1) % 256, cmd := some c, held := if opc = 3 then 1 else x.held, cfg := if opc = 2 then data else x.cfg }
  (s.setLane l x).lanePump l

/-- A host command ends FAILED (R280). -/
def State.lcmdFailed (s : State) : State := ((s.set F.OCL_LCMDST_BUSY 0).flag F.OCL_LCMDST_FAILED)

/-- An outstanding command fails (R280). -/
def State.cmdFail (s : State) (l : Nat) (c : OclCmd) : State :=
  let s := (s.setLane l { s.lane l with cmd := none }).oclFault l F.OCL_LSTAT_CMDFAIL Q.OCL_CMDFAIL
  if c.src = 1 then s.lcmdFailed else s

/-- A lane with no command outstanding issues a SETCFG whose sources have changed in READY, else the host's that waits
(R253, R280). -/
def State.nextCmd (s : State) (l : Nat) : State :=
  let x := s.lane l
  if x.cmd.isSome || s.ostate l != loREADY then s
  else if x.cfg != s.setcfgData l then s.issueCmd l 2 0 (s.setcfgData l)
  else match x.hostWait with
  | some (opc, data) => (s.setLane l { x with hostWait := none }).issueCmd l opc 1 data
  | none => s

/-- A CAPQ (R256). -/
def State.sendCapq (s : State) (l : Nat) : State :=
  let (f, s) := s.newFrame l 3 1 [BitVec.ofNat 64 (s.get F.OCL_TCFG_VMAX)]
  (s.setLane l { s.lane l with capSends := (s.lane l).capSends + 1 }).laneSend l f

/-! ### The negotiation (Table 15) -/

/-- A lane leaves READY: LINKDN, and its commands end FAILED (R280, Table 24). -/
def State.leaveReady (s : State) (l : Nat) : State :=
  let s := (s.setPairBit R.OCL_READY_LO l false).oclFault l F.OCL_LSTAT_LINKDN Q.OCL_LINKDN
  let s := match (s.lane l).cmd with | some c => s.cmdFail l c | none => s
  if (s.lane l).hostWait.isSome then
    ((s.setLane l { s.lane l with hostWait := none }).oclFault l F.OCL_LSTAT_CMDFAIL Q.OCL_CMDFAIL).lcmdFailed
  else s

/-- A lane enters a state. Below CONFIG no version is negotiated; the delay measurement starts again with TSYNC. -/
def State.toState (s : State) (l st : Nat) : State :=
  let s := if s.ostate l = loREADY && st != loREADY then s.leaveReady l else s
  let s := s.set (F.OCL_LSTATE_STATE l) st
  let x := s.lane l
  let quiet (s : State) : State :=
    (s.setLane l { x with cmd := none, capSends := 0, queue := [], cur := none, t1 := none }).set (F.OCL_LSTATE_VER l) 0
  if st = loOFF then
    let s := { quiet s with ocl := { s.ocl with lanes := spPut lane0 s.ocl.lanes l { lane0 with commanded := x.commanded, held := x.held } } }
    (((s.set (F.OCL_LSTATE_VER l) 0).set (F.OCL_LSTATE_REASON l) 0).set (F.OCL_LSTATE_FOLLOW l) 0).setPairBit R.OCL_FOLLOW_LO l false
  else if st = loDOWN then (quiet s).set (F.OCL_LSTATE_REASON l) 0
  else if st = loQUERY then ((quiet s).set (F.OCL_LSTATE_REASON l) 0).sendCapq l
  else if st = loCONFIG then s.issueCmd l 2 0 (s.setcfgData l)
  else if st = loTSYNC then s.setLane l { x with cmd := none, dAcc := [], dRej := [], dRun := 0, t1 := none }
  else if st = loREADY then s.setPairBit R.OCL_READY_LO l true
  else s.setLane l { x with cmd := none, queue := [] }

/-- A lane fails with a reason (Table 22). -/
def State.toFail (s : State) (l reason : Nat) : State := (s.toState l loFAIL).set (F.OCL_LSTATE_REASON l) reason

/-- The record limit (R285). -/
def State.rmaxOf (s : State) (l : Nat) : Nat :=
  let tb : Int := s.tblk l
  let tsu := bitsOf (s.regN (R.OCL_LCAP_HI l)) 0 8
  let avail : Int := (s.get F.ENG_TIMING_T_LEAD : Nat) * 2000 - 2000 - 256000 - tb - (s.get (F.OCL_LDELAY_DDN l) : Nat) * 125 - (tsu : Nat) * 4000
  let vlim : Int := if s.get (F.OCL_LSTATE_VER l) = 0x10 then 64 else 128
  (min vlim (max 0 (2 * (avail.fdiv tb - 4)))).toNat

/-- OCL_LRMAX is computed again; in READY a limit below RMIN sets the TIMING reason and LINKDN, and the lane stays READY (R285). -/
def State.setRmax (s : State) (l : Nat) : State :=
  let s := s.set (F.OCL_LRMAX_RMAX l) (s.rmaxOf l)
  if s.get (F.OCL_LRMAX_RMAX l) < s.get (F.OCL_LCFG_RMIN l) then
    if s.ostate l = loREADY && s.get (F.OCL_LSTATE_REASON l) != 7 then
      (s.set (F.OCL_LSTATE_REASON l) 7).oclFault l F.OCL_LSTAT_LINKDN Q.OCL_LINKDN
    else s
  else if s.ostate l = loREADY && s.get (F.OCL_LSTATE_REASON l) = 7 then s.set (F.OCL_LSTATE_REASON l) 0 else s

/-- FOLLOW of a lane (R262). -/
def State.setFollow (s : State) (l : Nat) : State :=
  let b := (s.lane l).perClaim == some (s.get F.OCL_CLAIM_CLAIM)
  (s.setB (F.OCL_LSTATE_FOLLOW l) b).setPairBit R.OCL_FOLLOW_LO l b

/-- A lane follows OCL_EN, block lock and the device's state (R256), and takes a changed configuration to its pod (R253). -/
def State.laneFollow (s : State) (l : Nat) : State :=
  let en := s.pairBit R.OCL_EN_LO l
  if !en then if s.ostate l = loOFF then s else s.toState l loOFF
  else
    let s := if s.ostate l = loOFF then s.toState l loDOWN else s
    if loQUERY ≤ s.ostate l && !s.laneLocked l then s.toState l loDOWN
    else if s.ostate l = loDOWN && s.laneLocked l && s.oclSends then s.toState l loQUERY
    else s.nextCmd l

/-- The lanes after a change of the state from `s` to `t`. -/
def State.lanesFollow (s t : State) : State :=
  let t := (List.range 56).foldl State.laneFollow t
  let t := if s.get F.OCL_CLAIM_CLAIM != t.get F.OCL_CLAIM_CLAIM then t.ocl.lanes.foldl (fun t e => t.setFollow e.1) t else t
  if s.get F.ENG_TIMING_T_LEAD != t.get F.ENG_TIMING_T_LEAD then
    ((List.range 56).filter (t.ostate · == loREADY)).foldl State.setRmax t
  else t

/-! ### TRIP bursts (R275) -/

/-- A TRIP burst: 4 blocks; a frame under way is broken off and sent again after it, with TRIP = 1 where it is an EDGE frame. A
lane in a burst starts no second one. -/
def State.tripBurst (s : State) (l : Nat) : State :=
  let x := s.lane l
  if 0 < ctDiff x.burstEnd s.now then s
  else
    let again := match x.cur with
      | some (f, t) =>
        if 0 < ctDiff t s.now then [if f.ftype = 2 then { f with tspec := f.tspec ||| 2 ^ 17 } else f] else []
      | none => []
    let x := { x with cur := none, queue := again ++ x.queue, burstEnd := s.now + s.blocksTime l 4 }
    (s.setLane l x).send (.trip l (s.get F.OCL_CLAIM_CLAIM))

end Sys2Proof.Machine
end

