-- ==== Sys2Proof/Machine/Settle.lean ====
section
/-! DEFINITION. Machine/Settle.lean: what follows from the state in the tick of any command: the trip matrix (11 R425 to R429),
STO and the restart latch (13 R488 to R490), the gate-supply switches (12 R438, R439), the safety outputs (13 R495), the TRIP
bursts of the cell lanes (07 R275), and the EVENT frames (16 R608). Every meaning ends with `settle`. -/
namespace Sys2Proof.Machine

/-- Whether the device is in a state whose entry sends TRIP bursts (07 R275). -/
def isStop (d : Nat) : Bool := d == stBLOCKED || d == stSAFE || d == stSEALED || d == stTHERMAL

/-- The lanes whose TRIP burst the change from `s` to `t` starts. -/
def burstLanes (s t : State) : List Nat :=
  (List.range 56).filter fun l =>
    s.laneLocked l &&
      ((isStop t.dev && s.dev != t.dev) || (t.laneTripped l && !s.laneTripped l) || (t.heldOut B.OCL l && !s.heldOut B.OCL l))

/-- Count newly tripped targets, refresh TRIP_ACT, send the bursts. -/
def State.trips (s t : State) : State :=
  let n := ((List.range 20).filter fun i => t.tripped i && !s.tripped i).length
  (burstLanes s t).foldl State.tripBurst ((t.count R.TRIP_CNT n).setRegN R.TRIP_ACT t.tripAct)

/-! ### Safety inputs, STO and the restart latch -/

/-- Whether an enabled safety input is in its demand state (R485, R487). -/
def State.sinDemand (s : State) (n : Nat) : Bool :=
  s.on (F.SAFE_SINCFG_EN n) &&
    (s.safe.disc.testBit n || !s.safe.sinA.testBit n || (s.safe.sinB.testBit n == s.on (F.SAFE_SINCFG_MODE n)))

/-- Whether the channels of an enabled input disagree (R485). -/
def State.sinDisagree (s : State) (n : Nat) : Bool :=
  s.on (F.SAFE_SINCFG_EN n) && ((s.safe.sinA.testBit n == s.safe.sinB.testBit n) == s.on (F.SAFE_SINCFG_MODE n))

/-- The inputs in demand, by bit. -/
def State.demands (s : State) : Nat := (List.range 4).foldl (fun d n => if s.sinDemand n then d + 2 ^ n else d) 0

/-- SAFE_SINSTAT (13 Table 6). -/
def State.sinStat (s : State) : Nat :=
  (List.range 4).foldl (fun d n => d + 16 ^ n * (8 * b2n (s.safe.disc.testBit n) + 4 * b2n (s.sinDemand n)
    + 2 * b2n (s.safe.sinB.testBit n) + b2n (s.safe.sinA.testBit n))) 0

/-- The causes of STO on channel `a` beside the device's state and the latch (R489). -/
def State.stoCause (s : State) (a : Nat) : Bool :=
  (s.demands &&& s.get (F.SAFE_CHCFG_STOMASK a)) != 0 || s.safe.ss1Held.testBit a

/-- Whether STO acts on channel `a` (R489). -/
def State.stoDue (s : State) (a : Nat) : Bool :=
  s.on (F.SAFE_CHCFG_EN a) && (s.safetySrc || s.stoCause a || s.on (F.SAFE_CHSTAT_WAITRST a))

/-- STO starts or ends on a channel (R488 to R490, R500). -/
def State.evalStoCh (s : State) (a : Nat) : State :=
  if s.stoDue a then
    if s.on (F.SAFE_CHSTAT_STO a) then s
    else
      let s := (s.flag (F.SAFE_CHSTAT_STO a)).set (F.SAFE_CHSTAT_TEST a) 0
      let s := if s.on (F.SAFE_CHCFG_RSTLOCK a) && s.stoCause a then s.flag (F.SAFE_CHSTAT_WAITRST a) else s
      s.faultBit F.SAFE_EVT_STO a Q.SAFE_STO (hw a)
  else s.set (F.SAFE_CHSTAT_STO a) 0

/-- An ended SS1 stops counting as a cause of STO once STO acts and no input of SS1MASK is in demand (R491; DEDUCED, log 12). -/
def State.dropSs1 (s : State) : State :=
  let keep := (List.range 3).foldl (fun k a =>
    if s.safe.ss1Held.testBit a && (!s.on (F.SAFE_CHSTAT_STO a) || (s.demands &&& s.get (F.SAFE_CHCFG_SS1MASK a)) != 0) then k + 2 ^ a else k) 0
  { s with safe := { s.safe with ss1Held := keep } }

def State.evalSto (s : State) : State := (List.range 3).foldl State.evalStoCh s

/-- Start SS1 on channel `a` when inputs named in its SS1MASK have newly entered demand, unless STO acts, an STO cause holds in
this tick or SS1 runs (R491, R493). -/
def State.ss1Start (s : State) (newDem a : Nat) : State :=
  if s.on (F.SAFE_CHCFG_EN a) && (newDem &&& s.get (F.SAFE_CHCFG_SS1MASK a)) != 0 && !s.on (F.SAFE_CHSTAT_STO a) && !s.stoDue a
      && !s.on (F.SAFE_CHSTAT_SS1 a) then
    let v0 := (signedOf 16 (s.get (F.HALL_SPEED_V a))).natAbs
    let s := { s with safe := { s.safe with v0 := spPut 0 s.safe.v0 a v0 } }
    ((s.flag (F.SAFE_CHSTAT_SS1 a)).set (F.SAFE_CHSTAT_J a) 0).set (F.SAFE_CHSTAT_E a) (min 0xFFFF (v0 + s.get (F.SAFE_SS1_MARG a)))
  else s

/-- Inputs that have entered demand since `old` are reported, and start SS1 (R485, R491, R504). -/
def State.demandEdges (s : State) (old : Nat) : State :=
  let new := s.demands &&& (15 - old)
  let s := (List.range 4).foldl (fun s n => if new.testBit n then s.faultBit F.SAFE_EVT_DEM n (Q.SAFE_DEM n) (hw n) else s) s
  (List.range 3).foldl (fun s a => s.ss1Start new a) s

/-- A deferred periodic test starts once neither STO nor a soft turn-off acts (R500). -/
def State.startDeferred (s : State) : State :=
  (List.range 3).foldl (fun s a =>
    if s.safe.deferred.testBit a && !s.on (F.SAFE_CHSTAT_STO a) && !s.axd.soft.testBit a && s.on (F.AXD_CHSTAT_GSW a) then
      ({ s with safe := { s.safe with deferred := s.safe.deferred &&& (7 - 2 ^ a) } }).flag (F.SAFE_CHSTAT_TEST a)
    else s) s

/-- The SAFE configuration registers in offset order (R501; 13 Table 6). -/
def safeCfgRegs : List Nat :=
  [R.SAFE_STOTEST, R.SAFE_PLACE] ++ (List.range 4).map R.SAFE_SINCFG ++ (List.range 3).flatMap (fun a => [R.SAFE_CHCFG a, R.SAFE_SS1 a])
    ++ (List.range 4).map R.SAFE_SOUTCFG

/-- The CRC of the SAFE configuration (R501). -/
def State.safeCrc (s : State) : Word := crc32 (safeCfgRegs.flatMap fun a => wordBytes (s.reg a))

/-- Lock the SAFE configuration and compute its CRC (R501). -/
def State.safeLock (s : State) : State :=
  let s := { s with safe := { s.safe with crcDone := true } }
  (s.set F.SAFE_STAT_UNLOCKED 0).setReg R.SAFE_CRC s.safeCrc

/-! ### Gate supplies (12 R438, R439) -/

/-- Whether the device's state lets the gate supplies close. -/
def gateState (d : Nat) : Bool := d == stCONFIG || (stLINKS ≤ d && d ≤ stSAFE)

/-- Whether the gate-supply switch of channel `a` is closed. -/
def State.gateDue (s : State) (a : Nat) : Bool :=
  gateState s.dev && !s.on (F.SAFE_CHSTAT_STO a) && !(s.on (F.AXD_CHCFG_TRIPGS a) && s.tripped (8 + a)) && !s.axd.vgdLow
    && !s.heldOut B.AXD a

/-- Open or close a switch; a closing starts the 20 µs hold (R439). -/
def State.gateCh (s : State) (a : Nat) : State :=
  let hold (b : Bool) (s : State) : State :=
    { s with axd := { s.axd with hold := (s.axd.hold &&& (7 - 2 ^ a)) + (if b then 2 ^ a else 0) } }
  if s.gateDue a then if s.on (F.AXD_CHSTAT_GSW a) then s else hold true (s.flag (F.AXD_CHSTAT_GSW a))
  else hold false (s.set (F.AXD_CHSTAT_GSW a) 0)

def State.gates (s : State) : State := (List.range 3).foldl State.gateCh s

/-! ### Safety outputs (13 R495, R496) -/

/-- Whether the conditions of R495 hold for output `n`. -/
def State.soutDue (s : State) (n : Nat) : Bool :=
  s.on (F.SAFE_SOUTCFG_EN n) && s.fbit F.SAFE_SOUTREQ_REQ n && (stARMED ≤ s.dev && s.dev ≤ stBLOCKED)
    && !(s.get (F.SAFE_SOUTCFG_LINKCH n) < 3 && s.on (F.SAFE_CHSTAT_STO (s.get (F.SAFE_SOUTCFG_LINKCH n))))
    && (s.demands &&& s.get (F.SAFE_SOUTCFG_LINKMASK n)) == 0
    && !s.on (F.SAFE_SOUTSTAT_RBERR n) && !s.on (F.SAFE_SOUTSTAT_OC n)

/-- Turn an output on or off; a pulse ends with its output's conditions (R496). -/
def State.soutCh (s : State) (n : Nat) : State :=
  let due := s.soutDue n
  let s := if due then s else { s with safe := { s.safe with pulse := s.safe.pulse &&& (15 - 2 ^ n) } }
  let on := due && !s.safe.pulse.testBit n
  (s.setB (F.SAFE_SOUTSTAT_ON n) on).setFbit F.SAFE_STAT_SOUT n on

def State.souts (s : State) : State := (List.range 4).foldl State.soutCh s

/-! ### Events (16 R607, R608) -/

/-- An EVENT frame to every enabled flow, with the next event number (R608). -/
def State.event (s : State) : State :=
  let e := (s.regN R.HOST_EVTNUM + 1) % 2 ^ 32
  let s := s.setRegN R.HOST_EVTNUM e
  let body := [e, s.irqSrc, s.regN R.SYS_STATE, s.reactWord, s.now, s.now / 2 ^ 32].map (BitVec.ofNat 32)
  (List.range 5).foldl (fun s f =>
    if s.fbit F.HOST_EVTCFG_EVT f && (f == 4 || s.on (F.HOST_FLOW_CFG_EN f)) then
      let fl := s.flow f
      let m := OutMsg.host (if f = 4 then .qspi else fl.port) (s.reg64 (R.HOST_FLOW_MAC_LO f)) 4 f e 0 0 0 s.nodeId body
      (s.setFlow f { fl with event := some m, lastEvent := e }).toHost m
    else s) s

/-- IRQ_N is driven low (R607). -/
def State.irqLow (s : State) : Bool :=
  stCONFIG ≤ s.dev && ((s.irqSrc &&& s.get F.HOST_IRQMASK_M) != 0 || (s.on F.HOST_CTRL_QIRQ && s.host.queue.length != 0))

/-- Whether the change from `s` to `t` makes an event; the ports are silent before CONFIG and DEFAULT and while the logic die is shut
down. -/
def newEvent (s t : State) : Bool := stCONFIG ≤ t.dev && !t.sys.offL && ((t.irqSrc &&& (2 ^ 24 - 1 - s.irqSrc)) != 0 || s.reg R.SYS_STATE != t.reg R.SYS_STATE)

/-- The states in which the SAFE configuration may be unlocked (13 R501). -/
def gateOpenCfg (d : Nat) : Bool := d == stCONFIG || d == stDEFAULT

/-! ### Ring ports (09 R327, R328) -/

/-- Whether both lanes of a bonded port are UP (08 R298): 0 east, 1 west, 2 twin. -/
def State.portUp (s : State) (p : Nat) : Bool := s.laneLocked (56 + 2 * p) && s.laneLocked (57 + 2 * p)

/-- The state of a ring port, 0 east, 1 west (09 Table 3). -/
def State.ringPort (s : State) (p : Nat) : Nat := if p = 0 then s.get F.RING_STAT_ESTATE else s.get F.RING_STAT_WSTATE
def State.setRingPort (s : State) (p st : Nat) : State := if p = 0 then s.set F.RING_STAT_ESTATE st else s.set F.RING_STAT_WSTATE st

/-- Whether the ring ports run: EN, in a state of the device whose bypass outputs are asserted (01 Table 5). -/
def State.ringRuns (s : State) : Bool := s.on F.RING_CFG_EN && (stLINKS ≤ s.dev && s.dev ≤ stSAFE)

/-- The state that a ring port's own conditions lead to: OFF, LOOP from OFF, INSERT when its lanes leave UP. -/
def State.portNext (s : State) (p : Nat) : Nat :=
  if !s.ringRuns then 0
  else if s.ringPort p = 0 then 1
  else if s.ringPort p = 3 && !s.portUp p then 2 else s.ringPort p

/-- The ring ports and their bypass outputs follow (R327, R328). -/
def State.ringPorts (t : State) : State :=
  let t := (t.setRingPort 0 (t.portNext 0)).setRingPort 1 (t.portNext 1)
  let both := 2 ≤ t.ringPort 0 && 2 ≤ t.ringPort 1
  let on := t.ringRuns && (both || t.on F.RING_STAT_BYPE)
  (t.setB F.RING_STAT_BYPE on).setB F.RING_STAT_BYPW on

/-- PORTDN: a port entered DOWN or left UP (09 Table 9). -/
def State.portsDown (s t : State) : State :=
  let down (p : Nat) : Bool := (s.ringPort p == 3 && t.ringPort p != 3) || (s.ringPort p != 4 && t.ringPort p == 4)
  if down 0 || down 1 then t.faultNew F.RING_STAT_PORTDN Q.RING_PORTDN (hw 0) else t

/-- What the safety functions, supplies, outputs and pins do in the tick. -/
def State.follow (t : State) : State := ((t.evalSto).gates.souts.startDeferred).pinsAt t.now

/-- Events the Log may trigger on (05 R201): COAST set, the device entering BLOCKED, SAFE or SEALED. -/
def State.noteEvents (s t : State) : State :=
  let coast := t.on F.SEXT_STAT_COAST && !s.on F.SEXT_STAT_COAST
  let stop := s.dev != t.dev && (stBLOCKED ≤ t.dev && t.dev ≤ stSEALED)
  if coast || stop then { t with log := { t.log with events := t.log.events ||| (4 * b2n coast + 8 * b2n stop) } } else t

/-- Everything that follows in the tick from the change that a command made, from `s` to `t`; what it follows with may itself
raise sources, so the outputs are settled twice. -/
def settle (s t : State) : State :=
  let t := if gateOpenCfg s.dev && !gateOpenCfg t.dev then t.safeLock else t
  let t := s.portsDown (((t.demandEdges s.demands).dropSs1).follow.ringPorts)
  let t := s.lanesFollow t
  let t := t.follow
  let t := s.noteEvents (s.trips t)
  let t := if t.on F.HOST_STAT_QOVF && !s.on F.HOST_STAT_QOVF then t.raise Q.HOST_QOVF (hw 0) else t
  if newEvent s t then t.event else t

end Sys2Proof.Machine
end

