-- ==== Sys2Proof/Machine/Chrono.lean ====
section
/-! DEFINITION. Machine/Chrono.lean: the Chronometer: the advance of CT64, loads, steps and the servo that follows ring time
(02_chronometer_and_sextant.md R39 to R42, R88 to R96). The exchanges of TIME frames that drive it stand in Machine/Ring.lean. -/
namespace Sys2Proof.Machine

/-- CT64 as the registers show it, kept with the tick (R39, Table 9). -/
def State.showCt (s : State) : State := s.setReg64 R.CHRONO_NOW_LO s.now

/-- CT64 takes a value; its fraction bits become 0 (R41). -/
def State.setCt (s : State) (n : Nat) : State :=
  ({ s with chrono := { s.chrono with ct := BitVec.ofNat 64 n, frac := 0 } }).showCt

/-- The limit of the rate trim, ±500 ppm, in 2^-32 CT64 per tick. -/
def trimMax : Int := 34359738

/-- The exact limit of the servo's terms, 500 ppm of 16 CT64 per tick (R90). -/
def ppm500 : Rat := 16 * 2 ^ 32 * 500 / 1000000

/-- The advance of a common tick (R39). -/
def State.advance (s : State) : State :=
  let f : Int := s.chrono.frac + (16 * 2 ^ 32 + (s.reg R.CHRONO_TRIM).toInt)
  ({ s with chrono := { s.chrono with ct := s.chrono.ct + BitVec.ofInt 64 (f / 2 ^ 32), frac := (f % 2 ^ 32).toNat } }).showCt

/-- A write of CHRONO_SET_HI loads CT64 while the Sextant is disabled; otherwise it sets STEPREJ (R41). -/
def State.chronoLoad (s : State) (m : Master) (v : Word) : State :=
  if s.on F.SEXT_CTRL_EN then s.faultNew F.CHRONO_STAT_STEPREJ Q.CHRONO_STEPREJ (wr m R.CHRONO_SET_HI)
  else
    let s := s.setReg R.CHRONO_SET_HI v
    (s.setCt (s.reg64 R.CHRONO_SET_LO)).flag F.CHRONO_STAT_STEPPED

/-- A write of CHRONO_TRIM, writable while SERVO is 0, limited to ±500 ppm (Table 9). -/
def State.trimWrite (s : State) (m : Master) (v : Word) : State :=
  if s.on F.CHRONO_CTRL_SERVO then s
  else
    let t := v.toInt
    let s := s.setReg R.CHRONO_TRIM (BitVec.ofInt 32 (clampInt (-trimMax) trimMax t))
    if t ≤ -trimMax || trimMax ≤ t then s.faultNew F.CHRONO_STAT_TRIMLIM Q.CHRONO_TRIMLIM (wr m R.CHRONO_TRIM) else s

/-- TSTATE and SYNC follow CHRONO_CTRL.TK: the timekeeper is FREE with SYNC 1; a node that stops being it has no ring time until
its next exchange (Table 11, R93; DEDUCED, log 22). -/
def State.setTk (s : State) (tk : Bool) : State :=
  if s.on F.CHRONO_CTRL_TK = tk then s
  else
    let s := (s.setB F.CHRONO_CTRL_TK tk).set F.CHRONO_STAT_TSTATE 0
    ({ s with chrono := { s.chrono with inWin := 0, failRun := 0, ptrim := 0 } }).setB F.CHRONO_STAT_SYNC tk

/-- A write in the CHRONO block. -/
def State.writeCHRONO (s : State) (m : Master) (a : Nat) (v : Word) : State :=
  if a = R.CHRONO_SET_LO then if s.on F.SEXT_CTRL_EN then s else s.setReg a v
  else if a = R.CHRONO_SET_HI then s.chronoLoad m v
  else if a = R.CHRONO_TRIM then s.trimWrite m v
  else if a = R.CHRONO_CTRL then (s.setTk (fldOf F.CHRONO_CTRL_TK v == 1)).plainWrite a v
  else s.plainWrite a v

/-! ### The servo (R89 to R94) -/

/-- The offset of an exchange from its four stamps, in CT64 units (R89). -/
def State.offsetOf (s : State) (t1 t2 t3 t4 : Nat) : Rat :=
  ((ctDiff t2 t1 - ctDiff t4 t3 : Int) : Rat) / 2 - ((s.reg R.CHRONO_ASYM).toInt : Rat) * 2 / 625

/-- The delay of an exchange in CT64 units (R89). -/
def delayOf (t1 t2 t3 t4 : Nat) : Rat := ((ctDiff t4 t1 - ctDiff t3 t2 : Int) : Rat) / 2

def absRat (x : Rat) : Rat := if x < 0 then -x else x

/-- STEP_THR in CT64 units: 1 ns is 3.2 (Table 12). -/
def State.stepThr (s : State) : Rat := (s.get F.CHRONO_SERVO_STEP_THR : Rat) * 16 / 5

/-- The trim after an exchange (R90). -/
def State.servoTrim (s : State) (o : Rat) : State :=
  let ratio := o / ((s.get F.CHRONO_INT_SYNC_INT : Rat) * 3200) * (16 * 2 ^ 32)
  let slew : Rat := (s.get F.CHRONO_SERVO_SLEW : Rat) * (16 * 2 ^ 32) / 1000000
  let ft := clampRat (-ppm500) ppm500 (s.chrono.ftrim + ratio / 64)
  let pt := clampRat (-slew) slew (ratio / 4)
  let tr := clampRat (-ppm500) ppm500 (ft + pt)
  let s := { s with chrono := { s.chrono with ftrim := ft, ptrim := pt } }
  if s.on F.CHRONO_CTRL_SERVO then
    let s := s.setReg R.CHRONO_TRIM (BitVec.ofInt 32 (clampInt (-trimMax) trimMax (quantize tr)))
    if ppm500 ≤ absRat tr then s.faultNew F.CHRONO_STAT_TRIMLIM Q.CHRONO_TRIMLIM (hw 0) else s
  else s

/-- SYNC after an offset: 16 consecutive offsets within the window (R93). -/
def State.syncCount (s : State) (o : Rat) : State :=
  let inside := absRat o ≤ (s.get F.CHRONO_SERVO_SYNC_WIN : Rat) * 8 / 25
  let n := if inside then min 16 (s.chrono.inWin + 1) else 0
  ({ s with chrono := { s.chrono with inWin := n } }).setB F.CHRONO_STAT_SYNC (s.on F.CHRONO_CTRL_TK || n == 16)

/-- A successful exchange with the parent (R89 to R94): in ACQ, with the grid stopped, an offset beyond STEP_THR steps CT64; an
offset beyond it while the grid runs sets FAR; every other exchange drives the servo (DEDUCED, log 22). -/
def State.exchangeDone (s : State) (o delay : Rat) : State :=
  let s := (s.setReg R.CHRONO_OFFSET (BitVec.ofInt 32 (quantize (o * 625 / 2)))).setReg R.CHRONO_DELAY (BitVec.ofInt 32 (quantize (delay * 625 / 2)))
  let s := { s with chrono := { s.chrono with failRun := 0 } }
  let s := s.syncCount o
  let st := if s.get F.CHRONO_STAT_TSTATE = 0 then 1 else s.get F.CHRONO_STAT_TSTATE
  let far := s.stepThr < absRat o
  if st = 1 && far && !s.on F.SEXT_CTRL_EN && s.on F.CHRONO_CTRL_STEPEN then
    ((s.set F.CHRONO_STAT_TSTATE 1).setCt (ctAdd s.now (roundRat o))).flag F.CHRONO_STAT_STEPPED
  else
    let s := s.set F.CHRONO_STAT_TSTATE 2
    let s := if far && s.on F.SEXT_CTRL_EN then s.faultNew F.CHRONO_STAT_FAR Q.CHRONO_FAR (hw 0) else s
    s.servoTrim o

/-- A failed exchange with the parent; the eighth in a row enters HOLD (R94). -/
def State.exchangeFailed (s : State) : State :=
  let n := s.chrono.failRun + 1
  let s := { s with chrono := { s.chrono with failRun := n } }
  if n = 8 && s.get F.CHRONO_STAT_TSTATE != 0 then
    let s := { s with chrono := { s.chrono with ptrim := 0 } }
    let s := if s.on F.CHRONO_CTRL_SERVO then
        s.setReg R.CHRONO_TRIM (BitVec.ofInt 32 (clampInt (-trimMax) trimMax (quantize s.chrono.ftrim))) else s
    (s.set F.CHRONO_STAT_TSTATE 3).faultNew F.CHRONO_STAT_PARLOST Q.CHRONO_PARLOST (hw 0)
  else s

end Sys2Proof.Machine
end

