-- ==== Sys2Proof/Machine/AdcBase.lean ====
section
/-! DEFINITION. Machine/AdcBase.lean: the triggers of the injected conversions (10 R386) and the rules of placement into VDM and
SDM (10 R384), which other blocks use as well. -/
namespace Sys2Proof.Machine

/-- The phase of injected request `j`: 0 idle, 1 waiting out its delay, 2 pending, 3 claimed its positions, 4 converting. -/
def State.injPhase (s : State) (j : Nat) : Nat := spGet 0 s.adc.inj j
def State.setInjPhase (s : State) (j p : Nat) : State := { s with adc := { s.adc with inj := spPut 0 s.adc.inj j p } }

/-- A request becomes pending. -/
def State.injPend (s : State) (j : Nat) : State := (s.setInjPhase j 2).setFbit F.ADC_INJSTAT_PEND j true

/-- Trigger request `j`: it waits out its delay; one that is not idle ignores the trigger and sets INJOVL (R386). -/
def State.injFire (s : State) (j : Nat) : State :=
  if s.injPhase j = 0 then
    if s.get (F.ADC_INJ_DELAY j) = 0 then s.injPend j else s.setInjPhase j 1
  else s.fault F.ADC_STAT_INJOVL Q.ADC_INJOVL (hw j)

/-- Fire the enabled requests whose trigger is of kind `trig` from source `src` (R386). -/
def State.injTrigger (s : State) (trig src : Nat) : State :=
  (List.range 4).foldl (fun s j =>
    if s.on F.ADC_CTRL_EN && s.on (F.ADC_INJ_EN j) && s.get (F.ADC_INJ_TRIG j) == trig && s.get (F.ADC_INJ_SRC j) == src then s.injFire j else s) s

/-- Whether a VDM row lies in a physical page of the VDM state region (R384). -/
def State.inStateV (s : State) (row : Nat) : Bool :=
  s.get F.ENG_SPAGE_V_BASE ≤ row && row < s.get F.ENG_SPAGE_V_BASE + 2 * s.get F.ENG_SPAGE_V_NROWS

/-- Whether an SDM word may not be placed into: a physical page of the SDM state region, or the Sextant record (R384). -/
def State.inStateS (s : State) (w : Nat) : Bool :=
  (s.get F.ENG_SPAGE_S_BASE ≤ w && w < s.get F.ENG_SPAGE_S_BASE + 2 * s.get F.ENG_SPAGE_S_NWORDS) || (0x3FF0 ≤ w && w ≤ 0x3FFF)

end Sys2Proof.Machine
end

