-- ==== Sys2Proof/Machine/Trip.lean ====
section
/-! DEFINITION. Machine/Trip.lean: the window comparators, their latches and self-test, and the external trip inputs
(11_comparators_and_trip.md R406 to R431). -/
namespace Sys2Proof.Machine

/-! ### Comparators -/

/-- The output of comparator `n` from its stages (R407, R410): SENSE OFF counts as asserted. -/
def State.cmpOutput (s : State) (n : Nat) : Bool :=
  match s.get (F.CMP_CFG_SENSE n) with
  | 0 => true
  | 1 => s.cmp.hi.testBit n
  | 2 => s.cmp.lo.testBit n
  | _ => s.cmp.hi.testBit n || s.cmp.lo.testBit n

/-- The stages of a comparator take new levels. -/
def State.setStages (s : State) (n : Nat) (hi lo : Bool) : State :=
  { s with cmp := { s.cmp with hi := putBit s.cmp.hi n hi, lo := putBit s.cmp.lo n lo } }

/-- A latch sets: it is stamped and counted, its source is raised and it triggers injected requests (R411, R431, 10 R386). -/
def State.cmpLatchSet (s : State) (n : Nat) : State :=
  if s.fbit F.CMP_LATCH_L n then s
  else
    let s := ((s.setFbit F.CMP_LATCH_L n true).setReg64 (R.CMP_STAMP_LO n) s.now).count R.CMP_SETCNT 1
    (s.raise (Q.CMP_CMP n) (hw n)).injTrigger 1 n

/-- The stages of a comparator change; an output that asserts sets the latch unless the comparator is under test (R411, R421). -/
def State.cmpChange (s : State) (n : Nat) (hi lo : Bool) : State :=
  let was := s.cmpOutput n
  let s := s.setStages n hi lo
  let s := s.setFbit F.CMP_OUT_O n (s.cmpOutput n)
  if s.cmpOutput n && !was && s.cmp.test != some n then s.cmpLatchSet n else s

/-- Stages assert (R411). -/
def State.cmpAssert (s : State) (n : Nat) (hi lo : Bool) : State :=
  s.cmpChange n (s.cmp.hi.testBit n || hi) (s.cmp.lo.testBit n || lo)

/-- Stages deassert past their return level (R407). -/
def State.cmpDeassert (s : State) (n : Nat) (hi lo : Bool) : State :=
  s.cmpChange n (s.cmp.hi.testBit n && !hi) (s.cmp.lo.testBit n && !lo)

/-- A write of CMP_CFGn (R409, R410, R417): a reserved value or a window not wider than twice the hysteresis is refused; a
SENSE written from OFF starts every used stage asserted; the latch does not change. -/
def State.cmpCfgWrite (s : State) (m : Master) (n : Nat) (v : Word) : State :=
  let hi := fldOf (F.CMP_CFG_HI n) v
  let lo := fldOf (F.CMP_CFG_LO n) v
  let hys := fldOf (F.CMP_CFG_HYS n) v
  let narrow := fldOf (F.CMP_CFG_SENSE n) v == 3 && (hi ≤ lo || (hi - lo) * 2500 ≤ 2 * 4 * (hys + 1) * 1024)
  if 9 < hys || 10 < fldOf (F.CMP_CFG_CLRCH n) v || narrow then
    s.fault F.CMP_STAT_CFGREJ Q.CMP_CFGREJ (wr m (R.CMP_CFG n))
  else
    let off := s.get (F.CMP_CFG_SENSE n) == 0
    let s := s.plainWrite (R.CMP_CFG n) v
    let sense := s.get (F.CMP_CFG_SENSE n)
    let s := if off then s.setStages n (s.cmp.hi.testBit n || sense == 1 || sense == 3) (s.cmp.lo.testBit n || sense == 2 || sense == 3) else s
    s.setFbit F.CMP_OUT_O n (s.cmpOutput n)

/-- A host clear of latches (R412, R413): each clears only while its output is deasserted, and sets CLRREF otherwise;
a latch set in the same tick stays set (R414). -/
def State.latchClear (s : State) (m : Master) (v : Word) : State :=
  (List.range 24).foldl (fun s n =>
    if v.toNat.testBit n then
      if s.fbit F.CMP_OUT_O n then s.fault F.CMP_STAT_CLRREF Q.CMP_CLRREF (wr m R.CMP_LATCH)
      else if s.clearable F.CMP_LATCH_L n then s.setFbit F.CMP_LATCH_L n false else s
    else s) s

/-! ### Self-test (R418 to R422) -/

/-- Whether a test is refused. -/
def State.testRefused (s : State) : Bool :=
  let n := s.get F.CMP_TEST_CMPSEL
  23 < n || s.get (F.CMP_CFG_SENSE n) == 0 || (!s.on F.CMP_TEST_SWAP && s.get F.CMP_TEST_TIE == 0) || s.get F.CMP_TEST_TIE == 3
    || s.cmp.test.isSome || ((s.dev == stRUN || s.dev == stDEGRADED) && !s.on F.CMP_TEST_ALLOWRUN)

/-- A write of CMP_TEST; GO starts the test or is refused (R418, R422). -/
def State.cmpTestWrite (s : State) (m : Master) (v : Word) : State :=
  let s := s.plainWrite R.CMP_TEST v
  if fldOf F.CMP_TEST_GO v = 0 then s
  else if s.testRefused then s.fault F.CMP_STAT_TESTREJ Q.CMP_TESTREJ (wr m R.CMP_TEST)
  else
    let n := s.get F.CMP_TEST_CMPSEL
    let s := { s with cmp := { s.cmp with test := some n, settling := false, swap := s.on F.CMP_TEST_SWAP, tie := s.get F.CMP_TEST_TIE,
                                          preHi := s.cmp.hi.testBit n, preLo := s.cmp.lo.testBit n } }
    (s.flag F.CMP_TSTAT_BUSY).set F.CMP_TSTAT_CMPSEL n

/-- The level forced on a stage under a TIE, in 1/1024 of 2.5 V (R419). -/
def tieLevel (tie hi lo : Nat) (hiStage : Bool) : Nat := if tie = 1 then 512 else if hiStage then lo else hi

/-- Whether a forced level lies within H + 10 mV of a threshold (R420). -/
def nearThr (hys level thr : Nat) : Bool := ((level : Int) - thr).natAbs * 2500 ≤ (4 * (hys + 1) + 10) * 1024

/-- The result of a test from the sampled stages: 1 PASS, 2 FAIL, 3 INDET (R420). -/
def State.testResult (s : State) (n : Nat) (ohi olo : Bool) : Nat :=
  let sense := s.get (F.CMP_CFG_SENSE n)
  let hi := s.get (F.CMP_CFG_HI n)
  let lo := s.get (F.CMP_CFG_LO n)
  let useHi := sense == 1 || sense == 3
  let useLo := sense == 2 || sense == 3
  let lvHi := tieLevel s.cmp.tie hi lo true
  let lvLo := tieLevel s.cmp.tie hi lo false
  let near := s.cmp.tie != 0 && ((useHi && nearThr (s.get (F.CMP_CFG_HYS n)) lvHi hi) || (useLo && nearThr (s.get (F.CMP_CFG_HYS n)) lvLo lo))
  let expHi := if s.cmp.tie = 0 then !s.cmp.preHi else (decide (hi < lvHi)) != s.cmp.swap
  let expLo := if s.cmp.tie = 0 then !s.cmp.preLo else (decide (lvLo < lo)) != s.cmp.swap
  if near then 3 else if (!useHi || ohi == expHi) && (!useLo || olo == expLo) then 1 else 2

/-- The test samples and judges the outputs, and removes the forcing (R418, R420). -/
def State.testSample (s : State) (ohi olo : Bool) : State :=
  match s.cmp.test, s.cmp.settling with
  | some n, false =>
    let r := s.testResult n ohi olo
    let s := ((s.set F.CMP_TSTAT_RESULT r).setB F.CMP_TSTAT_OHI ohi).setB F.CMP_TSTAT_OLO olo
    let s := { s with cmp := { s.cmp with settling := true } }
    if r = 2 then s.fault F.CMP_STAT_STFAIL Q.CMP_STFAIL (hw n) else s
  | _, _ => s

/-- Settling ends; an asserted output sets the latch (R421). -/
def State.testEnd (s : State) (hi lo : Bool) : State :=
  match s.cmp.test with
  | some n =>
    let s := { s with cmp := { s.cmp with test := none, settling := false } }
    let s := (s.set F.CMP_TSTAT_BUSY 0).setStages n hi lo
    let s := s.setFbit F.CMP_OUT_O n (s.cmpOutput n)
    if s.cmpOutput n then s.cmpLatchSet n else s
  | none => s

/-- A write in the CMP block. -/
def State.writeCMP (s : State) (m : Master) (a : Nat) (v : Word) : State :=
  if a = R.CMP_LATCH then s.latchClear m v
  else if a = R.CMP_TEST then s.cmpTestWrite m v
  else if R.CMP_CFG 0 ≤ a ∧ a < R.CMP_CFG 24 ∧ a % 16 = 0 then s.cmpCfgWrite m ((a - R.CMP_CFG 0) / 16) v
  else s.plainWrite a v

/-! ### Trip inputs (R423, R424) -/

/-- Whether the source of TRIPINn is asserted: the pin is at its trip level, or the input is not enabled. -/
def State.tinSource (s : State) (n : Nat) : Bool :=
  !s.on (F.TRIP_TINC_EN n) || (s.cmp.pins.testBit n == s.on (F.TRIP_TINC_TPOL n))

/-- A TRIPIN latch sets (R424, R411). -/
def State.tinLatchSet (s : State) (n : Nat) : State :=
  if s.fbit F.TRIP_TLATCH_L n then s
  else ((s.setFbit F.TRIP_TLATCH_L n true).setReg64 (R.TRIP_TSTAMP_LO n) s.now).raise (Q.TRIP_TIN n) (hw n)

/-- A TRIPIN pin has held a new level for its filter time. -/
def State.tinChange (s : State) (n : Nat) (level : Bool) : State :=
  let was := s.tinSource n
  let s := { s with cmp := { s.cmp with pins := putBit s.cmp.pins n level } }
  let s := s.setFbit F.TRIP_TIN_I n (s.tinSource n)
  if s.tinSource n && !was then s.tinLatchSet n else s

/-- A host clear of TRIPIN latches (R424, R412, R413). -/
def State.tlatchClear (s : State) (m : Master) (v : Word) : State :=
  (List.range 8).foldl (fun s n =>
    if v.toNat.testBit n then
      if s.tinSource n then s.fault F.TRIP_STAT_CLRREF Q.TRIP_CLRREF (wr m R.TRIP_TLATCH)
      else if s.clearable F.TRIP_TLATCH_L n then s.setFbit F.TRIP_TLATCH_L n false else s
    else s) s

/-- A write in the TRIP block: a reserved bit or value is refused with CFGREJ (11, text under Table 9). -/
def State.writeTRIP (s : State) (m : Master) (a : Nat) (v : Word) : State :=
  match regRowAt a with
  | none => s
  | some row =>
    let may := row.rw ||| row.w1c
    let tin := decide (R.TRIP_TINC 0 ≤ a) && decide (a < R.TRIP_TINC 8)
    if may == 0 then s
    else if (v &&& ~~~ may) != 0 || (tin && 10 < fldOf (F.TRIP_TINC_CLRCH 0) v) then s.fault F.TRIP_STAT_CFGREJ Q.TRIP_CFGREJ (wr m a)
    else if a = R.TRIP_TLATCH then s.tlatchClear m v
    else
      let s := s.plainWrite a v
      if tin then s.setFbit F.TRIP_TIN_I ((a - R.TRIP_TINC 0) / 4) (s.tinSource ((a - R.TRIP_TINC 0) / 4)) else s

/-- The period start of channel `ch` (0 to 7 local pairs, 8 to 10 auxiliary channels) clears the latches that name it, while
their source is deasserted (R412, R413, R415). -/
def State.periodStartClear (s : State) (ch : Nat) : State :=
  let s := (List.range 24).foldl (fun s n =>
    if s.on (F.CMP_CFG_CLRPS n) && s.get (F.CMP_CFG_CLRCH n) == ch && !s.fbit F.CMP_OUT_O n
        && s.clearable F.CMP_LATCH_L n then s.setFbit F.CMP_LATCH_L n false else s) s
  (List.range 8).foldl (fun s n =>
    if s.on (F.TRIP_TINC_CLRPS n) && s.get (F.TRIP_TINC_CLRCH n) == ch && !s.tinSource n
        && s.clearable F.TRIP_TLATCH_L n then s.setFbit F.TRIP_TLATCH_L n false else s) s

/-! ### The commands -/

/-- COMPARATOR_ASSERT (R411). -/
def execComparatorAssert (n : Fin 24) (hi lo : Bool) (s : State) : Host.Outcome State Fault Refusal :=
  .next (settle s (s.cmpAssert n hi lo))

/-- COMPARATOR_DEASSERT (R407). -/
def execComparatorDeassert (n : Fin 24) (hi lo : Bool) (s : State) : Host.Outcome State Fault Refusal :=
  .next (settle s (s.cmpDeassert n hi lo))

/-- TEST_SAMPLE (R420). -/
def execTestSample (hi lo : Bool) (s : State) : Host.Outcome State Fault Refusal := .next (settle s (s.testSample hi lo))

/-- TEST_SETTLE_END (R421). -/
def execTestSettleEnd (hi lo : Bool) (s : State) : Host.Outcome State Fault Refusal := .next (settle s (s.testEnd hi lo))

/-- TRIPIN_CHANGE (R423). -/
def execTripinChange (n : Fin 8) (level : Bool) (s : State) : Host.Outcome State Fault Refusal :=
  .next (settle s (s.tinChange n level))

end Sys2Proof.Machine
end

