-- ==== Sys2Proof/Machine/AuxStage.lean ====
section
/-! DEFINITION. Machine/AuxStage.lean: the auxiliary power stages: supply hold, inputs, bootstrap supervision, short detection,
channel faults, the motor supply and the brake chopper (12_aux_power_stages.md R432 to R471). Which gates are on follows from
the state in Machine/Pins.lean; refresh pulses are inserted by edge generation in Machine/Mod.lean. -/
namespace Sys2Proof.Machine

/-- The register base of auxiliary channel `a`, which captures record (R471). -/
def axBase (a : Nat) : Nat := 0x15000100 + 0x100 * a

/-- Set a flag of channel `a` and raise its source when it was clear (R471). -/
def State.axFault (s : State) (a : Nat) (f : Nat → Fld) (q : Src) : State := s.faultNew (f a) q (hw (axBase a))

/-- A channel faults with a cause: its bit sets, and FAULT holds its gates off (R457). -/
def State.axTrip (s : State) (a : Nat) (f : Nat → Fld) (q : Src) : State := (s.axFault a f q).flag (F.AXD_CHSTAT_FAULT a)

/-- The hold after a supply closed ends (R439). -/
def State.gateHoldEnd (s : State) (a : Nat) : State :=
  { s with axd := { s.axd with hold := putBit s.axd.hold a false } }

/-! ### Bootstrap undervoltage (R447 to R450) -/

/-- VBS of leg `k` in 0.1 V as last measured. -/
def State.vbs (s : State) (k : Nat) : Nat := s.regN (R.AXD_VBS (k / 3)) / 256 ^ (k % 3) % 256

/-- A bootstrap event of leg `k` (R447 to R449): H is held off, a refresh is forced unless one runs or the pins drive the gates,
it is counted, and the third in consecutive periods faults the channel. -/
def State.bstEvent (s : State) (k : Nat) : State :=
  let a := k / 3
  let s := (s.axFault a F.AXD_CHSTAT_BSUV Q.AXD_BSUV).count (R.AXD_BSUVCNT a) 1
  let force := !s.on (F.AXD_CHCFG_SRC a) && !s.axd.refresh.testBit k
  let tend := s.now + 16 * s.floorOf a + 16 * s.get (F.AXD_BST_TREF a)
  let third := !s.axd.evSeen.testBit k && 2 ≤ spGet 0 s.axd.evRun k
  let s := { s with axd := { s.axd with hOff := putBit s.axd.hOff k true, evSeen := putBit s.axd.evSeen k true } }
  let s := if force then { s with axd := { s.axd with refresh := putBit s.axd.refresh k true, refEnd := spIns s.axd.refEnd k tend } } else s
  if third then s.axTrip a F.AXD_CHSTAT_BSUVF Q.AXD_BSUVF else s

/-- The forced refreshes that have lasted T_REFRESH end (R447). -/
def State.refreshEnds (s : State) : State :=
  (List.range 9).foldl (fun s k =>
    if s.axd.refresh.testBit k && spGet 0 s.axd.refEnd k ≤ s.now then
      { s with axd := { s.axd with refresh := putBit s.axd.refresh k false, refEnd := spDel s.axd.refEnd k } }
    else s) s

/-- H of leg `k` is commanded on: below 7.5 V that is an event (R447). -/
def State.hCommand (s : State) (k : Nat) : State :=
  if !s.gatesHeld (k / 3) && s.legReq k true && s.vbs k < 75 then s.bstEvent k else s

/-- A channel period of leg `k` starts (R449, R450): the period that ends is judged; H held off is released when VBS is at least
8.0 V, and otherwise this is a further event. -/
def State.legGrid (s : State) (k : Nat) : State :=
  let run := spGet 0 s.axd.evRun k
  let run := if s.axd.evSeen.testBit k then run + 1 else if s.axd.hSeen.testBit k then 0 else run
  let s := { s with axd := { s.axd with evRun := spPut 0 s.axd.evRun k run, evSeen := putBit s.axd.evSeen k false,
                                        hSeen := putBit s.axd.hSeen k (s.axd.gates.testBit (2 * k)) } }
  if s.axd.hOff.testBit k then
    if 80 ≤ s.vbs k then { s with axd := { s.axd with hOff := putBit s.axd.hOff k false } } else s.bstEvent k
  else s

/-- The bootstrap voltages of a channel are measured; one below 7.5 V with H on is an event (R447, R448). -/
def State.vbsMeasure (s : State) (a v2 v1 v0 : Nat) : State :=
  let s := s.setRegN (R.AXD_VBS a) (65536 * v2 + 256 * v1 + v0)
  (List.range 3).foldl (fun s l =>
    let k := 3 * a + l
    if s.axd.gates.testBit (2 * k) then
      let s := { s with axd := { s.axd with hSeen := putBit s.axd.hSeen k true } }
      if s.vbs k < 75 then s.bstEvent k else s
    else s) s

/-- An input pin changes (R433, R440); with SRC = 1 an on command of a high side opens a new period of R449 (R448, R450). -/
def State.auxInput (s : State) (a i : Nat) (level : Bool) : State :=
  let was := s.auxIn a i
  let s := { s with axd := { s.axd with pins := putBit s.axd.pins (6 * a + i) level } }
  if s.on (F.AXD_CHCFG_SRC a) && i % 2 == 0 && !was && s.auxIn a i then
    let k := 3 * a + i / 2
    let held := s.axd.hOff.testBit k
    let s := s.legGrid k
    if held then s else s.hCommand k
  else s

/-! ### Detections (R452 to R455) -/

/-- Record the legs of a detection (R455): those of the tick of the first detection in LEGS with its stamp, later ones in LEGSM;
a later one raises the source again, which merges. -/
def State.scRecord (s : State) (a legs : Nat) (f : Nat → Fld) (q : Src) : State :=
  let first := s.get (F.AXD_SCINFO_LEGS a) == 0
  let same := s.reg64 (R.AXD_SCSTAMP_LO a) == s.now
  let s := if s.on (f a) && !(first || same) then s.raise q (hw (axBase a)) else s
  if first then (s.set (F.AXD_SCINFO_LEGS a) legs).setReg64 (R.AXD_SCSTAMP_LO a) s.now
  else if same then s.set (F.AXD_SCINFO_LEGS a) (s.get (F.AXD_SCINFO_LEGS a) ||| legs)
  else s.set (F.AXD_SCINFO_LEGSM a) (s.get (F.AXD_SCINFO_LEGSM a) ||| legs)

/-- The overcurrent comparators of the legs assert outside blanking; an OCTHR of 0 disables them (R452). -/
def State.overcurrent (s : State) (a legs : Nat) : State :=
  if s.get (F.AXD_PROT_OCTHR a) = 0 ∨ legs = 0 then s
  else (s.scRecord a legs F.AXD_CHSTAT_OC Q.AXD_OC).axTrip a F.AXD_CHSTAT_OC Q.AXD_OC

/-- The slope detectors of the legs assert; soft turn-off of all six gates starts (R453, R454). -/
def State.slope (s : State) (a legs : Nat) : State :=
  if s.get (F.AXD_PROT_SLTHR a) = 0 ∨ legs = 0 then s
  else
    let s := (s.scRecord a legs F.AXD_CHSTAT_SC Q.AXD_SC).axTrip a F.AXD_CHSTAT_SC Q.AXD_SC
    { s with axd := { s.axd with soft := putBit s.axd.soft a true } }

/-- Soft turn-off ends with the full sink (R454). -/
def State.softEnd (s : State) (a : Nat) : State := { s with axd := { s.axd with soft := putBit s.axd.soft a false } }

/-! ### Channel fault clear (R458) -/

/-- A write of AXD_FLTCLR. -/
def State.faultClear (s : State) (m : Master) (a : Nat) (v : Word) : State :=
  if fldOf (F.AXD_FLTCLR_CLR a) v = 0 then s
  else if s.axd.vmov || s.axd.vgdLow then s.faultNew (F.AXD_CHSTAT_CLRREF a) Q.AXD_CLRREF (wr m (axBase a))
  else if s.clearable (F.AXD_CHSTAT_FAULT a) 0 then (s.set (F.AXD_CHSTAT_FAULT a) 0).setReg (R.AXD_SCINFO a) 0
  else s

/-! ### Motor supply and brake (R459 to R466) -/

/-- Every channel faults with a cause. -/
def State.axAll (s : State) (f : Nat → Fld) (q : Src) : State := (List.range 3).foldl (fun s a => s.axTrip a f q) s

/-- A conversion of VM (R459, R461, R462, R464). -/
def State.vmConv (s : State) (v : Nat) : State :=
  let s := s.set F.AXD_VM_VM v
  let s := if v < s.get F.AXD_VMLIM_VMUV then s.faultNew F.AXD_GSTAT_VMUV Q.AXD_VMUV (hw R.AXD_GSTAT) else s
  let s := if v < s.get F.AXD_VMCFG_BRKOFF then { s with axd := { s.axd with vmov := false, brkReq := false } } else s
  let s := if s.get F.AXD_VMCFG_BRKON < v && s.on F.AXD_BRKCFG_EN then { s with axd := { s.axd with brkReq := true } } else s
  if s.get F.AXD_VMLIM_OVSD < v then
    ({ s with axd := { s.axd with vmov := true } }).axAll F.AXD_CHSTAT_VMOV Q.AXD_VMOV
  else s

/-- VGD falls below 9.0 V (R463). -/
def State.vgdLock (s : State) : State :=
  ({ s with axd := { s.axd with vgdLow := true } }).axAll F.AXD_CHSTAT_VGDUV Q.AXD_VGDUV

/-- The window's on-time reaches the limit (R465); under a trip of BRK it does not end the on-time (R466). -/
def State.brakeLimit (s : State) : State :=
  if s.on F.AXD_BRKCFG_EN && s.on F.AXD_VM_BRK then
    ({ s with axd := { s.axd with brkCut := true } }).faultNew F.AXD_GSTAT_BRKLIM Q.AXD_BRKLIM (hw R.AXD_GSTAT)
  else s

/-- The next brake window starts (R465). -/
def State.brakeWindow (s : State) : State := { s with axd := { s.axd with brkCut := false } }

/-! ### Register writes -/

/-- Whether any leg of channel `a` runs. -/
def State.legsOn (s : State) (a : Nat) : Bool := (List.range 3).any fun l => s.on (F.MOD_CFG_EN (ri (464 + 3 * a + l)))

/-- A refused write of a device-wide register. -/
def State.axReject (s : State) (m : Master) (a : Nat) : State := s.faultNew F.AXD_GSTAT_CFGREJ Q.AXD_CFGREJ (wr m a)

/-- Whether the thresholds stand in the order of R460. -/
def vmOrder (s : State) : Bool :=
  s.get F.AXD_VMLIM_VMUV < s.get F.AXD_VMCFG_BRKOFF && s.get F.AXD_VMCFG_BRKOFF < s.get F.AXD_VMCFG_BRKON
    && s.get F.AXD_VMCFG_BRKON < s.get F.AXD_VMLIM_OVSD

/-- Whether a write of a channel register breaks its ranges or rules (12, text under Tables 8 and 9). -/
def State.axChBad (s : State) (a off : Nat) (v : Word) : Bool :=
  let out (lo hi x : Nat) : Bool := x < lo || hi < x
  if off = 0 then
    fldOf (F.AXD_CHCFG_GAIN a) v == 3 ||
      ((s.legsOn a || s.on (F.AXD_CHSTAT_DIAG a)) &&
        (fldOf (F.AXD_CHCFG_SRC a) v != s.get (F.AXD_CHCFG_SRC a) || fldOf (F.AXD_CHCFG_GAIN a) v != s.get (F.AXD_CHCFG_GAIN a)
          || fldOf (F.AXD_CHCFG_SHPOS a) v != s.get (F.AXD_CHCFG_SHPOS a)))
  else if off = 4 then out 5 200 (fldOf (F.AXD_BST_TBST a) v) || out 40 400 (fldOf (F.AXD_BST_TREF a) v)
  else if off = 8 then out 20 640 (fldOf (F.AXD_PROT_TBLANK a) v)
  else if 0x0C ≤ off ∧ off ≤ 0x18 then fldOf (F.AXD_BAND0_DTFLOOR a) v < 10
  else false

/-- The brake configuration is written; windows follow from the write that sets EN, and without EN nothing is requested (R464,
R465). -/
def State.brkCfg (s : State) (m : Master) (v : Word) : State :=
  let w := fldOf F.AXD_BRKCFG_BRKWIN v
  let x := fldOf F.AXD_BRKCFG_BRKMAX v
  if w = 0 ∨ x = 0 ∨ 100 * w < 10 * x then s.axReject m R.AXD_BRKCFG
  else
    let was := s.on F.AXD_BRKCFG_EN
    let s := s.plainWrite R.AXD_BRKCFG v
    if s.on F.AXD_BRKCFG_EN then if was then s else { s with axd := { s.axd with brkCut := false } }
    else { s with axd := { s.axd with brkReq := false, brkCut := false } }

/-- A write in the AXD block. -/
def State.writeAXD (s : State) (m : Master) (x : Nat) (v : Word) : State :=
  if x = R.AXD_VMCFG ∨ x = R.AXD_VMLIM then
    let t := s.plainWrite x v
    if vmOrder t then t else s.axReject m x
  else if x = R.AXD_BRKCFG then s.brkCfg m v
  else if x = R.AXD_DIAGCFG then if fldOf F.AXD_DIAGCFG_DSETTLE v = 0 then s.axReject m x else s.plainWrite x v
  else if axBase 0 ≤ x ∧ x < axBase 3 then
    let a := (x - axBase 0) / 0x100
    let off := x % 0x100
    if off = 0x2C then s.faultClear m a v
    else if s.axChBad a off v then s.faultNew (F.AXD_CHSTAT_CFGREJ a) Q.AXD_CFGREJ (wr m (axBase a))
    else s.plainWrite x v
  else s.plainWrite x v

/-! ### The commands -/

/-- GATE_HOLD_END (R439). -/
def execGateHoldEnd (a : Fin 3) (s : State) : Host.Outcome State Fault Refusal := .next (settle s (s.gateHoldEnd a))

/-- AUX_INPUT_CHANGE (R440). -/
def execAuxInputChange (a : Fin 3) (i : Fin 6) (level : Bool) (s : State) : Host.Outcome State Fault Refusal :=
  .next (settle s (s.auxInput a i level))

/-- VBS_MEASURE (R447): the readings of a channel's legs in 0.1 V. -/
def execVbsMeasure (a : Fin 3) (v2 v1 v0 : Byte) (s : State) : Host.Outcome State Fault Refusal :=
  .next (settle s (s.vbsMeasure a v2.toNat v1.toNat v0.toNat))

/-- OVERCURRENT_DETECT (R452): the legs detected in one tick. -/
def execOvercurrentDetect (a : Fin 3) (legs : Fin 8) (s : State) : Host.Outcome State Fault Refusal :=
  .next (settle s (s.overcurrent a legs))

/-- SLOPE_DETECT (R453): the legs detected in one tick. -/
def execSlopeDetect (a : Fin 3) (legs : Fin 8) (s : State) : Host.Outcome State Fault Refusal := .next (settle s (s.slope a legs))

/-- SOFT_TURNOFF_END (R454). -/
def execSoftTurnoffEnd (a : Fin 3) (s : State) : Host.Outcome State Fault Refusal := .next (settle s (s.softEnd a))

/-- VM_CONVERSION (R459): a conversion in 20 mV. -/
def execVmConversion (v : Fin 4096) (s : State) : Host.Outcome State Fault Refusal := .next (settle s (s.vmConv v))

/-- VGD_LOCKOUT (R463). -/
def execVgdLockout (s : State) : Host.Outcome State Fault Refusal := .next (settle s s.vgdLock)

/-- VGD_LOCKOUT_RELEASE (R463): VGD is at least 9.5 V again. -/
def execVgdLockoutRelease (s : State) : Host.Outcome State Fault Refusal :=
  .next (settle s { s with axd := { s.axd with vgdLow := false } })

/-- BRAKE_LIMIT (R465). -/
def execBrakeLimit (s : State) : Host.Outcome State Fault Refusal := .next (settle s s.brakeLimit)

/-- BRAKE_WINDOW_END (R465). -/
def execBrakeWindowEnd (s : State) : Host.Outcome State Fault Refusal := .next (settle s s.brakeWindow)

end Sys2Proof.Machine
end

