-- ==== Sys2Proof/Machine/Mod.lean ====
section
/-! DEFINITION. Machine/Mod.lean: the modulation channels: shadows, loads, the carrier grid and edge generation
(06_modulation_channels.md R215 to R246; 12_aux_power_stages.md R442, R444 to R446). -/
namespace Sys2Proof.Machine

/-- The address of a channel's register block (06 Table 1). -/
def chBase (c : Nat) : Nat := R.MOD_CFG (ri c)

/-- Set a flag of a channel and raise its source (R246). -/
def State.chFault (s : State) (c : Nat) (f : Nat → Fld) (q : Src) (a : Acc) : State := s.faultNew (f (ri c)) q a

/-! ### Shadows and loads (R226 to R228) -/

/-- The shadow of field `f` of a channel, in the order of R226. -/
def State.shadow (s : State) (c f : Nat) : Nat :=
  match f with
  | 0 => s.get (F.MOD_PERIOD_V (ri c))
  | 1 => s.get (F.MOD_CMPA_V (ri c))
  | 2 => s.get (F.MOD_CMPB_V (ri c))
  | 3 => s.get (F.MOD_PHASE_V (ri c))
  | 4 => s.get (F.MOD_DT_DTR (ri c))
  | 5 => s.get (F.MOD_DT_DTF (ri c))
  | _ => s.get (F.MOD_MINP_MINP (ri c))

/-- Write the shadow of field `f`; its WR bit sets (R226). -/
def State.writeShadow (s : State) (c f v : Nat) : State :=
  let s := match f with
    | 0 => s.set (F.MOD_PERIOD_V (ri c)) v
    | 1 => s.set (F.MOD_CMPA_V (ri c)) v
    | 2 => s.set (F.MOD_CMPB_V (ri c)) v
    | 3 => s.set (F.MOD_PHASE_V (ri c)) v
    | 4 => s.set (F.MOD_DT_DTR (ri c)) v
    | 5 => s.set (F.MOD_DT_DTF (ri c)) v
    | _ => s.set (F.MOD_MINP_MINP (ri c)) v
  s.orFld (F.MOD_CHST_WR (ri c)) (2 ^ f)

/-- The active registers show the fields given, in the order of R226. -/
def State.showAct (s : State) (c : Nat) (act : List Nat) : State :=
  let r := ri c
  let v (i : Nat) := act.getD i 0
  (((((s.setRegN (R.MOD_ACT_PERIOD r) (v 0)).setRegN (R.MOD_ACT_CMPA r) (v 1)).setRegN (R.MOD_ACT_CMPB r) (v 2)).setRegN
    (R.MOD_ACT_PHASE r) (v 3)).setRegN (R.MOD_ACT_DT r) (2 ^ 16 * v 4 + v 5)).setRegN (R.MOD_ACT_MINP r) (v 6)

/-- The fields given replace those of the list. -/
def applyFields (act : List Nat) (fs : List (Nat × Nat)) : List Nat := fs.foldl (fun a e => a.set e.1 e.2) act

/-- Whether a PERIOD due to take effect lies below 1024 ET (R230). -/
def shortPeriod (fs : List (Nat × Nat)) : Bool := fs.any fun e => e.1 == 0 && e.2 < 0x4000

/-- The last loaded CMPA, CMPB and PHASE after the fields given (R231). -/
def newTargets (tgt : List Nat) (fs : List (Nat × Nat)) : List Nat :=
  fs.foldl (fun a e => if 1 ≤ e.1 && e.1 ≤ 3 then a.set (e.1 - 1) e.2 else a) tgt

/-- The copy of written fields into the active copy while EN is 0 (R228, R230). -/
def State.directLoad (s : State) (c : Nat) (fs : List (Nat × Nat)) : State :=
  let x := s.chan c
  let s := if shortPeriod fs then s.chFault c F.MOD_CHST_PERREJ Q.MOD_PERREJ (hw (chBase c)) else s
  let fs := fs.filter fun e => !(e.1 == 0 && e.2 < 0x4000)
  let act := applyFields x.act fs
  let s := s.setChan c { x with act := act, tgt := newTargets x.tgt fs, grid := [] }
  (s.showAct c act).set (F.MOD_CHST_SLEWING (ri c)) 0

/-- LOAD_ALL on one channel (R228). -/
def State.loadCh (s : State) (c : Nat) : State :=
  let r := ri c
  let wrm := s.get (F.MOD_CHST_WR r)
  if wrm = 0 then s
  else
    let lset := s.get (F.MOD_CFG_LSET r)
    let part := wrm &&& lset != lset
    let s := if part then s.chFault c F.MOD_CHST_PARTIAL Q.MOD_PARTIAL (hw (chBase c)) else s
    if part && s.on (F.MOD_CFG_STRICT r) then s.chFault c F.MOD_CHST_LDREJ Q.MOD_LDREJ (hw (chBase c))
    else
      let fs := ((List.range 7).filter wrm.testBit).map fun f => (f, s.shadow c f)
      let s := s.set (F.MOD_CHST_WR r) 0
      if s.on (F.MOD_CFG_EN r) then
        let x := s.chan c
        (s.setChan c { x with staged := fs.foldl (fun l e => spIns l e.1 e.2) x.staged }).flag (F.MOD_CHST_STG r)
      else s.directLoad c fs

/-- LOAD_ALL on the groups given (R227). -/
def State.loadAll (s : State) (groups : Nat) : State :=
  if groups = 0 then s
  else allChans.foldl (fun s c => if groups.testBit (s.get (F.MOD_CFG_GRP (ri c))) then s.loadCh c else s) s

/-- The host-armed groups are performed (R227). -/
def State.loadArmed (s : State) (groups : Nat) : State :=
  (s.loadAll (groups ||| s.get F.MOD_GARM_G)).set F.MOD_GARM_G 0

/-! ### Dither and the reference waveform (R222 to R225) -/

/-- The bit-reversal of four bits (R222). -/
def bitrev4 (n : Nat) : Nat :=
  8 * b2n (n.testBit 0) + 4 * b2n (n.testBit 1) + 2 * b2n (n.testBit 2) + b2n (n.testBit 3)

/-- The value of a 24.4 field in channel period `n` (R222). -/
def dither (v n : Nat) : Nat := v / 16 + (if bitrev4 (n % 16) < v % 16 then 1 else 0)

/-- The set "on" of R223: nothing, all, or `w` positions from `at`, modulo the length. -/
inductive RefOn where
  | none
  | all
  | span (start w : Nat)
  deriving DecidableEq, Repr

/-- The reference of a period of length `l` (R223, R224). -/
def refOn (mode l a b ph : Nat) : RefOn :=
  let rot (s w : Nat) : RefOn := .span ((s + ph % l) % l) w
  match mode with
  | 0 => if a = 0 then .none else if l ≤ a then .all else rot 0 a
  | 1 => if a = 0 then .none else if l ≤ a then .all else rot ((l - a) / 2) a
  | _ => if b = 0 then .none else if l ≤ a ∨ l ≤ b then .all else rot a b

/-- The level at position 0, the transitions at positions above 0 in order, and the level at the end (R225). -/
def refEdges (l : Nat) : RefOn → Bool × List (Nat × Bool) × Bool
  | .none => (false, [], false)
  | .all => (true, [], true)
  | .span s w =>
    let e := s + w
    if l < e then (true, [(e - l, false), (s, true)], true)
    else (s == 0, (if s = 0 then [] else [(s, true)]) ++ (if e < l then [(e, false)] else []), e == l)

/-! ### The grid of a channel in a window -/

/-- What edge generation knows of a channel and of its window: its configuration, slew limits, the grid step of its edges
and its dead-time floor (ET); the window in real time and in channel time; the CT64 of the tick with its fraction and the
advance of a tick in 2^-32; and the bootstrap times of an auxiliary leg (ET). -/
structure GenCfg where
  mode : Nat
  angle : Bool
  drop : Bool
  slewc : Nat
  slewp : Nat
  step : Nat
  aux : Bool
  floor : Nat
  t0 : Int
  t1 : Int
  a0 : Int
  a1 : Int
  now : Nat
  frac : Nat
  inc : Int
  tbst : Nat
  tref : Nat
  deriving DecidableEq, Repr

/-- The real time of a channel time in the window (R217). -/
def GenCfg.real (c : GenCfg) (a : Int) : Int :=
  if c.angle then c.t0 + roundDiv ((a - c.a0) * (c.t1 - c.t0)) (c.a1 - c.a0).toNat else a

/-- The first grid point at or after `w` on the grid of active PERIOD `v` from origin `o`: its index and channel time (R218,
R219). -/
def firstGrid (v : Nat) (o w : Int) : Nat × Int :=
  if w ≤ o then (0, o)
  else
    let q := (w - o).toNat / v
    let scan := (List.range 16).foldl (fun (p : Nat × Int) _ => if p.2 < w then (p.1 + 1, p.2 + (dither v p.1 : Int)) else p)
    scan (16 * q, o + (q * v : Nat))

/-- Move `cur` towards `tgt` by at most `lim`, 0 for no limit. -/
def slewTo (lim cur tgt : Nat) : Nat :=
  if lim = 0 then tgt else if cur ≤ tgt then min tgt (cur + lim) else max tgt (cur - lim)

/-- Move a phase towards `tgt` by at most `lim` along the shorter way round a period `p`, forwards where both are equal
(R231; DEDUCED, log 21). -/
def slewPhase (lim p cur tgt : Nat) : Nat :=
  if lim = 0 then tgt
  else
    let up := (tgt % p + p - cur % p) % p
    if min up (p - up) ≤ lim then tgt
    else if up ≤ p - up then (cur % p + lim) % p else (cur % p + p - lim) % p

/-- The channel at its next grid point (R229 to R231, R223): the fields that take effect, its period, and what its registers
show from then on. Its reference edges lie at different channel times, so R225 cancels none of them: an edge inside a period lies
between its grid points, and one at a grid point is made only where the level differs. -/
def gridStep (c : GenCfg) (x : ChSt) : ChSt :=
  let g := if x.inGrid then x.g + x.len else x.g
  let n := if x.inGrid then x.n + 1 else x.n
  let bad := shortPeriod x.staged
  let fs := x.staged.filter fun e => !(e.1 == 0 && e.2 < 0x4000)
  let tgt := newTargets x.tgt fs
  let free := x.firstLoad && !x.staged.isEmpty
  let act := applyFields x.act (fs.filter fun e => e.1 == 0 || 4 ≤ e.1)
  let v (i : Nat) := act.getD i 0
  let t (i : Nat) := tgt.getD i 0
  let ca := slewTo (if free then 0 else 16 * c.slewc) (v 1) (t 0)
  let cb := slewTo (if free then 0 else 16 * c.slewc) (v 2) (t 1)
  let cp := slewPhase (if free then 0 else 16 * c.slewp) (v 0) (v 3) (t 2)
  let act := ((act.set 1 ca).set 2 cb).set 3 cp
  let l := dither (v 0) n
  let re := refEdges l (refOn c.mode l (dither ca n) (dither cb n) (dither cp n))
  let mk (p : Nat) (lvl edge : Bool) : RefEdge :=
    { t := g + p, lvl := lvl, edge := edge, dead := if lvl then v 4 else v 5, minp := v 6, drop := true }
  let slewing := ca != t 0 || cb != t 1 || cp != t 2
  { x with staged := [], tgt := tgt, act := act, firstLoad := x.firstLoad && x.staged.isEmpty, inGrid := true, n := n, g := g, len := l
           raw := x.raw ++ mk 0 re.1 (re.1 != x.lvl) :: re.2.1.map fun e => mk e.1 e.2 true
           lvl := re.2.2
           grid := x.grid ++ [{ t := c.real g, n := n, act := act, lvl := re.1, took := !x.staged.isEmpty, perrej := bad,
                                slewlim := slewing, slewing := slewing }] }

/-- Every grid point of the window, at most `fuel` of them. -/
def gridLoop (c : GenCfg) : Nat → ChSt → ChSt
  | 0, x => x
  | fuel + 1, x => if (if x.inGrid then x.g + x.len else x.g) < c.a1 then gridLoop c fuel (gridStep c x) else x

/-! ### Rounding, cancelling and filtering (R234 to R237) -/

/-- The CT64 of the common tick `k` ticks from now (R39). -/
def GenCfg.tickAt (c : GenCfg) (k : Int) : Int := ((c.now * 2 ^ 32 + c.frac : Nat) + k * c.inc) / 2 ^ 32

/-- The grid instant nearest to `t`, an exact half away from zero (R234). -/
def GenCfg.nearest (c : GenCfg) (t : Int) : Int :=
  if c.aux then
    let k := ((t - c.now) * 2 ^ 32 - c.frac) / c.inc
    let best (p q : Int) : Int := if q - t ≤ t - p then q else p
    let lo := if c.tickAt (k + 1) ≤ t then k + 1 else k
    best (c.tickAt lo) (c.tickAt (lo + 1))
  else if c.step = 1 then t else roundDiv t c.step * c.step

/-- A duration rounded up to whole grid steps. -/
def GenCfg.up (c : GenCfg) (d : Nat) : Nat := (d + c.step - 1) / c.step * c.step

/-- Round edges in order with the error term; none falls before the window (R234). A point that is only a grid point takes its
place and leaves the term. -/
def placeEdges (c : GenCfg) : Int → List RefEdge → List RefEdge × Int
  | err, [] => ([], err)
  | err, e :: r =>
    let t := c.real e.t
    let tq := max c.t0 (c.nearest (t + err))
    let err' := if e.edge then t + err - tq else err
    let (l, err'') := placeEdges c err' r
    ({ e with t := tq } :: l, err'')

/-- What the filter answers: accepted edges, newest first; the edges left for the next window; intervals dropped, stretched or
merged; and whether DROP met an edge that was not droppable. -/
structure Filtered where
  acc : List RefEdge
  rest : List RefEdge
  cnt : Nat
  force : Bool
  deriving DecidableEq, Repr

/-- The minimum-pulse and minimum-off filter (R236, R237): the interval that `o` opened is judged with the fields in effect at `o`
(DEDUCED, log 53). An edge that a stretch moves past the window stays for the next, where it falls before the window's start and is not
counted again. -/
def filterEdges (c : GenCfg) : List RefEdge → List RefEdge → Nat → Bool → Filtered
  | acc, [], n, f => { acc := acc, rest := [], cnt := n, force := f }
  | [], e :: r, n, f => filterEdges c [e] r n f
  | o :: acc, e :: r, n, f =>
    let need : Nat := c.up (max o.dead c.floor) + c.up o.minp
    if need ≤ e.t - o.t then filterEdges c (e :: o :: acc) r n f
    else if c.drop && o.drop && !acc.isEmpty then filterEdges c acc r (n + 1) f
    else
      let n := if e.t < c.t0 then n else n + 1
      let f := f || (c.drop && decide (c.t0 ≤ e.t))
      match r with
      | x :: r' =>
        if x.t ≤ o.t + need then filterEdges c (o :: acc) r' n f
        else filterEdges c ({ e with t := o.t + need } :: o :: acc) (x :: r') n f
      | [] =>
        if c.t1 ≤ o.t + need then { acc := o :: acc, rest := [e], cnt := n, force := f }
        else { acc := { e with t := o.t + need } :: o :: acc, rest := [], cnt := n, force := f }

/-! ### Outputs (R235, R238) -/

/-- The output edges of accepted edges, in order, from a turn-on still to come (R235). An output whose interval leaves it no
on-time does not move. -/
def outEdges (c : GenCfg) : Option OutEdge → List RefEdge → List OutEdge × Option OutEdge
  | pend, [] =>
    match pend with
    | some p => if p.t < c.t1 then ([p], none) else ([], some p)
    | none => ([], none)
  | pend, e :: r =>
    let on : OutEdge := { t := e.t + c.up (max e.dead c.floor), high := e.lvl, level := true }
    let off : OutEdge := { t := e.t, high := !e.lvl, level := false }
    let here := match pend with
      | some p => if p.t < e.t then [p, off] else []
      | none => [off]
    let (l, p) := outEdges c (some on) r
    (here ++ l, p)

/-! ### Bootstrap refresh (12 R444, R445) -/

/-- b of R444 at `t`. -/
def RefrSt.bAt (x : RefrSt) (c : GenCfg) (t : Int) : Int :=
  match x.lOn with | some u => if c.tref ≤ t - u then 0 else t - x.b | none => t - x.b

/-- L turns off at `t`. -/
def RefrSt.lOff (x : RefrSt) (c : GenCfg) (t : Int) : RefrSt :=
  { x with l := false, lOn := none, b := match x.lOn with | some u => if c.tref ≤ t - u then t else x.b | none => x.b }

/-- A signal of step 5 changes (R445): the leg, the edges it makes, and whether a refresh starts. -/
def RefrSt.signal (x : RefrSt) (c : GenCfg) (dtr : Nat) (e : OutEdge) : RefrSt × List OutEdge × Bool :=
  match e.high, e.level with
  | true, true =>
    let x := { x with sh := true }
    if x.cur.isSome || x.h then (x, [], false)
    else if c.tbst ≤ x.bAt c e.t then ({ x with cur := some (e.t, e.t + c.tref, e.t + c.tref + dtr) }, [], true)
    else ({ x with h := true }, [e], false)
  | true, false => if x.h then ({ x with sh := false, h := false }, [e], false) else ({ x with sh := false }, [], false)
  | false, true =>
    let x := { x with sl := true, cur := none }
    if x.l then (x, [], false) else ({ x with l := true, lOn := some e.t }, [e], false)
  | false, false => if x.l && x.cur.isNone then ({ x.lOff c e.t with sl := false }, [e], false) else ({ x with sl := false }, [], false)

/-- When the leg next moves of itself: a refresh under way goes on (its L turns on, turns off, H follows), or b reaches
T_BST_MAX with H on. -/
def RefrSt.nextAt (x : RefrSt) (c : GenCfg) : Option Int :=
  match x.cur with
  | some (u, v, w) => some (if 0 ≤ u then u else if 0 ≤ v then v else w)
  | none => if x.h then some (max c.t0 (x.b + c.tbst)) else none

/-- The leg moves of itself at `t`; a phase that is past is marked -1. -/
def RefrSt.self (x : RefrSt) (c : GenCfg) (dtr dtf : Nat) (t : Int) : RefrSt × List OutEdge × Bool :=
  match x.cur with
  | some (u, v, w) =>
    if 0 ≤ u then ({ x with l := true, lOn := some t, cur := some (-1, v, w) }, [⟨t, false, true⟩], false)
    else if 0 ≤ v then ({ (x.lOff c t) with cur := some (-1, -1, w) }, [⟨t, false, false⟩], false)
    else if x.sh then ({ x with cur := none, h := true }, [⟨t, true, true⟩], false) else ({ x with cur := none }, [], false)
  | none =>
    let on := t + dtf
    ({ x with h := false, cur := some (on, on + c.tref, on + c.tref + dtr) }, [⟨t, true, false⟩], true)

/-- Step 6 over the signals of a window (R444 to R446): the leg, its edges, and the refreshes inserted. -/
def refresh (c : GenCfg) (dtr dtf : Nat) : Nat → RefrSt → List OutEdge → RefrSt × List OutEdge × Nat
  | 0, x, _ => (x, [], 0)
  | fuel + 1, x, sig =>
    let step (y : RefrSt × List OutEdge × Bool) (rest : List OutEdge) : RefrSt × List OutEdge × Nat :=
      let (z, l, n) := refresh c dtr dtf fuel y.1 rest
      (z, y.2.1 ++ l, n + b2n y.2.2)
    match sig, x.nextAt c with
    | [], none => (x, [], 0)
    | [], some t => if t < c.t1 then step (x.self c dtr dtf t) [] else (x, [], 0)
    | e :: r, none => step (x.signal c dtr e) r
    | e :: r, some t => if t < e.t then step (x.self c dtr dtf t) (e :: r) else step (x.signal c dtr e) r

/-! ### Generating a channel -/

/-- What a window of a channel gives: the channel after it, its edges, refreshes, intervals judged short, and MPFORCE. -/
structure GenRes where
  x : ChSt
  edges : List OutEdge
  refs : Nat
  cnt : Nat
  force : Bool
  deriving DecidableEq, Repr

/-- The level an output has after edges, from `l`. -/
def levelAfter (high : Bool) (l : Bool) (es : List OutEdge) : Bool :=
  es.foldl (fun l e => if e.high = high then e.level else l) l

/-- A channel starts with this window (R219). -/
def startCh (c : GenCfg) (o : Int) (x : ChSt) : ChSt :=
  let (m, g) := firstGrid (x.act.getD 0 0x4000) o c.a0
  { x with starting := false, firstLoad := true, inGrid := false, n := m, g := g, len := 0, raw := [], late := [], err := 0, lvl := false,
           off := true, last := none, pend := none }

/-- The window of a running channel (R233). -/
def genWindow (c : GenCfg) (o : Int) (x0 : ChSt) : GenRes :=
  let x := if x0.starting then startCh c o x0 else x0
  let x := if x.off then { x with last := none, pend := none, endH := false, endL := false,
                                  refr := { refr0 with b := c.t0 - c.tbst } } else x
  let x := gridLoop c 1100 x
  let (placed, err) := placeEdges c x.err (x.raw.filter (·.t < c.a1))
  let all := x.late ++ placed
  let x := { x with raw := x.raw.filter (fun e => c.a1 ≤ e.t), err := err, late := all.filter (fun e => c.t1 ≤ e.t && e.edge) }
  let here := all.filter (·.t < c.t1)
  let edgesOf (l : List RefEdge) := l.filter (·.edge)
  let start : Option RefEdge × List OutEdge × List RefEdge × Bool := match x.last, here with
    | some l, _ => (some l, [], edgesOf here, x.off)
    | none, [] => (none, [], [], true)
    | none, e :: r => (some { e with drop := false }, [⟨e.t, e.lvl, true⟩], edgesOf r, false)
  match start with
  | (none, _, _, off) =>
    { x := { x with off := off, startH := false, startL := false, edges := [] }, edges := [], refs := 0, cnt := 0, force := false }
  | (some o, first, es, off) =>
    let f := filterEdges c [o] es 0 false
    let (outs, pend) := outEdges c x.pend (f.acc.reverse.drop 1)
    let sig := first ++ outs
    let (rf, gates, refs) := if c.aux then
        refresh c (c.up (max (x.act.getD 4 0) c.floor)) (c.up (max (x.act.getD 5 0) c.floor)) (4 * sig.length + 64) x.refr sig
      else (x.refr, sig, 0)
    let rel := gates.map fun e => { e with t := e.t - c.t0 }
    let top := f.acc.head?.map fun e : RefEdge => { e with drop := false }
    { x := { x with last := top
                    late := f.rest ++ x.late, pend := pend, off := off, startH := x.endH, startL := x.endL
                    endH := levelAfter true x.endH gates, endL := levelAfter false x.endL gates, edges := rel, refr := rf }
      edges := gates, refs := refs, cnt := f.cnt, force := f.force }

/-- The edge resolution of a cell channel's pod, 2^RES ET (06 Table 1, 07 Table 12). -/
def State.podRes (s : State) (lane : Nat) : Nat := 2 ^ bitsOf (s.regN (R.OCL_LCAP_LO lane)) 17 3

/-- The advance of CT64 in a tick, in 2^-32 ET (R39). -/
def State.tickInc (s : State) : Int := 16 * 2 ^ 32 + (s.reg R.CHRONO_TRIM).toInt

/-- What edge generation knows of channel `c` for the window from `t0` to `t1`, which follows boundary number `k`. -/
def State.genCfg (s : State) (c : Nat) (k : Nat) (t0 t1 : Nat) : GenCfg :=
  let r := ri c
  let angle := s.on (F.MOD_CFG_BASE r)
  let aref := s.get F.MOD_AREF_AREF
  let aux := decide (464 ≤ c)
  let a := (c - 464) / 3
  { mode := s.get (F.MOD_CFG_MODE r), angle := angle, drop := !s.on (F.MOD_CFG_POLICY r), slewc := s.get (F.MOD_SLEW_SLEWC r)
    slewp := s.get (F.MOD_SLEW_SLEWP r), step := if c < 448 then s.podRes (c / 8) else if aux then 16 else 1, aux := aux
    floor := if aux then 16 * s.floorOf a else 0, t0 := t0, t1 := t1
    a0 := if angle then (k * aref : Nat) else (t0 : Int), a1 := if angle then ((k + 1) * aref : Nat) else (t1 : Int)
    now := s.now, frac := s.chrono.frac, inc := s.tickInc
    tbst := if aux then 32000 * s.get (F.AXD_BST_TBST a) else 0, tref := if aux then 16 * s.get (F.AXD_BST_TREF a) else 0 }

/-- The origin of a channel's grid (R218). -/
def State.gridOrigin (s : State) (c : Nat) : Int := if s.on (F.MOD_CFG_BASE (ri c)) then 0 else (s.reg64 R.MOD_TREF_LO : Int)

/-- Flags and counts of a generated window (R236, R237, R246, 12 R446). -/
def State.genFlags (s : State) (c : Nat) (g : GenRes) : State :=
  let s := if g.cnt = 0 then s else (s.count R.MOD_MPCNT g.cnt).chFault c F.MOD_CHST_MINPULSE Q.MOD_MINPULSE (hw (chBase c))
  let s := if g.force then s.chFault c F.MOD_CHST_MPFORCE Q.MOD_MPFORCE (hw (chBase c)) else s
  if 464 ≤ c ∧ g.refs ≠ 0 then s.count (R.AXD_REFCNT ((c - 464) / 3)) g.refs else s

/-- Add an edge to those to play, in order of time. -/
def insPlay (e : Nat × OutEdge) : List (Nat × OutEdge) → List (Nat × OutEdge)
  | [] => [e]
  | x :: r => if e.2.t < x.2.t then e :: x :: r else x :: insPlay e r

/-- A local or auxiliary channel generates its window; more than 64 edges of one output turn both off (R241). -/
def State.genLocal (s : State) (c k t0 t1 : Nat) : State :=
  let wasOff := (s.chan c).off || (s.chan c).starting
  let g := genWindow (s.genCfg c k t0 t1) (s.gridOrigin c) (s.chan c)
  let s := s.genFlags c g
  let ovf := 64 < (g.edges.filter (·.high)).length || 64 < (g.edges.filter (!·.high)).length
  let offs : List OutEdge := [⟨t0, true, false⟩, ⟨t0, false, false⟩]
  let es := if ovf then offs else if wasOff then offs ++ g.edges else g.edges
  let x := if ovf then { g.x with off := true, edges := [], endH := false, endL := false } else g.x
  let s := s.setChan c x
  let s := { s with mod := { s.mod with play := es.foldl (fun p e => insPlay (c, e) p) s.mod.play } }
  if ovf then s.chFault c F.MOD_CHST_EQOVF Q.MOD_EQOVF (hw (chBase c)) else s

/-- An edge record (06 Table 3). -/
def edgeRecord (ch : Nat) (e : OutEdge) : Word :=
  BitVec.ofNat 32 (2 ^ 28 * b2n e.level + 2 ^ 27 * b2n (!e.high) + 2 ^ 24 * ch + e.t.toNat)

/-- Whether record `x` goes before `y`: OFFSET, then CH, then SIDE with H first (R241). -/
def recBefore (x y : Word) : Bool :=
  let key (w : Word) : Nat := 16 * (w.toNat % 2 ^ 24) + w.toNat / 2 ^ 27 % 2 + 2 * (w.toNat / 2 ^ 24 % 8)
  key x < key y

/-- Put a record into its place. -/
def insRec (x : Word) : List Word → List Word
  | [] => [x]
  | y :: r => if recBefore x y then x :: y :: r else y :: insRec x r

/-- The channels of a lane generate their window into its edge queue (R240, R241). -/
def State.genLane (s : State) (l k t0 t1 : Nat) : State :=
  let chans := (List.range 8).filter fun c => s.on (F.MOD_CFG_EN (ri (8 * l + c)))
  if chans.isEmpty then { s with mod := { s.mod with win := spDel s.mod.win l } }
  else
    let s := chans.foldl (fun s c =>
      let g := genWindow (s.genCfg (8 * l + c) k t0 t1) (s.gridOrigin (8 * l + c)) (s.chan (8 * l + c))
      (s.setChan (8 * l + c) g.x).genFlags (8 * l + c) g) s
    let recs := chans.foldl (fun rs c => (s.chan (8 * l + c)).edges.foldl (fun rs e => insRec (edgeRecord c e) rs) rs) []
    let slvl := chans.foldl (fun n c => n + 4 ^ c * (b2n (s.chan (8 * l + c)).startH + 2 * b2n (s.chan (8 * l + c)).startL)) 0
    let ovf := decide (128 < recs.length)
    let s := { s with mod := { s.mod with win := spIns s.mod.win l (slvl, ovf, recs) } }
    if ovf then chans.foldl (fun s c =>
      if (s.chan (8 * l + c)).edges.isEmpty then s else s.chFault (8 * l + c) F.MOD_CHST_EQOVF Q.MOD_EQOVF (hw (chBase (8 * l + c)))) s
    else s

/-- Edge generation of the window from `t0` to `t1` after boundary number `k`, for every running channel (R239). The ticks it
takes, at most 128, are a free value (DESIGN CHOICE, log 2). -/
def State.generate (s : State) (k t0 t1 : Nat) : State :=
  let s := (List.range 56).foldl (fun s l => s.genLane l k t0 t1) s
  let run := (List.range 17).foldl (fun n j => if s.on (F.MOD_CFG_EN (ri (localChan j))) then n + 2 ^ j else n) 0
  let s := (List.range 17).foldl (fun s j => if run.testBit j then s.genLocal (localChan j) k t0 t1 else s) s
  let (v, s) := s.draw
  ({ s with mod := { s.mod with runNext := run } }).set F.MOD_GENT_GENT (v.toNat % 129)

/-- The outputs of a lane's channels after a window whose frame carried its records (R238). -/
def State.laneSent (s : State) (l : Nat) : State :=
  let s := (List.range 8).foldl (fun s c =>
    let x := s.chan (8 * l + c)
    s.setChan (8 * l + c) { x with sched := x.edges }) s
  { s with mod := { s.mod with replays := spDel s.mod.replays l } }

/-- After a window whose schedule was empty, both outputs of every channel are off (R238). -/
def State.laneEmpty (s : State) (l : Nat) : State :=
  let s := (List.range 8).foldl (fun s c =>
    let x := s.chan (8 * l + c)
    s.setChan (8 * l + c) { x with sched := [], off := true, endH := false, endL := false }) s
  { s with mod := { s.mod with replays := spDel s.mod.replays l } }

/-- After a window for which the lane sent no frame, the outputs have the levels of the pod's replay; the ninth in a row leaves
them off (R238). -/
def State.laneReplay (s : State) (l : Nat) : State :=
  let n := spGet 0 s.mod.replays l + 1
  if 9 ≤ n then { s.laneEmpty l with mod := { (s.laneEmpty l).mod with replays := spIns s.mod.replays l n } }
  else
    let s := (List.range 8).foldl (fun s c =>
      let x := s.chan (8 * l + c)
      s.setChan (8 * l + c) { x with endH := levelAfter true x.startH x.sched, endL := levelAfter false x.startL x.sched }) s
    { s with mod := { s.mod with replays := spIns s.mod.replays l n } }

/-- At a boundary the window generated last begins to play (R219, R220). -/
def State.modBoundary (s : State) : State := { s with mod := { s.mod with run := s.mod.runNext } }

/-- The grid starts or stops: running channels start again with the first window (R221; DEDUCED, log 20), and nothing is left to play. -/
def State.modGridReset (s : State) : State :=
  let s := s.mod.ch.foldl (fun s e =>
    s.setChan e.1 { e.2 with starting := s.on (F.MOD_CFG_EN (ri e.1)), off := true, grid := [], raw := [], late := [] }) s
  { s with mod := { s.mod with play := [], win := [], run := 0, runNext := 0 } }

/-! ### Grid points and edges in real time -/

/-- After an override ends, the output that the reference level selects turns on at the grid point (R244, R238); on an auxiliary
leg a refresh precedes H (12 R439, R445). -/
def State.restartLocal (s : State) (j : Nat) (lvl : Bool) (t : Int) : State :=
  let c := localChan j
  let s := { s with mod := { s.mod with wait := putBit s.mod.wait j false } }
  let put (s : State) (h l : Bool) : State := { s with mod := { s.mod with sigH := putBit s.mod.sigH j h, sigL := putBit s.mod.sigL j l } }
  if 8 ≤ j && lvl then
    let a := (j - 8) / 3
    let tref : Int := (16 * s.get (F.AXD_BST_TREF a) : Nat)
    let dtr : Int := ((max (s.regN (R.MOD_ACT_DT (ri c)) / 2 ^ 16) (16 * s.floorOf a) + 15) / 16 * 16 : Nat)
    let play := s.mod.play.filter fun e => !(e.1 == c && e.2.t < t + tref + dtr && (e.2.high || e.2.level))
    let play := insPlay (c, ⟨t + tref, false, false⟩) (insPlay (c, ⟨t + tref + dtr, true, true⟩) play)
    ((put s false true).count (R.AXD_REFCNT a) 1) |> fun s => { s with mod := { s.mod with play := play } }
  else put s lvl (!lvl)

/-- The number of a local channel as a comparator's CLRCH names it (11 R415): pairs 0 to 7, leg 0 of an auxiliary channel 8
to 10. -/
def clrchOf (c : Nat) : Option Nat :=
  if 448 ≤ c ∧ c < 456 then some (c - 448) else if 464 ≤ c ∧ (c - 464) % 3 = 0 then some (8 + (c - 464) / 3) else none

/-- The registers show the grid point (R229 to R231). -/
def State.showGrid (s : State) (c : Nat) (e : GridEv) : State :=
  let r := ri c
  let a := hw (chBase c)
  let s := (s.showAct c e.act).setRegN (R.MOD_NIDX r) e.n
  let s := ((s.set (F.MOD_CHST_DPH r) (e.n % 16)).setB (F.MOD_CHST_SLEWING r) e.slewing).setB (F.MOD_CHST_STG r)
    (!(s.chan c).staged.isEmpty || (s.chan c).grid.any (·.took))
  let s := if e.perrej then s.chFault c F.MOD_CHST_PERREJ Q.MOD_PERREJ a else s
  if e.slewlim then s.chFault c F.MOD_CHST_SLEWLIM Q.MOD_SLEWLIM a else s

/-- A channel reaches its next grid point (R229, R245; 11 R412, R416; 10 R386). -/
def State.gridPoint (s : State) (c : Nat) : State :=
  let x := s.chan c
  match x.grid with
  | [] => s
  | e :: rest =>
    let s := (s.setChan c { x with grid := rest }).showGrid c e
    let s := match clrchOf c with | some ch => s.periodStartClear ch | none => s
    let s := if 448 ≤ c ∧ c < 456 then s.injTrigger 2 (c - 448) else s
    if c < 448 then s
    else
      let j := if c < 456 then c - 448 else c - 456
      let s := if 464 ≤ c then s.legGrid (c - 464) else s
      if s.mod.wait.testBit j && !s.overridden j && !(8 ≤ j && s.gatesHeld ((j - 8) / 3)) then s.restartLocal j e.lvl e.t else s

/-- The next scheduled edge of a local or auxiliary output: its signal moves, and its pin with it where the signals drive it
(R43, R242). -/
def State.playEdge (s : State) : State :=
  match s.mod.play with
  | [] => s
  | (c, e) :: rest =>
    let j := if c < 456 then c - 448 else c - 456
    let s := { s with mod := { s.mod with play := rest } }
    let s := if e.high then { s with mod := { s.mod with sigH := putBit s.mod.sigH j e.level } }
      else { s with mod := { s.mod with sigL := putBit s.mod.sigL j e.level } }
    let s := if 8 ≤ j && e.high && e.level && !s.on (F.AXD_CHCFG_SRC ((j - 8) / 3)) then s.hCommand (j - 8) else s
    s.pinsAt e.t.toNat

/-! ### Register writes (R219 to R221, R226, R227, R232) -/

/-- Whether a write of MOD_CFG is refused (R232; 12 R467). -/
def State.cfgBad (s : State) (c : Nat) (v : Word) : Bool :=
  let r := ri c
  let new (f : Nat → Fld) := fldOf (f r) v
  (s.on (F.MOD_CFG_EN r) && (new F.MOD_CFG_BASE != s.get (F.MOD_CFG_BASE r) || new F.MOD_CFG_MODE != s.get (F.MOD_CFG_MODE r)
      || new F.MOD_CFG_GRP != s.get (F.MOD_CFG_GRP r)))
    || (new F.MOD_CFG_SAFEH == 1 && new F.MOD_CFG_SAFEL == 1) || new F.MOD_CFG_SAFEH == 3 || new F.MOD_CFG_SAFEL == 3
    || new F.MOD_CFG_MODE == 3
    || (decide (464 ≤ c) && s.on (F.AXD_CHSTAT_DIAG ((c - 464) / 3)) && new F.MOD_CFG_EN == 1)

/-- A write of MOD_CFG (R219, R220, R232). -/
def State.cfgWrite (s : State) (m : Master) (c : Nat) (v : Word) : State :=
  if s.cfgBad c v then s.chFault c F.MOD_CHST_CFGREJ Q.MOD_CFGREJ (wr m (chBase c))
  else
    let was := s.on (F.MOD_CFG_EN (ri c))
    let s := s.plainWrite (chBase c) v
    let x := s.chan c
    if !was && s.on (F.MOD_CFG_EN (ri c)) then s.setChan c { x with starting := true, off := true }
    else if was && !s.on (F.MOD_CFG_EN (ri c)) then s.setChan c { x with starting := false, off := true }
    else s

/-- The channel whose block holds address `a` (06 Table 1). -/
def chanAt (a : Nat) : Option Nat :=
  if 0x12000000 ≤ a ∧ a < 0x12007000 then some ((a - 0x12000000) / 0x40)
  else if 0x12010000 ≤ a ∧ a < 0x12010200 then some (448 + (a - 0x12010000) / 0x40)
  else if 0x12010400 ≤ a ∧ a < 0x12010640 then some (464 + (a - 0x12010400) / 0x40) else none

/-- Groups armed by the host (R227); with the Helm not running they wait for the deadline instant of the next period too. -/
def State.gload (s : State) (v : Word) : State := s.orFld F.MOD_GARM_G (v.toNat % 2 ^ 16)

/-- A write of MOD_AREF or of MOD_TREF (R221): only while SEXT_CTRL.EN is 0, AREF within its range. -/
def State.refWrite (s : State) (m : Master) (a : Nat) (f : State → State) (ok : Bool) : State :=
  if s.on F.SEXT_CTRL_EN || !ok then s.faultNew F.MOD_GSTAT_CFGREJ Q.MOD_CFGREJ (wr m a) else f s

/-- A write in the MOD block. -/
def State.writeMOD (s : State) (m : Master) (a : Nat) (v : Word) : State :=
  match chanAt a with
  | some c =>
    let off := a % 0x40
    let w (s : State) (fs : List Nat) : State := (s.plainWrite a v).orFld (F.MOD_CHST_WR (ri c)) (fs.foldl (fun n f => n + 2 ^ f) 0)
    if off = 0 then s.cfgWrite m c v
    else if off = 0x04 then w s [0] else if off = 0x08 then w s [1] else if off = 0x0C then w s [2]
    else if off = 0x10 then w s [3] else if off = 0x14 then w s [4, 5] else if off = 0x18 then w s [6]
    else s.plainWrite a v
  | none =>
    if a = R.MOD_GLOAD then s.gload v
    else if a = R.MOD_AREF then
      s.refWrite m a (·.plainWrite a v) (1000 ≤ fldOf F.MOD_AREF_AREF v && fldOf F.MOD_AREF_AREF v ≤ 1000000)
    else if a = R.MOD_TREF_LO ∨ a = R.MOD_TREF_HI then s.refWrite m a (·.plainWrite a v) true
    else s.plainWrite a v

/-- MOD_FSUM (06 Table 7). -/
def State.fsum (s : State) : Nat := allChans.foldl (fun n c => n ||| s.regN (R.MOD_CHST (ri c)) % 256) 0

/-! ### The commands -/

/-- The channel number of the `i`th of the 465 channels. -/
def chanOf (i : Fin 465) : Nat := if i.val < 456 then i.val else i.val + 8

/-- GRID_POINT (R229). -/
def execGridPoint (c : Fin 465) (s : State) : Host.Outcome State Fault Refusal := .next (settle s (s.gridPoint (chanOf c)))

/-- LOCAL_EDGE_OUTPUT (R43). -/
def execLocalEdgeOutput (s : State) : Host.Outcome State Fault Refusal := .next (settle s s.playEdge)

end Sys2Proof.Machine
end

