-- ==== Sys2Proof/Machine/Sextant.lean ====
section
/-! DEFINITION. Machine/Sextant.lean: the Sextant: its sources, its loop, its states, the period grid and the commitment of
boundaries (02_chronometer_and_sextant.md R57 to R87). -/
namespace Sys2Proof.Machine

/-- C of R64: CT64 units in a second. -/
def ctSecond : Nat := 3200000000

/-- Sextant states (Table 4). -/
def sxOFF : Nat := 0
def sxSEEK : Nat := 1
def sxLOCKED : Nat := 2
def sxCOAST : Nat := 3
def sxREACQ : Nat := 4

def State.sx (s : State) : Nat := s.get F.SEXT_STAT_STATE

/-- The Sextant enters a state: LOCK and COAST as Table 4 gives them. -/
def State.setSx (s : State) (st : Nat) : State :=
  let s := ((s.set F.SEXT_STAT_STATE st).setB F.SEXT_STAT_LOCK (st == sxLOCKED)).setB F.SEXT_STAT_COAST (st == sxCOAST || st == sxREACQ)
  { s with sext := { s.sext with suspectRun := 0, validRun := 0, invalidRun := 0 } }

/-- An angle in turns taken modulo 1 into 0..1. -/
def wrap1 (x : Rat) : Rat := x - x.floor

/-- An angle in turns taken modulo 1 into -1/2..1/2 (R58). -/
def wrapS (x : Rat) : Rat := wrap1 (x + 1 / 2) - 1 / 2

/-- An angle in units of 2^-32 turn (R57). -/
def angleWord (x : Rat) : Word := BitVec.ofInt 32 (quantize (x * 2 ^ 32))

/-- A frequency in UQ8.24 (R59). -/
def freqWord (f : Rat) : Word := BitVec.ofInt 32 (quantize (f * 2 ^ 24))

def State.sxN (s : State) : Nat := s.get F.SEXT_N_N
def State.fMin (s : State) : Rat := (s.get F.SEXT_FLIM_F_MIN : Rat) / 256
def State.fMax (s : State) : Rat := (s.get F.SEXT_FLIM_F_MAX : Rat) / 256
def State.fNom (s : State) : Rat := (s.regN R.SEXT_FNOM : Rat) / 2 ^ 24

/-- D_MIN and D_MAX from N and SEXT_FLIM, saturating (R78). -/
def State.setBounds (s : State) : State :=
  let n := s.sxN
  let fx := s.get F.SEXT_FLIM_F_MAX
  let fn := s.get F.SEXT_FLIM_F_MIN
  let sat (x : Nat) : Nat := min x 0xFFFFFFFF
  let dmin := if n * fx = 0 then 0xFFFFFFFF else sat ((256 * ctSecond + n * fx - 1) / (n * fx))
  let dmax := if n * fn = 0 then 0xFFFFFFFF else sat (256 * ctSecond / (n * fn))
  (s.setRegN R.SEXT_DMIN dmin).setRegN R.SEXT_DMAX dmax

/-- The nominal length of a period at frequency `f`, whole CT64 (R76, R80). -/
def State.dNom (s : State) (f : Rat) : Int := roundRat ((ctSecond : Rat) / ((s.sxN : Rat) * f))

/-! ### Sources (R60 to R63) -/

/-- A result the Sextant reads: its value in Q15, its stamp, whether it is present and whether it is sound (R62). -/
structure SxSrc where
  v : Rat
  stamp : Nat
  present : Bool
  sound : Bool
  deriving DecidableEq, Repr

/-- The ADC result word `n` as a source. -/
def State.adcSrc (s : State) (n : Nat) : SxSrc :=
  let st := s.reg64 (R.ADC_RES n 1)
  { v := (signedOf 16 (s.regN (R.ADC_RES n 0)) : Rat) / 32768, stamp := st
    present := 0 ≤ ctDiff st s.sext.b0 && 0 ≤ ctDiff s.now st && s.regN (R.ADC_RES n 1) + s.regN (R.ADC_RES n 2) != 0
    sound := !s.adc.plaus.contains n }

/-- The result of sigma-delta filter `n` as a source. -/
def State.sdfSrc (s : State) (n : Nat) : SxSrc :=
  let n := n % 16
  { v := (signedOf 16 (s.get (F.SDF_RES_R n)) : Rat) / 32768, stamp := s.reg64 (R.SDF_RSTAMP_LO n)
    present := s.adc.sdfNew.testBit n, sound := !s.adc.stuck.testBit n && !s.on (F.SDF_RES_CLIP n) }

/-- What an update finds at its inputs: v_α and v_β, |V|, the stamp of input A, and the conditions of R62. -/
structure SxIn where
  va : Rat
  vb : Rat
  amp : Rat
  stamp : Nat
  present : Bool
  valid : Bool
  deriving DecidableEq, Repr

/-- The inputs of an update (R60, R62). -/
def State.sxInputs (s : State) : SxIn :=
  let src (n : Nat) : SxSrc := if s.on F.SEXT_CTRL_SRC then s.sdfSrc n else s.adcSrc n
  let a := src (s.get F.SEXT_SRCIDX_A)
  let b := src (s.get F.SEXT_SRCIDX_B)
  let c := src (s.get F.SEXT_SRCIDX_C)
  let va := if s.on F.SEXT_CTRL_CONN then (a.v - c.v) / 3 else (2 * a.v - b.v - c.v) / 3
  let vb := (if s.on F.SEXT_CTRL_CONN then b.v else b.v - c.v) * Config.invSqrt3
  let amp := Config.sqrtRat (va * va + vb * vb)
  let present := a.present && b.present && c.present
      && (!s.on F.SEXT_CTRL_SRC || (a.stamp == b.stamp && b.stamp == c.stamp))
  let big := (s.get F.SEXT_AMP_AMP_MIN : Rat) / 32768 * ((s.get F.SEXT_AMP_VNOM : Rat) / 32768) ≤ amp
  { va := va, vb := vb, amp := amp, stamp := a.stamp, present := present, valid := present && a.sound && b.sound && c.sound && big }

/-! ### The update (R64 to R75) -/

/-- The phase error at predicted angle `th` (R64); the tracked angle is that of the grid minus SEXT_OFS (R61). -/
def State.phaseErr (s : State) (x : SxIn) (th : Rat) : Rat :=
  let u := wrap1 (th + (s.regN R.SEXT_OFS : Rat) / 2 ^ 32)
  let vd := x.va * Config.cosTurns u + x.vb * Config.sinTurns u
  let vq := -(x.va * Config.sinTurns u) + x.vb * Config.cosTurns u
  wrapS (Config.atan2Turns vq vd)

/-- The Sextant enters COAST with the frequency frozen at the integrator value (R73). -/
def State.enterCoast (s : State) (fromLocked : Bool) : State :=
  let s := { s.setSx sxCOAST with sext := { (s.setSx sxCOAST).sext with f := s.sext.i } }
  if fromLocked then (s.faultNew F.SEXT_STAT_UNLOCK Q.SEXT_UNLOCK (hw 0)).setReg R.SEXT_COAST_T 1 else s

/-- The transitions of Table 5 at an update (R70), and the coast time (R74, R75). -/
def State.sxMove (s : State) : State :=
  let loss := s.get F.SEXT_LCFG_LOSS_CNT
  let locked := s.get F.SEXT_LCFG_LOCK_CYC * s.sxN ≤ s.regN R.SEXT_LOCKCNT
  let was := s.on F.SEXT_STAT_COAST
  let t := match s.sx with
    | 1 => if locked then s.setSx sxLOCKED else s
    | 2 => if loss ≤ s.sext.suspectRun then s.enterCoast true else s
    | 3 => if loss ≤ s.sext.validRun then s.setSx sxREACQ else s
    | 4 => if locked then s.setSx sxLOCKED else if loss ≤ s.sext.invalidRun then s.enterCoast false else s
    | _ => s
  let t := if was && t.on F.SEXT_STAT_COAST then t.count R.SEXT_COAST_T 1 else t
  let lim := t.regN R.SEXT_COASTMAX
  if t.on F.SEXT_STAT_COAST && lim != 0 && t.regN R.SEXT_COAST_T == lim then t.faultNew F.SEXT_STAT_COASTLIM Q.SEXT_COASTLIM (hw 0)
  else t

/-- The length of period k+1 and whether a clamp changed the proposed one (R80, R81). -/
def State.nextLen (s : State) (f eps : Rat) : Int × Bool :=
  let dk : Int := (s.sext.b1 : Int) - s.sext.b0
  let dn := s.dNom f
  let d := roundRat ((2 / (s.sxN : Rat) - eps) * ctSecond / f) - dk
  let sl := roundRat ((s.get F.SEXT_LCFG_SLEW_MAX : Rat) / 65536 * ctSecond / f)
  let d' := clampInt (s.regN R.SEXT_DMIN) (s.regN R.SEXT_DMAX) (clampInt (dn - sl) (dn + sl) d)
  (d', d' != d)

/-- Commit b_{k+2} (R80, R81). -/
def State.commit (s : State) (f eps : Rat) : State :=
  let (d, cl) := s.nextLen f eps
  let s := { s with sext := { s.sext with b2 := ctAdd s.sext.b1 d, comm := true } }
  let s := s.setReg64 R.SEXT_B2_LO s.sext.b2
  if cl && s.active then s.faultNew F.SEXT_STAT_CLAMP Q.SEXT_CLAMP (hw 0) else s

/-- Write the words of the Sextant record (R84). -/
def State.sxRecord (s : State) (amp : Rat) : State :=
  let put (s : State) (i : Nat) (v : Word) : State := s.store (sdmAddr (0x3FF0 + i)) 4 v.toNat
  let num (n : Nat) : Word := BitVec.ofNat 32 n
  let ws : List Word := [num s.sext.k, s.reg R.SEXT_ANGLE, s.reg R.SEXT_FREQ, s.reg R.SEXT_SERR, num (s.sext.b1 - s.sext.b0),
    num (s.sext.b2 - s.sext.b1), num s.sext.b1, num (s.sext.b1 / 2 ^ 32), num (s.regN R.SEXT_STAT % 32), s.reg R.SEXT_COAST_T,
    num (quantize (amp * 32768)).toNat, 0, 0, 0, 0, 0]
  ((List.range 16).zip ws).foldl (fun s e => put s e.1 e.2) s

/-- The loop and the proposed end of period k+1 from the inputs of an update (R64 to R82). A standby takes the loop's state from the
mirror of each period; what its own update proposes for b_{k+2} serves until the mirror replaces it, and stands when no mirror comes
(R86; 09 R356). -/
def State.sxLoop (s : State) (x : SxIn) (sk : Nat) (thP e : Rat) : State :=
  let st := s.sx
  let dt := (ctDiff sk s.sext.sPrev : Rat) / ctSecond
  let unlk := (s.get F.SEXT_WIN_UNLK_WIN : Rat) / 65536
  let lockW := (s.get F.SEXT_WIN_LOCK_WIN : Rat) / 65536
  let suspect := !x.valid || (st == sxLOCKED && unlk < absRat e)
  let restart := (st == sxSEEK && !s.sext.first && x.valid)
      || (st == sxCOAST && x.valid && s.get F.SEXT_LCFG_LOSS_CNT ≤ s.sext.validRun + 1)
  let apply := !suspect && st != sxCOAST && !restart
  let i := if apply then clampRat s.fMin s.fMax (s.sext.i + (s.regN R.SEXT_KI : Rat) / 256 * e * dt) else s.sext.i
  let f := if apply then clampRat s.fMin s.fMax (i + (s.regN R.SEXT_KP : Rat) / 65536 * e)
    else if restart then i else s.sext.fPrev
  let th := if restart then wrap1 (thP + e) else thP
  let first := s.sext.first || (st == sxSEEK && x.valid)
  let thb := th + f * ((ctDiff s.sext.b0 sk : Rat) / ctSecond)
  let eps := if first then wrapS (thb - (s.sext.k : Rat) / s.sxN) else 0
  let run (b : Bool) (n : Nat) : Nat := if b then n + 1 else 0
  let s := { s with sext := { s.sext with th := th, f := f, i := i, thPrev := th, fPrev := f, sPrev := sk, sOld := s.sext.sPrev, eps := eps,
                                          first := first, suspectRun := run suspect s.sext.suspectRun,
                                          validRun := run x.valid s.sext.validRun, invalidRun := run (!x.valid) s.sext.invalidRun } }
  let inWin := !suspect && absRat e ≤ lockW && absRat eps ≤ lockW
  let s := if inWin then s.count R.SEXT_LOCKCNT 1 else s.setReg R.SEXT_LOCKCNT 0
  let s := if s.active then s.sxMove else s
  let s := { s with sext := { s.sext with fPrev := s.sext.f } }
  let s := ((s.setReg R.SEXT_ANGLE (angleWord (wrap1 thb))).setReg R.SEXT_FREQ (freqWord s.sext.f)).setReg R.SEXT_SERR (angleWord eps)
  (s.commit (if first then s.sext.f else s.fNom) eps).sxRecord x.amp

/-- The update of a period (R64 to R82). -/
def State.sxUpdate (s : State) : State :=
  let x := s.sxInputs
  let s := if x.present then s else s.faultNew F.SEXT_STAT_MISS Q.SEXT_MISS (hw 0)
  let s := if x.valid then s else s.faultNew F.SEXT_STAT_REFLOSS Q.SEXT_REFLOSS (hw 0)
  let s := { s with adc := { s.adc with sdfNew := 0 } }
  let sk := if x.present then x.stamp else s.sext.b0
  let dt := (ctDiff sk s.sext.sPrev : Rat) / ctSecond
  let thP := wrap1 (s.sext.thPrev + s.sext.fPrev * dt)
  let e := s.phaseErr x thP
  let s := (s.setReg R.SEXT_PERR (angleWord e)).setRegN R.SEXT_AMPL (quantize (x.amp * 32768)).toNat
  s.sxLoop x sk thP e

/-! ### The grid (R76, R77) -/

/-- The grid starts at the accepted write of EN = 1 (R76). -/
def State.sxStart (s : State) : State :=
  let f := s.fNom
  let b0 := s.now + ((s.chrono.frac : Int) + 20000 * s.tickInc).toNat / 2 ^ 32
  let d := clampInt (s.regN R.SEXT_DMIN) (s.regN R.SEXT_DMAX) (s.dNom f)
  let s := s.setSx sxSEEK
  let s := { s with sext := { th := 0, f := f, i := f, thPrev := 0, fPrev := f, sPrev := b0, sOld := b0, eps := 0, begun := false, comm := false,
                              k := 0, kAbs := 0, b0 := b0, b1 := ctAdd b0 d, b2 := ctAdd b0 d, past := [], first := false, suspectRun := 0,
                              validRun := 0, invalidRun := 0 } }
  let s := (s.setReg64 R.SEXT_B1_LO s.sext.b1).setReg R.SEXT_PIDX 0
  (s.setReg R.SEXT_LOCKCNT 0).modGridReset

/-- The grid stops (R70). -/
def State.sxStop (s : State) : State :=
  let s := s.setSx sxOFF
  ({ s with sext := { s.sext with begun := false, comm := false } }).modGridReset

/-- Whether a boundary of the grid is due: b_0, or b_{k+1} once b_{k+2} is committed. -/
def State.gridDue (s : State) : Bool := s.sx != sxOFF && (!s.sext.begun || s.sext.comm)

/-- The grid passes a boundary. -/
def State.gridNext (s : State) : State :=
  if !s.sext.begun then { s with sext := { s.sext with begun := true } }
  else
    let k := if s.sext.k + 1 < s.sxN then s.sext.k + 1 else 0
    let s := { s with sext := { s.sext with b0 := s.sext.b1, b1 := s.sext.b2, past := (s.sext.b0 :: s.sext.past).take 16, comm := false, k := k, kAbs := s.sext.kAbs + 1 } }
    (s.setReg64 R.SEXT_B1_LO s.sext.b1).setRegN R.SEXT_PIDX k

/-! ### Writes (R71, R72, R85) -/

/-- Whether the conditions of R71 on EN = 1 hold. -/
def State.sxMayStart (s : State) : Bool :=
  (200 ≤ s.sxN && s.sxN ≤ 2000) && 45 ≤ s.fMin && s.fMin < s.fNom && s.fNom < s.fMax && s.fMax ≤ 66
    && 16 * (s.get F.ENG_TIMING_T_START + s.get F.ENG_TIMING_T_LEAD) < s.regN R.SEXT_DMIN

/-- A refused write in the SEXT block. -/
def State.sxReject (s : State) (m : Master) (a : Nat) : State := s.faultNew F.SEXT_STAT_CFGREJ Q.SEXT_CFGREJ (wr m a)

/-- A write of SEXT_CTRL (R71): SRC and CONN are applied; a change of EN only in CONFIG, DEFAULT and LINKS. -/
def State.sxCtrl (s : State) (m : Master) (v : Word) : State :=
  let en := fldOf F.SEXT_CTRL_EN v == 1
  let s := (s.set F.SEXT_CTRL_SRC (fldOf F.SEXT_CTRL_SRC v)).set F.SEXT_CTRL_CONN (fldOf F.SEXT_CTRL_CONN v)
  if en = s.on F.SEXT_CTRL_EN then s
  else if !(s.dev == stCONFIG || s.dev == stDEFAULT || s.dev == stLINKS) || (en && !s.sxMayStart) then s.sxReject m R.SEXT_CTRL
  else if en then (s.set F.SEXT_CTRL_EN 1).sxStart
  else (s.set F.SEXT_CTRL_EN 0).sxStop

/-- Whether R72 lets the supervisor start the grid: ring time is there, the device keeps it, or the ring is not configured. -/
def State.sxReady (s : State) : Bool :=
  s.on F.CHRONO_STAT_SYNC || s.on F.RING_TOPO_ISTK || s.on F.CHRONO_CTRL_TK || !s.on F.RING_CFG_EN

/-- In LINKS the supervisor writes SEXT_CTRL.EN as soon as R72 allows (15 R567). -/
def State.sextAuto (s : State) : State :=
  if s.sys.sextDue && s.dev == stLINKS && s.sxReady then
    let s := { s with sys := { s.sys with sextDue := false } }
    s.sxCtrl .supervisor (s.reg R.SEXT_CTRL ||| 1)
  else s

/-- Whether a write of a SEXT setting is refused (R85). -/
def State.sxBad (s : State) (a : Nat) (v : Word) : Bool :=
  ((a == R.SEXT_N || a == R.SEXT_FLIM || a == R.SEXT_FNOM) && s.on F.SEXT_CTRL_EN)
    || (a == R.SEXT_N && fldOf F.SEXT_N_N v == 0)
    || (a == R.SEXT_FLIM && (fldOf F.SEXT_FLIM_F_MAX v == 0 || fldOf F.SEXT_FLIM_F_MIN v == 0))
    || (a == R.SEXT_LCFG && (fldOf F.SEXT_LCFG_LOSS_CNT v == 0 || fldOf F.SEXT_LCFG_LOCK_CYC v == 0))

/-- A write in the SEXT block; D_MIN and D_MAX follow N and SEXT_FLIM. -/
def State.writeSEXT (s : State) (m : Master) (a : Nat) (v : Word) : State :=
  if a = R.SEXT_CTRL then s.sxCtrl m v
  else if s.sxBad a v then s.sxReject m a
  else
    let s := s.plainWrite a v
    if a = R.SEXT_N ∨ a = R.SEXT_FLIM then s.setBounds else s

/-! ### The commands -/

/-- SEXTANT_UPDATE (R64): at T_start − 0.5 µs of a period of the grid whose next end is not committed. -/
def execSextantUpdate (s : State) : Host.Outcome State Fault Refusal :=
  .next (settle s (if s.sx != sxOFF && s.sext.begun && !s.sext.comm then s.sxUpdate else s))

end Sys2Proof.Machine
end

