-- ==== Sys2Proof/Machine/Adc.lean ====
section
/-! DEFINITION. Machine/Adc.lean: the converters: entries and lists, conversions and their placement, injected conversions,
and the rotation and calibration of the slices (10_analog_acquisition.md R370 to R396). -/
namespace Sys2Proof.Machine

/-! ### Entries (R374 to R376) -/

/-- Slot `j` of entry `e` as stored (Tables 2 and 3). -/
def State.adcSlot (s : State) (e j : Nat) : Nat := bitsOf (s.regN (R.ADC_ENT e (j / 2))) (16 * (j % 2)) 16

def slotEn (x : Nat) : Bool := x.testBit 15
def slotPair (x : Nat) : Bool := x.testBit 14
def slotPos (x : Nat) : Nat := bitsOf x 11 3
def slotMid (x : Nat) : Bool := x.testBit 10
def slotCh (x : Nat) : Nat := bitsOf x 0 6

/-- The used slots of an entry, in slot order. -/
def State.usedSlots (s : State) (e : Nat) : List Nat := ((List.range 8).map (s.adcSlot e)).filter slotEn

/-- The positions of an entry. -/
def State.entryPos (s : State) (e : Nat) : List Nat := (s.usedSlots e).map slotPos

def State.entRidx (s : State) (e : Nat) : Nat := bitsOf (s.regN (R.ADC_ENT e 4)) 24 8
def State.entLane (s : State) (e : Nat) : Nat := bitsOf (s.regN (R.ADC_ENT e 4)) 18 6
def State.entVen (s : State) (e : Nat) : Bool := (s.regN (R.ADC_ENT e 4)).testBit 17
def State.entVrow (s : State) (e : Nat) : Nat := bitsOf (s.regN (R.ADC_ENT e 4)) 0 11
def State.entSen (s : State) (e : Nat) : Bool := (s.regN (R.ADC_ENT e 5)).testBit 31
def State.entSword (s : State) (e : Nat) : Nat := bitsOf (s.regN (R.ADC_ENT e 5)) 0 14
def State.entPthr (s : State) (e : Nat) : Nat := bitsOf (s.regN (R.ADC_ENT e 6)) 0 16

/-- PAIR on the first used slot, or after a PAIR. -/
def pairBad : Bool → List Nat → Bool
  | _, [] => false
  | prev, x :: r => (slotPair x && prev) || pairBad (slotPair x) r

/-- Whether an entry is invalid (R376). -/
def State.entryBad (s : State) (e : Nat) : Bool :=
  let u := s.usedSlots e
  let pos := u.map slotPos
  let results := (u.filter (!slotPair ·)).length
  u.isEmpty || decide (¬ pos.Nodup) || pairBad true u
    || u.any (fun x => (slotMid x && 32 ≤ slotCh x) || 50 ≤ slotCh x)
    || ((List.range 8).any fun j => bitsOf (s.adcSlot e j) 6 4 != 0)
    || bitsOf (s.regN (R.ADC_ENT e 4)) 11 6 != 0 || bitsOf (s.regN (R.ADC_ENT e 5)) 14 17 != 0
    || bitsOf (s.regN (R.ADC_ENT e 6)) 16 16 != 0 || s.regN (R.ADC_ENT e 7) != 0
    || (s.entVen e && (s.entLane e < 56 || 64 < s.entLane e + results)) || 256 < s.entRidx e + results

/-! ### Positions and slices (R370, R394) -/

/-- The slice that serves a position; 15 where none does. -/
def State.sliceOf (s : State) (p : Nat) : Nat := bitsOf (s.regN R.ADC_MAP) (4 * p) 4

/-- The position that a slice serves. -/
def State.posOf (s : State) (i : Nat) : Option Nat := (List.range 8).find? fun p => s.sliceOf p == i

def State.setSlice (s : State) (p i : Nat) : State := s.set ⟨R.ADC_MAP, 4 * p, 4⟩ i

def State.retired (s : State) (i : Nat) : Bool := s.fbit F.ADC_SPARE_RETIRED i

/-- Whether a spare is there that may serve a position. -/
def State.spareOk (s : State) : Bool := s.get F.ADC_SPARE_SPARE < 9 && !s.retired (s.get F.ADC_SPARE_SPARE)

/-- Whether a conversion runs on a position. -/
def State.posBusy (s : State) (p : Nat) : Bool := s.adc.convs.any fun c => c.slots.any (·.1 == p)

/-- Whether an injected conversion runs on a position. -/
def State.posInj (s : State) (p : Nat) : Bool := s.adc.convs.any fun c => c.inj.isSome && c.slots.any (·.1 == p)

/-- Whether an injected request that has not started waits for a position. -/
def State.posPend (s : State) (p : Nat) : Bool :=
  (List.range 4).any fun j => (s.injPhase j == 2 || s.injPhase j == 3) && (s.entryPos (s.get (F.ADC_INJ_ENTRY j))).contains p

/-- Whether a set that was aborted reserves a position for itself (R388). -/
def State.posReserved (s : State) (p : Nat) : Bool := s.adc.lists.any fun r => r.reserved && (s.entryPos r.entry).contains p

/-- Whether an entry names a position that no slice serves (R394). -/
def State.unserved (s : State) (e : Nat) : Bool := (s.entryPos e).any fun p => s.sliceOf p == 15

/-- Set a flag of the ADC for an entry (R405). -/
def State.adcFault (s : State) (f : Fld) (q : Src) (e : Nat) : State := s.faultNew f q (hw e)

/-! ### Lists (R377, R379) -/

/-- A list starts, unless it runs (R377). -/
def State.listStart (s : State) (n : Nat) : State :=
  if !s.on F.ADC_CTRL_EN then s
  else if s.fbit F.ADC_LBUSY_L n then s.adcFault F.ADC_STAT_LSTBUSY Q.ADC_LSTBUSY (s.get (F.ADC_LIST_FIRST n))
  else
    let first := s.get (F.ADC_LIST_FIRST n)
    let run : ListRun := { list := n, entry := first, last := first + s.get (F.ADC_LIST_COUNT n) - 1, conv := false, ready := s.now,
                           retry := false, reserved := false }
    ({ s with adc := { s.adc with lists := s.adc.lists ++ [run] } }).setFbit F.ADC_LBUSY_L n true

/-- The run of list `n`. -/
def State.listRun (s : State) (n : Nat) : Option ListRun := s.adc.lists.find? (·.list == n)

def State.setRun (s : State) (r : ListRun) : State :=
  { s with adc := { s.adc with lists := s.adc.lists.map fun x => if x.list = r.list then r else x } }

/-- The list goes on to its next entry, or ends (R379). -/
def State.listNext (s : State) (r : ListRun) : State :=
  if r.entry < r.last then s.setRun { r with entry := r.entry + 1, conv := false, ready := s.now, retry := false, reserved := false }
  else ({ s with adc := { s.adc with lists := s.adc.lists.filter (·.list != r.list) } }).setFbit F.ADC_LBUSY_L r.list false

/-- The hold stamp of a conversion that starts now: the CT64 of the fourth tick from now (R371). -/
def State.holdStamp (s : State) : Nat := s.now + ((s.chrono.frac : Int) + 4 * s.tickInc).toNat / 2 ^ 32

/-- The conversions of an entry start (R371, R395). -/
def State.convStart (s : State) (e : Nat) (inj : Option Nat) (list : Nat) (retry : Bool) : State :=
  let band := s.bandA
  let slots := (s.usedSlots e).map fun x => (slotPos x, s.sliceOf (slotPos x), band, x)
  let c : ConvRun := { entry := e, inj := inj, list := list, hold := s.holdStamp, retry := retry, slots := slots }
  { s with adc := { s.adc with convs := s.adc.convs ++ [c] } }

/-- Whether list run `r` goes before `x` at a position both wait for (R379). -/
def runBefore (x r : ListRun) : Bool := x.ready < r.ready || (x.ready == r.ready && x.list < r.list)

/-- Whether a waiting entry may start: every position is free, and no run before it waits for one of them (R379). -/
def State.mayStart (s : State) (r : ListRun) : Bool :=
  (s.entryPos r.entry).all fun p =>
    !s.posBusy p && !s.posReserved p && s.adc.swapPos != some p && !s.posPend p
      && !(s.adc.lists.any fun x => x.list != r.list && !x.conv && !x.retry && runBefore x r && (s.entryPos x.entry).contains p)

/-- The waiting entry of list `n` starts; one that names an unserved position is skipped without results (R379, R394). -/
def State.entryStart (s : State) (n : Nat) : State :=
  match s.listRun n with
  | some r =>
    if r.conv || r.retry then s
    else if s.unserved r.entry then (s.adcFault F.ADC_STAT_POSDN Q.ADC_POSDN r.entry).listNext r
    else if s.mayStart r then (s.convStart r.entry none n false).setRun { r with conv := true }
    else s
  | none => s

/-- An aborted entry restarts (R389). -/
def State.entryRestart (s : State) (n : Nat) : State :=
  match s.listRun n with
  | some r =>
    if !r.retry || r.conv then s
    else if s.unserved r.entry then (s.adcFault F.ADC_STAT_POSDN Q.ADC_POSDN r.entry).listNext r
    else if (s.entryPos r.entry).any fun p => s.posInj p || s.posPend p || s.adc.swapPos == some p then s
    else (s.convStart r.entry none n true).setRun { r with conv := true, reserved := false }
  | none => s

/-! ### Results (R373, R380 to R384) -/

/-- The result R of an input voltage, and whether sat16 changed it (R373). -/
def adcResult (mid : Bool) (v : Rat) : Int × Bool :=
  let x := if mid then 32768 * (v - 5 / 4) / (5 / 4) else 32768 * v / (5 / 2)
  let r := roundRat x
  (clampInt (-32768) 32767 r, !fitsS 16 r)

/-- The latest committed boundary at or before a stamp (Table 5). -/
def State.boundaryAt (s : State) (stamp : Nat) : Option Nat :=
  if s.sx = sxOFF then none
  else ((if s.sext.comm then [s.sext.b2] else []) ++ [s.sext.b1, s.sext.b0] ++ s.sext.past).find? fun b => 0 ≤ ctDiff stamp b

/-- TOFS of a stamp (Table 5). -/
def State.tofs (s : State) (stamp : Nat) : Int :=
  match s.boundaryAt stamp with
  | some b => clampInt (-16384) 16383 (ctDiff stamp b / 16)
  | none => -16384

/-- The SDM placement word (Table 5). -/
def State.placeWord (s : State) (stamp : Nat) (plaus : Bool) (r : Int) : Nat :=
  2 ^ 17 * encS 15 (s.tofs stamp) + 2 ^ 16 * b2n plaus + encS 16 r

/-- Place a result into VDM and SDM; a protected destination is refused (R384). Answers whether one was. -/
def State.place (s : State) (v : Option (Nat × Nat)) (w : Option Nat) (stamp : Nat) (plaus : Bool) (r : Int) : State × Bool :=
  let (s, rejV) := match v with
    | some (row, lane) => if s.inStateV row then (s, true) else (s.store (vdmAddr row lane) 2 (encS 16 r), false)
    | none => (s, false)
  match w with
  | some x => if s.inStateS x then (s, true) else (s.store (sdmAddr x) 4 (s.placeWord stamp plaus r), rejV)
  | none => (s, rejV)

/-- A result: its slot data, voltage, and the voltage of the PAIR slot after it. -/
def gatherResults : List (Nat × Nat × Nat × Nat) → List Rat → List ((Nat × Nat × Nat × Nat) × Rat × Option (Nat × Rat))
  | x :: y :: r, v :: u :: vs =>
    if slotPair y.2.2.2 then (x, v, some (y.2.2.2, u)) :: gatherResults r vs else (x, v, none) :: gatherResults (y :: r) (u :: vs)
  | [x], v :: _ => [(x, v, none)]
  | _, _ => []

/-- Result `k` of a conversion is formed, compared with its pair, and written to its destinations. -/
def State.putResult (s : State) (c : ConvRun) (k : Nat) (x : (Nat × Nat × Nat × Nat) × Rat × Option (Nat × Rat)) : State :=
  let e := c.entry
  let (_, slice, band, slot) := x.1
  let (r, clip) := adcResult (slotMid slot) x.2.1
  let (rb, clipB) := match x.2.2 with | some (sl, v) => adcResult (slotMid sl) v | none => (0, false)
  let plaus := x.2.2.isSome && s.entPthr e < (r - rb).natAbs
  let s := if clip || clipB then s.adcFault F.ADC_STAT_CLIP Q.ADC_CLIP e else s
  let s := if plaus then s.adcFault F.ADC_STAT_PLAUS Q.ADC_PLAUS e else s
  let n := s.entRidx e + k
  let s := if plaus && !s.adc.plaus.contains n then { s with adc := { s.adc with plaus := n :: s.adc.plaus } } else s
  let w0 := 2 ^ 24 * slice + 2 ^ 22 * band + 2 ^ 20 * b2n c.retry + 2 ^ 19 * b2n (clip || clipB) + 2 ^ 18 * b2n plaus + encS 16 r
  let s := ((s.setRegN (R.ADC_RES n 0) w0).setReg64 (R.ADC_RES n 1) c.hold).setRegN (R.ADC_RES n 3) (encS 16 rb)
  let (s, rej) := s.place (if s.entVen e then some (s.entVrow e, s.entLane e + k) else none)
    (if s.entSen e then some (s.entSword e + k) else none) c.hold plaus r
  if rej then s.adcFault F.ADC_STAT_DSTREJ Q.ADC_DSTREJ e else s

/-- The conversions of entry `e` that started first complete, with the input voltages of their used slots (R371, R375). -/
def State.convResult (s : State) (e : Nat) (vs : List Rat) : State :=
  match s.adc.convs.find? (·.entry == e) with
  | none => s
  | some c =>
    let rs := gatherResults c.slots vs
    let s := ((List.range rs.length).zip rs).foldl (fun s x => s.putResult c x.1 x.2) s
    let s := { s with adc := { s.adc with convs := s.adc.convs.erase c } }
    match c.inj with
    | some j => (s.setInjPhase j 0).setFbit F.ADC_INJSTAT_CONV j false
    | none => match s.listRun c.list with | some r => s.listNext r | none => s

/-! ### Injected conversions (R386 to R389) -/

/-- A request has waited out its delay (R386). -/
def State.injPending (s : State) (j : Nat) : State := if s.injPhase j = 1 then s.injPend j else s

/-- A request claims its positions: list conversions there are aborted, whole sets with them (R387, R388). -/
def State.injClaim (s : State) (j : Nat) : State :=
  if s.injPhase j = 2 then
    let pos := s.entryPos (s.get (F.ADC_INJ_ENTRY j))
    let hit := s.adc.convs.filter fun c => c.inj.isNone && c.slots.any fun x => pos.contains x.1
    let s := { s with adc := { s.adc with convs := s.adc.convs.filter (!hit.contains ·) } }
    let s := hit.foldl (fun s c =>
      let s := s.count R.ADC_PREEMPT c.slots.length
      match s.listRun c.list with
      | some r => s.setRun { r with conv := false, retry := true, reserved := true, ready := s.now }
      | none => s) s
    s.setInjPhase j 3
  else s

/-- A request that has claimed starts once its positions carry no injected conversion and no swap window (R387). -/
def State.injStart (s : State) (j : Nat) : State :=
  let e := s.get (F.ADC_INJ_ENTRY j)
  if s.injPhase j != 3 then s
  else if s.unserved e then
    ((s.adcFault F.ADC_STAT_POSDN Q.ADC_POSDN e).setInjPhase j 0).setFbit F.ADC_INJSTAT_PEND j false
  else if (s.entryPos e).any fun p => s.posInj p || s.adc.swapPos == some p then s
  else (((s.convStart e (some j) 0 false).setInjPhase j 4).setFbit F.ADC_INJSTAT_PEND j false).setFbit F.ADC_INJSTAT_CONV j true

/-! ### Spare rotation and calibration (R390 to R396) -/

/-- The operation CAL_ADC in its slot. -/
def State.calOp (s : State) : Option (Nat × OpSlot) := s.host.ops.find? (·.2.cmd.opc == 0x0050)

/-- A slice is retired: a running CAL_ADC fails (R396); a retired spare stops the rotation (R394). -/
def State.retireNow (s : State) (i : Nat) : State :=
  let s := s.setFbit F.ADC_SPARE_RETIRED i true
  let s := { s with adc := { s.adc with forced := 0 } }
  let s := match s.calOp with | some (_, o) => s.failed o.cmd.key 0x23 | none => s
  if s.get F.ADC_SPARE_SPARE = i then
    ({ s with adc := { s.adc with swapDue := false } }).adcFault F.ADC_STAT_SPARELOST Q.ADC_SPARELOST 0
  else s

/-- A swap becomes due (R390, R396). -/
def State.swapFalls (s : State) : State :=
  if (s.on F.ADC_CTRL_ROTEN || s.adc.forced != 0) && s.spareOk && s.adc.calDone && s.adc.swapPos.isNone then
    { s with adc := { s.adc with swapDue := true } }
  else s

/-- The position that a due swap takes: that of the lowest slice to retire, else q. -/
def State.swapTarget (s : State) : Nat :=
  match (List.range 9).findSome? fun i => if s.adc.retireWait.testBit i then s.posOf i else none with
  | some p => p
  | none => s.get F.ADC_SPARE_Q

/-- Whether QUIET lets a swap start now (R391). -/
def State.quietOk (s : State) : Bool :=
  !s.on F.ADC_CTRL_QUIET || s.sx == sxOFF || !s.sext.begun ||
    (let t := ctDiff s.now s.sext.b0
     (16 * s.get F.ENG_TIMING_T_START : Nat) ≤ t
       && t ≤ (s.sext.b1 : Int) - s.sext.b0 - (16 * s.get F.ENG_TIMING_T_LEAD : Nat) - 6400)

/-- A due swap starts its window (R391, R392). -/
def State.swapStart (s : State) : State :=
  let p := s.swapTarget
  if s.adc.swapDue && s.adc.swapPos.isNone && !s.posBusy p && !s.posPend p && s.quietOk then
    ({ s with adc := { s.adc with swapDue := false, swapPos := some p } }).set F.ADC_STAT_SWAPWIN 1
  else s

/-- A swap window ends: the spare serves the position, and the slice that served it is the new spare, which calibrates unless it
retires (R390, R392 to R394). -/
def State.swapEnd (s : State) : State :=
  match s.adc.swapPos with
  | none => s
  | some p =>
    let out := s.sliceOf p
    let s := (s.setSlice p (s.get F.ADC_SPARE_SPARE)).set F.ADC_SPARE_SPARE out
    let s := (s.count R.ADC_SWAPCNT 1).set F.ADC_STAT_SWAPWIN 0
    let s := if p = s.get F.ADC_SPARE_Q then s.set F.ADC_SPARE_Q ((p + 1) % 8) else s
    let s := { s with adc := { s.adc with swapPos := none, calDone := false } }
    if s.adc.retireWait.testBit out then
      ({ s with adc := { s.adc with retireWait := putBit s.adc.retireWait out false } }).retireNow out
    else s.set F.ADC_STAT_CALBUSY 1

/-- The factory constants of a slice and band, which ADC_CAL holds at reset (R395). -/
def factoryOfs (i b : Nat) : Int := (regReset (0x14003000 + 0x20 * i + 8 * b)).toInt
def factoryGain (i b : Nat) : Nat := (regReset (0x14003004 + 0x20 * i + 8 * b)).toNat

/-- The spare ends its calibration with a new offset and gain (R393): accepted within the limits of ADC_CALLIM, else rejected; the
second rejection in a row retires the slice. CAL_ADC goes on, and is done with its ninth (R396). -/
def State.calibrated (s : State) (ofs : Word) (gain : Word) : State :=
  if !s.on F.ADC_STAT_CALBUSY then s
  else
    let i := s.get F.ADC_SPARE_SPARE
    let b := s.bandA
    let s := { (s.set F.ADC_STAT_CALBUSY 0) with adc := { s.adc with calDone := true } }
    let okO := (ofs.toInt - factoryOfs i b).natAbs ≤ 16 * s.get F.ADC_CALLIM_OFSMAX
    let okG := ((gain.toNat : Int) - factoryGain i b).natAbs * 1000000 ≤ s.get F.ADC_CALLIM_GAINMAX * factoryGain i b
    let s : State := if okO && okG then
        let s := (s.setReg (0x14003000 + 0x20 * i + 8 * b) ofs).setReg (0x14003004 + 0x20 * i + 8 * b) gain
        { s with adc := { s.adc with calFails := spDel s.adc.calFails i } }
      else
        let n : Nat := spGet 0 s.adc.calFails i + 1
        let s := { s with adc := { s.adc with calFails := spPut 0 s.adc.calFails i n } }
        let s := s.adcFault F.ADC_STAT_CALFAIL Q.ADC_CALFAIL i
        if 2 ≤ n then s.retireNow i else s
    if s.adc.forced = 0 then s
    else
      let s := { s with adc := { s.adc with forced := s.adc.forced - 1 } }
      match s.calOp with
      | some (n, o) =>
        let s := s.setRegN (R.HOST_OP_DONE n) (9 - s.adc.forced)
        if s.adc.forced = 0 then s.done o.cmd.key [] else s
      | none => s

/-- A write of ADC_RETIRE (R394). -/
def State.retireWrite (s : State) (v : Word) : State :=
  (List.range 9).foldl (fun s i =>
    if !v.toNat.testBit i || s.retired i then s
    else if s.get F.ADC_SPARE_SPARE = i then s.retireNow i
    else if s.spareOk then { s with adc := { s.adc with swapDue := true, retireWait := s.adc.retireWait ||| 2 ^ i } }
    else match s.posOf i with
      | some p => (s.setSlice p 15).retireNow i
      | none => s.retireNow i) s

/-! ### Register writes -/

def State.adcReject (s : State) (m : Master) (a : Nat) : State := s.faultNew F.ADC_STAT_CFGREJ Q.ADC_CFGREJ (wr m a)

/-- Whether any list, or any enabled injected request, names an invalid entry (R376). -/
def State.listsBad (s : State) : Bool :=
  ((List.range 16).any fun n => (List.range (s.get (F.ADC_LIST_COUNT n))).any fun i => s.entryBad (s.get (F.ADC_LIST_FIRST n) + i))
    || (List.range 4).any fun j => s.on (F.ADC_INJ_EN j) && s.entryBad (s.get (F.ADC_INJ_ENTRY j))

/-- Everything in progress is aborted without results; pending requests are cleared (Table 8). -/
def State.adcAbort (s : State) : State :=
  ((({ s with adc := { s.adc with lists := [], convs := [], inj := [] } }).setReg R.ADC_LBUSY 0).setReg R.ADC_INJSTAT 0)

/-- A write of ADC_CTRL (R376, Table 8). -/
def State.adcCtrl (s : State) (m : Master) (v : Word) : State :=
  let en := fldOf F.ADC_CTRL_EN v == 1
  let was := s.on F.ADC_CTRL_EN
  let s := (s.set F.ADC_CTRL_QUIET (fldOf F.ADC_CTRL_QUIET v)).set F.ADC_CTRL_ROTEN (fldOf F.ADC_CTRL_ROTEN v)
  if en && !was then if s.listsBad then s.adcReject m R.ADC_CTRL else s.set F.ADC_CTRL_EN 1
  else if !en && was then (s.set F.ADC_CTRL_EN 0).adcAbort
  else s

/-- A host write of ADC_LSTART (R377). -/
def State.lstart (s : State) (v : Word) : State :=
  (List.range 16).foldl (fun s n => if v.toNat.testBit n then s.listStart n else s) s

/-- A host write of ADC_INJGO (R386). -/
def State.injGo (s : State) (v : Word) : State :=
  if !s.on F.ADC_CTRL_EN then s
  else (List.range 4).foldl (fun s j =>
    if v.toNat.testBit j && s.on (F.ADC_INJ_EN j) && s.get (F.ADC_INJ_TRIG j) == 0 then s.injFire j else s) s

/-- A write in the ADC block. -/
def State.writeADC (s : State) (m : Master) (a : Nat) (v : Word) : State :=
  let isList := decide (R.ADC_LIST 0 ≤ a ∧ a < R.ADC_LIST 16)
  let locked := isList || decide (R.ADC_INJ 0 ≤ a ∧ a < R.ADC_INJ 4) || a == R.ADC_IDLESTART || decide (0x14002000 ≤ a ∧ a < 0x14003000)
  let cnt := fldOf (F.ADC_LIST_COUNT 0) v
  let bad := isList && (cnt == 0 || 128 < fldOf (F.ADC_LIST_FIRST 0) v + cnt)
  if a = R.ADC_CTRL then s.adcCtrl m v
  else if a = R.ADC_LSTART then s.lstart v
  else if a = R.ADC_INJGO then s.injGo v
  else if a = R.ADC_RETIRE then s.retireWrite v
  else if (locked && s.on F.ADC_CTRL_EN) || bad then s.adcReject m a
  else s.plainWrite a v

/-! ### The commands -/

/-- IDLE_LIST_START (R378): start A or B of ADC_IDLESTART at its offset in a period in which the Helm does not run; beyond the
period it sets OFSLATE (05 R180). -/
def execIdleListStart (b : Bool) (s : State) : Host.Outcome State Fault Refusal :=
  let en := if b then s.on F.ADC_IDLESTART_BEN else s.on F.ADC_IDLESTART_AEN
  let ofs := if b then s.get F.ADC_IDLESTART_BOFS else s.get F.ADC_IDLESTART_AOFS
  let list := if b then s.get F.ADC_IDLESTART_BLIST else s.get F.ADC_IDLESTART_ALIST
  .next (settle s (if en && s.get F.ENG_STAT_ESTATE == 0 && s.sx != sxOFF && s.sext.begun then
      if s.sext.b1 ≤ s.sext.b0 + 320 * ofs then s.faultNew F.ALM_STAT_OFSLATE Q.ALM_OFSLATE (hw 0) else s.listStart list
    else s))

/-- ENTRY_START (R379): the waiting entry of a list. -/
def execEntryStart (n : Fin 16) (s : State) : Host.Outcome State Fault Refusal := .next (settle s (s.entryStart n))

/-- ENTRY_RESTART (R389): the aborted entry of a list. -/
def execEntryRestart (n : Fin 16) (s : State) : Host.Outcome State Fault Refusal := .next (settle s (s.entryRestart n))

/-- CONVERSION_RESULT (R371): entry `e` with the corrected input voltages of its used slots, in volts. -/
def execConversionResult (e : Fin 128) (vs : List Rat) (s : State) : Host.Outcome State Fault Refusal :=
  .next (settle s (s.convResult e vs))

/-- INJECT_PENDING (R386). -/
def execInjectPending (j : Fin 4) (s : State) : Host.Outcome State Fault Refusal := .next (settle s (s.injPending j))

/-- INJECT_CLAIM (R387). -/
def execInjectClaim (j : Fin 4) (s : State) : Host.Outcome State Fault Refusal := .next (settle s (s.injClaim j))

/-- INJECT_START (R387). -/
def execInjectStart (j : Fin 4) (s : State) : Host.Outcome State Fault Refusal := .next (settle s (s.injStart j))

/-- SWAP_DUE (R390). -/
def execSwapDue (s : State) : Host.Outcome State Fault Refusal := .next (settle s s.swapFalls)

/-- SWAP_START (R391). -/
def execSwapStart (s : State) : Host.Outcome State Fault Refusal := .next (settle s s.swapStart)

/-- SWAP_WINDOW_END (R392). -/
def execSwapWindowEnd (s : State) : Host.Outcome State Fault Refusal := .next (settle s s.swapEnd)

/-- CALIBRATION_DONE (R393): the spare's new offset in 1/16 LSB and gain in UQ2.30. -/
def execCalibrationDone (ofs gain : Word) (s : State) : Host.Outcome State Fault Refusal := .next (settle s (s.calibrated ofs gain))

end Sys2Proof.Machine
end

