-- ==== Sys2Proof/Machine/Safe.lean ====
section
/-! DEFINITION. Machine/Safe.lean: safety inputs, discrepancy, the safety outputs and the tests of the safety logic
(13_hall_and_safe_stop.md R483 to R504). STO, SS1 starts and the outputs themselves follow in `settle`. -/
namespace Sys2Proof.Machine

/-- The filtered level of SINnA or SINnB changes (R484, R485). -/
def State.sinChange (s : State) (n : Nat) (b level : Bool) : State :=
  let put (x : Nat) : Nat := (x &&& (15 - 2 ^ n)) + (if level then 2 ^ n else 0)
  if b then { s with safe := { s.safe with sinB := put s.safe.sinB } } else { s with safe := { s.safe with sinA := put s.safe.sinA } }

/-- One input at a strobe (R486). -/
def State.strobeIn (s : State) (n : Nat) : State :=
  if s.sinDisagree n then
    let c := spGet 0 s.safe.cnt n + 1
    let s := { s with safe := { s.safe with cnt := spPut 0 s.safe.cnt n c } }
    if c = s.get (F.SAFE_SINCFG_DISC n) && !s.safe.disc.testBit n then
      ({ s with safe := { s.safe with disc := s.safe.disc + 2 ^ n } }).faultBit F.SAFE_EVT_DISC n (Q.SAFE_DISC n) (hw n)
    else s
  else { s with safe := { s.safe with cnt := spPut 0 s.safe.cnt n 0 } }

/-- The 1 ms strobe (R486). -/
def State.strobe (s : State) : State := (List.range 4).foldl State.strobeIn s

/-- An off-pulse starts on an output that is on; it is skipped on one that is off (R496). -/
def State.soutPulse (s : State) (n : Nat) : State :=
  if s.on (F.SAFE_SOUTSTAT_ON n) then { s with safe := { s.safe with pulse := s.safe.pulse ||| 2 ^ n } } else s

/-- A readback error latches (R497, R504). -/
def State.soutRbErr (s : State) (n : Nat) : State :=
  (s.flag (F.SAFE_SOUTSTAT_RBERR n)).faultBit F.SAFE_EVT_RBERR n (Q.SAFE_RBERR n) (hw n)

/-- An off-pulse ends with the readback level `rb` of its last tick (R496, R497). -/
def State.soutPulseEnd (s : State) (n : Nat) (rb : Bool) : State :=
  let s := s.setB (F.SAFE_SOUTSTAT_RB n) rb
  if s.safe.pulse.testBit n then
    let s := { s with safe := { s.safe with pulse := s.safe.pulse &&& (15 - 2 ^ n) } }
    if rb then s.soutRbErr n else s
  else s

/-- The readback of an output stands at `rb` past its allowance (R497). -/
def State.soutReadback (s : State) (n : Nat) (rb : Bool) : State :=
  let s := s.setB (F.SAFE_SOUTSTAT_RB n) rb
  if !s.safe.pulse.testBit n && rb != s.on (F.SAFE_SOUTSTAT_ON n) then s.soutRbErr n else s

/-- The current limit has acted for 100 µs (R498). -/
def State.soutOverc (s : State) (n : Nat) : State :=
  (s.flag (F.SAFE_SOUTSTAT_OC n)).faultBit F.SAFE_EVT_SOUTOC n Q.SAFE_SOUTOC (hw n)

/-- A periodic STO test falls due (R499, R500). -/
def State.stoTest (s : State) (a : Nat) : State :=
  if s.on (F.SAFE_CHCFG_EN a) then
    if s.on (F.SAFE_CHSTAT_STO a) || s.axd.soft.testBit a then { s with safe := { s.safe with deferred := s.safe.deferred ||| 2 ^ a } }
    else if s.on (F.AXD_CHSTAT_GSW a) then s.flag (F.SAFE_CHSTAT_TEST a) else s
  else s

/-- The test pulse ends; a readback that does not show the element open applies SEAL (R499, R502). -/
def State.stoTestEnd (s : State) (a : Nat) (opened : Bool) : State :=
  if s.on (F.SAFE_CHSTAT_TEST a) then
    let s := s.set (F.SAFE_CHSTAT_TEST a) 0
    if opened then s else s.raise Q.SAFE_STOTEST (hw a)
  else s

/-- A write of SAFE_KEY (R501). -/
def State.safeKey (s : State) (v : Word) : State := if v = 0x00005AFE#32 then s.flag F.SAFE_STAT_UNLOCKED else s.safeLock

/-- The 10 ms check of the configuration against SAFE_CRC (R501, R502). -/
def State.safeCrcCheck (s : State) : State :=
  if !s.on F.SAFE_STAT_UNLOCKED && s.safe.crcDone && s.safeCrc != s.reg R.SAFE_CRC then s.raise Q.SAFE_CFGCRC (hw 0) else s

/-- A refused write in the SAFE block. -/
def State.safeReject (s : State) (m : Master) (a : Nat) : State := s.faultNew F.SAFE_EVT_CFGREJ Q.SAFE_CFGREJ (wr m a)

/-- Whether `x` lies outside `lo..hi`. -/
def outside (lo hi x : Nat) : Bool := x < lo || hi < x

/-- Whether a value written to a locked register lies outside its range, or is refused by R492 (13 Table 6). -/
def State.safeBad (s : State) (a : Nat) (v : Word) : Bool :=
  if a = R.SAFE_STOTEST then outside 5 20 (fldOf F.SAFE_STOTEST_STOPW v) || outside 100 10000 (fldOf F.SAFE_STOTEST_STOINT v)
  else
    (List.range 4).any (fun n =>
      (a == R.SAFE_SINCFG n && outside 1 1000 (fldOf (F.SAFE_SINCFG_DISC n) v))
        || (a == R.SAFE_SOUTCFG n && (outside 5 100 (fldOf (F.SAFE_SOUTCFG_TPULSE n) v) || outside 1 100 (fldOf (F.SAFE_SOUTCFG_TINT n) v))))
    || (List.range 3).any (fun n =>
      (a == R.SAFE_CHCFG n && fldOf (F.SAFE_CHCFG_SS1MASK n) v != 0 && !s.on (F.HALL_CFG_EN n))
        || (a == R.SAFE_SS1 n && fldOf (F.SAFE_SS1_MAXW n) v == 0))

/-- A write in the SAFE block (R501). -/
def State.writeSAFE (s : State) (m : Master) (a : Nat) (v : Word) : State :=
  if a = R.SAFE_KEY then s.safeKey v
  else if safeCfgRegs.contains a then
    if s.on F.SAFE_STAT_UNLOCKED && gateOpenCfg s.dev && !s.safeBad a v then s.plainWrite a v else s.safeReject m a
  else s.plainWrite a v

/-! ### SAFE_RESET (R494, 15 R554) -/

/-- Clear PEND and RLVL of a source; BLOCK_LOCAL releases what the source holds (15 R546, R551). -/
def State.clearPend (s : State) (q : Src) : State :=
  let s := s.setSrc q { s.src q with pend := false, rlvl := 0 }
  { s with faults := { s.faults with held := s.faults.held.filter fun e => !(e.1 == q.blk && e.2.1 == q.idx) } }

/-- The move from SAFE to BLOCKED clears PEND of every source whose RLVL is SAFE (15 R554). -/
def State.leaveSafe (s : State) : State :=
  let s := (s.setDev stBLOCKED).clearCause
  (allSrcs.filter fun q => (s.src q).pend && (s.src q).rlvl == 5).foldl State.clearPend s

/-- SAFE_RESET's effect (R494). -/
def State.safeReset (s : State) : State :=
  let disc := (List.range 4).foldl (fun d n => if s.safe.disc.testBit n && s.sinDisagree n then d + 2 ^ n else d) 0
  let s := { s with safe := { s.safe with disc := disc } }
  let s := (List.range 4).foldl (fun s n => (s.set (F.SAFE_SOUTSTAT_RBERR n) 0).set (F.SAFE_SOUTSTAT_OC n) 0) s
  let s := if s.dev = stSAFE && s.demands = 0 then s.leaveSafe else s
  let s := s.dropSs1
  (List.range 3).foldl (fun s a => if s.safetySrc || s.stoCause a then s else s.set (F.SAFE_CHSTAT_WAITRST a) 0) s

/-- The first entry to CONFIG after a power-on reset or a restart of the analog die sets WAITRST on every interlocked channel
(15 R565). -/
def State.configInterlock (s : State) : State :=
  (List.range 3).foldl (fun s a =>
    if s.on (F.SAFE_CHCFG_EN a) && s.on (F.SAFE_CHCFG_RSTLOCK a) then s.flag (F.SAFE_CHSTAT_WAITRST a) else s) s

/-! ### The commands -/

/-- SIN_CHANGE (R485). -/
def execSinChange (n : Fin 4) (b level : Bool) (s : State) : Host.Outcome State Fault Refusal := .next (settle s (s.sinChange n b level))

/-- DISCREPANCY_STROBE (R486). -/
def execDiscrepancyStrobe (s : State) : Host.Outcome State Fault Refusal := .next (settle s s.strobe)

/-- SOUT_PULSE_START (R496). -/
def execSoutPulseStart (n : Fin 4) (s : State) : Host.Outcome State Fault Refusal := .next (settle s (s.soutPulse n))

/-- SOUT_PULSE_END (R496, R497). -/
def execSoutPulseEnd (n : Fin 4) (rb : Bool) (s : State) : Host.Outcome State Fault Refusal := .next (settle s (s.soutPulseEnd n rb))

/-- SOUT_READBACK_CHANGE (R497). -/
def execSoutReadbackChange (n : Fin 4) (rb : Bool) (s : State) : Host.Outcome State Fault Refusal :=
  .next (settle s (s.soutReadback n rb))

/-- SOUT_OVERCURRENT (R498). -/
def execSoutOvercurrent (n : Fin 4) (s : State) : Host.Outcome State Fault Refusal := .next (settle s (s.soutOverc n))

/-- STO_PERIODIC_TEST (R499). -/
def execStoPeriodicTest (a : Fin 3) (s : State) : Host.Outcome State Fault Refusal := .next (settle s (s.stoTest a))

/-- STO_TEST_END (R499, R502). -/
def execStoTestEnd (a : Fin 3) (opened : Bool) (s : State) : Host.Outcome State Fault Refusal := .next (settle s (s.stoTestEnd a opened))

/-- SAFE_CRC_CHECK (R501, R502). -/
def execSafeCrcCheck (s : State) : Host.Outcome State Fault Refusal := .next (settle s s.safeCrcCheck)

/-- SAFE_OSC_FAIL (R502). -/
def execSafeOscFail (s : State) : Host.Outcome State Fault Refusal := .next (settle s (s.raise Q.SAFE_SLCLK (hw 0)))

end Sys2Proof.Machine
end

