-- ==== Sys2Proof/Machine/Mem.lean ====
section
/-! DEFINITION. Machine/Mem.lean: the state pages of VDM and SDM, the accesses of the Crucible and of other masters to the
engine memories, and the waits of the engine (03_engine_architecture.md R104 to R109, R122 to R132; 02 R54 to R56). -/
namespace Sys2Proof.Machine

/-! ### The state regions (R122, R128) -/

def State.vBase (s : State) : Nat := s.get F.ENG_SPAGE_V_BASE
def State.vRows (s : State) : Nat := s.get F.ENG_SPAGE_V_NROWS
def State.sBase (s : State) : Nat := s.get F.ENG_SPAGE_S_BASE
def State.sWords (s : State) : Nat := s.get F.ENG_SPAGE_S_NWORDS

/-- The index of a logical state row in its region. -/
def State.vState (s : State) (row : Nat) : Option Nat :=
  if s.vBase ≤ row ∧ row < s.vBase + s.vRows then some (row - s.vBase) else none
/-- Whether a row is a physical row of page 1. -/
def State.vPage1 (s : State) (row : Nat) : Bool := s.vBase + s.vRows ≤ row && row < s.vBase + 2 * s.vRows
/-- The index of a logical state word. -/
def State.sState (s : State) (w : Nat) : Option Nat :=
  if s.sBase ≤ w ∧ w < s.sBase + s.sWords then some (w - s.sBase) else none
/-- Whether a word is a physical word of page 1. -/
def State.sPage1 (s : State) (w : Nat) : Bool := s.sBase + s.sWords ≤ w && w < s.sBase + 2 * s.sWords

/-- The physical row that a read of `row` returns; none for a physical row of page 1, which reads 0 (R123, R127). -/
def State.vRead (s : State) (row : Nat) : Option Nat :=
  match s.vState row with
  | some i => some (if s.eng.pV.testBit i then row + s.vRows else row)
  | none => if s.vPage1 row then none else some row
/-- The physical word that a read of `w` returns. -/
def State.sRead (s : State) (w : Nat) : Option Nat :=
  match s.sState w with
  | some i => some (if s.eng.pS.testBit i then w + s.sWords else w)
  | none => if s.sPage1 w then none else some w

/-- Lane `n` of logical row `row` as any master reads it. -/
def State.rowLane (s : State) (row n : Nat) : BitVec 16 :=
  match s.vRead row with | some r => BitVec.ofNat 16 (s.load (vdmAddr r n) 2) | none => 0
/-- The lanes of a logical row. -/
def State.rowLanes (s : State) (row : Nat) : List (BitVec 16) := (List.range 64).map (s.rowLane row)
/-- Logical SDM word `w` as any master reads it. -/
def State.sdm (s : State) (w : Nat) : Word := match s.sRead w with | some x => BitVec.ofNat 32 (s.load (sdmAddr x) 4) | none => 0

/-- Write the lanes of a physical row that a mask selects. -/
def State.putLanes (s : State) (r : Nat) (mask : Word64) (vals : List (BitVec 16)) : State :=
  (List.range 64).foldl (fun s n => if mask.toNat.testBit n then s.store (vdmAddr r n) 2 (vals.getD n 0).toNat else s) s

/-- A write of the Crucible to a logical row (R124, R127). -/
def State.crucV (s : State) (row : Nat) (mask : Word64) (vals : List (BitVec 16)) : State :=
  match s.vState row with
  | some i =>
    let cur := if s.eng.pV.testBit i then row + s.vRows else row
    let oth := if s.eng.pV.testBit i then row else row + s.vRows
    let old := (List.range 64).map fun n => BitVec.ofNat 16 (s.load (vdmAddr cur n) 2)
    let s := if s.eng.wV.testBit i then s else s.putLanes oth (~~~ mask) old
    let s := s.putLanes oth mask vals
    { s with eng := { s.eng with wV := s.eng.wV ||| 2 ^ i } }
  | none => if s.vPage1 row then s else s.putLanes row mask vals

/-- A write of the Crucible to a logical SDM word; the Sextant record's words take nothing (R128, R157). -/
def State.crucS (s : State) (w : Nat) (v : Word) : State :=
  if 0x3FF0 ≤ w then s
  else match s.sState w with
  | some i =>
    let oth := if s.eng.pS.testBit i then w else w + s.sWords
    { s.store (sdmAddr oth) 4 v.toNat with eng := { s.eng with wS := s.eng.wS ||| 2 ^ i } }
  | none => if s.sPage1 w then s else s.store (sdmAddr w) 4 v.toNat

/-- The state pages written in the period become current (R125). -/
def State.flipPages (s : State) : State :=
  { s with eng := { s.eng with pV := s.eng.pV ^^^ s.eng.wV, wV := 0, pS := s.eng.pS ^^^ s.eng.wS, wS := 0 } }
/-- The writes of an abandoned period are lost (R126). -/
def State.dropPages (s : State) : State := { s with eng := { s.eng with wV := 0, wS := 0 } }

/-! ### Accesses of other masters (R104, R127) -/

/-- Whether an address lies in VDM, and its row. -/
def isVdm (a : Nat) : Bool := 0x11000000 ≤ a && a < 0x11040000
def isSdm (a : Nat) : Bool := 0x11080000 ≤ a && a < 0x11090000
def rowAt (a : Nat) : Nat := (a - 0x11000000) / 128
def wordAt (a : Nat) : Nat := (a - 0x11080000) / 4

/-- The row or word that a claim is made on (02, text before R54): its first address. -/
def engKey (a : Nat) : Nat := if isVdm a then a / 128 * 128 else a / 4 * 4

/-- A read of a word of VDM or SDM by another master (R104, R123, R127). -/
def State.foreignRead (s : State) (a : Nat) : Word :=
  if isVdm a then
    let m := (a - 0x11000000) % 128 / 4
    (s.rowLane (rowAt a) (2 * m + 1)) ++ (s.rowLane (rowAt a) (2 * m))
  else s.sdm (wordAt a)

/-- A write of a word of VDM or SDM by another master: to both pages of a state row while the engine is stopped, and refused at
any other time (R127); the Sextant record takes nothing from any master (18 R645). -/
def State.foreignWrite (s : State) (m : Master) (a : Nat) (v : Word) : State :=
  if isSdm a && 0x3FF0 ≤ wordAt a then s
  else
  let two (s : State) (p n : Nat) : State :=
    if s.get F.ENG_STAT_ESTATE = 0 then (s.store (a / 4 * 4) 4 v.toNat).store (a / 4 * 4 + p * n) 4 v.toNat
    else s.faultNew F.ENG_STAT_CFGREJ Q.ENG_CFGREJ (wr m a)
  if isVdm a then
    match s.vState (rowAt a) with
    | some _ => two s s.vRows 128
    | none => if s.vPage1 (rowAt a) then s else s.store (a / 4 * 4) 4 v.toNat
  else
    match s.sState (wordAt a) with
    | some _ => two s s.sWords 4
    | none => if s.sPage1 (wordAt a) then s else s.store (a / 4 * 4) 4 v.toNat

/-- The word that MODIFY leaves, by its command's MASK and VALUE (16 R603). -/
def HCmd.modified (c : HCmd) (old : Word) : Word := (old &&& ~~~ c.body.getD 1 0) ||| (c.body.getD 2 0 &&& c.body.getD 1 0)

/-- A claim for which a READ, WRITE or MODIFY waits has been served. -/
def State.answered (s : State) (c : Claim) (v : Word) : State :=
  let one (x : HostAcc) : HostAcc := if x.wait = some c then { x with i := x.i + 1, vals := x.vals ++ [v], wait := none } else x
  { s with host := { s.host with accs := s.host.accs.map one } }

/-- The writes of the MODIFY commands whose claim a read serves (16 R603: one claim, one tick). -/
def State.modifies (s : State) (c : Claim) (old : Word) (write : State → Master → Nat → Word → State) : State :=
  (s.host.accs.filter fun x => x.wait = some c && x.cmd.opc == 3).foldl (fun s x => write s c.master c.addr (x.cmd.modified old)) s

/-- Serve a claim by a way to read and a way to write; the word read goes to its master. -/
def State.serveBy (s : State) (read : State → Master → Nat → Word × State) (write : State → Master → Nat → Word → State) (c : Claim) :
    State :=
  if c.write then (write s c.master c.addr c.value).answered c 0
  else
    let (v, s) := read s c.master c.addr
    let s := { s with bus := { s.bus with rdata := spIns s.bus.rdata c.master.code v } }
    (s.modifies c v write).answered c v

/-- Serve a claim on an engine memory. -/
def State.serveMem (s : State) (c : Claim) : State :=
  s.serveBy (fun s _ a => (s.foreignRead a, s)) (fun s m a v => s.foreignWrite m a v) c

/-- Note that a resource is served for a master in this tick (R54). -/
def State.served (s : State) (key : Nat) (m : Master) : State :=
  if s.bus.servedAt = s.now then { s with bus := { s.bus with served := spIns s.bus.served key m.code } }
  else { s with bus := { s.bus with served := [(key, m.code)], servedAt := s.now } }

/-- The master that a resource has served in this tick. -/
def State.servedBy (s : State) (key : Nat) : Option Nat :=
  if s.bus.servedAt = s.now then (s.bus.served.find? (·.1 == key)).map (·.2) else none

/-- The bit of ENG_STALLSRC for a master (03 Table 4). -/
def stallBit : Master → Nat
  | .supervisor => 1 | .ring => 2 | .twin => 4 | .host => 8 | .debug => 16 | _ => 0

/-! ### Waits of the engine (R56, R130) -/

/-- Deferred claims come in the order of their tick, and within one tick by priority (R55). -/
def claimBefore (x y : Claim) : Bool := x.tick < y.tick || (x.tick == y.tick && x.master.code < y.master.code)

def insClaim (c : Claim) : List Claim → List Claim
  | [] => [c]
  | x :: r => if claimBefore c x then c :: x :: r else x :: insClaim c r

/-- The common ticks that a claim of the engine on the resources waits: one for each deferred claim on the same one. -/
def State.engWaits (s : State) (keys : List Nat) : Nat :=
  keys.foldl (fun n k => max n (s.bus.deferred.filter fun c => engKey c.addr == k).length) 0

/-- A claim of the engine: deferred claims on its resources are served first; the engine's waits are counted (R55, R56, R130). -/
def State.engClaim (s : State) (keys : List Nat) : State :=
  let met := s.bus.deferred.filter fun c => keys.contains (engKey c.addr)
  let w := s.engWaits keys
  let s := { s with bus := { s.bus with deferred := s.bus.deferred.filter fun c => !keys.contains (engKey c.addr) } }
  let s := met.foldl State.serveMem s
  let s := { s with eng := { s.eng with waited := s.eng.waited + 2 * w, stallSrc := met.foldl (fun n c => n ||| stallBit c.master) s.eng.stallSrc } }
  keys.foldl (fun s k => s.served k .engine) s

end Sys2Proof.Machine
end

