-- ==== Sys2Proof/Machine/Flags.lean ====
section
/-! DEFINITION. Machine/Flags.lean: the sticky flags of the engine (03_engine_architecture.md R136 to R139; 04 R144, R166,
R167). Lane flags are numbered as Table 15 of 04 numbers them: 0 SAT, 1 AOV, 2 DZ, 3 LUT, 4 LOWC. -/
namespace Sys2Proof.Machine

/-- The register pair of lane flag `f`. -/
def flagReg (f : Nat) : Nat := R.ENG_FLG_SAT_LO + 8 * f

/-- The lanes in which flag `f` is set. -/
def State.laneFlag (s : State) (f : Nat) : Word64 := BitVec.ofNat 64 (s.reg64 (flagReg f))

/-- The fault source of a lane flag (R139, R141). -/
def flagSrc (f : Nat) : Src := match f with | 0 => Q.ENG_SAT | 1 => Q.ENG_AOV | 2 => Q.ENG_DZ | 3 => Q.ENG_LUT | _ => Q.ENG_LOWC

/-- FLGSUM follows the flags (R139). -/
def State.flgSum (s : State) : State :=
  s.set F.ENG_STAT_FLGSUM ((List.range 5).foldl (fun n f => if s.laneFlag f = 0 then n else n + 2 ^ f) 0)

/-- Note for the Log that a flag changed from clear to set in the period, by FMASK bit. -/
def State.seenFlag (s : State) (b : Nat) : State := { s with log := { s.log with flagsSeen := s.log.flagsSeen ||| 2 ^ b } }

/-- Set lane flag `f` in the lanes given; its source is raised when a lane's flag changes from clear to set (R139). -/
def State.setLaneFlag (s : State) (f : Nat) (lanes : Word64) : State :=
  let new := lanes &&& ~~~ s.laneFlag f
  if lanes = 0 then s
  else
    let a := flagReg f
    let s := (s.mark a (lanes.truncate 32)).mark (a + 4) ((lanes >>> 32).truncate 32)
    let s := s.setReg64 a (s.laneFlag f ||| lanes).toNat
    if new = 0 then s else ((s.flgSum).seenFlag f).raise (flagSrc f) (hw 0)

/-- Clear lane flag `f` in the lanes given. -/
def State.clearLaneFlag (s : State) (f : Nat) (lanes : Word64) : State :=
  (s.setReg64 (flagReg f) (s.laneFlag f &&& ~~~ lanes).toNat).flgSum

/-- Set the scalar flags. -/
def State.setScalarFlags (s : State) (ssat sdz : Bool) : State :=
  let s := if ssat then
      (if s.on F.ENG_SFLG_SSAT then s.flag F.ENG_SFLG_SSAT else ((s.flag F.ENG_SFLG_SSAT).seenFlag 5).raise Q.ENG_SSAT (hw 0)) else s
  if sdz then
    (if s.on F.ENG_SFLG_SDZ then s.flag F.ENG_SFLG_SDZ else ((s.flag F.ENG_SFLG_SDZ).seenFlag 6).raise Q.ENG_SDZ (hw 0)) else s

/-- Set the flags of a write-back. -/
def State.setFlags (s : State) (lanes : List Word64) (ssat sdz : Bool) : State :=
  (((List.range lanes.length).zip lanes).foldl (fun s e => s.setLaneFlag e.1 e.2) s).setScalarFlags ssat sdz

/-- FLGCLR (R166): clear the flags named, lane flags in the lanes given. -/
def State.flgClr (s : State) (fmask : Nat) (lanes : Word64) : State :=
  let s := (List.range 5).foldl (fun s f => if fmask.testBit f then s.clearLaneFlag f lanes else s) s
  let s := if fmask.testBit 5 then s.set F.ENG_SFLG_SSAT 0 else s
  if fmask.testBit 6 then s.set F.ENG_SFLG_SDZ 0 else s

/-- A write to a flag register; FLGSUM follows (R137, R139). -/
def State.flagWrite (s : State) (a : Nat) (v : Word) : State := (s.plainWrite a v).flgSum

end Sys2Proof.Machine
end

