-- ==== Sys2Proof/Machine/Operands.lean ====
section
/-! DEFINITION. Machine/Operands.lean: the registers of the Crucible, its lane masks, its address modes, its write-backs and the
passing of its cycles (03 R97 to R103, R110 to R112; 04 R142 to R150, R155). -/
namespace Sys2Proof.Machine

/-! ### Registers -/

/-- Lane `n` of V `r`. -/
def State.vLane (s : State) (r n : Nat) : BitVec 16 := spGet 0 s.eng.v (64 * r + n)
/-- Lane `n` of A `r`. -/
def State.aLane (s : State) (r n : Nat) : BitVec 40 := spGet 0 s.eng.a (64 * r + n)
/-- Lane mask `k`; K0 is ENG_LANEEN (R99). -/
def State.kReg (s : State) (k : Nat) : Word64 := if k = 0 then BitVec.ofNat 64 (s.reg64 R.ENG_LANEEN_LO) else spGet 0 s.eng.k k
/-- Scalar register `r`. -/
def State.sReg (s : State) (r : Nat) : Word := spGet 0 s.eng.sr r

/-- Lane `n` of V `r` as a signed integer (R142). -/
def State.vS (s : State) (r n : Nat) : Int := (s.vLane r n).toInt
/-- Lane `n` of A `r` as a signed integer. -/
def State.aS (s : State) (r n : Nat) : Int := (s.aLane r n).toInt
/-- Scalar register `r` as a signed integer. -/
def State.sS (s : State) (r : Nat) : Int := (s.sReg r).toInt
/-- hi16 of a scalar register (R143). -/
def State.sHi (s : State) (r : Nat) : Int := signedOf 16 ((s.sReg r).toNat / 2 ^ 16)

def State.setV (s : State) (r n : Nat) (v : BitVec 16) : State := { s with eng := { s.eng with v := spPut 0 s.eng.v (64 * r + n) v } }
def State.setA (s : State) (r n : Nat) (v : BitVec 40) : State := { s with eng := { s.eng with a := spPut 0 s.eng.a (64 * r + n) v } }
def State.setK (s : State) (k : Nat) (v : Word64) : State :=
  if k = 0 then s else { s with eng := { s.eng with k := spPut 0 s.eng.k k v } }
def State.setS (s : State) (r : Nat) (v : Word) : State := { s with eng := { s.eng with sr := spPut 0 s.eng.sr r v } }

/-- Whether a mask selects lane `n`. -/
def inMask (m : Word64) (n : Nat) : Bool := m.toNat.testBit n

/-- A mask of the lanes for which `f` holds. -/
def lanesWhere (f : Nat → Bool) : Word64 := BitVec.ofNat 64 ((List.range 64).foldl (fun m n => if f n then m + 2 ^ n else m) 0)

/-- A value for every lane. -/
def perLane {α : Type} (f : Nat → α) : List α := (List.range 64).map f

/-! ### Saturation (R143, R144) -/

def sat16 (x : Int) : BitVec 16 := satS 16 x
def sat32 (x : Int) : Word := satS 32 x
def sat40 (x : Int) : BitVec 40 := satS 40 x

/-! ### Write-backs (R148, R150) -/

/-- The lanes of a change. -/
def State.applyAct (s : State) : WbAct → State × Word64
  | .vec r m vals => ((List.range 64).foldl (fun s n => if inMask m n then s.setV r n (vals.getD n 0) else s) s, 0)
  | .acc r m vals => ((List.range 64).foldl (fun s n => if inMask m n then s.setA r n (vals.getD n 0) else s) s, 0)
  | .accum r m adds =>
    let sum (n : Nat) : Int := s.aS r n + adds.getD n 0
    ((List.range 64).foldl (fun t n => if inMask m n then t.setA r n (sat40 (sum n)) else t) s,
      lanesWhere fun n => inMask m n && !fitsS 40 (sum n))
  | .mask k sel val => (s.setK k ((s.kReg k &&& ~~~ sel) ||| (val &&& sel)), 0)
  | .scal r v => (s.setS r v, 0)

/-- A write-back lands: its registers change and its flags set; an accumulation reads its accumulator now (R150) and sets AOV where
the sum saturates (R144). -/
def State.land (s : State) (w : Wb) : State :=
  let (s, aov) := w.acts.foldl (fun (p : State × Word64) a => let (t, o) := p.1.applyAct a; (t, p.2 ||| o)) (s, 0)
  let lanes := match w.flags with | [a, b, c, d, e] => [a, b ||| aov, c, d, e] | l => if aov = 0 then l else [0, aov]
  s.setFlags lanes w.ssat w.sdz

/-- An engine cycle passes: the write-backs that fall in it land, in the order of issue (R111, R148). -/
def State.cycle (s : State) : State :=
  let due := s.eng.pend.filter fun w => w.left ≤ 1
  let rest := (s.eng.pend.filter fun w => 1 < w.left).map fun w => { w with left := w.left - 1 }
  due.foldl State.land { s with eng := { s.eng with pend := rest } }

/-- Several cycles pass. -/
def State.cycles : Nat → State → State
  | 0, s => s
  | n + 1, s => State.cycles n s.cycle

/-- Every write-back in flight lands, in the order in which they fall due (R113). -/
def State.drain (s : State) : State := State.cycles 8 s

/-- Issue a write-back of latency `lat`. -/
def State.push (s : State) (w : Wb) : State := { s with eng := { s.eng with pend := s.eng.pend ++ [w] } }

/-- A write-back with no flag. -/
def wb (lat : Nat) (acts : List WbAct) : Wb := { left := lat, acts := acts, flags := [], ssat := false, sdz := false }

/-- A write-back that sets SAT in the lanes given. -/
def wbSat (lat : Nat) (acts : List WbAct) (sat : Word64) : Wb := { wb lat acts with flags := [sat] }

/-- A write-back of V `r` in the lanes of `m`, with saturation to 16 bits and SAT (R144). -/
def wbV16 (lat r : Nat) (m : Word64) (f : Nat → Int) : Wb :=
  wbSat lat [.vec r m (perLane fun n => sat16 (f n))] (lanesWhere fun n => inMask m n && !fitsS 16 (f n))

/-- A write-back of V `r` whose values fit. -/
def wbV (lat r : Nat) (m : Word64) (f : Nat → BitVec 16) : Wb := wb lat [.vec r m (perLane f)]

/-! ### Address modes (R155) -/

/-- The row of VLD and VST. -/
def State.vdmRow (s : State) (am : Nat) (sb row : Nat) : Nat :=
  match am with
  | 0 => row % 2048
  | 1 => ((s.sReg sb).toNat % 2048 + row) % 2048
  | _ => (s.get F.ENG_INBOX_BASE + row) % 2048

/-- The word of SLD, SST, KLD and KST. -/
def State.sdmWord (s : State) (am : Bool) (sb off : Nat) : Nat :=
  if am then ((s.sReg sb).toNat % 16384 + off) % 16384 else off % 16384

/-! ### Values the spec bounds without fixing (DESIGN CHOICE, log 2) -/

/-- An integer within `tol` of the exact value `x`; which one is free. -/
def within (tol : Nat) (x : Rat) (free : Nat) : Int :=
  let lo := (x - tol).ceil
  let hi := (x + tol).floor
  lo + ((free : Int) % (hi - lo + 1))

/-- Free values for the 64 lanes: the count of the first one, and the state after they are drawn. -/
def State.drawLanes (s : State) : Nat × State := (s.free, { s with free := s.free + 64 })

/-- The free value of lane `n`. -/
def freeLane (base n : Nat) : Nat := (Config.freeValue (base + n)).toNat

/-- The integer square root, by bits from `2^k` down. -/
def isqrt : Nat → Nat → Nat → Nat
  | 0, _, r => r
  | k + 1, x, r => let r' := r + 2 ^ k; isqrt k x (if r' * r' ≤ x then r' else r)

end Sys2Proof.Machine
end

