-- ==== Sys2Proof/Machine/VSlot.lean ====
section
/-! DEFINITION. Machine/VSlot.lean: the V-slot instructions (04_engine_instructions.md R142 to R154): what each one issues into
the pipeline. An instruction of the V-slot opens the word that the next instruction of the M-slot closes (R145, R146). -/
namespace Sys2Proof.Machine

/-- The lanes of a mask register in which `f` holds. -/
def State.inK (s : State) (k : Nat) (f : Nat → Bool) : Word64 := s.kReg k &&& lanesWhere f

/-- A product in Q15 rounded (R142, R143). -/
def q15 (x : Int) : Int := roundShift x 15

/-! ### Arithmetic and accumulators (Table 4) -/

def State.fxVadd (s : State) (vd va vb k : Nat) : State := s.push (wbV16 2 vd (s.kReg k) fun n => s.vS va n + s.vS vb n)
def State.fxVsub (s : State) (vd va vb k : Nat) : State := s.push (wbV16 2 vd (s.kReg k) fun n => s.vS va n - s.vS vb n)
def State.fxVneg (s : State) (vd va k : Nat) : State := s.push (wbV16 2 vd (s.kReg k) fun n => -s.vS va n)
def State.fxVabs (s : State) (vd va k : Nat) : State := s.push (wbV16 2 vd (s.kReg k) fun n => (s.vS va n).natAbs)
def State.fxVmul (s : State) (vd va vb k : Nat) : State := s.push (wbV16 3 vd (s.kReg k) fun n => q15 (s.vS va n * s.vS vb n))
def State.fxVmuls (s : State) (vd va sx k : Nat) : State := s.push (wbV16 3 vd (s.kReg k) fun n => q15 (s.vS va n * s.sHi sx))
def State.fxVmax (s : State) (vd va vb k : Nat) : State :=
  s.push (wbV 2 vd (s.kReg k) fun n => if s.vS va n < s.vS vb n then s.vLane vb n else s.vLane va n)
def State.fxVmin (s : State) (vd va vb k : Nat) : State :=
  s.push (wbV 2 vd (s.kReg k) fun n => if s.vS vb n < s.vS va n then s.vLane vb n else s.vLane va n)
def State.fxVmov (s : State) (vd va k : Nat) : State := s.push (wbV 1 vd (s.kReg k) (s.vLane va))
def State.fxVsplat (s : State) (vd : Nat) (imm : BitVec 16) (k : Nat) : State := s.push (wbV 1 vd (s.kReg k) fun _ => imm)

/-- A write-back of accumulator `r` in the lanes of `m`. -/
def wbA (lat r : Nat) (m : Word64) (f : Nat → BitVec 40) : Wb := wb lat [.acc r m (perLane f)]

/-- An accumulation, whose accumulator is read when it lands (R150). -/
def wbSum (r : Nat) (m : Word64) (f : Nat → Int) : Wb := wb 3 [.accum r m (perLane f)]

def State.fxVmpy (s : State) (ad va vb k : Nat) : State :=
  s.push (wbA 3 ad (s.kReg k) fun n => BitVec.ofInt 40 (s.vS va n * s.vS vb n))
def State.fxVmac (s : State) (ad va vb k : Nat) : State := s.push (wbSum ad (s.kReg k) fun n => s.vS va n * s.vS vb n)
def State.fxVmsb (s : State) (ad va vb k : Nat) : State := s.push (wbSum ad (s.kReg k) fun n => -(s.vS va n * s.vS vb n))
def State.fxVmacs (s : State) (ad va sx k : Nat) : State := s.push (wbSum ad (s.kReg k) fun n => s.vS va n * s.sHi sx)
def State.fxVacc (s : State) (ad va k : Nat) : State := s.push (wbSum ad (s.kReg k) fun n => s.vS va n * 2 ^ 15)
def State.fxVaz (s : State) (ad k : Nat) : State := s.push (wbA 1 ad (s.kReg k) fun _ => 0)
def State.fxVawb (s : State) (vd aa l k : Nat) : State :=
  s.push (wbV16 3 vd (s.kReg k) fun n => roundShift (s.aS aa n) (15 - l))
def State.fxAst (s : State) (vd aa k : Nat) : State :=
  let part (i n : Nat) : BitVec 16 := BitVec.ofInt 16 (s.aS aa n / 2 ^ (16 * i))
  s.push (wb 2 ((List.range 3).map fun i => .vec (vd + i) (s.kReg k) (perLane (part i))))
def State.fxAld (s : State) (ad va k : Nat) : State :=
  s.push (wbA 2 ad (s.kReg k) fun n => ((s.vLane (va + 2) n).truncate 8 : BitVec 8) ++ s.vLane (va + 1) n ++ s.vLane va n)

/-! ### Logic, select, shifts and comparison (Tables 5 and 6) -/

def State.fxVand (s : State) (vd va vb k : Nat) : State := s.push (wbV 1 vd (s.kReg k) fun n => s.vLane va n &&& s.vLane vb n)
def State.fxVor (s : State) (vd va vb k : Nat) : State := s.push (wbV 1 vd (s.kReg k) fun n => s.vLane va n ||| s.vLane vb n)
def State.fxVxor (s : State) (vd va vb k : Nat) : State := s.push (wbV 1 vd (s.kReg k) fun n => s.vLane va n ^^^ s.vLane vb n)
def State.fxVsel (s : State) (vd va vb kc k : Nat) : State :=
  s.push (wbV 1 vd (s.kReg k) fun n => if inMask (s.kReg kc) n then s.vLane va n else s.vLane vb n)
def State.fxVshl (s : State) (vd va i k : Nat) : State := s.push (wbV16 2 vd (s.kReg k) fun n => s.vS va n * 2 ^ i)
def State.fxVshr (s : State) (vd va i k : Nat) : State := s.push (wbV 2 vd (s.kReg k) fun n => BitVec.ofInt 16 (roundShift (s.vS va n) i))

/-- The conditions of Table 6: 0 EQ, 1 NE, 2 LT, 3 LE, 4 GT, 5 GE. -/
def condHolds (cc : Nat) (a b : Int) : Bool :=
  match cc with
  | 0 => a == b | 1 => a != b | 2 => a < b | 3 => a ≤ b | 4 => b < a | _ => b ≤ a

/-- The second operand of VCMP in lane `n` (Table 6). -/
def State.cmpB (s : State) (scalar : Bool) (vb sx n : Nat) : Int :=
  if scalar then signedOf 16 ((s.sReg sx).toNat % 2 ^ 16) else s.vS vb n

def State.fxVcmp (s : State) (kd cc : Nat) (scalar : Bool) (va vb sx k : Nat) : State :=
  s.push (wb 2 [.mask kd (s.kReg k) (lanesWhere fun n => condHolds cc (s.vS va n) (s.cmpB scalar vb sx n))])

/-! ### Conversions and functions (Table 7, R154) -/

/-- The pair of write-backs of a 32-bit result in V `vd` and V `vd + 1`. -/
def pairActs (vd : Nat) (m : Word64) (f : Nat → Int) : List WbAct :=
  [.vec vd m (perLane fun n => BitVec.ofInt 16 (f n)), .vec (vd + 1) m (perLane fun n => BitVec.ofInt 16 (f n / 2 ^ 16))]

/-- The value of VETM: 24.4 units from the fraction `a` of the period `p`. -/
def etmOf (a : Int) (p : Nat) (wrap : Bool) : Int :=
  if a < 0 then (if wrap then p + q15 (a * p) else 0) else q15 (a * p)

def State.fxVetm (s : State) (p va sx : Nat) (wrap : Bool) (k : Nat) : State :=
  let per := (s.sReg sx).toNat % 2 ^ 28
  s.push (wbSat 4 (pairActs (2 * p) (s.kReg k) fun n => etmOf (s.vS va n) per wrap)
    (s.inK k fun n => !wrap && decide (s.vS va n < 0)))

/-- VRECIP: q within 2 LSB of 2^(30 - l) / va (the value within that band is free). -/
def State.recipLane (s : State) (base va l n : Nat) : Int := within 2 ((2 ^ (30 - l) : Nat) / (s.vS va n : Rat)) (freeLane base n)

def State.fxVrecip (s : State) (vd va l k : Nat) : State :=
  let (base, s) := s.drawLanes
  let zero (n : Nat) : Bool := s.vS va n == 0
  let q (n : Nat) : Int := if zero n then 0x7FFF else s.recipLane base va l n
  s.push { wb 6 [.vec vd (s.kReg k) (perLane fun n => sat16 (q n))] with
    flags := [s.inK k fun n => !zero n && !fitsS 16 (q n), 0, s.inK k zero] }

/-- An integer within 1 of the square root of `x`, not above `top`; which one is free. -/
def nearRoot (x top free : Nat) : Int :=
  let r := isqrt 17 x 0
  let lo : Int := if r * r = x then r - 1 else r
  min top (lo + ((free % (if r * r = x then 3 else 2) : Nat) : Int))

def State.fxVsqrt (s : State) (vd va k : Nat) : State :=
  let (base, s) := s.drawLanes
  let neg (n : Nat) : Bool := s.vS va n < 0
  s.push (wbSat 6 [.vec vd (s.kReg k) (perLane fun n => if neg n then 0 else
    BitVec.ofInt 16 (nearRoot ((s.vS va n).toNat * 2 ^ 15) 0x7FFF (freeLane base n)))] (s.inK k neg))

/-- π in parts of 2^48. -/
def piFix : Int := 884279719003555

/-- The sine series of `x`, in parts of 2^48, from its `k`th term `t` on (`x2` is x², in parts of 2^48). -/
def sinTerms (x2 : Int) : Nat → Nat → Int → Int
  | 0, _, _ => 0
  | fuel + 1, k, t => t + sinTerms x2 fuel (k + 1) (-(t * x2 / 2 ^ 48 / ((2 * k + 2) * (2 * k + 3) : Nat)))

/-- sin(2π a / 2^32) in parts of 2^48, for 0 ≤ a ≤ 2^30, with an error below 2^-30. -/
def sinQuarter (a : Nat) : Int :=
  let x := piFix * a / 2 ^ 31
  sinTerms (x * x / 2 ^ 48) 10 0 x

/-- sin(2π a / 2^32) in parts of 2^48. -/
def sinFix (a : Nat) : Int :=
  let h := a % 2 ^ 31
  let v := sinQuarter (if h ≤ 2 ^ 30 then h else 2 ^ 31 - h)
  if a % 2 ^ 32 < 2 ^ 31 then v else -v

/-- An integer within 2 (widened by 1/1000 for the error of the series) of 32768 × the value, clamped (R154); which is free. -/
def sinCode (v : Int) (free : Nat) : Int :=
  let x : Rat := (v : Rat) / 2 ^ 33
  let lo := (x - 2 - 1 / 1000).ceil
  let hi := (x + 2 + 1 / 1000).floor
  clampInt (-32767) 32767 (lo + ((free : Int) % (hi - lo + 1)))

def State.fxVsincos (s : State) (p va sx k : Nat) : State :=
  let (b0, s) := s.drawLanes
  let (b1, s) := s.drawLanes
  let th (n : Nat) : Nat := ((s.sReg sx).toNat + (s.vLane va n).toNat * 2 ^ 16) % 2 ^ 32
  s.push (wb 5 [.vec (2 * p) (s.kReg k) (perLane fun n => BitVec.ofInt 16 (sinCode (sinFix (th n)) (freeLane b0 n))),
    .vec (2 * p + 1) (s.kReg k) (perLane fun n => BitVec.ofInt 16 (sinCode (sinFix ((th n + 2 ^ 30) % 2 ^ 32)) (freeLane b1 n)))])

/-! ### The word (R145 to R148) -/

/-- What an instruction of the V-slot issues. -/
def State.vIssue (s : State) : Instr → State
  | .vadd vd va vb k => s.fxVadd vd va vb k
  | .vsub vd va vb k => s.fxVsub vd va vb k
  | .vneg vd va k => s.fxVneg vd va k
  | .vabs vd va k => s.fxVabs vd va k
  | .vmul vd va vb k => s.fxVmul vd va vb k
  | .vmuls vd va sx k => s.fxVmuls vd va sx k
  | .vmax vd va vb k => s.fxVmax vd va vb k
  | .vmin vd va vb k => s.fxVmin vd va vb k
  | .vand vd va vb k => s.fxVand vd va vb k
  | .vor vd va vb k => s.fxVor vd va vb k
  | .vxor vd va vb k => s.fxVxor vd va vb k
  | .vshl vd va n k => s.fxVshl vd va n k
  | .vshr vd va n k => s.fxVshr vd va n k
  | .vmov vd va k => s.fxVmov vd va k
  | .vsel vd va vb kc k => s.fxVsel vd va vb kc k
  | .vcmp kd cc scalar va vb sx k => s.fxVcmp (kd + 1) cc scalar va vb sx k
  | .vsplat vd imm k => s.fxVsplat vd imm k
  | .vmpy ad va vb k => s.fxVmpy ad va vb k
  | .vmac ad va vb k => s.fxVmac ad va vb k
  | .vmsb ad va vb k => s.fxVmsb ad va vb k
  | .vmacs ad va sx k => s.fxVmacs ad va sx k
  | .vacc ad va k => s.fxVacc ad va k
  | .vaz ad k => s.fxVaz ad k
  | .vawb vd aa l k => s.fxVawb vd aa l k
  | .ast vd aa k => s.fxAst vd aa k
  | .ald ad va k => s.fxAld ad va k
  | .vetm p va sx wrap k => s.fxVetm p va sx wrap k
  | .vrecip vd va l k => s.fxVrecip vd va l k
  | .vsqrt vd va k => s.fxVsqrt vd va k
  | .vsincos p va sx k => s.fxVsincos p va sx k
  | _ => s

/-- The open word ends: its cycle passes (R110, R111). -/
def State.closeWord (s : State) : State := State.cycle { s with eng := { s.eng with vOpen := none } }

/-- The word that a V-slot instruction begins: an open word whose M-slot had nothing ends first (R147). -/
def State.newWord (s : State) : State := if s.eng.vOpen.isSome then s.closeWord else s

/-- An instruction of the V-slot issues into a new word. -/
def State.issueV (s : State) (i : Instr) : State :=
  let s := s.newWord.vIssue i
  { s with eng := { s.eng with vOpen := some i } }

/-- The open word issues `n` cycles late (R56): its V-slot instruction reads its operands then. -/
def State.lateWord (s : State) (n : Nat) : State :=
  match s.eng.vOpen with
  | some i =>
    let own := (s.vIssue i).eng.pend.length - s.eng.pend.length
    (State.cycles n { s with eng := { s.eng with pend := s.eng.pend.take (s.eng.pend.length - own) } }).vIssue i
  | none => State.cycles n s

/-- An instruction of the M-slot with its claims (R149): the word waits for deferred claims on them (R56, R130), the
instruction acts, and the word ends. -/
def State.issueM (s : State) (keys : List Nat) (act : State → State) : State :=
  let w := s.engWaits keys
  let s := s.engClaim keys
  let s := if w = 0 then s else s.lateWord (2 * w)
  (act s).closeWord

/-! ### Meanings -/

/-- VNOP (R147). -/
def execVnop (s : State) : Host.Outcome State Fault Refusal := .next (settle s (s.issueV .vnop))
/-- VADD (R151). -/
def execVadd (vd va vb : Fin 32) (k : Fin 8) (s : State) : Host.Outcome State Fault Refusal := .next (settle s (s.issueV (.vadd vd va vb k)))
/-- VSUB (R151). -/
def execVsub (vd va vb : Fin 32) (k : Fin 8) (s : State) : Host.Outcome State Fault Refusal := .next (settle s (s.issueV (.vsub vd va vb k)))
/-- VNEG (R151). -/
def execVneg (vd va : Fin 32) (k : Fin 8) (s : State) : Host.Outcome State Fault Refusal := .next (settle s (s.issueV (.vneg vd va k)))
/-- VABS (R151). -/
def execVabs (vd va : Fin 32) (k : Fin 8) (s : State) : Host.Outcome State Fault Refusal := .next (settle s (s.issueV (.vabs vd va k)))
/-- VMUL (R151). -/
def execVmul (vd va vb : Fin 32) (k : Fin 8) (s : State) : Host.Outcome State Fault Refusal := .next (settle s (s.issueV (.vmul vd va vb k)))
/-- VMULS (R151). -/
def execVmuls (vd va : Fin 32) (sx : Fin 16) (k : Fin 8) (s : State) : Host.Outcome State Fault Refusal :=
  .next (settle s (s.issueV (.vmuls vd va sx k)))
/-- VMAX (R151). -/
def execVmax (vd va vb : Fin 32) (k : Fin 8) (s : State) : Host.Outcome State Fault Refusal := .next (settle s (s.issueV (.vmax vd va vb k)))
/-- VMIN (R151). -/
def execVmin (vd va vb : Fin 32) (k : Fin 8) (s : State) : Host.Outcome State Fault Refusal := .next (settle s (s.issueV (.vmin vd va vb k)))
/-- VAND (R152). -/
def execVand (vd va vb : Fin 32) (k : Fin 8) (s : State) : Host.Outcome State Fault Refusal := .next (settle s (s.issueV (.vand vd va vb k)))
/-- VOR (R152). -/
def execVor (vd va vb : Fin 32) (k : Fin 8) (s : State) : Host.Outcome State Fault Refusal := .next (settle s (s.issueV (.vor vd va vb k)))
/-- VXOR (R152). -/
def execVxor (vd va vb : Fin 32) (k : Fin 8) (s : State) : Host.Outcome State Fault Refusal := .next (settle s (s.issueV (.vxor vd va vb k)))
/-- VSHL (R152). -/
def execVshl (vd va : Fin 32) (n : Fin 16) (k : Fin 8) (s : State) : Host.Outcome State Fault Refusal :=
  .next (settle s (s.issueV (.vshl vd va n k)))
/-- VSHR (R152). -/
def execVshr (vd va : Fin 32) (n : Fin 16) (k : Fin 8) (s : State) : Host.Outcome State Fault Refusal :=
  .next (settle s (s.issueV (.vshr vd va n k)))
/-- VMOV (R151). -/
def execVmov (vd va : Fin 32) (k : Fin 8) (s : State) : Host.Outcome State Fault Refusal := .next (settle s (s.issueV (.vmov vd va k)))
/-- VSEL (R152). -/
def execVsel (vd va vb : Fin 32) (kc k : Fin 8) (s : State) : Host.Outcome State Fault Refusal :=
  .next (settle s (s.issueV (.vsel vd va vb kc k)))
/-- VCMP (R152, R153). -/
def execVcmp (kd : Fin 7) (cc : Fin 6) (scalar : Bool) (va vb : Fin 32) (sx : Fin 16) (k : Fin 8) (s : State) :
    Host.Outcome State Fault Refusal := .next (settle s (s.issueV (.vcmp kd cc scalar va vb sx k)))
/-- VSPLAT (R151). -/
def execVsplat (vd : Fin 32) (imm : BitVec 16) (k : Fin 8) (s : State) : Host.Outcome State Fault Refusal :=
  .next (settle s (s.issueV (.vsplat vd imm k)))
/-- VMPY (R151). -/
def execVmpy (ad : Fin 4) (va vb : Fin 32) (k : Fin 8) (s : State) : Host.Outcome State Fault Refusal :=
  .next (settle s (s.issueV (.vmpy ad va vb k)))
/-- VMAC (R150, R151). -/
def execVmac (ad : Fin 4) (va vb : Fin 32) (k : Fin 8) (s : State) : Host.Outcome State Fault Refusal :=
  .next (settle s (s.issueV (.vmac ad va vb k)))
/-- VMSB (R150, R151). -/
def execVmsb (ad : Fin 4) (va vb : Fin 32) (k : Fin 8) (s : State) : Host.Outcome State Fault Refusal :=
  .next (settle s (s.issueV (.vmsb ad va vb k)))
/-- VMACS (R150, R151). -/
def execVmacs (ad : Fin 4) (va : Fin 32) (sx : Fin 16) (k : Fin 8) (s : State) : Host.Outcome State Fault Refusal :=
  .next (settle s (s.issueV (.vmacs ad va sx k)))
/-- VACC (R150, R151). -/
def execVacc (ad : Fin 4) (va : Fin 32) (k : Fin 8) (s : State) : Host.Outcome State Fault Refusal :=
  .next (settle s (s.issueV (.vacc ad va k)))
/-- VAZ (R151). -/
def execVaz (ad : Fin 4) (k : Fin 8) (s : State) : Host.Outcome State Fault Refusal := .next (settle s (s.issueV (.vaz ad k)))
/-- VAWB (R151). -/
def execVawb (vd : Fin 32) (aa : Fin 4) (l : Fin 10) (k : Fin 8) (s : State) : Host.Outcome State Fault Refusal :=
  .next (settle s (s.issueV (.vawb vd aa l k)))
/-- AST (R151). -/
def execAst (vd : Fin 30) (aa : Fin 4) (k : Fin 8) (s : State) : Host.Outcome State Fault Refusal :=
  .next (settle s (s.issueV (.ast vd aa k)))
/-- ALD (R151). -/
def execAld (ad : Fin 4) (va : Fin 30) (k : Fin 8) (s : State) : Host.Outcome State Fault Refusal :=
  .next (settle s (s.issueV (.ald ad va k)))
/-- VETM (R154). -/
def execVetm (p : Fin 16) (va : Fin 32) (sx : Fin 16) (wrap : Bool) (k : Fin 8) (s : State) : Host.Outcome State Fault Refusal :=
  .next (settle s (s.issueV (.vetm p va sx wrap k)))
/-- VRECIP (R154). -/
def execVrecip (vd va : Fin 32) (l : Fin 16) (k : Fin 8) (s : State) : Host.Outcome State Fault Refusal :=
  .next (settle s (s.issueV (.vrecip vd va l k)))
/-- VSQRT (R154). -/
def execVsqrt (vd va : Fin 32) (k : Fin 8) (s : State) : Host.Outcome State Fault Refusal := .next (settle s (s.issueV (.vsqrt vd va k)))
/-- VSINCOS (R154). -/
def execVsincos (p : Fin 16) (va : Fin 32) (sx : Fin 16) (k : Fin 8) (s : State) : Host.Outcome State Fault Refusal :=
  .next (settle s (s.issueV (.vsincos p va sx k)))

end Sys2Proof.Machine
end

