-- ==== Sys2Proof/Machine/MSlot.lean ====
section
/-! DEFINITION. Machine/MSlot.lean: the M-slot instructions (04_engine_instructions.md R155 to R173): memory, cross-lane and
table operations, scalar arithmetic, masks and flags, modulation writes, slot rows and the end of a block. -/
namespace Sys2Proof.Machine

/-- The claim on a logical row, and on an SDM word (R149). -/
def rowKey (r : Nat) : Nat := vdmAddr (r % 2048) 0
def wordKey (w : Nat) : Nat := sdmAddr (w % 16384)

/-! ### Memory (Table 9) -/

def State.fxVld (s : State) (v row k : Nat) : State := s.push (wbV 4 v (s.kReg k) (s.rowLane row))
def State.fxVst (s : State) (v row k : Nat) : State := s.crucV row (s.kReg k) (perLane (s.vLane v))
def State.fxSld (s : State) (sd w : Nat) : State := s.push (wb 3 [.scal sd (s.sdm w)])
def State.fxSst (s : State) (ss w : Nat) : State := s.crucS w (s.sReg ss)
def State.fxKld (s : State) (kd w : Nat) : State := s.push (wb 3 [.mask kd (BitVec.allOnes 64) (s.sdm (w + 1) ++ s.sdm w)])
def State.fxKst (s : State) (ks w : Nat) : State :=
  (s.crucS w ((s.kReg ks).truncate 32)).crucS (w + 1) ((s.kReg ks >>> 32).truncate 32)

/-- The even word of KLD and KST. -/
def evenWord (w : Nat) : Nat := w / 2 * 2

/-! ### Cross-lane operations (R158, R159) -/

/-- Whether lane `j` of V `va` comes before lane `i` in the order of R158. -/
def State.rankBefore (s : State) (va : Nat) (desc : Bool) (j i : Nat) : Bool :=
  let a := s.vS va j
  let b := s.vS va i
  (if desc then decide (b < a) else decide (a < b)) || (a == b && decide (j < i))

/-- The rank of lane `i` in the set `ke` (R158). -/
def State.rankOf (s : State) (va : Nat) (ke : Word64) (desc : Bool) (i : Nat) : Nat :=
  if inMask ke i then ((List.range 64).filter fun j => inMask ke j && s.rankBefore va desc j i).length else 63

def State.fxVrank (s : State) (vd va ke : Nat) (desc : Bool) (k : Nat) : State :=
  s.push (wbV 8 vd (s.kReg k) fun i => BitVec.ofNat 16 (s.rankOf va (s.kReg ke) desc i))

/-- The lanes that a mask register selects. -/
def State.selected (s : State) (k : Nat) : List Nat := (List.range 64).filter (inMask (s.kReg k))

def State.fxVrsum (s : State) (sd va k : Nat) : State :=
  s.push (wb 6 [.scal sd (BitVec.ofInt 32 ((s.selected k).foldl (fun t n => t + s.vS va n) 0))])
def State.fxVrmax (s : State) (sd va k : Nat) : State :=
  s.push (wb 6 [.scal sd (BitVec.ofInt 32 ((s.selected k).foldl (fun t n => max t (s.vS va n)) (-32768)))])
def State.fxVrmin (s : State) (sd va k : Nat) : State :=
  s.push (wb 6 [.scal sd (BitVec.ofInt 32 ((s.selected k).foldl (fun t n => min t (s.vS va n)) 32767))])
def State.fxVrot (s : State) (vd va i k : Nat) : State := s.push (wbV 3 vd (s.kReg k) fun n => s.vLane va ((n + i) % 64))

/-- The value that VBCAST spreads. -/
def State.bcastVal (s : State) : BcastSrc → BitVec 16
  | .scalar sb => (s.sReg sb).truncate 16
  | .lane va j => s.vLane va j

def State.fxVbcast (s : State) (vd : Nat) (src : BcastSrc) (k : Nat) : State :=
  s.push (wbV 3 vd (s.kReg k) fun _ => s.bcastVal src)
def State.fxVgath (s : State) (vd va vb k : Nat) : State :=
  s.push (wbV 3 vd (s.kReg k) fun n => s.vLane va ((s.vLane vb n).toNat % 64))
def State.fxVext (s : State) (sd va j : Nat) : State := s.push (wb 2 [.scal sd (BitVec.ofInt 32 (s.vS va j))])
def State.fxVins (s : State) (vd sb j k : Nat) : State :=
  s.push (wbV 2 vd (s.kReg k &&& lanesWhere fun n => n == j) fun _ => (s.sReg sb).truncate 16)

/-! ### Tables (R160 to R162) -/

/-- The table base of VLUT and LUTB. -/
def State.tbase (s : State) (sb : Nat) : Nat := (s.sReg sb).toNat % 2048

/-- The index of VLUT in one lane: u and the shift (R160). -/
def lutIndex (va : Int) (m : Nat) (sgn : Bool) : Nat × Nat :=
  if sgn then ((va + 32768).toNat, 16 - m) else (va.toNat, 15 - m)

/-- The interpolated entry of VLUT in lane `n` (R160). -/
def State.lutLane (s : State) (base va m : Nat) (sgn : Bool) (n : Nat) : Int :=
  let (u, sh) := lutIndex (s.vS va n) m sgn
  let t := u / 2 ^ sh
  let r := u % 2 ^ sh
  let e0 := (s.rowLane ((base + t) % 2048) n).toInt
  let e1 := (s.rowLane ((base + t + 1) % 2048) n).toInt
  e0 + roundShift (r * (e1 - e0)) sh

/-- `m` is the exponent of the table's size. -/
def State.fxVlut (s : State) (vd va sb m : Nat) (sgn : Bool) (k : Nat) : State :=
  s.push { wb 6 [.vec vd (s.kReg k) (perLane fun n => BitVec.ofInt 16 (s.lutLane (s.tbase sb) va m sgn n))] with
    flags := [0, 0, 0, s.inK k fun n => !sgn && decide (s.vS va n < 0)] }

/-- LUTB in one lane: the value, and whether it is learned data (R162). -/
def State.lutbLane (s : State) (base band va n : Nat) : Int × Bool :=
  let row (r : Nat) : BitVec 16 := s.rowLane ((base + r) % 2048) n
  let p := (s.vS va n).toNat
  let jc := p / 2048
  let ctr := 2048 * jc + 1024
  let valid := (row (64 + band)).toNat
  let value (j : Nat) : Int := (row (16 * band + j)).toInt
  let w := (if p < ctr then ctr - p else p - ctr : Nat)
  let nb : Option Nat := if p < ctr then (if jc = 0 then none else some (jc - 1)) else if jc + 1 ≤ 15 then some (jc + 1) else none
  if !valid.testBit jc then ((row (68 + jc)).toInt, false)
  else match nb with
    | some j => if valid.testBit j then (value jc + roundShift (w * (value j - value jc)) 11, true) else (value jc, true)
    | none => (value jc, true)

def State.fxLutb (s : State) (vd va sb kd k : Nat) : State :=
  let band := (s.sReg sb).toNat / 2 ^ 16 % 4
  let res := perLane (s.lutbLane (s.tbase sb) band va)
  let known (n : Nat) : Bool := (res.getD n (0, false)).2
  s.push { wb 7 [.vec vd (s.kReg k) (res.map fun r => BitVec.ofInt 16 r.1), .mask kd (s.kReg k) (lanesWhere known)] with
    flags := [0, 0, 0, s.inK k fun n => decide (s.vS va n < 0), s.inK k fun n => !known n] }

/-- The claims of VLUT and of LUTB: every row of the table (R149). -/
def State.tableKeys (s : State) (sb rows : Nat) : List Nat := (List.range rows).map fun t => rowKey (s.tbase sb + t)

/-! ### Scalar arithmetic (R163, R164) -/

/-- A scalar result that saturates to `w` bits, with SSAT. -/
def wbScal (lat sd w : Nat) (x : Int) : Wb := { wb lat [.scal sd (BitVec.ofInt 32 (clampInt (minS w) (maxS w) x))] with ssat := !fitsS w x }

/-- A scalar result. -/
def wbS (lat sd : Nat) (v : Word) : Wb := wb lat [.scal sd v]

def State.fxSrecip (s : State) (sd sa l : Nat) : State :=
  let (f, s) := s.draw
  if s.sReg sa = 0 then s.push { wbS 6 sd 0x7FFFFFFF#32 with sdz := true }
  else s.push (wbScal 6 sd 32 (within 4 ((2 ^ (62 - l) : Nat) / (s.sS sa : Rat)) f.toNat))

/-! ### Modulation writes and slot rows (R168 to R172) -/

/-- The largest value of an MWR field (Table 18, 06 R226). -/
def fieldMax (fld : Nat) : Nat := if fld < 4 then 2 ^ 28 - 1 else 4095

/-- TGT and CH of an MWR. -/
def mwrTgt : MwrTarget → Nat × Nat
  | .cell ch => (0, ch)
  | .localPair => (1, 0)
  | .aux => (2, 0)

/-- MWR places an entry in the ladle; at most 512 are kept (R115). -/
def State.fxMwr (s : State) (p : Nat) (tgt : MwrTarget) (fld k : Nat) : State :=
  let val (n : Nat) : Nat := (s.vLane (2 * p + 1) n).toNat * 2 ^ 16 + (s.vLane (2 * p) n).toNat
  let top := fieldMax fld
  let e : LadleEntry := { tgt := (mwrTgt tgt).1, ch := (mwrTgt tgt).2, fld,
                          vals := (s.selected k).map fun n => (n, min (val n) top) }
  let s' := if s.eng.ladle.length < 512 then { s with eng := { s.eng with ladle := s.eng.ladle ++ [e] } } else s
  s'.push (wbSat 1 [] (s.inK k fun n => decide (top < val n)))

/-- LDALL arms groups; the armed groups of a period add up (R115, R171). -/
def State.fxLdall (s : State) (groups : Nat) : State := { s with eng := { s.eng with armed := s.eng.armed ||| groups } }

/-- The rows of a node's SCHED slot (09 Table 8). -/
def State.slotLen (s : State) : Nat := s.get F.RING_DOMCFG_SLOTLEN + 1

/-- RSST writes lanes of a row of the staged slot (R172). -/
def State.fxRsst (s : State) (vs row k : Nat) : State :=
  if row < s.slotLen then
    { s with eng := { s.eng with slot := (s.selected k).foldl (fun m n => spPut 0 m (64 * row + n) (s.vLane vs n)) s.eng.slot } }
  else s

/-- FLGK copies a lane flag into a mask (R166, R167). -/
def State.fxFlgk (s : State) (kd f ka : Nat) : State := s.push (wb 1 [.mask kd (s.kReg ka) (s.laneFlag f)])

/-! ### Meanings -/

/-- MNOP (R147). -/
def execMnop (s : State) : Host.Outcome State Fault Refusal := .next (settle s (s.issueM [] id))
/-- END (R173): the word that ends a block; the Helm reports its completion with BLOCK_COMPLETE. -/
def execEndWord (s : State) : Host.Outcome State Fault Refusal := .next (settle s (s.issueM [] id))
/-- VLD (R156). -/
def execVld (v : Fin 32) (am : Fin 3) (sb : Fin 16) (row : Fin 2048) (k : Fin 8) (s : State) : Host.Outcome State Fault Refusal :=
  let r := s.vdmRow am sb row
  .next (settle s (s.issueM [rowKey r] (·.fxVld v r k)))
/-- VST (R156). -/
def execVst (v : Fin 32) (am : Fin 3) (sb : Fin 16) (row : Fin 2048) (k : Fin 8) (s : State) : Host.Outcome State Fault Refusal :=
  let r := s.vdmRow am sb row
  .next (settle s (s.issueM [rowKey r] (·.fxVst v r k)))
/-- SLD (R156). -/
def execSld (r : Fin 16) (am : Bool) (sb : Fin 16) (off : Fin 16384) (s : State) : Host.Outcome State Fault Refusal :=
  let w := s.sdmWord am sb off
  .next (settle s (s.issueM [wordKey w] (·.fxSld r w)))
/-- SST (R156, R157). -/
def execSst (r : Fin 16) (am : Bool) (sb : Fin 16) (off : Fin 16384) (s : State) : Host.Outcome State Fault Refusal :=
  let w := s.sdmWord am sb off
  .next (settle s (s.issueM [wordKey w] (·.fxSst r w)))
/-- KLD (R156, R157). -/
def execKld (kd : Fin 7) (am : Bool) (sb : Fin 16) (off : Fin 16384) (s : State) : Host.Outcome State Fault Refusal :=
  let w := evenWord (s.sdmWord am sb off)
  .next (settle s (s.issueM [wordKey w, wordKey (w + 1)] (·.fxKld (kd + 1) w)))
/-- KST (R156, R157). -/
def execKst (ks : Fin 8) (am : Bool) (sb : Fin 16) (off : Fin 16384) (s : State) : Host.Outcome State Fault Refusal :=
  let w := evenWord (s.sdmWord am sb off)
  .next (settle s (s.issueM [wordKey w, wordKey (w + 1)] (·.fxKst ks w)))
/-- VLUT (R160); the table has 2^(m + 2) + 1 rows. -/
def execVlut (vd va : Fin 32) (sb : Fin 16) (m : Fin 8) (sgn : Bool) (k : Fin 8) (s : State) : Host.Outcome State Fault Refusal :=
  .next (settle s (s.issueM (s.tableKeys sb (2 ^ (m.val + 2) + 1)) (·.fxVlut vd va sb (m.val + 2) sgn k)))
/-- LUTB (R161, R162). -/
def execLutb (vd va : Fin 32) (sb : Fin 16) (kd : Fin 7) (k : Fin 8) (s : State) : Host.Outcome State Fault Refusal :=
  .next (settle s (s.issueM (s.tableKeys sb 84) (·.fxLutb vd va sb (kd + 1) k)))
/-- VRANK (R158). -/
def execVrank (vd va : Fin 32) (ke : Fin 8) (desc : Bool) (k : Fin 8) (s : State) : Host.Outcome State Fault Refusal :=
  .next (settle s (s.issueM [] (·.fxVrank vd va ke desc k)))
/-- VRSUM (R159). -/
def execVrsum (sd : Fin 16) (va : Fin 32) (k : Fin 8) (s : State) : Host.Outcome State Fault Refusal :=
  .next (settle s (s.issueM [] (·.fxVrsum sd va k)))
/-- VRMAX (R159). -/
def execVrmax (sd : Fin 16) (va : Fin 32) (k : Fin 8) (s : State) : Host.Outcome State Fault Refusal :=
  .next (settle s (s.issueM [] (·.fxVrmax sd va k)))
/-- VRMIN (R159). -/
def execVrmin (sd : Fin 16) (va : Fin 32) (k : Fin 8) (s : State) : Host.Outcome State Fault Refusal :=
  .next (settle s (s.issueM [] (·.fxVrmin sd va k)))
/-- VROT (R159). -/
def execVrot (vd va : Fin 32) (n : Fin 64) (k : Fin 8) (s : State) : Host.Outcome State Fault Refusal :=
  .next (settle s (s.issueM [] (·.fxVrot vd va n k)))
/-- VBCAST (R159). -/
def execVbcast (vd : Fin 32) (src : BcastSrc) (k : Fin 8) (s : State) : Host.Outcome State Fault Refusal :=
  .next (settle s (s.issueM [] (·.fxVbcast vd src k)))
/-- VGATH (R159). -/
def execVgath (vd va vb : Fin 32) (k : Fin 8) (s : State) : Host.Outcome State Fault Refusal :=
  .next (settle s (s.issueM [] (·.fxVgath vd va vb k)))
/-- VEXT (R159). -/
def execVext (sd : Fin 16) (va : Fin 32) (j : Fin 64) (s : State) : Host.Outcome State Fault Refusal :=
  .next (settle s (s.issueM [] (·.fxVext sd va j)))
/-- VINS (R159). -/
def execVins (vd : Fin 32) (sb : Fin 16) (j : Fin 64) (k : Fin 8) (s : State) : Host.Outcome State Fault Refusal :=
  .next (settle s (s.issueM [] (·.fxVins vd sb j k)))

/-- A mask operation writes a whole mask register (Table 14). -/
def State.kop (s : State) (kd : Nat) (v : Word64) : State := s.push (wb 1 [.mask kd (BitVec.allOnes 64) v])

/-- KMOV (R166). -/
def execKmov (kd : Fin 7) (ka : Fin 8) (s : State) : Host.Outcome State Fault Refusal :=
  .next (settle s (s.issueM [] fun s => s.kop (kd + 1) (s.kReg ka)))
/-- KAND (R166). -/
def execKand (kd : Fin 7) (ka kb : Fin 8) (s : State) : Host.Outcome State Fault Refusal :=
  .next (settle s (s.issueM [] fun s => s.kop (kd + 1) (s.kReg ka &&& s.kReg kb)))
/-- KOR (R166). -/
def execKor (kd : Fin 7) (ka kb : Fin 8) (s : State) : Host.Outcome State Fault Refusal :=
  .next (settle s (s.issueM [] fun s => s.kop (kd + 1) (s.kReg ka ||| s.kReg kb)))
/-- KXOR (R166). -/
def execKxor (kd : Fin 7) (ka kb : Fin 8) (s : State) : Host.Outcome State Fault Refusal :=
  .next (settle s (s.issueM [] fun s => s.kop (kd + 1) (s.kReg ka ^^^ s.kReg kb)))
/-- KANDN (R166). -/
def execKandn (kd : Fin 7) (ka kb : Fin 8) (s : State) : Host.Outcome State Fault Refusal :=
  .next (settle s (s.issueM [] fun s => s.kop (kd + 1) (s.kReg ka &&& ~~~ s.kReg kb)))
/-- KNOT (R166). -/
def execKnot (kd : Fin 7) (ka : Fin 8) (s : State) : Host.Outcome State Fault Refusal :=
  .next (settle s (s.issueM [] fun s => s.kop (kd + 1) (~~~ s.kReg ka)))

/-- SMOV (R163). -/
def execSmov (sd sa : Fin 16) (s : State) : Host.Outcome State Fault Refusal :=
  .next (settle s (s.issueM [] fun s => s.push (wbS 1 sd (s.sReg sa))))
/-- SADD.I (R163). -/
def execSaddI (sd sa sb : Fin 16) (s : State) : Host.Outcome State Fault Refusal :=
  .next (settle s (s.issueM [] fun s => s.push (wbS 1 sd (s.sReg sa + s.sReg sb))))
/-- SSUB.I (R163). -/
def execSsubI (sd sa sb : Fin 16) (s : State) : Host.Outcome State Fault Refusal :=
  .next (settle s (s.issueM [] fun s => s.push (wbS 1 sd (s.sReg sa - s.sReg sb))))
/-- SADD.Q (R163). -/
def execSaddQ (sd sa sb : Fin 16) (s : State) : Host.Outcome State Fault Refusal :=
  .next (settle s (s.issueM [] fun s => s.push (wbScal 1 sd 32 (s.sS sa + s.sS sb))))
/-- SSUB.Q (R163). -/
def execSsubQ (sd sa sb : Fin 16) (s : State) : Host.Outcome State Fault Refusal :=
  .next (settle s (s.issueM [] fun s => s.push (wbScal 1 sd 32 (s.sS sa - s.sS sb))))
/-- SMUL.I (R163). -/
def execSmulI (sd sa sb : Fin 16) (s : State) : Host.Outcome State Fault Refusal :=
  .next (settle s (s.issueM [] fun s => s.push (wbS 2 sd (s.sReg sa * s.sReg sb))))
/-- SMUL.Q (R163). -/
def execSmulQ (sd sa sb : Fin 16) (s : State) : Host.Outcome State Fault Refusal :=
  .next (settle s (s.issueM [] fun s => s.push (wbScal 2 sd 32 (roundShift (s.sS sa * s.sS sb) 31))))
/-- SAND (R163). -/
def execSand (sd sa sb : Fin 16) (s : State) : Host.Outcome State Fault Refusal :=
  .next (settle s (s.issueM [] fun s => s.push (wbS 1 sd (s.sReg sa &&& s.sReg sb))))
/-- SOR (R163). -/
def execSor (sd sa sb : Fin 16) (s : State) : Host.Outcome State Fault Refusal :=
  .next (settle s (s.issueM [] fun s => s.push (wbS 1 sd (s.sReg sa ||| s.sReg sb))))
/-- SXOR (R163). -/
def execSxor (sd sa sb : Fin 16) (s : State) : Host.Outcome State Fault Refusal :=
  .next (settle s (s.issueM [] fun s => s.push (wbS 1 sd (s.sReg sa ^^^ s.sReg sb))))
/-- SSHL (R163). -/
def execSshl (sd sa : Fin 16) (n : Fin 32) (s : State) : Host.Outcome State Fault Refusal :=
  .next (settle s (s.issueM [] fun s => s.push (wbS 1 sd (s.sReg sa <<< n.val))))
/-- SSHRA (R163). -/
def execSshra (sd sa : Fin 16) (n : Fin 32) (s : State) : Host.Outcome State Fault Refusal :=
  .next (settle s (s.issueM [] fun s => s.push (wbS 1 sd ((s.sReg sa).sshiftRight n.val))))
/-- SSHRL (R163). -/
def execSshrl (sd sa : Fin 16) (n : Fin 32) (s : State) : Host.Outcome State Fault Refusal :=
  .next (settle s (s.issueM [] fun s => s.push (wbS 1 sd (s.sReg sa >>> n.val))))
/-- SMIN (R163). -/
def execSmin (sd sa sb : Fin 16) (s : State) : Host.Outcome State Fault Refusal :=
  .next (settle s (s.issueM [] fun s => s.push (wbS 1 sd (if s.sS sb < s.sS sa then s.sReg sb else s.sReg sa))))
/-- SMAX (R163). -/
def execSmax (sd sa sb : Fin 16) (s : State) : Host.Outcome State Fault Refusal :=
  .next (settle s (s.issueM [] fun s => s.push (wbS 1 sd (if s.sS sa < s.sS sb then s.sReg sb else s.sReg sa))))
/-- SSAT16 (R163). -/
def execSsat16 (sd sa : Fin 16) (s : State) : Host.Outcome State Fault Refusal :=
  .next (settle s (s.issueM [] fun s => s.push (wbScal 1 sd 16 (s.sS sa))))
/-- SLIL (R164). -/
def execSlil (sd : Fin 16) (imm : BitVec 16) (s : State) : Host.Outcome State Fault Refusal :=
  .next (settle s (s.issueM [] fun s => s.push (wbS 1 sd (imm.zeroExtend 32))))
/-- SLIH (R164). -/
def execSlih (sd : Fin 16) (imm : BitVec 16) (s : State) : Host.Outcome State Fault Refusal :=
  .next (settle s (s.issueM [] fun s => s.push (wbS 1 sd (imm ++ ((s.sReg sd).truncate 16 : BitVec 16)))))
/-- SRECIP (R164). -/
def execSrecip (sd sa : Fin 16) (l : Fin 32) (s : State) : Host.Outcome State Fault Refusal :=
  .next (settle s (s.issueM [] (·.fxSrecip sd sa l)))
/-- SGET (R164, R165). -/
def execSget (sd : Fin 16) (src : Fin 8) (s : State) : Host.Outcome State Fault Refusal :=
  .next (settle s (s.issueM [] fun s => s.push (wbS 1 sd (s.eng.sget.getD src 0))))
/-- MWR (R168, R169). -/
def execMwr (p : Fin 16) (tgt : MwrTarget) (fld : Fin 7) (k : Fin 8) (s : State) : Host.Outcome State Fault Refusal :=
  .next (settle s (s.issueM [] (·.fxMwr p tgt fld k)))
/-- LDALL (R171). -/
def execLdall (groups : BitVec 16) (s : State) : Host.Outcome State Fault Refusal :=
  .next (settle s (s.issueM [] (·.fxLdall groups.toNat)))
/-- RSST (R172). -/
def execRsst (vs : Fin 32) (row : Fin 16) (k : Fin 8) (s : State) : Host.Outcome State Fault Refusal :=
  .next (settle s (s.issueM [] (·.fxRsst vs row k)))
/-- FLGCLR (R166): it acts in its issue cycle, before the write-backs of that cycle (R137). -/
def execFlgclr (fmask : Fin 128) (k : Fin 8) (s : State) : Host.Outcome State Fault Refusal :=
  .next (settle s (s.issueM [] fun s => s.flgClr fmask (s.kReg k)))
/-- FLGK (R166, R167). -/
def execFlgk (kd : Fin 7) (f : Fin 5) (ka : Fin 8) (s : State) : Host.Outcome State Fault Refusal :=
  .next (settle s (s.issueM [] (·.fxFlgk (kd + 1) f ka)))

end Sys2Proof.Machine
end

