-- ==== Sys2Proof/Machine/Words.lean ====
section
/-! DEFINITION. Machine/Words.lean: the instruction words of PMEM as the loader judges them (04_engine_instructions.md R145 to
R148, R174): the two slots decoded, or the ground on which a slot is refused, and the write-backs of each instruction. -/
namespace Sys2Proof.Machine

/-- Grounds that judge one word (R174; their codes are those of 16 Table 4): 0x10 reserved value or field, 0x11 K0 as
destination, 0x12 register pair. -/
abbrev Slot := Except Nat Instr

def gRes : Nat := 0x10
def gK0 : Nat := 0x11
def gPair : Nat := 0x12

/-- The instruction, where the reserved bits and values are right, the destination mask is not K0, and the registers allow it. -/
def judged (ok k0 pair : Bool) (i : Instr) : Slot :=
  if !ok then .error gRes else if k0 then .error gK0 else if pair then .error gPair else .ok i

def f2 (x : Nat) : Fin 4 := Fin.ofNat 4 x
def f3 (x : Nat) : Fin 8 := Fin.ofNat 8 x
def f4 (x : Nat) : Fin 16 := Fin.ofNat 16 x
def f5 (x : Nat) : Fin 32 := Fin.ofNat 32 x
def f6 (x : Nat) : Fin 64 := Fin.ofNat 64 x
/-- A destination mask K1 to K7 by its number. -/
def fK (x : Nat) : Fin 7 := Fin.ofNat 7 (x - 1)

/-- The V-slot of a word, its bits numbered as Table 1 numbers them. -/
def slotV (w : Nat) : Slot :=
  let d := bitsOf w 21 5
  let a := bitsOf w 16 5
  let b := bitsOf w 11 5
  let k := f3 (bitsOf w 8 3)
  let x := bitsOf w 4 4
  let i := bitsOf w 0 4
  let acc := bitsOf w 23 3 == 0
  match bitsOf w 26 6 with
  | 0 => judged (w % 2 ^ 26 == 0) false false .vnop
  | 1 => .ok (.vadd (f5 d) (f5 a) (f5 b) k)
  | 2 => .ok (.vsub (f5 d) (f5 a) (f5 b) k)
  | 3 => .ok (.vneg (f5 d) (f5 a) k)
  | 4 => .ok (.vabs (f5 d) (f5 a) k)
  | 5 => .ok (.vmul (f5 d) (f5 a) (f5 b) k)
  | 6 => .ok (.vmuls (f5 d) (f5 a) (f4 x) k)
  | 7 => .ok (.vmax (f5 d) (f5 a) (f5 b) k)
  | 8 => .ok (.vmin (f5 d) (f5 a) (f5 b) k)
  | 9 => .ok (.vand (f5 d) (f5 a) (f5 b) k)
  | 10 => .ok (.vor (f5 d) (f5 a) (f5 b) k)
  | 11 => .ok (.vxor (f5 d) (f5 a) (f5 b) k)
  | 12 => .ok (.vshl (f5 d) (f5 a) (f4 i) k)
  | 13 => .ok (.vshr (f5 d) (f5 a) (f4 i) k)
  | 14 => .ok (.vmov (f5 d) (f5 a) k)
  | 15 => judged (i < 8) false false (.vsel (f5 d) (f5 a) (f5 b) (f3 i) k)
  | 16 => judged (bitsOf w 24 2 == 0 && i % 8 < 6) (bitsOf w 21 3 == 0) false
      (.vcmp (fK (bitsOf w 21 3)) (Fin.ofNat 6 (i % 8)) (8 ≤ i) (f5 a) (f5 b) (f4 x) k)
  | 17 => judged (bitsOf w 19 2 == 0) false false (.vsplat (f5 d) (BitVec.ofNat 16 w) (f3 (bitsOf w 16 3)))
  | 18 => judged acc false false (.vmpy (f2 d) (f5 a) (f5 b) k)
  | 19 => judged acc false false (.vmac (f2 d) (f5 a) (f5 b) k)
  | 20 => judged acc false false (.vmsb (f2 d) (f5 a) (f5 b) k)
  | 21 => judged acc false false (.vmacs (f2 d) (f5 a) (f4 x) k)
  | 22 => judged acc false false (.vacc (f2 d) (f5 a) k)
  | 23 => judged acc false false (.vaz (f2 d) k)
  | 24 => judged (a < 4 && i ≤ 9) false false (.vawb (f5 d) (f2 a) (Fin.ofNat 10 i) k)
  | 25 => judged (a < 4) false (29 < d) (.ast (Fin.ofNat 30 d) (f2 a) k)
  | 26 => judged acc false (29 < a) (.ald (f2 d) (Fin.ofNat 30 a) k)
  | 27 => judged (i ≤ 1) false (d % 2 == 1) (.vetm (f4 (d / 2)) (f5 a) (f4 x) (i == 1) k)
  | 28 => .ok (.vrecip (f5 d) (f5 a) (f4 i) k)
  | 29 => judged (i == 0) false false (.vsqrt (f5 d) (f5 a) k)
  | 30 => judged (i == 0) false (d % 2 == 1) (.vsincos (f4 (d / 2)) (f5 a) (f4 x) k)
  | _ => .error gRes

/-- SALU by its FN (Table 12). -/
def slotSalu (fn : Nat) (d a b : Fin 16) (imm : Nat) : Slot :=
  let plain (i : Instr) : Slot := judged (imm == 0) false false i
  let one (i : Instr) : Slot := judged (imm == 0 && b == 0) false false i
  let shift (i : Instr) : Slot := judged (imm < 32 && b == 0) false false i
  match fn with
  | 0 => one (.smov d a)
  | 1 => plain (.saddI d a b)
  | 2 => plain (.ssubI d a b)
  | 3 => plain (.saddQ d a b)
  | 4 => plain (.ssubQ d a b)
  | 5 => plain (.smulI d a b)
  | 6 => plain (.smulQ d a b)
  | 7 => plain (.sand d a b)
  | 8 => plain (.sor d a b)
  | 9 => plain (.sxor d a b)
  | 10 => shift (.sshl d a (f5 imm))
  | 11 => shift (.sshra d a (f5 imm))
  | 12 => shift (.sshrl d a (f5 imm))
  | 13 => plain (.smin d a b)
  | 14 => plain (.smax d a b)
  | 15 => one (.ssat16 d a)
  | _ => .error gRes

/-- KOP by its SUB (Table 14). -/
def slotKop (sub kd ka kb : Nat) : Slot :=
  let two (i : Instr) : Slot := judged true (kd == 0) false i
  let one (i : Instr) : Slot := judged (kb == 0) (kd == 0) false i
  match sub with
  | 0 => one (.kmov (fK kd) (f3 ka))
  | 1 => two (.kand (fK kd) (f3 ka) (f3 kb))
  | 2 => two (.kor (fK kd) (f3 ka) (f3 kb))
  | 3 => two (.kxor (fK kd) (f3 ka) (f3 kb))
  | 4 => two (.kandn (fK kd) (f3 ka) (f3 kb))
  | 5 => one (.knot (fK kd) (f3 ka))
  | _ => .error gRes

/-- The target of an MWR (Table 17). -/
def mwrTarget (tgt ch : Nat) : Option MwrTarget :=
  match tgt with
  | 0 => some (.cell (f3 ch))
  | 1 => if ch = 0 then some .localPair else none
  | 2 => if ch = 0 then some .aux else none
  | _ => none

/-- The M-slot of a word, its bits numbered as Table 2 numbers them. -/
def slotM (w : Nat) : Slot :=
  let d := bitsOf w 21 5
  let d4 := f4 (bitsOf w 22 4)
  let a := bitsOf w 16 5
  let b := bitsOf w 11 5
  let k := f3 (bitsOf w 8 3)
  let km := f3 (bitsOf w 18 3)
  let sb := f4 (bitsOf w 18 4)
  let i := bitsOf w 2 6
  let sub := bitsOf w 0 2
  let x := bitsOf w 0 16
  let am := bitsOf w 17 1 == 1
  let off : Fin 16384 := Fin.ofNat 16384 w
  let row : Fin 2048 := Fin.ofNat 2048 w
  let mv := bitsOf w 11 1 == 0 && bitsOf w 16 2 != 3
  let ms := bitsOf w 14 3 == 0
  let mc := bitsOf w 16 2 == 0
  let mi := bitsOf w 16 6 == 0
  let kd := bitsOf w 22 3
  match bitsOf w 26 6 with
  | 0 => judged (w % 2 ^ 26 == 0) false false .mnop
  | 1 => judged (w % 2 ^ 26 == 0) false false .endWord
  | 2 => judged mv false false (.vld (f5 d) (Fin.ofNat 3 (bitsOf w 16 2)) (f4 (bitsOf w 12 4)) row km)
  | 3 => judged mv false false (.vst (f5 d) (Fin.ofNat 3 (bitsOf w 16 2)) (f4 (bitsOf w 12 4)) row km)
  | 4 => judged ms false false (.sld d4 am sb off)
  | 5 => judged ms false false (.sst d4 am sb off)
  | 6 => judged (ms && bitsOf w 25 1 == 0) (kd == 0) false (.kld (fK kd) am sb off)
  | 7 => judged (ms && bitsOf w 25 1 == 0) false false (.kst (f3 kd) am sb off)
  | 8 => judged (bitsOf w 15 1 == 0 && i < 8 && sub < 2) false false (.vlut (f5 d) (f5 a) (f4 b) (f3 i) (sub == 1) k)
  | 9 => judged (bitsOf w 15 1 == 0 && i < 8 && sub == 0) (i == 0) false (.lutb (f5 d) (f5 a) (f4 b) (fK i) k)
  | 10 => judged (i < 8 && sub < 2) false false (.vrank (f5 d) (f5 a) (f3 i) (sub == 1) k)
  | 11 => judged (d < 16) false false (.vrsum (f4 d) (f5 a) k)
  | 12 => judged (d < 16) false false (.vrmax (f4 d) (f5 a) k)
  | 13 => judged (d < 16) false false (.vrmin (f4 d) (f5 a) k)
  | 14 => .ok (.vrot (f5 d) (f5 a) (f6 i) k)
  | 15 => if sub = 0 then judged (b < 16) false false (.vbcast (f5 d) (.scalar (f4 b)) k)
          else judged (sub == 1) false false (.vbcast (f5 d) (.lane (f5 a) (f6 i)) k)
  | 16 => .ok (.vgath (f5 d) (f5 a) (f5 b) k)
  | 17 => judged (d < 16 && k == 0) false false (.vext (f4 d) (f5 a) (f6 i))
  | 18 => judged (b < 16) false false (.vins (f5 d) (f4 b) (f6 i) k)
  | 19 => if bitsOf w 24 2 = 0 ∧ bitsOf w 3 12 = 0 then slotKop (bitsOf w 0 3) (bitsOf w 21 3) (bitsOf w 18 3) (bitsOf w 15 3)
          else .error gRes
  | 20 => slotSalu (bitsOf w 8 6) d4 sb (f4 (bitsOf w 14 4)) (bitsOf w 0 8)
  | 21 => judged mi false false (.slil d4 (BitVec.ofNat 16 w))
  | 22 => judged mi false false (.slih d4 (BitVec.ofNat 16 w))
  | 23 => judged (bitsOf w 14 4 == 0 && bitsOf w 8 6 == 0 && bitsOf w 5 3 == 0) false false (.srecip d4 sb (f5 w))
  | 24 =>
    match mwrTarget (bitsOf w 16 2) (bitsOf w 13 3) with
    | some t => judged (bitsOf w 0 9 == 0 && bitsOf w 9 4 < 7) false (d % 2 == 1) (.mwr (f4 (d / 2)) t (Fin.ofNat 7 (bitsOf w 9 4)) km)
    | none => .error gRes
  | 25 => judged (mc && d == 0 && km == 0) false false (.ldall (BitVec.ofNat 16 w))
  | 26 => judged (mc && x < 16) false false (.rsst (f5 d) (f4 x) km)
  | 27 => judged (mc && d == 0 && x < 128) false false (.flgclr (Fin.ofNat 128 x) km)
  | 28 => judged (bitsOf w 24 2 == 0 && bitsOf w 3 12 == 0 && bitsOf w 15 3 == 0 && bitsOf w 0 3 < 5) (bitsOf w 21 3 == 0) false
      (.flgk (fK (bitsOf w 21 3)) (Fin.ofNat 5 (bitsOf w 0 3)) km)
  | 29 => judged (mi && x < 8) false false (.sget d4 (f3 x))
  | _ => .error gRes

/-- Both slots of a word, or the first ground of the loader against it: reserved values before K0 before register pairs. -/
def wordOf (w : Nat) : Except Nat (Instr × Instr) :=
  match slotV (w / 2 ^ 32 % 2 ^ 32), slotM (w % 2 ^ 32) with
  | .ok v, .ok m => .ok (v, m)
  | .error g, .ok _ => .error g
  | .ok _, .error g => .error g
  | .error g, .error h => .error (min g h)

/-! ### Write-backs (R148; Tables 4 to 14) -/

/-- Registers by number: V r is r, A r 32 + r, K r 64 + r, S r 128 + r. -/
def regA (r : Nat) : Nat := 32 + r
def regK (r : Nat) : Nat := 64 + r
def regS (r : Nat) : Nat := 128 + r

/-- The latency of an instruction and the registers it writes back. -/
def writesOf : Instr → Nat × List Nat
  | .vadd d _ _ _ => (2, [d]) | .vsub d _ _ _ => (2, [d]) | .vneg d _ _ => (2, [d]) | .vabs d _ _ => (2, [d])
  | .vmax d _ _ _ => (2, [d]) | .vmin d _ _ _ => (2, [d]) | .vmul d _ _ _ => (3, [d]) | .vmuls d _ _ _ => (3, [d])
  | .vmov d _ _ => (1, [d]) | .vsplat d _ _ => (1, [d])
  | .vmpy d _ _ _ => (3, [regA d]) | .vmac d _ _ _ => (3, [regA d]) | .vmsb d _ _ _ => (3, [regA d])
  | .vmacs d _ _ _ => (3, [regA d]) | .vacc d _ _ => (3, [regA d]) | .vaz d _ => (1, [regA d])
  | .vawb d _ _ _ => (3, [d]) | .ast d _ _ => (2, [d, d + 1, d + 2]) | .ald d _ _ => (2, [regA d])
  | .vcmp kd _ _ _ _ _ _ => (2, [regK (kd + 1)]) | .vsel d _ _ _ _ => (1, [d])
  | .vand d _ _ _ => (1, [d]) | .vor d _ _ _ => (1, [d]) | .vxor d _ _ _ => (1, [d])
  | .vshl d _ _ _ => (2, [d]) | .vshr d _ _ _ => (2, [d])
  | .vetm p _ _ _ _ => (4, [2 * p, 2 * p + 1]) | .vrecip d _ _ _ => (6, [d]) | .vsqrt d _ _ => (6, [d])
  | .vsincos p _ _ _ => (5, [2 * p, 2 * p + 1])
  | .vld d _ _ _ _ => (4, [d]) | .sld r _ _ _ => (3, [regS r]) | .kld kd _ _ _ => (3, [regK (kd + 1)])
  | .vlut d _ _ _ _ _ => (6, [d]) | .lutb d _ _ kd _ => (7, [d, regK (kd + 1)]) | .vrank d _ _ _ _ => (8, [d])
  | .vrsum r _ _ => (6, [regS r]) | .vrmax r _ _ => (6, [regS r]) | .vrmin r _ _ => (6, [regS r])
  | .vrot d _ _ _ => (3, [d]) | .vbcast d _ _ => (3, [d]) | .vgath d _ _ _ => (3, [d])
  | .vext r _ _ => (2, [regS r]) | .vins d _ _ _ => (2, [d])
  | .kmov kd _ => (1, [regK (kd + 1)]) | .kand kd _ _ => (1, [regK (kd + 1)]) | .kor kd _ _ => (1, [regK (kd + 1)])
  | .kxor kd _ _ => (1, [regK (kd + 1)]) | .kandn kd _ _ => (1, [regK (kd + 1)]) | .knot kd _ => (1, [regK (kd + 1)])
  | .flgk kd _ _ => (1, [regK (kd + 1)])
  | .smulI r _ _ => (2, [regS r]) | .smulQ r _ _ => (2, [regS r])
  | .smov r _ => (1, [regS r]) | .saddI r _ _ => (1, [regS r]) | .ssubI r _ _ => (1, [regS r]) | .saddQ r _ _ => (1, [regS r])
  | .ssubQ r _ _ => (1, [regS r]) | .sand r _ _ => (1, [regS r]) | .sor r _ _ => (1, [regS r]) | .sxor r _ _ => (1, [regS r])
  | .sshl r _ _ => (1, [regS r]) | .sshra r _ _ => (1, [regS r]) | .sshrl r _ _ => (1, [regS r]) | .smin r _ _ => (1, [regS r])
  | .smax r _ _ => (1, [regS r]) | .ssat16 r _ => (1, [regS r]) | .slil r _ => (1, [regS r]) | .slih r _ => (1, [regS r])
  | .srecip r _ _ => (6, [regS r]) | .sget r _ => (1, [regS r])
  | _ => (1, [])

/-- The write-backs of a word issued in cycle `c`, as (cycle, register). -/
def wordWrites (c : Nat) (p : Instr × Instr) : List (Nat × Nat) :=
  let f (i : Instr) : List (Nat × Nat) := (writesOf i).2.map fun r => (c + (writesOf i).1 - 1, r)
  f p.1 ++ f p.2

end Sys2Proof.Machine
end

