-- ==== Sys2Proof/Machine/Programs.lean ====
section
/-! DEFINITION. Machine/Programs.lean: program and Almanac banks, the loader's checks, the budget, bank swaps and mode requests
(03_engine_architecture.md R105, R113 to R121; 04 R174; 05_engine_programs.md R175 to R191, R208 to R213). -/
namespace Sys2Proof.Machine

/-! ### Banks -/

def State.pBank (s : State) : Nat := s.get F.ENG_STAT_PBANK
def State.aBank (s : State) : Nat := s.get F.ENG_STAT_ABANK

/-- Word `w` of PMEM bank `b`. -/
def State.pword (s : State) (b w : Nat) : Nat := s.load (pmemAddr b w) 8
/-- Row `r` of ALM bank `b`. -/
def State.arow (s : State) (b r : Nat) : Nat := s.load (almAddr b r) 16
/-- ALMLEN of ALM bank `b`. -/
def State.almLen (s : State) (b : Nat) : Nat := if b = 0 then s.get F.ENG_ALMLEN_LEN0 else s.get F.ENG_ALMLEN_LEN1

/-! ### The block directory (R175 to R177) -/

/-- Entry `e` of the directory of PMEM bank `b`. -/
def State.dirRaw (s : State) (b e : Nat) : Nat := s.pword b (e / 4) / 2 ^ (16 * (e % 4)) % 2 ^ 16

/-- The entry word of logical block `l` in mode `m`, where the entry has V = 1. -/
def State.dirEntry (s : State) (b m l : Nat) : Option Nat :=
  let e := s.dirRaw b (64 * m + l)
  if e.testBit 15 then some (e % 2 ^ 13) else none

/-- Whether the loader refuses a directory entry (R176). -/
def badEntry (e : Nat) : Bool := bitsOf e 13 2 != 0 || (e.testBit 15 && e % 2 ^ 13 < 0x80)

/-! ### Blocks (R113) -/

/-- A block as the loader sees it: words, static cycle count, MWR instructions. -/
structure BlkInfo where
  words : Nat
  cyc : Nat
  mwr : Nat
  deriving DecidableEq, Repr

/-- The instructions of a word; no-operations where it does not decode. -/
def wordOrNop (w : Nat) : Instr × Instr := match wordOf w with | .ok p => p | .error _ => (.vnop, .mnop)

def isMwr (i : Instr) : Bool := match i with | .mwr .. => true | _ => false

/-- The block from word `i` on, issued from cycle `c` on, with the write-backs under way, the last write-back and the MWR count so
far; or the ground against it (0x13, 0x14) with the offending word (R112, R113, R174). -/
def State.scanBlock (s : State) (b entry : Nat) : Nat → Nat → Nat → List (Nat × Nat) → Nat → Nat → Except (Nat × Nat) BlkInfo
  | 0, _, _, _, _, _ => .error (0x14, entry)
  | fuel + 1, i, c, pend, last, mwr =>
    if 8192 ≤ i then .error (0x14, entry)
    else
      let p := wordOrNop (s.pword b i)
      let ws := wordWrites c p
      let pend := pend.filter fun e => c ≤ e.1
      let clash := ws.any pend.contains || !(ws.Pairwise (· ≠ ·))
      let top := (((writesOf p.1).1.max (writesOf p.2).1) + c - 1).max last
      let mwr := mwr + b2n (isMwr p.2)
      if clash then .error (0x13, i)
      else if p.2 = .endWord then .ok { words := c + 1, cyc := c + 1 + (top - c), mwr }
      else s.scanBlock b entry fuel (i + 1) (c + 1) (pend ++ ws) top mwr

/-- The block at an entry word. -/
def State.block (s : State) (b entry : Nat) : Except (Nat × Nat) BlkInfo := s.scanBlock b entry 8192 entry 0 [] 0 0

/-- The static cycle count and the MWR count of a block. -/
def State.blockCost (s : State) (b entry : Nat) : Nat × Nat :=
  match s.block b entry with | .ok x => (x.cyc, x.mwr) | .error _ => (0, 0)

/-! ### Almanac rows (R178 to R183) -/

/-- A used block slot: logical block, DIV, PH. -/
structure RowSlot where
  blk : Nat
  div : Nat
  ph : Nat
  deriving DecidableEq, Repr

def rowSlot (row i : Nat) : RowSlot := { blk := bitsOf row (18 * i + 12) 6, div := bitsOf row (18 * i + 6) 6 + 1, ph := bitsOf row (18 * i) 6 }
/-- The used slots of a row, in slot order. -/
def rowSlots (row : Nat) : List RowSlot := ((List.range 5).map (rowSlot row)).filter fun x => x.blk != 63
def rowFix (row : Nat) : Bool := row.testBit 117
def rowSends (row : Nat) : Bool := row.testBit 116
def rowLogarm (row : Nat) : Nat := bitsOf row 118 4
/-- A conversion start of a row: EN, list, offset in 100 ns. -/
def rowStart (row : Nat) (second : Bool) : Bool × Nat × Nat :=
  let lo := if second then 103 else 90
  (row.testBit (lo + 12), bitsOf row (lo + 8) 4, bitsOf row lo 8)

/-- Whether R183 refuses a row by its fields. -/
def badRow (row : Nat) : Bool :=
  bitsOf row 122 6 != 0 || (rowSlots row).any (fun x => x.div ≤ x.ph)
    || ((rowStart row false).1 && (rowStart row true).1 && (rowStart row false).2.1 == (rowStart row true).2.1)

/-- The periods in which row `r` runs that the loader looks at; none where it counts every block as running (R120). -/
def rowPeriods (r almlen : Nat) (slots : List RowSlot) : Option (List Nat) :=
  let m := slots.foldl (fun a x => Nat.lcm a x.div) almlen
  if 65536 < m then none else some ((List.range (m / almlen)).map fun j => r + almlen * j)

/-- The largest sum of `f` over the blocks that row `r` runs in one period (R120, R115). -/
def rowMax (r almlen : Nat) (slots : List (RowSlot × Nat)) : Nat :=
  let sum (run : RowSlot → Bool) : Nat := slots.foldl (fun n x => if run x.1 then n + x.2 else n) 0
  match rowPeriods r almlen (slots.map (·.1)) with
  | none => sum fun _ => true
  | some ps => ps.foldl (fun n p => max n (sum fun x => p % x.div == x.ph)) 0

/-- The used slots of a row whose block is named in mode `m`, with its entry word. -/
def State.namedSlots (s : State) (b m row : Nat) : List (RowSlot × Nat) :=
  (rowSlots row).filterMap fun x => (s.dirEntry b m x.blk).map fun e => (x, e)

/-- The blocks a row costs in mode `m`: the largest C_row and the largest MWR count, the entry block among them (R120, R115, R189). -/
def State.rowCost (s : State) (b m r almlen row : Nat) : Nat × Nat :=
  let slots := (s.namedSlots b m row).map fun x => (x.1, s.blockCost b x.2)
  let e := match s.dirEntry b m 63 with | some w => s.blockCost b w | none => (0, 0)
  let ec := if (s.dirEntry b m 63).isSome then e.1 + 2 else 0
  (rowMax r almlen (slots.map fun x => (x.1, x.2.1 + 2)) + ec, rowMax r almlen (slots.map fun x => (x.1, x.2.2)) + e.2)

/-- The defined modes. -/
def State.modes (s : State) : List Nat := (List.range 8).filter s.modeDefined

/-- Whether any block of a row can run in mode `m` (R119: with L = 0 only such rows fail). -/
def State.rowOver (s : State) (b m r almlen row : Nat) : Bool := s.regN R.ENG_LIMIT < (s.rowCost b m r almlen row).1

/-- The ground against the budget or MWR limit of a row, over the defined modes (R120, R115, R189). -/
def State.rowGround (s : State) (b r almlen row : Nat) : Option Nat :=
  if s.modes.any fun m => s.rowOver b m r almlen row then some 0x16
  else if s.modes.any fun m => 512 < (s.rowCost b m r almlen row).2 then some 0x15 else none

/-- The first row of an Almanac bank that the loader refuses, judged with PMEM bank `b` (R183). -/
def State.checkAlm (s : State) (a b almlen : Nat) : Option (Nat × Nat) :=
  (List.range almlen).findSome? fun r =>
    let row := s.arow a r
    if badRow row then some (0x18, r) else (s.rowGround b r almlen row).map fun g => (g, r)

/-- The first ground against the budget of the pair of banks. -/
def State.checkBudget (s : State) (a b : Nat) : Option Nat :=
  (List.range (s.almLen a)).findSome? fun r => s.rowGround b r (s.almLen a) (s.arow a r)

/-- The first ground against a program bank: directory entries, single words, blocks, then the budget and MWR limit with Almanac
bank `a` (R174 to R176); with the offending word. -/
def State.checkProg (s : State) (b a : Nat) : Option (Nat × Nat) :=
  let dir := (List.range 512).findSome? fun e => if badEntry (s.dirRaw b e) then some (0x17, e / 4) else none
  let words := (List.range 8064).findSome? fun i =>
    match wordOf (s.pword b (i + 128)) with | .error g => some (g, i + 128) | .ok _ => none
  let blocks := (List.range 512).findSome? fun e =>
    let x := s.dirRaw b e
    if x.testBit 15 then (match s.block b (x % 2 ^ 13) with | .error g => some g | .ok _ => none) else none
  dir.or (words.or (blocks.or ((s.checkBudget a b).map fun g => (g, 0))))

/-- The Almanac bank that LOAD_PROGRAM judges with, and the PMEM bank that LOAD_ALMANAC judges with (R183). -/
def State.judgeAlm (s : State) : Nat := if s.on F.ALM_SWAP_VERA then 1 - s.aBank else s.aBank
def State.judgeProg (s : State) : Nat := if s.on F.ALM_SWAP_VERP then 1 - s.pBank else s.pBank

/-- Verify the inactive PMEM bank and mark it (R208). -/
def State.verifyProg (s : State) : Option (Nat × Nat) × State :=
  let g := s.checkProg (1 - s.pBank) s.judgeAlm
  (g, s.setB F.ALM_SWAP_VERP g.isNone)
/-- Verify the inactive ALM bank and mark it. -/
def State.verifyAlm (s : State) : Option (Nat × Nat) × State :=
  let g := s.checkAlm (1 - s.aBank) s.judgeProg (s.almLen (1 - s.aBank))
  (g, s.setB F.ALM_SWAP_VERA g.isNone)

/-! ### The budget (R119, R121) -/

/-- B and L from D_MIN and ENG_TIMING (R119). -/
def State.budget (s : State) : Nat × Nat :=
  let b := (s.regN R.SEXT_DMIN - 16 * s.get F.ENG_TIMING_T_START - 16 * s.get F.ENG_TIMING_T_LEAD) / 8
  (b, b - (b + 1999) / 2000 - 2)

/-- ENG_BUDGET and ENG_LIMIT follow; when the limit changes, the active Almanac bank is checked again, which a bank the loader
never accepted cannot pass (R119, R121; 15 R566). -/
def State.setBudget (s : State) : State :=
  let (b, l) := s.budget
  let old := s.regN R.ENG_LIMIT
  let s := (s.setRegN R.ENG_BUDGET b).setRegN R.ENG_LIMIT l
  if old = l || !s.eng.actVer.testBit 1 then s
  else if (s.checkBudget s.aBank s.pBank).isNone then { s with eng := { s.eng with budOk := true } }
  else ({ s with eng := { s.eng with budOk := false } }).faultNew F.ENG_STAT_BUDREJ Q.ENG_BUDREJ (hw 0)

/-! ### Writes of the banks (R105, R208) -/

def isPmem (a : Nat) : Bool := 0x110C0000 ≤ a && a < 0x110E0000
def isAlmMem (a : Nat) : Bool := 0x110E0000 ≤ a && a < 0x110E8000

/-- A word written to a PMEM or ALM bank: ignored with ACTWR on the active bank; else it clears the verified mark. -/
def State.writeBank (s : State) (m : Master) (a : Nat) (v : Word) : State :=
  let actwr := s.faultNew F.ENG_STAT_ACTWR Q.ENG_ACTWR (wr m a)
  if isPmem a then
    if (a - 0x110C0000) / 0x10000 = s.pBank then actwr else (s.store (a / 4 * 4) 4 v.toNat).set F.ALM_SWAP_VERP 0
  else if (a - 0x110E0000) / 0x4000 = s.aBank then actwr else (s.store (a / 4 * 4) 4 v.toNat).set F.ALM_SWAP_VERA 0

/-! ### Swaps (R209 to R213) -/

/-- The banks that would be active after a swap of `sel`. -/
def State.afterSwap (s : State) (sel : Nat) : Nat × Nat :=
  (if sel.testBit 1 then 1 - s.aBank else s.aBank, if sel.testBit 0 then 1 - s.pBank else s.pBank)

/-- The reason against a swap (R209); a target is not judged while the Helm is stopped (R213). -/
def State.swapBad (s : State) (atp : Bool) (sel p : Nat) : Option Nat :=
  let unver := (sel.testBit 0 && !s.on F.ALM_SWAP_VERP) || (sel.testBit 1 && !s.on F.ALM_SWAP_VERA)
  let es := s.get F.ENG_STAT_ESTATE
  let least := if es = 4 then s.pcnt + 2 else s.pcnt + 1
  if s.on F.ALM_SWAP_PEND then some 0x01
  else if unver then some 0x19
  else match s.checkBudget (s.afterSwap sel).1 (s.afterSwap sel).2 with
    | some g => some g
    | none => if atp && es != 0 && p < least then some 0x1A else none

/-- A swap is accepted (R209); with the Helm stopped it takes effect at once (R213). -/
def State.acceptSwap (s : State) (atp : Bool) (sel p : Nat) (owner : Option CmdKey) : State :=
  let s := ((s.set F.ALM_SWAP_PEND 1).setB F.ALM_SWAP_ATP atp).set F.ALM_SWAP_SEL sel
  let s := if atp then s.setReg64 R.ALM_SWAPP_LO p else s
  let s := { s with eng := { s.eng with swapOwner := owner, swapRipe := false } }
  if s.get F.ENG_STAT_ESTATE = 0 then s.exchangeBanks else s

/-- A deadline follows the acceptance of a pending swap (R210). -/
def State.ripenSwap (s : State) : State := { s with eng := { s.eng with swapRipe := s.on F.ALM_SWAP_PEND } }

/-- At a boundary a pending swap takes effect (R210): target NEXT after a deadline, target P when p becomes P. -/
def State.swapDue (s : State) : Bool :=
  s.on F.ALM_SWAP_PEND && (if s.on F.ALM_SWAP_ATP then s.reg64 R.ALM_SWAPP_LO == s.pcnt else s.eng.swapRipe)

def State.boundarySwap (s : State) : State := if s.swapDue then s.exchangeBanks else s

/-! ### Modes (R184 to R191) -/

/-- A host request for a mode; it replaces a pending one, which is answered SUPERSEDED (R185). -/
def State.requestMode (s : State) (m : Nat) (owner : Option CmdKey) : State :=
  let old := if s.on F.ALM_MODE_PEND then s.eng.modeOwner else none
  let s := (s.set F.ALM_MODE_NEXT m).set F.ALM_MODE_PEND 1
  ({ s with eng := { s.eng with modeOwner := owner } }).failedOpt old 0x0B

/-- The program's request: its mode, where REQ is 1 (R185). -/
def State.progMode (s : State) : Option Nat :=
  let w := s.get F.ALM_MREQ_WORD
  if s.on F.ALM_MREQ_EN && (s.sState w).isSome && (s.sdm w).toNat.testBit 31 then some ((s.sdm w).toNat % 8) else none

/-- Step 3 of R185: the host request. -/
def State.takeHostMode (s : State) : State :=
  if s.on F.ALM_MODE_PEND then
    let m := s.get F.ALM_MODE_NEXT
    let k := s.eng.modeOwner
    let s := ({ s with eng := { s.eng with modeOwner := none } }).set F.ALM_MODE_PEND 0
    if !s.modeDefined m then (s.faultNew F.ALM_STAT_MODEREJ Q.ALM_MODEREJ (hw 0)).failedOpt k 0x0C
    else if m = s.get F.ALM_MODE_CUR then { s with eng := { s.eng with modeTaken := k } }
    else { s with eng := { s.eng with modeNext := some m, modeTaken := k } }
  else s

/-- The mode of the next period is chosen at the deadline (R185). -/
def State.chooseMode (s : State) : State :=
  match s.progMode with
  | some m =>
    if m = s.get F.ALM_MODE_CUR then s.takeHostMode
    else if !s.modeDefined m then (s.faultNew F.ALM_STAT_MODEREJ Q.ALM_MODEREJ (hw 0)).takeHostMode
    else
      let k := if s.on F.ALM_MODE_PEND then s.eng.modeOwner else none
      let s := { s with eng := { s.eng with modeNext := some m, modeTaken := none, modeOwner := none } }
      (s.set F.ALM_MODE_PEND 0).failedOpt k 0x0B
  | none => s.takeHostMode

/-- Copy the HOV rows (R187). -/
def State.copyHov (s : State) : State :=
  let src := s.get F.ALM_HOVSRC_BASE
  let dst := s.get F.ALM_HOVDST_BASE
  let rows := (List.range (s.get F.ALM_HOVSRC_NROWS)).map fun i => ((dst + i) % 2048, s.rowLanes ((src + i) % 2048))
  rows.foldl (fun s e => (s.putLanes e.1 (BitVec.allOnes 64) e.2).served (rowKey e.1) .engine) s

/-- A mode change takes effect at a boundary (R187). -/
def State.applyMode (s : State) (m : Nat) : State :=
  let s := ((s.set F.ALM_MODE_PREV (s.get F.ALM_MODE_CUR)).set F.ALM_MODE_CUR m).copyHov
  let s := { s with eng := { s.eng with entryDue := true }, log := { s.log with events := s.log.events ||| 2 } }
  s.count R.ALM_MCNT 1

/-- What the mode chosen at the deadline does at the boundary (R185, R187). -/
def State.boundaryMode (s : State) : State :=
  let k := s.eng.modeTaken
  let next := s.eng.modeNext
  let s := { s with eng := { s.eng with modeNext := none, modeTaken := none } }
  (match next with | some m => s.applyMode m | none => s).doneOpt k []

/-! ### Writes of the ALM block (Table 7) -/

/-- Whether the rows of HOVDST lie outside both pages of the VDM state region and outside the inbox. -/
def State.hovOk (s : State) (base : Nat) : Bool :=
  (List.range (s.get F.ALM_HOVSRC_NROWS)).all fun i =>
    let r := (base + i) % 2048
    !(s.vBase ≤ r && r < s.vBase + 2 * s.vRows) && !(s.get F.ENG_INBOX_BASE ≤ r && r < s.get F.ENG_INBOX_BASE + s.get F.ENG_INBOX_NROWS)

/-- A write in the ALM block. -/
def State.writeALM (s : State) (m : Master) (a : Nat) (v : Word) : State :=
  let rej := s.faultNew F.ALM_STAT_CFGREJ Q.ALM_CFGREJ (wr m a)
  let stopped := s.get F.ENG_STAT_ESTATE == 0
  if isAlmMem a then s.writeBank m a v
  else if a = R.ALM_MODE then s.requestMode (fldOf F.ALM_MODE_NEXT v) none
  else if a = R.ALM_MREQ then
    if stopped && (fldOf F.ALM_MREQ_EN v == 0 || (s.sState (fldOf F.ALM_MREQ_WORD v)).isSome) then s.plainWrite a v else rej
  else if a = R.ALM_HOVSRC then (if stopped then s.plainWrite a v else rej)
  else if a = R.ALM_HOVDST then (if stopped && s.hovOk (fldOf F.ALM_HOVDST_BASE v) then s.plainWrite a v else rej)
  else s.plainWrite a v

end Sys2Proof.Machine
end

