-- ==== Sys2Proof/Machine/RingBase.lean ====
section
/-! DEFINITION. Machine/RingBase.lean: what the device puts on the ring: routes, the order of frames at a port, broken-off
frames, broadcasts and GUAR frames (09_ring_and_twin.md R314 to R321, R330 to R333). -/
namespace Sys2Proof.Machine

def sideNo : Side → Nat
  | .east => 0
  | .west => 1
def otherSide : Side → Side
  | .east => .west
  | .west => .east

/-- Ring classes (Table 2). -/
def rcCTRL : Nat := 0
def rcTIME : Nat := 1
def rcSCHED : Nat := 2
def rcFIX : Nat := 3
def rcGUAR : Nat := 4
def rcBULK : Nat := 5

/-- Whether a frame is a priority frame (R319). -/
def isPrio (f : RingFrame) : Bool := f.cls < 4

/-- The time a frame occupies a port, in CT64: its blocks of 3.2 ns with SOF and EOF, rounded up. -/
def frameDur (f : RingFrame) : Nat := ((f.len + 2) * 256 + 24) / 25

/-- The rank of a waiting GUAR or BULK frame: GUAR first, forwarded before own (R319); 0 is a broken-off frame. -/
def lowRank (f : RingFrame) (own : Bool) : Nat := 1 + 2 * b2n (f.cls == rcBULK) + b2n own

/-- Put a frame behind those of its rank. -/
def insLow (p : Side) (k : Nat) (f : RingFrame) : List (Side × Nat × RingFrame) → List (Side × Nat × RingFrame)
  | [] => [(p, k, f)]
  | e :: r => if k < e.2.1 then (p, k, f) :: e :: r else e :: insLow p k f r

/-- The frame a port is still sending. -/
def State.sending (s : State) (p : Side) : Option (RingFrame × Nat) :=
  match s.ring.cur.find? (·.1 == sideNo p) with
  | some (_, f, t) => if 0 < ctDiff t s.now then some (f, t) else none
  | none => none

def State.setCur (s : State) (p : Side) (f : RingFrame) (t : Nat) : State :=
  { s with ring := { s.ring with cur := spIns s.ring.cur (sideNo p) (f, t) } }

/-- Start sending a frame now or behind the frame under way. -/
def State.putOn (s : State) (p : Side) (f : RingFrame) : State :=
  let from_ := match s.sending p with | some (_, t) => t | none => s.now
  (s.setCur p f (ctAdd from_ (frameDur f))).send (.ring p f)

/-- An idle port starts the first frame that waits for it. -/
def State.pumpPort (s : State) (p : Side) : State :=
  if (s.sending p).isSome then s
  else match s.ring.low.find? (·.1 == p) with
  | some e => ({ s with ring := { s.ring with low := s.ring.low.erase e } }).putOn p e.2.2
  | none => s

/-- Both ports go on with what waits (in every tick). -/
def State.ringPump (s : State) : State := (s.pumpPort .east).pumpPort .west

/-- A priority frame breaks off a GUAR or BULK frame under way, which is sent again first (R319). -/
def State.breakOff (s : State) (p : Side) : State :=
  match s.sending p with
  | some (f, _) =>
    if isPrio f then s
    else
      let s := { s with ring := { s.ring with low := insLow p 0 f s.ring.low, cur := spDel s.ring.cur (sideNo p) } }
      (s.count R.RING_PREEMPT 1).send (.ringBreak p)
  | none => s

/-- A frame for a port that is UP, forwarded or the node's own (R316, R319). -/
def State.ringEmit (s : State) (p : Side) (own : Bool) (f : RingFrame) : State :=
  if s.ringPort (sideNo p) != 3 then s
  else if isPrio f then (s.breakOff p).putOn p f
  else ({ s with ring := { s.ring with low := insLow p (lowRank f own) f s.ring.low } }).pumpPort p

/-- A frame the node originates; a node with a duplicate ID originates only BEACON and HELLO frames (R323). -/
def State.ringOrig (s : State) (p : Side) (f : RingFrame) : State :=
  if s.ring.quiet && f.cls != rcCTRL then s else s.ringEmit p true f

/-! ### The node table and routes (R321, R322) -/

/-- The valid entry of a node. -/
def State.node (s : State) (id : Nat) : Option NodeEnt :=
  (s.ring.nodes.find? (·.1 == id)).map (·.2)

/-- The ring and the hop count toward a node (R321): fewer hops, a tie to ring E; an unknown node ring E and 511. -/
def State.route (s : State) (id : Nat) : Side × Nat :=
  match s.node id with
  | some e => if e.hopE ≤ e.hopW then (.east, e.hopE) else (.west, e.hopW)
  | none => (.east, 511)

/-- The hop count toward a node on one ring. -/
def State.hopsOn (s : State) (p : Side) (id : Nat) : Nat :=
  match s.node id with
  | some e => if p = .east then e.hopE else e.hopW
  | none => 511

/-- A frame of this node. -/
def State.ownFrame (s : State) (cls dst cspec : Nat) (bc : Bool) (ttl : Nat) (data : List Word64) : RingFrame :=
  { cls, src := s.nodeId, dst, bc, ttl, len := data.length, cspec, data, ok := true }

/-- Send a unicast frame by R321. -/
def State.ringUnicast (s : State) (cls dst cspec : Nat) (data : List Word64) : State :=
  let (p, ttl) := s.route dst
  s.ringOrig p (s.ownFrame cls dst cspec false ttl data)

/-- Send a broadcast on both rings (R320). -/
def State.ringBroadcast (s : State) (cls cspec : Nat) (data : List Word64) : State :=
  let f := s.ownFrame cls 0 cspec true 511 data
  (s.ringOrig .east f).ringOrig .west f

/-! ### GUAR frames (R330 to R333) -/

/-- A data block of two halves. -/
def blk (hi lo : Nat) : Word64 := BitVec.ofNat 64 (hi % 2 ^ 32 * 2 ^ 32 + lo % 2 ^ 32)
def hi32 (w : Word64) : Nat := w.toNat / 2 ^ 32
def lo32 (w : Word64) : Nat := w.toNat % 2 ^ 32

/-- The node of an identity that has a valid entry (R331): the identity's own node, or the other of its pair. -/
def State.idNode (s : State) (dst : Nat) : Option Nat :=
  if (s.node dst).isSome then some dst
  else match s.node (dst + 1) with | some e => if e.pair then some (dst + 1) else none | none => none

/-- Send a GUAR DATA frame on one ring. -/
def State.guarOn (s : State) (p : Side) (m : GMsg) : State :=
  let ttl := match s.idNode m.dst with | some n => s.hopsOn p n | none => 511
  s.ringOrig p (s.ownFrame rcGUAR m.dst 0 false ttl (blk m.seq m.orig :: pack64 m.payload))

/-- Whether a message is the same as another of its flow. -/
def GMsg.is (m : GMsg) (dst seq : Nat) : Bool := m.dst == dst && m.seq == seq

/-- Note the ring that a message went out on. -/
def State.guarUsed (s : State) (dst seq : Nat) (p : Side) : State :=
  { s with ring := { s.ring with gtx := s.ring.gtx.map fun m => if m.is dst seq then { m with last := some p } else m } }

/-- First sending of the messages of a flow that are secured, within its window of 16 (R331, R333). -/
def State.guarKick (s : State) (dst : Nat) : State :=
  let window := if s.active then (s.ring.gtx.filter fun m => m.dst == dst).take 16 else []
  let due := (window.filter fun m => !m.nvmWait && !m.jackWait && m.last.isNone)
  due.foldl (fun s m =>
    let p := match s.idNode dst with | some n => (s.route n).1 | none => .east
    (s.guarOn p m).guarUsed dst m.seq p) s

/-- Answer a GUAR message with an ACK that covers everything before the next expected number (R332). -/
def State.guarAck (s : State) (p : Side) (orig : Nat) (dup : Bool) (seq : Nat) : State :=
  let ttl := match s.idNode orig with | some n => s.hopsOn p n | none => 511
  s.ringOrig p (s.ownFrame rcGUAR orig (2 ^ 14 + b2n dup * 2 ^ 12) false ttl [blk seq (s.identityOf s.nodeId)])

end Sys2Proof.Machine
end

