-- ==== Sys2Proof/Machine/Log.lean ====
section
/-! DEFINITION. Machine/Log.lean: the Log: signals, records, triggers, streaming and ring export
(05_engine_programs.md R196 to R207, R214; 16_host_commands.md R610, R611). -/
namespace Sys2Proof.Machine

def logMem : Nat := 0x18000000
def logIDLE : Nat := 0
def logPRE : Nat := 1
def logPOST : Nat := 2
def logDONE : Nat := 3

def State.logState (s : State) : Nat := s.get F.LOG_STAT_STATE

/-- Bytes of a number, least significant first. -/
def bytesOf (n v : Nat) : List Byte := (List.range n).map fun i => BitVec.ofNat 8 (v / 256 ^ i)
/-- The number that bytes spell, least significant first. -/
def ofBytes (l : List Byte) : Nat := l.foldr (fun b n => b.toNat + 256 * n) 0
/-- Zero bytes up to a multiple of `k`. -/
def padTo (k : Nat) (l : List Byte) : List Byte := l ++ List.replicate ((k - l.length % k) % k) 0

/-! ### Signals and records (R196, R197) -/

/-- The channel that an MWR with TGT, lane and CH writes (04 Table 17). -/
def mwrChan (tgt lane ch : Nat) : Option Nat :=
  match tgt with
  | 0 => if lane < 56 then some (8 * lane + ch) else none
  | 1 => if lane < 8 then some (448 + lane) else none
  | 2 => if lane < 9 then some (464 + lane) else none
  | _ => none

/-- TYPE and SEL of signal `n`. -/
def State.sigType (s : State) (n : Nat) : Nat := s.regN (R.LOG_SIG n) / 2 ^ 30
def State.sigSel (s : State) (n : Nat) : Nat := s.regN (R.LOG_SIG n) % 2 ^ 30

/-- The bytes that a signal takes in a record (Table 4). -/
def State.sigSize (s : State) (n : Nat) : Nat :=
  match s.sigType n with
  | 0 => 0
  | 1 => (2 * (s.sigSel n % 64 + 1) + 3) / 4 * 4
  | _ => 4

/-- The value of a modulation field as the Log sees it; 0 where SEL names no field of a channel. -/
def State.modField (s : State) (sel : Nat) : Nat :=
  match mwrChan (bitsOf sel 24 2) (bitsOf sel 16 6) (bitsOf sel 13 3) with
  | some c => if bitsOf sel 9 4 < 7 then s.shadow c (bitsOf sel 9 4) else 0
  | none => 0

/-- The bytes of a signal (Table 4). -/
def State.sigBytes (s : State) (n : Nat) : List Byte :=
  let sel := s.sigSel n
  match s.sigType n with
  | 0 => []
  | 1 => padTo 4 ((List.range (sel % 64 + 1)).flatMap fun i => bytesOf 2 (s.rowLane (bitsOf sel 16 11) (bitsOf sel 8 6 + i)).toNat)
  | 2 => bytesOf 4 (s.sdm (bitsOf sel 0 14)).toNat
  | _ => bytesOf 4 (s.modField sel)

/-- The captured signals. -/
def State.sigs (s : State) : List Nat := List.range (s.get F.LOG_CFG_NSIG)

/-- The size of a record and the number of slots (R197, R204). -/
def State.recSize (s : State) : Nat := (16 + s.sigs.foldl (fun n i => n + s.sigSize i) 0 + 63) / 64 * 64

/-- LOG_RECSZ follows the configuration. -/
def State.setRecSize (s : State) : State :=
  (s.set F.LOG_RECSZ_SIZE s.recSize).set F.LOG_RECSZ_NSLOT (2097152 / s.recSize)

def State.nslot (s : State) : Nat := 2097152 / s.recSize

/-- The bytes of a record: header (Table 5), signals, padding. -/
def State.recordBytes (s : State) (data : List Byte) (trig : Bool) (fired : Nat) (split : Bool) : List Byte :=
  let w := b2n s.log.abandoned + 2 * b2n trig + 4 * b2n split + 16 * s.get F.ALM_MODE_CUR + 2 ^ 8 * fired + 2 ^ 16 * s.get F.ENG_ROW_ROW
  padTo 64 (bytesOf 8 s.sext.b0 ++ bytesOf 4 s.pcnt ++ bytesOf 4 w ++ data)

/-! ### Triggers (R201, R203) -/

/-- The first element of signal `g` in the captured data, read as signed (R201). -/
def State.firstElem (s : State) (data : List Byte) (g : Nat) : Int :=
  let at_ := (List.range g).foldl (fun n i => n + s.sigSize i) 0
  if s.sigType g = 1 then signedOf 16 (ofBytes ((data.drop at_).take 2)) else signedOf 32 (ofBytes ((data.drop at_).take 4))

/-- Whether the condition of trigger `n` holds in the period. -/
def State.trigHolds (s : State) (data : List Byte) (n : Nat) : Bool :=
  let sel := s.get (F.LOG_TRIG_SEL n)
  let thr := (s.reg (R.LOG_THR n)).toInt
  let x := s.firstElem data (s.get (F.LOG_TRIG_SIG n))
  match s.get (F.LOG_TRIG_TYPE n) with
  | 0 => (s.log.flagsSeen &&& sel) != 0
  | 1 => thr < x
  | 2 => x < thr
  | _ => (s.log.events &&& sel % 16) != 0

/-- The triggers that fire in the period, by bit (R201). -/
def State.fired (s : State) (data : List Byte) : Nat :=
  let arm := rowLogarm (s.arow s.aBank (s.get F.ENG_ROW_ROW))
  (List.range 4).foldl (fun m n => if arm.testBit n && s.on (F.LOG_TRIG_EN n) && s.trigHolds data n then m + 2 ^ n else m) 0

/-! ### Streaming and export (R206, R610, R611) -/

/-- A list in pieces of `k`, at most `fuel` of them. -/
def chunks {α : Type} (k : Nat) : Nat → List α → List (List α)
  | 0, _ => []
  | _, [] => []
  | fuel + 1, l => l.take k :: chunks k fuel (l.drop k)

/-- Bytes as words, the last one filled with zeros. -/
def wordsOf (l : List Byte) : List Word := (chunks 4 l.length l).map fun b => BitVec.ofNat 32 (ofBytes b)

/-- Whether HS1 is UP (08 R297). -/
def State.hs1Up (s : State) : Bool := s.laneLocked 63

/-- STREAM frames of a record with its number and its origin (R610). -/
def State.streamRec (s : State) (num origin : Nat) (bytes : List Byte) : State :=
  let parts := chunks 1472 bytes.length bytes
  s.sendAll (((List.range parts.length).zip parts).map fun e =>
    .host .hs1 (s.reg64 R.HOST_LOGMAC_LO) 5 5 num (e.1 + 16 * parts.length) 0 0 origin (wordsOf e.2))

/-- The BULK frames of an exported record (R611). -/
def State.exportRec (s : State) (dst num : Nat) (bytes : List Byte) : State :=
  let parts := chunks 1024 bytes.length bytes
  ((List.range parts.length).zip parts).foldl (fun s e =>
    s.ringUnicast rcBULK dst (2 * 2 ^ 12)
      (blk num (e.1 * 2 ^ 28 + parts.length * 2 ^ 24 + s.nodeId) :: pack64 (wordsOf e.2))) s

/-- A record leaves the Log: streamed on HS1 or dropped, and exported (R206, R610, R611). -/
def State.streamOut (s : State) (bytes : List Byte) : State :=
  let num := s.host.recNo
  let s := { s with host := { s.host with recNo := (num + 1) % 2 ^ 32 } }
  if s.on F.LOG_CTRL_STREAM then
    let s := if s.on F.HOST_LOGCFG_EN then
        (if s.hs1Up then s.streamRec num s.nodeId bytes else (s.count R.LOG_DROP 1).raise Q.LOG_DROP (hw 0)) else s
    if s.on F.HOST_LOGCFG_EXPORT then
      ({ s with host := { s.host with exported := ((num, bytes) :: s.host.exported).take 16 } }).exportRec (s.get F.HOST_LOGCFG_NODE) num bytes
    else s
  else s

/-! ### Capture (R198 to R204) -/

/-- LOG_FIRST shows the oldest record and the records held. -/
def State.showHeld (s : State) (oldest held : Nat) : State := (s.set F.LOG_FIRST_SLOT oldest).set F.LOG_FIRST_HELD held

/-- Store a record in its slot. -/
def State.storeRec (s : State) (bytes : List Byte) : State :=
  let slot := s.log.next
  let n := s.nslot
  let s := (List.range bytes.length).foldl (fun s i => s.store (logMem + slot * s.recSize + i) 1 (bytes.getD i 0).toNat) s
  let cnt := min (s.log.count + 1) n
  let nx := (slot + 1) % n
  ({ s with log := { s.log with next := nx, count := cnt } }).showHeld ((nx + n - cnt) % n) cnt

/-- The trace is complete (R203, R204). -/
def State.logDone (s : State) : State :=
  let n := s.nslot
  let pre := s.log.pre
  let s := if pre < s.get F.LOG_PREPOST_PRE then s.flag F.LOG_STAT_SHORTPRE else s
  ((s.set F.LOG_STAT_STATE logDONE).showHeld ((s.get F.LOG_TRIGPOS_SLOT + n - pre) % n) (pre + 1 + s.get F.LOG_PREPOST_POST)).raise
    Q.LOG_DONE (hw 0)

/-- The record of the period is finished: triggers, memory, stream (R200 to R206). -/
def State.finishRec (s : State) (data : List Byte) (split : Bool) : State :=
  let pre := s.logState = logPRE
  let f := if pre then s.fired data else 0
  let trig := pre && (f != 0 || s.log.force)
  let bytes := s.recordBytes data trig f split
  let s := s.streamOut bytes
  let s := { s with log := { s.log with open_ := none, split := false, captured := true } }
  if trig then
    let kept := min s.log.count (s.get F.LOG_PREPOST_PRE)
    let s := ((s.set F.LOG_STAT_TRIGSRC f).set F.LOG_TRIGPOS_SLOT s.log.next).setReg64 R.LOG_TRIGT_LO s.sext.b0
    let s := (s.storeRec bytes).set F.LOG_STAT_STATE logPOST
    let s := { s with log := { s.log with pre := kept, post := s.get F.LOG_PREPOST_POST, force := false } }
    let s := s.raise Q.LOG_TRIG (hw 0)
    if s.log.post = 0 then s.logDone else s
  else if pre then s.storeRec bytes
  else if s.logState = logPOST then
    let s := s.storeRec bytes
    let s := { s with log := { s.log with post := s.log.post - 1 } }
    if s.log.post = 0 then s.logDone else s
  else s

/-- Whether claims of other masters on engine rows and words are held (03 R131). -/
def State.claimsHeld (s : State) : Bool := s.get F.ENG_STAT_ESTATE == 2 && 2 * s.get F.ENG_CTRL_STALLCAP ≤ s.eng.waited

/-- The data of the signals. -/
def State.sigData (s : State) : List Byte := s.sigs.flatMap s.sigBytes

/-- The capture agent captures the period's signals (R198, R199): after the deadline, or with CAPPT = 1 from the engine start on;
such a record waits for the deadline, and one whose claims are held is captured then. -/
def State.logCapture (s : State) : State :=
  let es := s.get F.ENG_STAT_ESTATE
  if s.log.captured || s.log.open_.isSome then s
  else if es = 4 then s.finishRec s.sigData false
  else if s.on F.LOG_CTRL_CAPPT && (es = 2 || es = 3) then
    if s.claimsHeld then { s with log := { s.log with open_ := some [], split := true } }
    else { s with log := { s.log with open_ := some s.sigData } }
  else s

/-- After the deadline steps a capture of CAPPT = 1 is finished (R199). -/
def State.logDeadline (s : State) : State :=
  match s.log.open_ with
  | some d => s.finishRec (if s.log.split then s.sigData else d) s.log.split
  | none => s

/-- A new period begins: what happened in the last one is forgotten. -/
def State.logBoundary (s : State) : State :=
  { s with log := { s.log with flagsSeen := 0, events := 0, abandoned := false, captured := false, open_ := none, split := false } }

/-! ### LOG_ARM (R197, R202, R204) -/

/-- Whether trigger `n` names a signal that is not captured (R202). -/
def State.trigBad (s : State) (n : Nat) : Bool :=
  let ty := s.get (F.LOG_TRIG_TYPE n)
  let g := s.get (F.LOG_TRIG_SIG n)
  s.on (F.LOG_TRIG_EN n) && (ty == 1 || ty == 2) && (s.get F.LOG_CFG_NSIG ≤ g || s.sigType g == 0)

/-- Whether LOG_ARM is refused. -/
def State.armBad (s : State) : Bool :=
  4096 < s.recSize || s.nslot < s.get F.LOG_PREPOST_PRE + s.get F.LOG_PREPOST_POST + 1 || (List.range 4).any s.trigBad

/-- The Log is armed: PRE, with an empty buffer. -/
def State.logArm (s : State) : State :=
  let s := { s with log := { s.log with next := 0, count := 0, pre := 0, post := 0, force := false } }
  ((s.set F.LOG_STAT_STATE logPRE).set F.LOG_STAT_TRIGSRC 0).showHeld 0 0

/-! ### Accesses -/

/-- Whether a write of a configuration register of the LOG block has a stated range broken: a reserved trigger type, more than 64
signals, a slice that passes lane 63. -/
def logBad (a : Nat) (v : Word) : Bool :=
  if a = R.LOG_CFG then 64 < fldOf F.LOG_CFG_NSIG v
  else if R.LOG_TRIG 0 ≤ a ∧ a ≤ R.LOG_TRIG 3 then 3 < bitsOf v.toNat 28 3
  else R.LOG_SIG 0 ≤ a && a ≤ R.LOG_SIG 63 && v.toNat / 2 ^ 30 == 1 && 64 < bitsOf v.toNat 8 6 + v.toNat % 64 + 1

/-- Whether a register accepts writes only in IDLE and DONE. -/
def logCfgReg (a : Nat) : Bool :=
  a == R.LOG_CFG || a == R.LOG_PREPOST || a == R.LOG_CAPOFS || (R.LOG_TRIG 0 ≤ a && a ≤ R.LOG_TRIG 3)
    || (R.LOG_THR 0 ≤ a && a ≤ R.LOG_THR 3) || (R.LOG_SIG 0 ≤ a && a ≤ R.LOG_SIG 63)

/-- A write in the LOG block. -/
def State.writeLOG (s : State) (m : Master) (a : Nat) (v : Word) : State :=
  let idle := s.logState == logIDLE || s.logState == logDONE
  if logCfgReg a then
    if idle && !logBad a v then (s.plainWrite a v).setRecSize else s.faultNew F.LOG_STAT_CFGREJ Q.LOG_CFGREJ (wr m a)
  else if a = R.LOG_CTRL then
    let s := s.plainWrite a v
    if v.toNat.testBit 3 && s.logState == logPRE then { s with log := { s.log with force := true } } else s
  else s.plainWrite a v

/-- The word of the Log memory at `a` as a direct read returns it, and the refusal (R205). -/
def State.logRead (s : State) (m : Master) (a : Nat) : Word × State :=
  if s.logState = logIDLE ∨ s.logState = logDONE then (BitVec.ofNat 32 (s.load (a / 4 * 4) 4), s)
  else (0, s.faultNew F.LOG_STAT_RDREJ Q.LOG_RDREJ (rd m a))

/-- Record `i` after the oldest, as LOG_READ returns it. -/
def State.logRecord (s : State) (i : Nat) : List Byte :=
  let slot := (s.get F.LOG_FIRST_SLOT + i) % s.nslot
  (List.range s.recSize).map fun j => memGet s.mem (logMem + slot * s.recSize + j)

/-- LOG_CAPTURE (R198). -/
def execLogCapture (s : State) : Host.Outcome State Fault Refusal := .next (settle s s.logCapture)

/-! ### The collecting node (R611) -/

/-- Records of an origin that can no longer be resent, since its last 16 do not hold them, are counted as lost. -/
def State.loseOld (s : State) (origin newest : Nat) : State :=
  let gone := s.host.missing.filter fun e => e.1 == origin && e.2 + 16 ≤ newest
  if gone.isEmpty then s
  else
    let s := { s with host := { s.host with missing := s.host.missing.filter (!gone.contains ·) } }
    (s.count R.HOST_LOGLOST gone.length).faultNew F.HOST_STAT_LOGLOST Q.HOST_LOGLOST (hw 0)

/-- A complete record of an origin: streamed; the numbers it skips are asked for (R611). -/
def State.collected (s : State) (origin num : Nat) (bytes : List Byte) : State :=
  let s := if s.hs1Up then s.streamRec num origin bytes else (s.count R.LOG_DROP 1).raise Q.LOG_DROP (hw 0)
  if s.host.missing.contains (origin, num) then
    { s with host := { s.host with missing := s.host.missing.filter (· != (origin, num)) } }
  else
    let last := spGet num s.host.collect origin
    let gap := if last + 1 < num then (List.range (min (num - last - 1) 1024)).map (last + 1 + ·) else []
    let s := { s with host := { s.host with collect := spIns s.host.collect origin (max last num), missing := s.host.missing ++ gap.map (origin, ·) } }
    let s := gap.foldl (fun s n => s.ringUnicast rcBULK origin (3 * 2 ^ 12) [blk n s.nodeId]) s
    s.loseOld origin num

/-- A fragment of an exported record arrives (R611). -/
def State.exportRx (s : State) (f : RingFrame) : State :=
  if !s.on F.HOST_LOGCFG_EN then s
  else match f.data with
  | [] => s
  | d :: rest =>
    let num := hi32 d
    let idx := d.toNat / 2 ^ 28 % 16
    let cnt := d.toNat / 2 ^ 24 % 16
    let origin := d.toNat % 512
    let key := origin * 2 ^ 32 + num
    let bytes := (unpack64 rest).flatMap wordBytes
    let parts := spIns (spGet [] s.host.parts key) idx bytes
    if parts.length = cnt then
      let s := { s with host := { s.host with parts := spDel s.host.parts key } }
      s.collected origin num (parts.flatMap (·.2))
    else { s with host := { s.host with parts := spIns s.host.parts key parts } }

/-- A request for a missing record: resent when it is among the last 16 exported (R611). -/
def State.gapRx (s : State) (f : RingFrame) : State :=
  match f.data with
  | [] => s
  | d :: _ =>
    match s.host.exported.find? (·.1 == hi32 d) with
    | some (n, bytes) => s.exportRec f.src n bytes
    | none => s

end Sys2Proof.Machine
end

