-- ==== Sys2Proof/Machine/Ring.lean ====
section
/-! DEFINITION. Machine/Ring.lean: the ring agent: reception and forwarding, beacons and the timekeeper, TIME exchanges, port
states, control domains, fixes, and the sender's side of GUAR flows (09_ring_and_twin.md R314 to R346; 02 R88, R89). -/
namespace Sys2Proof.Machine

/-! ### Frames (R314, R315) -/

/-- KIND of a CTRL or BULK frame, and the one-bit KIND of TIME and GUAR frames (Table 2). -/
def kind3 (f : RingFrame) : Nat := f.cspec / 2 ^ 12
def kind1 (f : RingFrame) : Nat := f.cspec / 2 ^ 14
def isBeacon (f : RingFrame) : Bool := f.cls == rcCTRL && kind3 f == 0
def isHello (f : RingFrame) : Bool := f.cls == rcCTRL && kind3 f == 1
def isTime (f : RingFrame) (k : Nat) : Bool := f.cls == rcTIME && kind1 f == k
def isGuar (f : RingFrame) (k : Nat) : Bool := f.cls == rcGUAR && kind1 f == k
def isBulk (f : RingFrame) (k : Nat) : Bool := f.cls == rcBULK && kind3 f == k

/-- Whether CLASS and LEN are those of Table 2. -/
def ringLenOk (f : RingFrame) : Bool :=
  match f.cls with
  | 0 | 1 | 3 => f.len == 2
  | 2 => f.len % 16 == 2 && f.len ≤ 258
  | 4 => if kind1 f = 1 then f.len == 1 else 1 ≤ f.len && f.len ≤ 33
  | 5 => 1 ≤ f.len && f.len ≤ 129
  | _ => false

/-- Whether a frame is valid. -/
def ringValid (f : RingFrame) : Bool := f.ok && ringLenOk f && f.data.length == f.len

/-- Data block `i`. -/
def ringBlk (f : RingFrame) (i : Nat) : Word64 := f.data.getD i 0

/-! ### Reception and forwarding (R316 to R320, R330) -/

/-- Whether the node consumes a unicast frame. -/
def State.consumes (s : State) (f : RingFrame) : Bool :=
  !f.bc && (if f.cls = rcGUAR then f.dst == s.identityOf s.nodeId && s.active else f.dst == s.nodeId)

/-- Whether the node forwards a frame (R316). -/
def State.forwards (s : State) (f : RingFrame) : Bool :=
  !(f.cls == rcTIME || isHello f || f.ttl ≤ 1 || f.src == s.nodeId || s.consumes f)

/-- Forward a frame unchanged but for its TTL; an invalid one stays invalid (R318). -/
def State.forward (s : State) (p : Side) (f : RingFrame) : State :=
  let q := otherSide p
  if s.forwards f && s.ringPort (sideNo q) == 3 then (s.ringEmit q false { f with ttl := f.ttl - 1 }).count R.RING_FWD 1 else s

/-- 1 ms in CT64 (R320). -/
def msCt : Nat := 3200000

/-- Whether a copy of the broadcast has been received within 1 ms; header and CRC are compared without the TTL. -/
def State.isCopy (s : State) (f : RingFrame) : Bool :=
  s.ring.seen.any fun e => e.1 == { f with ttl := 0 } && ctDiff s.now e.2 < msCt

/-- Remember a broadcast. -/
def State.noteSeen (s : State) (f : RingFrame) : State :=
  { s with ring := { s.ring with seen := ({ f with ttl := 0 }, s.now) :: s.ring.seen.filter fun e => ctDiff s.now e.2 < msCt } }

/-- Whether a port takes a frame: HELLO frames while its lanes are UP, others in state UP. -/
def State.ringTakes (s : State) (p : Side) (f : RingFrame) : Bool :=
  if isHello f then s.portUp (sideNo p) && s.ringPort (sideNo p) != 0 else s.ringPort (sideNo p) == 3

/-- Receive a frame: forwarded, counted where invalid; the answer says whether it is delivered here. -/
def State.ringRx (s : State) (p : Side) (f : RingFrame) : Bool × State :=
  if !s.ringTakes p f then (false, s)
  else if !ringValid f then (false, (s.forward p f).count R.RING_CRCERR 1)
  else
    let s := s.forward p f
    if f.cls = rcTIME ∨ isHello f then (true, s)
    else if f.bc then
      if f.src = s.nodeId ∨ s.isCopy f then (false, s) else (true, s.noteSeen f)
    else (s.consumes f, s)

/-- Receive a frame of the kind a command names and act on it where it is delivered. -/
def State.ringIn (s : State) (p : Side) (f : RingFrame) (kind : Bool) (act : State → State) : State :=
  if ringValid f && !kind then s
  else
    let r := s.ringRx p f
    if r.1 then act r.2 else r.2

/-! ### Port states (R327, R328) -/

/-- A frame sent whatever the port's state, while its lanes are UP. -/
def State.sendDirect (s : State) (p : Side) (f : RingFrame) : State :=
  if s.portUp (sideNo p) then (s.breakOff p).putOn p f else s

/-- The serial of this device. -/
def State.serial (s : State) : Nat := s.regN R.SYS_SERIAL

/-- The HELLO of a port, in every state from LOOP on. -/
def State.ringHello (s : State) (p : Side) : State :=
  if s.ringPort (sideNo p) = 0 then s
  else s.sendDirect p (s.ownFrame rcCTRL 0 (2 ^ 12) true 1 [blk s.serial (2 ^ 24 * 0x10 + s.nodeId), 0])

/-- A HELLO moves a port: its own in LOOP, another device's in INSERT and DOWN (Table 3). -/
def State.ringHelloRx (s : State) (p : Side) (f : RingFrame) : State :=
  let n := sideNo p
  let own := hi32 (ringBlk f 0) == s.serial
  let st := s.ringPort n
  if bitsOf (lo32 (ringBlk f 0)) 24 8 != 0x10 then s
  else if st = 1 && own then s.setRingPort n 2
  else if (st = 2 || st = 4) && !own then s.setRingPort n 3 else s

/-- 100 ms in INSERT with the outputs asserted. -/
def State.insertEnd (s : State) (p : Side) : State :=
  if s.ringPort (sideNo p) = 2 && s.on F.RING_STAT_BYPE then s.setRingPort (sideNo p) 4 else s

/-! ### Timekeeper and parent (R324, R325) -/

/-- The lowest TKPRI below 255 wins, a tie the lowest node ID. -/
def tkBetter (a b : Nat × Nat) : Bool := a.2 < b.2 || (a.2 == b.2 && a.1 < b.1)

/-- The timekeeper by the table and the node itself. -/
def State.elect (s : State) : Option Nat :=
  let all := (s.nodeId, s.get F.RING_CFG_TKPRI) :: s.ring.nodes.map fun e => (e.1, e.2.tkpri)
  ((all.filter (·.2 < 255)).foldl (fun b e => match b with
    | none => some e
    | some x => if tkBetter e x then some e else b) (none : Option (Nat × Nat))).map (·.1)

/-- RING_TOPO, RING_HOPS and CHRONO_CTRL.TK follow the table. -/
def State.electTk (s : State) : State :=
  let en := s.on F.RING_CFG_EN
  let tk := if en then s.elect else none
  let old := if s.on F.RING_TOPO_TKKNOWN then some (s.get F.RING_TOPO_TKID) else none
  let s := (s.set F.RING_TOPO_COUNT s.ring.nodes.length).setB F.RING_TOPO_ISTK (tk == some s.nodeId)
  let s := (s.setB F.RING_TOPO_TKKNOWN tk.isSome).set F.RING_TOPO_TKID (tk.getD 0)
  let hops := match tk with | some n => (if n = s.nodeId then (0, 0) else (s.hopsOn .east n, s.hopsOn .west n)) | none => (0, 0)
  let s := (s.set F.RING_HOPS_E hops.1).set F.RING_HOPS_W hops.2
  let s := if en && old != tk then s.faultNew F.RING_STAT_TKCHG Q.RING_TKCHG (hw 0) else s
  if en && s.on F.RING_CFG_TKAUTO then s.setTk (tk == some s.nodeId) else s

/-- The ring toward the parent; when its port is not UP, the other neighbour is the parent. -/
def State.parentSide (s : State) : Side :=
  let want := if s.get F.RING_HOPS_E ≤ s.get F.RING_HOPS_W then Side.east else .west
  if s.ringPort (sideNo want) != 3 && s.ringPort (sideNo (otherSide want)) == 3 then otherSide want else want

/-- Whether the exchange on a port drives the Chronometer. -/
def State.tkDrives (s : State) (p : Side) : Bool :=
  s.on F.RING_TOPO_TKKNOWN && !s.on F.RING_TOPO_ISTK && !s.on F.CHRONO_CTRL_TK && s.parentSide == p

/-! ### Control domains (R336 to R341) -/

/-- The members: node ID and position. -/
def State.members (s : State) : List (Nat × Nat) :=
  (List.range 16).filterMap fun i =>
    if s.on (F.RING_DOMTBL_V i) then some (s.get (F.RING_DOMTBL_ID i), s.get (F.RING_DOMTBL_POS i)) else none

def State.npos (s : State) : Nat := s.members.foldl (fun n e => max n (e.2 + 1)) 0

/-- The segments of the ring, by the table. -/
def State.ringLen (s : State) : Nat := s.ring.nodes.foldl (fun m e => min m (e.2.hopE + e.2.hopW)) 1022

/-- The place of an entry on the ring, in hops east of this node. -/
def State.placeOf (s : State) (e : NodeEnt) : Nat := if e.hopE ≤ e.hopW then e.hopE else s.ringLen - e.hopW

/-- The place of a node; none where the table does not hold it. -/
def State.ringPlace (s : State) (id : Nat) : Option Nat :=
  if id = s.nodeId then some 0 else (s.node id).map s.placeOf

/-- Hops from place `a` to place `b` going east. -/
def State.eastward (s : State) (a b : Nat) : Nat := (b + s.ringLen - a) % s.ringLen

/-- The stretch: where it begins and its hop count, the shortest run that joins all members; none while a member is unknown. -/
def State.stretch (s : State) : Option (Nat × Nat) :=
  let ps := s.members.map fun e => s.ringPlace e.1
  if ps.contains none then none
  else
    let cs := ps.filterMap id
    let len (c : Nat) : Nat := cs.foldl (fun n d => max n (s.eastward c d)) 0
    cs.foldl (fun b c => match b with
      | none => some (c, len c)
      | some x => if len c < x.2 then some (c, len c) else b) (none : Option (Nat × Nat))

/-- DLYE and DLYW of the node at a place. -/
def State.delaysAt (s : State) (x : Nat) : Option (Nat × Nat) :=
  if x = 0 then some (s.ring.dlyE, s.ring.dlyW)
  else (s.ring.nodes.find? fun e => s.placeOf e.2 == x).map fun e => (e.2.dlye, e.2.dlyw)

/-- The link delays of the stretch's segments in ns. -/
def State.segDelays (s : State) (start h : Nat) : List Nat :=
  (List.range h).map fun i =>
    match s.delaysAt ((start + i) % s.ringLen) with
    | some d => d.1
    | none => match s.delaysAt ((start + i + 1) % s.ringLen) with | some d => d.2 | none => 0

/-- The arrival bound of the domain in ns (R340). -/
def State.tArr (s : State) (h : Nat) (dly : List Nat) : Rat :=
  200 + s.members.length * (4 + 16 * s.slotLen) * (16 / 5) + h * 120 + (dly.foldl (· + ·) 0 : Nat) + 5 * s.get F.RING_DOMAWIN_AWIN

/-- The delays and the members' hop counts that a check judges. -/
def State.chkInputs (s : State) : List Nat × List (Nat × Nat) :=
  (match s.stretch with | some (a, h) => s.segDelays a h | none => [],
   s.members.filterMap fun e => (s.node e.1).map fun n => (e.1, 1024 * n.hopE + n.hopW))

/-- Run the domain check (R340, R341). -/
def State.domCheck (s : State) : State :=
  if !s.on F.RING_DOMCFG_EN then s.setRegN R.RING_DOMCHK 0
  else
    let x := s.chkInputs
    let s := { s with ring := { s.ring with chkDly := x.1, chkHops := x.2 } }
    let (h, t) := match s.stretch with | some (_, h) => (h, s.tArr h x.1) | none => (31, 65535)
    let pass := s.stretch.isSome && h ≤ 16 && t ≤ 5 * (s.get F.ENG_TIMING_T_LEAD : Rat) - 20
    let s := ((s.setB F.RING_DOMCHK_PASS pass).set F.RING_DOMCHK_H (min h 31)).set F.RING_DOMCHK_TARR (min (quantize t).toNat 65535)
    if pass then s else s.faultNew F.RING_STAT_DOMFAIL Q.RING_DOMFAIL (hw 0)

/-- A segment delay has changed by more than 10 ns, or a member's hop count has changed. -/
def State.domChanged (s : State) : Bool :=
  let x := s.chkInputs
  s.on F.RING_DOMCFG_EN && (x.2 != s.ring.chkHops || x.1.length != s.ring.chkDly.length
    || (x.1.zip s.ring.chkDly).any fun e => e.2 + 10 < e.1 || e.1 + 10 < e.2)

/-- Check the domain again where R341 asks for it. -/
def State.domFollow (s : State) : State := if s.domChanged then s.domCheck else s

/-- The TTLs of this node's SCHED frames on rings E and W. -/
def State.schedTtl (s : State) : Nat × Nat :=
  match s.stretch with
  | some (a, h) => let o := s.eastward a 0; if o ≤ h then (h - o, o) else (0, 0)
  | none => (0, 0)

/-- The data blocks of a slot (Table 2). -/
def State.slotBlocks (s : State) (d : List (Nat × BitVec 16)) : List Word64 :=
  (List.range (16 * s.slotLen)).map fun j =>
    let lane (m : Nat) : BitVec 16 := spGet 0 d (64 * (j / 16) + 4 * (j % 16) + m)
    lane 3 ++ lane 2 ++ lane 1 ++ lane 0

/-- At the deadline of a period in which the Helm runs (R337): one SCHED frame on each ring, with the slot where one is released. -/
def State.schedSend (s : State) (abandoned : Bool) (slot : Option (List (Nat × BitVec 16))) : State :=
  if s.on F.RING_DOMCFG_EN && s.on F.RING_DOMCHK_PASS then
    let body := match abandoned, slot with
      | false, some d => s.slotBlocks d
      | _, _ => []
    let cspec := 2 ^ 14 * b2n s.active + 2 ^ 13 * b2n (!abandoned && slot.isNone) + 2 ^ 12 * b2n abandoned
      + 2 ^ 8 * s.get F.RING_DOMCFG_POS + s.get F.RING_DOMCFG_DOMID
    let f := s.ownFrame rcSCHED 0 cspec true 0 (BitVec.ofNat 64 s.sext.b1 :: BitVec.ofNat 64 (s.get F.OCL_CLAIM_CLAIM) :: body)
    let (e, w) := s.schedTtl
    let s := { s with ring := { s.ring with slots := s.ring.slots ++ [(f, s.now)] } }
    let s := if e = 0 then s else s.ringOrig .east { f with ttl := e }
    if w = 0 then s else s.ringOrig .west { f with ttl := w }
  else s

/-- A SCHED frame of the domain is held for the commit. -/
def State.schedRx (s : State) (f : RingFrame) : State :=
  if s.on F.RING_DOMCFG_EN && f.cspec % 256 == s.get F.RING_DOMCFG_DOMID then
    { s with ring := { s.ring with slots := s.ring.slots ++ [(f, s.now)] } }
  else s

/-- Whether a frame's anchor is within AWIN of b_{k+1}, which begins the period of the commit. -/
def State.anchorOk (s : State) (f : RingFrame) : Bool :=
  (ctDiff (ringBlk f 0).toNat s.sext.b0).natAbs ≤ 16 * s.get F.RING_DOMAWIN_AWIN

def schedPos (f : RingFrame) : Nat := f.cspec / 256 % 16
def schedClaim (f : RingFrame) : Nat := (ringBlk f 1).toNat % 65536

/-- The frame taken for a position: the one of the ACTIVE sender with the higher claim. -/
def State.takenFor (s : State) (p : Nat) : Option RingFrame :=
  ((s.ring.slots.map (·.1)).filter fun f => schedPos f == p && s.anchorOk f && f.cspec.testBit 14).foldl (fun b f => match b with
    | none => some f
    | some x => if schedClaim x ≤ schedClaim f then some f else b) (none : Option RingFrame)

/-- Whether two senders of a position were ACTIVE. -/
def State.splitAt (s : State) (p : Nat) : Bool :=
  let l := (s.ring.slots.map (·.1)).filter fun f => schedPos f == p && s.anchorOk f && f.cspec.testBit 14
  l.any fun f => l.any fun g => f.src != g.src

/-- The inbox row of a domain row. -/
def State.domRow (s : State) (r : Nat) : Nat := s.get F.ENG_INBOX_BASE + s.get F.RING_DOMCFG_OFS + r

/-- Write the rows of a slot. -/
def State.putSlot (s : State) (p : Nat) (f : RingFrame) : State :=
  (List.range s.slotLen).foldl (fun s r =>
    let vals := (List.range 64).map fun n => ((ringBlk f (2 + 16 * r + n / 4)) >>> (16 * (n % 4))).truncate 16
    s.putLanes (s.domRow (p * s.slotLen + r)) (BitVec.allOnes 64) vals) s

/-- The commit of one position: its rows and its status word (Table 4). -/
def State.commitPos (s : State) (p : Nat) : State × Nat :=
  let f := s.takenFor p
  let bit (i : Nat) : Bool := match f with | some f => f.cspec.testBit i | none => false
  let data := match f with | some f => s.on F.RING_DOMCHK_PASS && !bit 13 && !bit 12 && f.len == 2 + 16 * s.slotLen | none => false
  let split := s.splitAt p
  let stale := f.isNone && s.ring.slots.any (fun e => schedPos e.1 == p && !s.anchorOk e.1)
      && !s.ring.slots.any (fun e => schedPos e.1 == p && s.anchorOk e.1)
  let age := if data then 0 else min 255 (spGet 255 s.ring.ages p + 1)
  let w := 2 ^ 8 * age + 2 ^ 5 * b2n (p == s.get F.RING_DOMCFG_POS) + 2 ^ 4 * b2n split + 2 ^ 3 * b2n stale + 2 ^ 2 * b2n (bit 12)
    + 2 * b2n (bit 13) + b2n data
  let s := { s with ring := { s.ring with ages := spPut 255 s.ring.ages p age } }
  let s := match f with | some f => (if data then s.putSlot p f else s) | none => s
  (if split then s.faultNew F.RING_STAT_SPLIT Q.RING_SPLIT (hw 0) else s, w)

/-- The commit of the domain into the inbox (R338, R339). -/
def State.schedCommit (s : State) : State :=
  if s.on F.RING_DOMCFG_EN then
    let r := (List.range s.npos).foldl (fun x p => let y := x.1.commitPos p; (y.1, x.2 ++ [BitVec.ofNat 16 y.2])) ((s, []) : State × List (BitVec 16))
    let s := r.1.putLanes (s.domRow (s.npos * s.slotLen)) (BitVec.allOnes 64) r.2
    { s with ring := { s.ring with slots := [] } }
  else s

/-! ### Beacons (R322, R323) -/

/-- The BEACON of this node. -/
def State.beacon (s : State) : List Word64 :=
  [blk s.serial (2 ^ 24 * s.get F.RING_CFG_TKPRI + 2 ^ 23 * s.get F.RING_CFG_PAIR + 2 ^ 22 * b2n s.active),
   blk 0 (2 ^ 16 * s.ring.dlyE + s.ring.dlyW)]

/-- Send the BEACON out of every port that is UP. -/
def State.beaconSend (s : State) : State := s.ringBroadcast rcCTRL 0 s.beacon

/-- A BEACON refreshes its node's entry; it arrives on the port toward which its sender lies 512 - TTL hops away. -/
def State.noteBeacon (s : State) (p : Side) (f : RingFrame) : State :=
  let hops := 512 - f.ttl
  let old := s.node f.src
  let w := lo32 (ringBlk f 0)
  let d := lo32 (ringBlk f 1)
  let e : NodeEnt :=
    { serial := BitVec.ofNat 32 (hi32 (ringBlk f 0)), tkpri := bitsOf w 24 8, pair := w.testBit 23, role := w.testBit 22
      dlye := d / 65536, dlyw := d % 65536
      hopE := if p = .east then hops else match old with | some o => o.hopE | none => 511
      hopW := if p = .west then hops else match old with | some o => o.hopW | none => 511 }
  ({ s with ring := { s.ring with nodes := spIns s.ring.nodes f.src e } }).electTk.domFollow

/-- A BEACON arrives (R322, R323). -/
def State.beaconRx (s : State) (p : Side) (f : RingFrame) : State :=
  if ringValid f && !isBeacon f then s
  else
    let good := s.ringTakes p f && ringValid f
    let s := (s.ringRx p f).2
    if !good then s
    else if f.src = s.nodeId then
      if hi32 (ringBlk f 0) = s.serial then s
      else ({ s with ring := { s.ring with quiet := true } }).faultNew F.RING_STAT_DUPID Q.RING_DUPID (hw 0)
    else s.noteBeacon p f

/-- An entry expires. -/
def State.beaconGone (s : State) (id : Nat) : State :=
  if (s.node id).isSome then
    ({ s with ring := { s.ring with nodes := spDel s.ring.nodes id } }).electTk.domFollow
  else s

/-! ### TIME exchanges (02 R88, R89; R325) -/

def State.xchgOf (s : State) (p : Side) : Option (Nat × Nat) := match p with | .east => s.ring.xchgE | .west => s.ring.xchgW
def State.setXchg (s : State) (p : Side) (x : Option (Nat × Nat)) : State :=
  match p with
  | .east => { s with ring := { s.ring with xchgE := x } }
  | .west => { s with ring := { s.ring with xchgW := x } }
def State.tseqOf (s : State) (p : Side) : Nat := match p with | .east => s.ring.tseqE | .west => s.ring.tseqW
def State.setTseq (s : State) (p : Side) (n : Nat) : State :=
  match p with
  | .east => { s with ring := { s.ring with tseqE := n } }
  | .west => { s with ring := { s.ring with tseqW := n } }

/-- The transmit stamp of a priority frame sent now: the port's present priority frame ends first. -/
def State.txStamp (s : State) (p : Side) : Nat :=
  let t := match s.sending p with | some (f, t) => if isPrio f then t else s.now | none => s.now
  ctAdd t (signedOf 16 (s.get (F.LANE_TSOFS_TX (56 + 2 * sideNo p))))

/-- The receive stamp of a frame whose SOF arrives `sub` ET into the tick. -/
def State.rxStamp (s : State) (p : Side) (sub : Nat) : Nat :=
  ctAdd (s.now + sub) (signedOf 16 (s.get (F.LANE_TSOFS_RX (56 + 2 * sideNo p))))

/-- A TIME REQ on one port. -/
def State.timeReq (s : State) (p : Side) : State :=
  let t1 := s.txStamp p
  let q := s.tseqOf p
  let s := (s.setXchg p (some (q, t1))).setTseq p ((q + 1) % 256)
  s.ringOrig p (s.ownFrame rcTIME 0 q true 1 [BitVec.ofNat 64 t1, 0])

/-- The exchanges with both neighbours start. -/
def State.syncStart (s : State) : State := if s.ringRuns then (s.timeReq .east).timeReq .west else s

/-- A REQ is answered with a RESP. -/
def State.timeReqRx (s : State) (p : Side) (f : RingFrame) (sub : Nat) : State :=
  s.ringOrig p (s.ownFrame rcTIME 0 (2 ^ 14 + f.cspec % 256) true 1 [BitVec.ofNat 64 (s.rxStamp p sub), BitVec.ofNat 64 (s.txStamp p)])

/-- A delay in whole ns as a beacon carries it. -/
def dlyNs (d : Rat) : Nat := min (quantize (d * 5 / 16)).toNat 65535

/-- A RESP completes the exchange of its TSEQ. -/
def State.timeRespRx (s : State) (p : Side) (f : RingFrame) (sub : Nat) : State :=
  match s.xchgOf p with
  | none => s
  | some (q, t1) =>
    if q != f.cspec % 256 then s
    else
      let t2 := (ringBlk f 0).toNat
      let t3 := (ringBlk f 1).toNat
      let t4 := s.rxStamp p sub
      let d := delayOf t1 t2 t3 t4
      let s := s.setXchg p none
      let s := match p with
        | .east => { s with ring := { s.ring with dlyE := dlyNs d } }
        | .west => { s with ring := { s.ring with dlyW := dlyNs d } }
      let s := if s.tkDrives p then s.exchangeDone (s.offsetOf t1 t2 t3 t4) d else s
      s.domFollow

/-- No RESP within 100 µs. -/
def State.timeOut (s : State) (p : Side) : State :=
  if (s.xchgOf p).isNone then s
  else
    let s := s.setXchg p none
    if s.tkDrives p then s.exchangeFailed else s

/-! ### Fixes (R342 to R345) -/

def fxFREE : Nat := 0
def fxARMED : Nat := 1
def fxPENDING : Nat := 2
def fxLATCHED : Nat := 3
def fxLATE : Nat := 4

def bank0 : FixBank := { state := 0, fixid := 0, tfix := 0, t := 0 }
def State.fixBank (s : State) (b : Nat) : FixBank := spGet bank0 s.ring.banks b

/-- A word of a bank (Table 5). -/
def State.fixWord (s : State) (b ofs v : Nat) : State := s.setRegN (R.RING_FIXBANK b (ofs / 4)) v
def State.fixWide (s : State) (b ofs v : Nat) : State := (s.fixWord b ofs v).fixWord b (ofs + 4) (v / 2 ^ 32)

/-- Set a bank's state, shown in its word 0 and in RING_FIXSTAT. -/
def State.setBank (s : State) (b : Nat) (x : FixBank) : State :=
  let s := { s with ring := { s.ring with banks := spPut bank0 s.ring.banks b x } }
  (s.fixWord b 0 (65536 * x.fixid + x.state)).set ⟨R.RING_FIXSTAT, 4 * b, 3⟩ x.state

/-- The bank a new fix takes: a FREE one, else the one with the oldest latch (R343). -/
def State.fixChoice (s : State) : Option Nat :=
  match (List.range 4).find? fun b => (s.fixBank b).state == fxFREE with
  | some b => some b
  | none => ((List.range 4).filter fun b => fxLATCHED ≤ (s.fixBank b).state).foldl (fun c b => match c with
      | none => some b
      | some x => if 0 < ctDiff (s.fixBank x).t (s.fixBank b).t then some b else c) (none : Option Nat)

/-- The first copy of a FIX frame assigns a bank (R343, R344). -/
def State.fixAssign (s : State) (fixid tfix : Nat) : State :=
  if (List.range 4).any fun b => (s.fixBank b).state != fxFREE && (s.fixBank b).fixid == fixid then s
  else match s.fixChoice with
  | none => s.faultNew F.RING_STAT_FIXOVF Q.RING_FIXOVF (hw 0)
  | some b =>
    let s := (List.range 512).foldl (fun s w => s.setRegN (R.RING_FIXBANK b w) 0) s
    let late := 0 ≤ ctDiff s.now tfix
    let s := (s.setBank b { state := if late then fxLATE else fxARMED, fixid := fixid, tfix := tfix, t := s.now }).fixWide b 8 tfix
    if late then s.faultNew F.RING_STAT_FIXLATE Q.RING_FIXLATE (hw 0) else s

/-- The schedule angle at this tick (02 R77); 0 while the grid does not run. -/
def State.schedAngle (s : State) : Word :=
  if s.gridRuns then
    angleWord (((s.sext.k : Rat) + (ctDiff s.now s.sext.b0 : Rat) / (ctDiff s.sext.b1 s.sext.b0 : Rat)) / s.sxN)
  else 0

/-- The words of the groups: FIXSEL bit, offset, value. -/
def State.fixWords (s : State) : List (Nat × Nat × Nat) :=
  let r (bit ofs : Nat) (regs : List Nat) : List (Nat × Nat × Nat) :=
    ((List.range regs.length).zip regs).map fun e => (bit, ofs + 4 * e.1, s.regN e.2)
  r 0 0x20 [R.CHRONO_OFFSET, R.CHRONO_STAT, R.CHRONO_TRIM, R.CHRONO_DELAY] ++ [(1, 0x30, s.schedAngle.toNat)]
    ++ r 1 0x34 [R.SEXT_FREQ, R.SEXT_PIDX, R.SEXT_STAT, R.SEXT_COAST_T]
    ++ r 2 0x50 [R.ENG_PCNT_LO, R.ENG_PCNT_LO + 4, R.ENG_OVR_CNT, R.ALM_MODE, R.ALM_MCNT]
    ++ r 3 0x70 [R.TWIN_STAT, R.TWIN_CLAIMS, R.TWIN_FOCNT]
    ++ r 4 0x80 [R.RING_FWD, R.RING_CRCERR, R.RING_PREEMPT, R.RING_GRETRY] ++ r 5 0xA0 [R.SYS_STATE] ++ [(5, 0xA4, s.reactWord)]

/-- FIX is answered once its bank is LATCHED or LATE, with the bank's state (16 R603). -/
def State.fixAnswer (s : State) : State :=
  (s.running.filter (·.opc == 0x30)).foldl (fun s c =>
    match (List.range 4).find? fun b => fxLATCHED ≤ (s.fixBank b).state && (s.fixBank b).fixid == (c.body.getD 0 0).toNat with
    | some b => s.done c.key [BitVec.ofNat 32 (s.fixBank b).state]
    | none => s) s

/-- At TFIX an ARMED bank latches the groups selected (R344). -/
def State.fixLatch (s : State) (b : Nat) : State :=
  let x := s.fixBank b
  if x.state = fxARMED then
    let sel := s.get F.RING_FIXCFG_FIXSEL
    let t := (s.fixWords.filter fun e => sel.testBit e.1).foldl (fun t e => t.fixWord b e.2.1 e.2.2) s
    ((t.fixWide b 0x10 s.now).setBank b { x with state := if sel.testBit 6 then fxPENDING else fxLATCHED, t := s.now }).fixAnswer
  else s

/-- The engine rows of the PENDING banks at a fix point (R182, R345). -/
def State.fixRows (s : State) : State :=
  ((List.range 4).foldl (fun t b =>
    let x := t.fixBank b
    if x.state = fxPENDING then
      let t := (List.range (t.get F.RING_FIXCFG_NROWS)).foldl (fun t i =>
        let row := s.rowLanes ((s.get F.RING_FIXCFG_ROWBASE + i) % 2048)
        (List.range 32).foldl (fun t j => t.fixWord b (0x400 + 128 * i + 4 * j)
          ((row.getD (2 * j) 0).toNat + 65536 * (row.getD (2 * j + 1) 0).toNat)) t) t
      (t.fixWide b 0x18 s.now).setBank b { x with state := fxLATCHED }
    else t) s).fixAnswer

/-- A FIX frame arrives. -/
def State.fixRx (s : State) (f : RingFrame) : State := s.fixAssign ((ringBlk f 1).toNat % 65536) (ringBlk f 0).toNat

/-- Broadcast a fix and take it here too (R342, R343). -/
def State.fixStart (s : State) (fixid tfix : Nat) : State :=
  (s.ringBroadcast rcFIX 0 [BitVec.ofNat 64 tfix, BitVec.ofNat 64 (65536 * s.nodeId + fixid)]).fixAssign fixid tfix

/-! ### GUAR: the sender (R331) -/

/-- An ACK covers every message of the flow up to and including its number. -/
def State.guarAckRx (s : State) (f : RingFrame) : State :=
  let seq := hi32 (ringBlk f 0)
  let dst := lo32 (ringBlk f 0) % 512
  let keep (m : GMsg) : Bool := m.dst != dst || seqBefore seq m.seq
  (({ s with ring := { s.ring with gtx := s.ring.gtx.filter keep } }).guarCount.freeGuar).guarKick dst

/-- RTO: sent again on the ring it did not use the time before; paused while neither node of the identity is known. -/
def State.guarRetry (s : State) (dst seq : Nat) : State :=
  match s.ring.gtx.find? fun m => m.is dst seq && m.last.isSome with
  | none => s
  | some m =>
    if !s.active then s
    else if (s.idNode dst).isNone then s.faultNew F.RING_STAT_GPAUSE Q.RING_GPAUSE (hw 0)
    else
      let p := otherSide (m.last.getD .west)
      ((s.guarOn p m).guarUsed dst seq p).count R.RING_GRETRY 1

/-! ### Registers (Tables 8 and 9) -/

def State.ringReject (s : State) (m : Master) (a : Nat) : State := s.faultNew F.RING_STAT_CFGREJ Q.RING_CFGREJ (wr m a)

/-- Whether the rows of the domain fit within the inbox and meet no OCL row. -/
def State.domFits (s : State) : Bool :=
  let lo := s.get F.RING_DOMCFG_OFS
  let hi := lo + s.npos * s.slotLen + 1
  let ol := s.get F.OCL_INMAP_OFS
  let oh := ol + s.get F.OCL_INMAP_F * s.get F.OCL_INMAP_S + s.get F.OCL_INMAP_F + 1
  hi ≤ s.get F.ENG_INBOX_NROWS && (hi ≤ ol || oh ≤ lo)

/-- A write of RING_CFG: ID and PAIR only while EN is 0; writing EN ends the silence of a duplicate ID (R323). -/
def State.ringCfg (s : State) (m : Master) (v : Word) : State :=
  let a := R.RING_CFG
  if s.on F.RING_CFG_EN && (fldOf F.RING_CFG_ID v != s.get F.RING_CFG_ID || fldOf F.RING_CFG_PAIR v != s.get F.RING_CFG_PAIR) then
    s.ringReject m a
  else
    let s := s.plainWrite a v
    ({ s with ring := { s.ring with quiet := false } }).electTk

/-- A write in the RING block. -/
def State.writeRING (s : State) (m : Master) (a : Nat) (v : Word) : State :=
  if a = R.RING_CFG then s.ringCfg m v
  else if a = R.RING_GCFG then
    if 100 ≤ fldOf F.RING_GCFG_RTO v ∧ fldOf F.RING_GCFG_RTO v ≤ 10000 then s.plainWrite a v else s.ringReject m a
  else if a = R.RING_DOMCFG ∨ (R.RING_DOMTBL 0 ≤ a ∧ a ≤ R.RING_DOMTBL 15) then
    let t := s.plainWrite a v
    if s.get F.ENG_STAT_ESTATE = 0 && (!t.on F.RING_DOMCFG_EN || t.domFits) then t.domCheck else s.ringReject m a
  else if a = R.RING_FIXCFG then (if fldOf F.RING_FIXCFG_NROWS v ≤ 8 then s.plainWrite a v else s.ringReject m a)
  else s.plainWrite a v

/-! ### The commands -/

/-- SYNC_EXCHANGE_START (02 R88). -/
def execSyncExchangeStart (s : State) : Host.Outcome State Fault Refusal := .next (settle s s.syncStart)

/-- TIME_REQ_RX (02 R88). -/
def execTimeReqRx (p : Side) (f : RingFrame) (sub : Fin 16) (s : State) : Host.Outcome State Fault Refusal :=
  .next (settle s (s.ringIn p f (isTime f 0) fun s => s.timeReqRx p f sub))

/-- TIME_RESP_RX (02 R89). -/
def execTimeRespRx (p : Side) (f : RingFrame) (sub : Fin 16) (s : State) : Host.Outcome State Fault Refusal :=
  .next (settle s (s.ringIn p f (isTime f 1) fun s => (s.timeRespRx p f sub).sextAuto))

/-- EXCHANGE_TIMEOUT (R325). -/
def execExchangeTimeout (p : Side) (s : State) : Host.Outcome State Fault Refusal := .next (settle s (s.timeOut p))

/-- BEACON_SEND (R322). -/
def execBeaconSend (s : State) : Host.Outcome State Fault Refusal := .next (settle s s.beaconSend)

/-- BEACON_RX (R322). -/
def execBeaconRx (p : Side) (f : RingFrame) (s : State) : Host.Outcome State Fault Refusal := .next (settle s (s.beaconRx p f))

/-- BEACON_EXPIRY (R322). -/
def execBeaconExpiry (id : Fin 512) (s : State) : Host.Outcome State Fault Refusal := .next (settle s (s.beaconGone id))

/-- RING_HELLO_SEND (R328). -/
def execRingHelloSend (p : Side) (s : State) : Host.Outcome State Fault Refusal := .next (settle s (s.ringHello p))

/-- RING_HELLO_RX (R327). -/
def execRingHelloRx (p : Side) (f : RingFrame) (s : State) : Host.Outcome State Fault Refusal :=
  .next (settle s (s.ringIn p f (isHello f) fun s => s.ringHelloRx p f))

/-- INSERT_TIMEOUT (R327). -/
def execInsertTimeout (p : Side) (s : State) : Host.Outcome State Fault Refusal := .next (settle s (s.insertEnd p))

/-- SCHED_RX (R338). -/
def execSchedRx (p : Side) (f : RingFrame) (s : State) : Host.Outcome State Fault Refusal :=
  .next (settle s (s.ringIn p f (f.cls == rcSCHED) fun s => s.schedRx f))

/-- FIX_RX (R343). -/
def execFixRx (p : Side) (f : RingFrame) (s : State) : Host.Outcome State Fault Refusal :=
  .next (settle s (s.ringIn p f (f.cls == rcFIX) fun s => s.fixRx f))

/-- FIX_LATCH (R344). -/
def execFixLatch (b : Fin 4) (s : State) : Host.Outcome State Fault Refusal := .next (settle s (s.fixLatch b))

/-- GUAR_ACK_RX (R331). -/
def execGuarAckRx (p : Side) (f : RingFrame) (s : State) : Host.Outcome State Fault Refusal :=
  .next (settle s (s.ringIn p f (isGuar f 1) fun s => s.guarAckRx f))

/-- GUAR_RETRANSMIT (R331). -/
def execGuarRetransmit (dst : Fin 512) (seq : Word) (s : State) : Host.Outcome State Fault Refusal :=
  .next (settle s (s.guarRetry dst seq.toNat))

/-- LOG_EXPORT_RX (16 R611). -/
def execLogExportRx (p : Side) (f : RingFrame) (s : State) : Host.Outcome State Fault Refusal :=
  .next (settle s (s.ringIn p f (isBulk f 2) fun s => s.exportRx f))

/-- LOG_GAP_REQUEST_RX (16 R611). -/
def execLogGapRequestRx (p : Side) (f : RingFrame) (s : State) : Host.Outcome State Fault Refusal :=
  .next (settle s (s.ringIn p f (isBulk f 3) fun s => s.gapRx f))

end Sys2Proof.Machine
end

