-- ==== Sys2Proof/Machine/Journal.lean ====
section
/-! DEFINITION. Machine/Journal.lean: how commands reach the device and are recorded: the checks of R576 to R586, the take-in,
queries (R589), destinations (R599 to R602), securing (R593), GUAR deliveries (09 R332, R333), the partner's records (R594, R600;
09 R357, R358) and the flow state after a reset (R596, R597). -/
namespace Sys2Proof.Machine

/-! ### Opcodes and bodies (R603; 17 R637) -/

/-- The classes that an opcode allows, QUERY 0, VOLATILE 1, PERSIST 2; none: a reserved opcode. -/
def opClasses (opc : Nat) : List Nat :=
  match opc with
  | 0x01 => [0, 1]
  | 0x04 | 0x31 | 0x41 | 0x71 | 0x72 | 0x82 => [0]
  | 0x02 | 0x03 | 0x10 | 0x11 | 0x12 | 0x13 | 0x20 | 0x21 | 0x22 | 0x23 | 0x30 | 0x40 | 0x50 | 0x52 | 0x60 | 0x61 => [1, 2]
  | 0x51 | 0x70 | 0x80 | 0x81 | 0x83 | 0x84 | 0x85 | 0x86 => [2]
  | _ => []

/-- Whether the words `a, a + 4, ..` of a READ hold an RC register (R592). -/
def holdsRC (a n : Nat) : Bool := (List.range n).any fun i => match regRowAt (a + 4 * i) with | some r => r.rc != 0 | none => false

/-- Word `i` of a body. -/
def bw (body : List Word) (i : Nat) : Nat := (body.getD i 0).toNat

/-- Whether `x` has no bit outside `mask`. -/
def onlyBits (x mask : Nat) : Bool := x &&& mask == x

/-- Whether a body is well formed for its opcode (16 Table 6; 17 Table 6). -/
def bodyOk (opc cls : Nat) (body : List Word) : Bool :=
  let n := body.length
  let w := bw body
  match opc with
  | 0x01 => n == 2 && w 0 % 4 == 0 && 1 ≤ w 1 && w 1 ≤ 256 && !(cls == 1 && 4 < w 1 && holdsRC (w 0) (w 1))
  | 0x02 => 2 ≤ n && w 0 % 4 == 0 && 1 ≤ w 1 && w 1 ≤ 248 && n == 2 + w 1
  | 0x03 => n == 3 && w 0 % 4 == 0
  | 0x10 => 2 ≤ n && onlyBits (w 0) 0x80001FFF && w 1 ≤ 124 && n == 2 + 2 * w 1 && w 0 % 8192 + w 1 ≤ 8192
  | 0x11 => 2 ≤ n && onlyBits (w 0) 0x87FF03FF && w 1 ≤ 62 && n == 2 + 4 * w 1 && w 0 % 1024 + w 1 ≤ 1024
      && !((w 0).testBit 31 && (bitsOf (w 0) 16 11 == 0 || 1024 < bitsOf (w 0) 16 11))
  | 0x12 => n == (if (w 0).testBit 31 then 3 else 1) && onlyBits (w 0) 0x80000003 && w 0 % 4 != 0
  | 0x13 => n == 1 && w 0 < 8
  | 0x30 => n == 3 && 1 ≤ w 0 && w 0 < 65536
  | 0x31 => n == 2 && w 0 < 65536 && onlyBits (w 1) 0x07FF07FF && w 1 % 4 == 0 && bitsOf (w 1) 16 11 % 4 == 0
      && 4 ≤ bitsOf (w 1) 16 11 && bitsOf (w 1) 16 11 ≤ 1024 && bitsOf (w 1) 16 11 + bitsOf (w 1) 0 11 ≤ 2048
  | 0x41 => n == 2 && 1 ≤ w 1 && w 1 ≤ 65535
  | 0x51 => 1 ≤ n && onlyBits (w 0) 0xC001FFFF && w 0 % 4 == 0
  | 0x52 => n == 1 && w 0 < 8
  | 0x71 => n == 1
  | 0x72 => n == 2 && 1 ≤ w 1 && w 1 ≤ 256
  | 0x80 => n == 10 && w 0 != 0 && w 1 < 2048
  | 0x81 => n == 130 && onlyBits (w 1) 0x07FF0007
  | 0x82 => match w 0 with
      | 0 => n == 1
      | 1 => n == 2
      | 2 => n == 3 && w 1 % 4 == 0 && w 2 % 4 == 0 && 4 ≤ w 2 && w 2 ≤ 1024
      | _ => false
  | 0x83 => n == 2 && onlyBits (w 1) 0x900001FF && 1 ≤ w 1 % 512
  | 0x84 => n == (if (w 0).testBit 31 then 3 else 1) && onlyBits (w 0) 0xC0000001
  | 0x86 => n == 2 && w 1 < 2
  | _ => n == 0

/-! ### Destinations (R599 to R602) -/

/-- Where a command goes: this device, the twin partner, or an identity on the ring. -/
inductive Dest where
  | own
  | partner
  | remote (dst : Nat)
  deriving DecidableEq, Repr

/-- The destination that NODE names (R599). -/
def State.destOf (s : State) (node : Nat) : Dest :=
  let id := node % 512
  let me := s.nodeId
  if node = 0xFFFF then .own
  else if node < 32768 then
    if id = s.identityOf me then (if s.active || !s.on F.TWIN_CFG_EN then .own else .partner) else .remote id
  else if id = me then .own
  else if s.on F.TWIN_CFG_EN && id == s.get F.TWIN_CFG_PARTNER then .partner
  else .remote (match s.node id with | some e => if e.pair then id / 2 * 2 else id | none => id)

/-- Whether bits 14..9 of NODE are 0 (R599). -/
def nodeOk (node : Nat) : Bool := node == 0xFFFF || bitsOf node 9 6 == 0

/-- Whether a command answers with DATA frames. -/
def withData (opc : Nat) : Bool := opc == 0x41 || opc == 0x72

/-- Whether a command may go to its destination: toward another node, LEN and final data are bounded, and no DATA frames
(R602); the partner's RESULT record cannot carry DATA frames either (DEDUCED, log 32). -/
def destAllows (d : Dest) (opc : Nat) (body : List Word) : Bool :=
  match d with
  | .own => true
  | .partner => !withData opc
  | .remote _ => !withData opc && body.length ≤ 60 && !(opc == 0x01 && 59 < bw body 1)
      && !(opc == 0x31 && 236 < bitsOf (bw body 1) 16 11) && !(opc == 0x82 && bw body 0 == 2 && 236 < bw body 2)

/-! ### Take-in (R584 to R587) -/

/-- Whether the NVM journal has room for a record of `n` body words. -/
def State.hasRoom (s : State) (n : Nat) : Bool := 28 + 4 * n ≤ s.regN R.HOST_JFREE

/-- Whether the journal takes the record of a command (R586; 14 R512). -/
def State.canTake (s : State) (c : HCmd) : Bool :=
  let node := match s.destOf c.node with | .remote _ => 1 | _ => 0
  !s.pfail && (c.cls != 2 || s.hasRoom (c.body.length + node))

/-- Record a command in the journal and put it into its flow (R586, R593). A REMOTE record ends with the word NODE (DESIGN CHOICE, log 33). -/
def State.takeIn (s : State) (f : Nat) (c : HCmd) : State :=
  let d := s.destOf c.node
  let partner := d == .partner
  let remote := !(d == .own) && !partner
  let jack := s.linked && s.active
  let body := c.body ++ (if remote then [BitVec.ofNat 32 c.node] else [])
  let s := s.journal (c.cls == 2) (.cmd c.key) 1 f c.cls (2 * b2n partner + 4 * b2n remote) c.key.seq c.opc body
  let r : HRec := { cmd := c, nvmWait := c.cls == 2, jackWait := jack, started := false, accepted := false,
                    unmirrored := c.cls == 1 && !jack, partner, remote, apply := false, tick := s.now, prio := f, order := s.host.order }
  let s := { s with host := { s.host with order := s.host.order + 1 } }
  (s.setFlow f { s.flow f with taken := (s.flow f).taken ++ [r] }).setRegN (R.HOST_FLOW_N f) (seqNext c.key.seq)

/-- Take the next command in, or answer that the journal cannot. -/
def State.takeNow (s : State) (f : Nat) (c : HCmd) : State :=
  if s.canTake c then (s.takeIn f c).updateD f
  else (s.failFree c 7).faultNew F.HOST_STAT_JFULL Q.HOST_JFULL (hw 0)

/-- Held commands follow while they carry the next number (R584). -/
def State.takeHeld (s : State) (f : Nat) : Nat → State
  | 0 => s
  | k + 1 =>
    let fl := s.flow f
    match fl.held.find? (·.key.seq == s.regN (R.HOST_FLOW_N f)) with
    | none => s
    | some c => ((s.setFlow f { fl with held := fl.held.filter (·.key != c.key) }).takeNow f c).takeHeld f k

/-- DUPLICATE of a number before N (R591). -/
def State.duplicate (s : State) (f : Nat) (c : HCmd) : State :=
  let fl := s.flow f
  match fl.finals.find? (·.seq == c.key.seq), fl.taken.find? (·.cmd.key == c.key) with
  | some e, _ =>
    s.respond c (4 + 65536 * bitsOf e.word.toNat 0 8 + 2 ^ 24 * bitsOf e.word.toNat 8 8) (b2n e.unmirrored) e.data
  | none, some r => s.respond c (4 + 65536) (b2n r.unmirrored) []
  | none, none => s.respond c 4 0 []

/-- The sequencing of R584. -/
def State.sequence (s : State) (f : Nat) (c : HCmd) : State :=
  let n := s.regN (R.HOST_FLOW_N f)
  if !s.active && stLINKS ≤ s.dev then s.failFree c 2
  else if seqBefore c.key.seq n then s.duplicate f c
  else if 64 ≤ seqDist (s.regN (R.HOST_FLOW_D f)) c.key.seq then s.failFree c 8
  else if c.key.seq = n then (s.takeNow f c).takeHeld f 64
  else if (s.flow f).held.any (·.key == c.key) then s
  else s.setFlow f { s.flow f with held := (s.flow f).held ++ [c] }

/-- A QUERY waits for the commands before it; the device holds 16 of a flow (R589). -/
def State.queryIn (s : State) (f : Nat) (c : HCmd) : State :=
  let fl := s.flow f
  if 16 ≤ fl.queries.length then s.respond c (3 + 256 * 0x0D) 0 []
  else s.setFlow f { fl with queries := fl.queries ++ [(s.host.order, c)] }

/-- The ground on which a command is refused whatever its number (R584, R592, R599, R602). -/
def State.badCmd (s : State) (c : HCmd) : Option Nat :=
  if opClasses c.opc = [] then some 3
  else if !(opClasses c.opc).contains c.cls then some 4
  else if (c.cls != 0 && c.key.seq == 0) || !bodyOk c.opc c.cls c.body || !nodeOk c.node then some 5
  else if c.opc = 0x01 && c.cls == 0 && holdsRC (bw c.body 0) (bw c.body 1) then some 4
  else if !destAllows (s.destOf c.node) c.opc c.body then some 0x0A
  else none

/-- A valid command of flow `f` (R584, R586, R589). -/
def State.rxCmd (s : State) (f : Nat) (c : HCmd) : State :=
  if c.cls != 0 && (s.dev == stSEALED || s.dev == stTHERMAL) then s.failFree c 1
  else
    match s.badCmd c with
    | some r => s.failFree c r
    | none => if c.cls = 0 then s.queryIn f c else s.sequence f c

/-! ### Frames from the host (R576 to R582) -/

/-- Whether the protocol is served on a port (16 Table 11). -/
def State.portOn (s : State) (p : HostPort) : Bool :=
  match p with
  | .hs0 => s.on F.HOST_CTRL_HS0EN
  | .hs1 => s.on F.HOST_CTRL_HS1EN
  | .qspi => s.on F.HOST_CTRL_QEN

/-- The flow of a source address, lowest first (R582). -/
def State.flowOf (s : State) (src : Nat) : Option Nat :=
  (List.range 4).find? fun n => s.on (F.HOST_FLOW_CFG_EN n) && s.reg64 (R.HOST_FLOW_MAC_LO n) == src

/-- Whether a frame breaks R581. -/
def frameBad (h : HostHdr) (body : List Word) : Bool :=
  h.ver != 1 || h.kind != 1 || h.len % 4 != 0 || 1000 < h.len || h.avail < 20 + h.len || body.length < h.len / 4 || !h.crcOk

/-- Discard an Ethernet frame that R576 or R577 does not accept. -/
def State.dropFrame (s : State) : State := s.count R.HOST_DROP 1

/-- Discard a frame under R581. -/
def State.rxErr (s : State) : State := (s.count R.HOST_RXERR 1).faultNew F.HOST_STAT_RXERR Q.HOST_RXERR (hw 0)

/-- The flow that an Ethernet frame is admitted for: 15 a broadcast STATUS of no flow; none with UNKNOWN where the source is
the ground (R577). -/
def State.admitHost (s : State) (h : HostHdr) (opc : Nat) : Option Nat × Bool :=
  let bcast := h.dst == 0xFFFFFFFFFFFF && opc == 4
  if h.etype.toNat != s.get F.HOST_ETYPE_ETYPE || !(h.dst.toNat == s.reg64 R.HOST_MAC_LO || bcast) || 1500 < h.avail then (none, false)
  else match s.flowOf h.src.toNat with
    | some f => (some f, false)
    | none => if bcast then (some 15, false) else (none, true)

/-- A frame of the protocol arrives with the opcode `opc`. In OFF, PMU_UP and BOOT no port listens. -/
def State.hostRx (s : State) (h : HostHdr) (opc : Nat) (body : List Word) : State :=
  if s.dev < stCONFIG || s.sys.offL || !s.portOn h.port then s
  else
    let cmd (f : Nat) (src : Nat) : HCmd :=
      { key := ⟨f, h.seq.toNat⟩, hseq := h.seq.toNat, opc, cls := h.cls.toNat, node := h.node.toNat,
        body := body.take (h.len / 4), src, port := h.port }
    if h.port = .qspi then (if frameBad h body then s.rxErr else s.rxCmd 4 (cmd 4 0))
    else
      match s.admitHost h opc with
      | (none, unknown) => if unknown then s.dropFrame.faultNew F.HOST_STAT_UNKNOWN Q.HOST_UNKNOWN (hw 0) else s.dropFrame
      | (some f, _) =>
        if frameBad h body then s.rxErr
        else (if f < 4 then s.setFlow f { s.flow f with port := h.port, addr := h.src.toNat } else s).rxCmd f (cmd f h.src.toNat)

/-! ### Securing (R593; 09 R333) -/

/-- Change the record of a command, in its flow or among those of the ring and the partner. -/
def State.updRec (s : State) (k : CmdKey) (g : HRec → HRec) : State :=
  let m (l : List HRec) : List HRec := l.map fun r => if r.cmd.key = k then g r else r
  if k.flow < 5 then s.setFlow k.flow { s.flow k.flow with taken := m (s.flow k.flow).taken }
  else { s with host := { s.host with ringCmds := m s.host.ringCmds } }

/-- ACCEPTED of a command of the device's own flows (R590). -/
def State.accept (s : State) (k : CmdKey) : State :=
  if k.flow < 5 then
    match (s.flow k.flow).taken.find? (·.cmd.key == k) with
    | some r =>
      if r.accepted then s
      else
        let s := s.updRec k fun r => { r with accepted := true }
        if r.apply then s else s.respond r.cmd 1 (b2n r.unmirrored) []
    | none => s
  else s

/-- Whether the GUAR send record of a remote command is secured under the command's class (R601). -/
def gmsgSecured (cls : Nat) (m : GMsg) : Bool := !m.jackWait && (cls != 2 || !m.nvmWait)

/-- A remote command whose send record is secured is acknowledged (R601). -/
def State.ackRemote (s : State) (dst seq : Nat) : State :=
  match s.ring.gtx.find? (·.is dst seq) with
  | none => s
  | some m =>
    let mine (r : HRec) : Bool :=
      r.remote && r.started && !r.accepted && bw m.payload 1 == r.cmd.hseq && bw m.payload 2 % 65536 == r.cmd.opc
        && gmsgSecured r.cmd.cls m
    match (List.range 5).findSome? fun f => (s.flow f).taken.find? mine with
    | some r => s.accept r.cmd.key
    | none => s

/-- The number before `n` in the ring of R584. -/
def seqPrev (n : Nat) : Nat := if n = 1 then 0xFFFFFFFF else n - 1

/-- The receive state of the GUAR flow from `o`. -/
def State.grx (s : State) (o : Nat) : GuarRx := spGet guarRxInit s.ring.grx o
def State.setGrx (s : State) (o : Nat) (g : GuarRx) : State :=
  ({ s with ring := { s.ring with grx := spPut guarRxInit s.ring.grx o g } }).guarCount

/-- ACK OK once every delivery is in the NVM journal and mirrored (09 R333). -/
def State.ackDue (s : State) (o : Nat) : State :=
  let g := s.grx o
  match g.ackDue with
  | some p =>
    if g.waitN = [] ∧ g.waitJ = [] ∧ s.active then (s.setGrx o { g with ackDue := none }).guarAck p o false (seqPrev g.next) else s
  | none => s

/-- A write to the NVM journal (`nvm`) or a JACK has secured what a record stands for. -/
def State.secured (s : State) (sec : JSec) (nvm : Bool) : State :=
  match sec with
  | .cmd k => s.updRec k fun r => if nvm then { r with nvmWait := false } else { r with jackWait := false }
  | .guarSend d q =>
    let g (m : GMsg) : GMsg := if m.is d q then (if nvm then { m with nvmWait := false } else { m with jackWait := false }) else m
    (({ s with ring := { s.ring with gtx := s.ring.gtx.map g } }).guarKick d).ackRemote d q
  | .guarDeliver o q =>
    let g := s.grx o
    let g := if nvm then { g with waitN := g.waitN.filter (· != q) } else { g with waitJ := g.waitJ.filter (· != q) }
    ((s.setGrx o g).updRec ⟨1024 + o, q⟩ fun r => if nvm then { r with nvmWait := false } else { r with jackWait := false }).ackDue o
  | .nothing => s

/-! ### GUAR deliveries (09 R332, R333; 16 R601) -/

/-- The command of a GUAR message from `o` with number `q`. -/
def guarCmd (o q : Nat) (p : List Word) : HCmd :=
  { key := ⟨1024 + o, q⟩, hseq := bw p 1, opc := bw p 2 % 65536, cls := bw p 2 / 65536 % 256, node := bw p 3 % 65536,
    body := (p.drop 4).take (bw p 0 / 65536 / 4), src := o, port := .hs0 }

/-- The first outstanding remote command that a response of another node answers: its SEQ and OPC are those of the response
(DESIGN CHOICE, log 34). -/
def State.remoteRec (s : State) (hseq opc : Nat) : Option HRec :=
  (List.range 5).findSome? fun f => (s.flow f).taken.find? fun r => r.remote && r.started && r.cmd.hseq == hseq && r.cmd.opc == opc

/-- A final response from another node. -/
def State.remoteFinal (s : State) (hseq opc word : Nat) (data : List Word) : State :=
  match s.remoteRec hseq opc with
  | some r => s.finishOwn r.cmd.key word data
  | none =>
    match s.host.remQ.find? fun c => c.hseq == hseq && c.opc == opc with
    | some c => ({ s with host := { s.host with remQ := s.host.remQ.erase c } }).respond c word 0 data
    | none => s

/-- Act on a delivered message: a command waits to be executed, a response is given to the host. A STANDBY device only keeps what
its partner gives it as a command of its own (R600). -/
def State.deliverMsg (s : State) (o q : Nat) (p : List Word) (apply : Bool) : State :=
  if bw p 0 / 256 % 256 = 1 then
    let c := guarCmd o q p
    let mine := apply && 32768 ≤ c.node && c.node != 0xFFFF && c.node % 512 == s.nodeId
    let r : HRec := { cmd := c, nvmWait := true, jackWait := !apply && s.linked && s.active, started := false, accepted := false,
                      unmirrored := false, partner := if apply then mine else s.destOf c.node == .partner, remote := false, apply, tick := s.now, prio := 15, order := s.host.order }
    { s with host := { s.host with ringCmds := s.host.ringCmds ++ [r], order := s.host.order + 1 } }
  else
    let c := guarCmd o q p
    s.remoteFinal c.hseq c.opc (bw c.body 0) (c.body.drop 1)

/-- Deliver the message with the next number and write its delivery record. -/
def State.deliver (s : State) (o : Nat) (q : Nat) (p : List Word) : State :=
  let g := s.grx o
  let s := s.setGrx o { g with next := seqNext q, waitN := g.waitN ++ [q], waitJ := if s.linked && s.active then g.waitJ ++ [q] else g.waitJ }
  (s.deliverMsg o q p false).journal true (.guarDeliver o q) 5 15 0 0 q 0 ([BitVec.ofNat 32 q, BitVec.ofNat 32 o] ++ p)

/-- Held messages follow while they carry the next number. -/
def State.deliverHeld (s : State) (o : Nat) : Nat → State
  | 0 => s
  | k + 1 =>
    let g := s.grx o
    match g.held.find? (·.1 == g.next) with
    | none => s
    | some (q, p) => ((s.setGrx o { g with held := g.held.filter (·.1 != q) }).deliver o q p).deliverHeld o k

/-- A GUAR DATA frame arrives (09 R332). While PFAIL is set nothing can be recorded, so it is discarded (DEDUCED, log 35). -/
def State.guarDataRx (s : State) (p : Side) (f : RingFrame) : State :=
  let q := hi32 (ringBlk f 0)
  let o := lo32 (ringBlk f 0) % 512
  let msg := unpack64 (f.data.drop 1)
  let g := s.grx o
  if s.pfail then s
  else if q = g.next then
    let s := (s.deliver o q msg).deliverHeld o 16
    (s.setGrx o { s.grx o with ackDue := some p }).ackDue o
  else if seqBefore q g.next then
    if g.waitN = [] ∧ g.waitJ = [] then s.guarAck p o true (seqPrev g.next) else s.setGrx o { g with ackDue := some p }
  else if seqDist g.next q ≤ 15 then
    if g.held.any (·.1 == q) then s else s.setGrx o { g with held := g.held ++ [(q, msg)] }
  else s

/-! ### Records from the partner (R594, R600; 09 R357) -/

/-- A record from the words of a JRNL frame; none where its check word or length is wrong. -/
def recOf (ws : List Word) : Option JRec :=
  let w := bw ws
  let n := (w 3 / 65536 - 8) / 4
  let r : JRec := { pos := w 0, kind := w 1 % 256, flow := w 1 / 256 % 256, cls := w 1 / 65536 % 256, flags := w 1 / 2 ^ 24, seq := w 2,
                    opc := w 3 % 65536, t := w 4 + 2 ^ 32 * w 5, body := (ws.drop 6).take n }
  if ws.take (7 + n) = r.full then some r else none

/-- JACK for a record. -/
def State.jack (s : State) (pos : Nat) : State := s.twinSend 8 0 [BitVec.ofNat 64 pos]

/-- The command of a CMD record: key, destination, and where its answer would go. -/
def State.recCmd (s : State) (r : JRec) : HCmd :=
  let remote := r.flags.testBit 2
  let node := if remote then bw r.body (r.body.length - 1) else if r.flags.testBit 1 then 32768 + s.get F.TWIN_CFG_PARTNER else 0xFFFF
  { key := ⟨r.flow, r.seq⟩, hseq := r.seq, opc := r.opc, cls := r.cls, node, body := if remote then r.body.dropLast else r.body,
    src := s.reg64 (R.HOST_FLOW_MAC_LO r.flow), port := if r.flow = 4 then .qspi else (s.flow r.flow).port }

/-- A record that waits in its flow for its application (R594). -/
def State.applyRec (s : State) (r : JRec) (wait : Bool) : HRec :=
  { cmd := s.recCmd r, nvmWait := wait, jackWait := false, started := false, accepted := false, unmirrored := false,
    partner := r.flags.testBit 1, remote := r.flags.testBit 2, apply := true, tick := s.now, prio := 0, order := s.host.order }

/-- A command of the partner that this device executes as its own (R600). -/
def State.partnerRec (s : State) (r : JRec) (wait : Bool) : HRec :=
  let e := s.applyRec r wait
  { e with cmd := { e.cmd with key := ⟨16 + r.flow, r.seq⟩, node := 0xFFFF }, partner := false, apply := false }

/-- A CMD record takes its place: in its flow, whose N and D follow, and where it is addressed to this device also among the
commands to execute (R594, R600). -/
def State.placeCmd (s : State) (r : JRec) (wait : Bool) : State :=
  let own := r.flow < 5 && r.cls != 0
  let s := if own then
      let f := r.flow
      ((s.setFlow f { s.flow f with taken := (s.flow f).taken ++ [s.applyRec r wait] }).setRegN (R.HOST_FLOW_N f) (seqNext r.seq)).updateD f
    else s
  let s := if r.flags.testBit 1 then { s with host := { s.host with ringCmds := s.host.ringCmds ++ [s.partnerRec r wait] } } else s
  { s with host := { s.host with order := s.host.order + 1 } }

/-- A GUAR send record: the message joins the flow, not sent here (09 R333). -/
def State.placeSend (s : State) (r : JRec) : State :=
  let m : GMsg := { dst := r.opc, orig := bw r.body 1, seq := r.seq, payload := r.body.drop 2, nvmWait := true, jackWait := false, last := none }
  ({ s with ring := { s.ring with gtx := s.ring.gtx ++ [m], gnext := spPut 1 s.ring.gnext r.opc (seqNext r.seq) } }).guarCount

/-- A GUAR delivery record: the flow's next number follows, and the message is applied. -/
def State.placeDelivery (s : State) (r : JRec) : State :=
  let o := bw r.body 1
  (s.setGrx o { s.grx o with next := seqNext r.seq }).deliverMsg o r.seq (r.body.drop 2) true

/-- A RESULT record answers a command that this device gave its partner (R600). -/
def State.placeResult (s : State) (r : JRec) : State :=
  let word := bw r.body 0
  let data := r.body.drop 1
  if r.cls = 0 ∧ r.flow < 5 then s.remoteFinal r.seq r.opc word data
  else if r.flow < 5 then
    (match (s.flow r.flow).taken.find? fun e => e.partner && e.cmd.key.seq == r.seq && e.cmd.opc == r.opc with
     | some e => s.finishOwn e.cmd.key word data
     | none => s)
  else
    match s.host.ringCmds.find? fun e => e.partner && e.cmd.key.seq == r.seq && e.cmd.opc == r.opc with
    | some e => ({ s with host := { s.host with ringCmds := s.host.ringCmds.filter (·.cmd.key != e.cmd.key) } }).finishRing e word data
    | none => s

/-- Whether the device holds a record of the partner already. -/
def State.holdsRec (s : State) (r : JRec) : Bool := (s.host.ramJ ++ s.host.nvmJ).contains r

/-- Whether a record goes to the NVM journal: PERSIST commands and GUAR records (09 R357). -/
def JRec.persists (r : JRec) : Bool := (r.kind == 1 && r.cls == 2) || r.kind == 4 || r.kind == 5

/-- What a record of the partner secures here. -/
def JRec.secures (r : JRec) : JSec :=
  match r.kind with
  | 1 => .cmd ⟨if r.flow < 5 then r.flow else 16 + r.flow, r.seq⟩
  | 4 => .guarSend r.opc r.seq
  | 5 => .guarDeliver (bw r.body 1) r.seq
  | _ => .nothing

/-- Hold a record in RAM, or start its NVM write, and let it take its place; JACK follows the NVM write. -/
def State.takeRecord (s : State) (r : JRec) : State :=
  let s := s.setRegN R.HOST_JPOS (max (s.regN R.HOST_JPOS) r.pos)
  let nvm := r.persists
  let s := if nvm then (s.nvmRecord r r.secures (some r.pos)) else ({ s with host := { s.host with ramJ := s.host.ramJ ++ [r] } }).jack r.pos
  let s := if nvm then { s with twin := { s.twin with jackDue := s.twin.jackDue ++ [r.pos] } } else s
  match r.kind with
  | 1 => s.placeCmd r nvm
  | 4 => s.placeSend r
  | 5 => s.placeDelivery r
  | 6 => s.placeResult r
  | _ => s

/-- A JRNL frame: the record is taken once; one that is held already is only acknowledged again. While PFAIL is set no record
can be written, so a record for the NVM journal is not taken (14 R512). -/
def State.jrnlRx (s : State) (f : LinkFrame) : State :=
  match recOf (unpack64 f.data) with
  | none => s
  | some r =>
    if s.holdsRec r then (if s.twin.jackDue.contains r.pos then s else s.jack r.pos)
    else if r.persists && (s.pfail || !s.hasRoom r.body.length) then s
    else s.takeRecord r

/-- JACK acknowledges the record of its position (R593). -/
def State.jackRx (s : State) (pos : Nat) : State :=
  match s.twin.unacked.find? (·.1 == pos) with
  | none => s
  | some (_, sec, _) =>
    ({ s with twin := { s.twin with unacked := s.twin.unacked.filter (·.1 != pos) } }).secured sec false

/-- Send a record again that no JACK covers (09 R357). -/
def State.jrnlResend (s : State) (pos : Nat) : State :=
  if s.linked then
    (match s.twin.unacked.find? (·.1 == pos) with
     | some (_, _, d) => s.twinSend 7 0 d
     | none => s)
  else s

/-- The partner is no longer LINKED: every record that waits for its JACK is not mirrored (09 R357; R593). -/
def State.releaseJacks (s : State) : State :=
  let secs := s.twin.unacked.map (·.2.1)
  let s := { s with twin := { s.twin with unacked := [] } }
  let s := secs.foldl (fun s sec => match sec with
    | .cmd k => s.updRec k fun r => { r with unmirrored := r.cmd.cls == 1 }
    | _ => s) s
  secs.foldl (fun s sec => s.secured sec false) s

/-! ### NVM writes (R593; 09 R357, R364) -/

/-- The first write in progress completes. -/
def State.nvmDone (s : State) : State :=
  match s.nvm.jobs with
  | [] => s
  | j :: r =>
    let s := ({ s with nvm := { s.nvm with jobs := r } }).count R.NVM_WRCNT 1
    let s := if r = [] then s.set F.NVM_STAT_BUSY 0 else s
    match j with
    | .record sec none => s.secured sec true
    | .record sec (some pos) =>
      (({ s with twin := { s.twin with jackDue := s.twin.jackDue.filter (· != pos) } }).jack pos).secured sec true
    | .ckpt n => s.twinSend 10 0 [BitVec.ofNat 64 n]
    | .other => s

/-- PFAIL clears: records that waited are written (14 R512). -/
def State.flushLate (s : State) : State :=
  let l := s.host.late
  l.foldl (fun s e => s.nvmRecord e.1 e.2 none) { s with host := { s.host with late := [] } }

/-! ### Resynchronisation (09 R358) -/

/-- The kept final responses as data blocks, three each: number and word, then 16 bytes of data (DESIGN CHOICE, log 36). -/
def finalBlocks (e : HFinal) : List Word64 := [blk e.seq e.word.toNat, blk (bw e.data 1) (bw e.data 0), blk (bw e.data 3) (bw e.data 2)]

/-- Final responses, at most 42 to a frame. -/
def finalChunks : Nat → List HFinal → List (List HFinal)
  | 0, _ => []
  | k + 1, l => l.take 42 :: (if l.drop 42 = [] then [] else finalChunks k (l.drop 42))

/-- The JSYNC frames of a host flow: N, D, the flow, kept responses. -/
def State.flowFrames (s : State) (f : Nat) : List (List Word64) :=
  (finalChunks 7 (s.flow f).finals).map fun l =>
    blk (s.regN (R.HOST_FLOW_N f)) (s.regN (R.HOST_FLOW_D f)) :: blk 0 f :: l.flatMap finalBlocks

/-- The JSYNC frames of the GUAR flows: next expected, next sent, identity. -/
def State.guarFrames (s : State) : List (List Word64) :=
  let ids := (s.ring.grx.map (·.1) ++ s.ring.gnext.map (·.1)).eraseDups
  ids.map fun i => [blk (s.grx i).next (spGet 1 s.ring.gnext i), blk (2 ^ 31) i]

/-- Whether the command or message of a record is not yet final. -/
def State.recOpen (s : State) (r : JRec) : Bool :=
  (r.kind == 1 && r.flow < 5 && (s.flow r.flow).taken.any fun e => e.cmd.key.seq == r.seq) ||
  (r.kind == 1 && r.flow == 15 && s.host.ringCmds.any fun e => e.partner && e.cmd.key.seq == r.seq && e.cmd.opc == r.opc) ||
  (r.kind == 4 && s.ring.gtx.any fun m => m.is r.opc r.seq) ||
  (r.kind == 5 && s.host.ringCmds.any fun e => e.cmd.key == ⟨1024 + bw r.body 1, r.seq⟩)

/-- The ACTIVE device resynchronises its new standby: JSYNC frames, then its open records as JRNL frames. -/
def State.resync (s : State) : State :=
  let js := s.guarFrames ++ (List.range 5).flatMap s.flowFrames
  let s := js.foldl (fun s d => s.twinSend 13 0 d) s
  let recs := (s.host.ramJ ++ s.host.nvmJ).filter s.recOpen
  let s := recs.foldl (fun s r =>
    let d := pack64 r.full
    ({ s with twin := { s.twin with unacked := s.twin.unacked ++ [(r.pos, JSec.nothing, d)] } }).twinSend 7 0 d) s
  { s with twin := { s.twin with synced := true } }

/-- Records without a FINAL record. -/
def State.unfinished (s : State) (r : JRec) : Bool :=
  r.kind == 1 && !((s.host.nvmJ ++ s.host.ramJ).any fun q => q.kind == 3 && q.flow == r.flow && q.seq == r.seq)

/-- The standby drops its own flow and GUAR state and its CMD records that have no FINAL record, before it takes the state
received. -/
def State.dropFlows (s : State) : State :=
  let gone := (s.host.nvmJ.filter s.unfinished).foldl (fun a r => a + r.size) 0
  let nv := s.host.nvmJ.filter (!s.unfinished ·)
  let ram := s.host.ramJ.filter (!s.unfinished ·)
  let s := { s with host := { s.host with nvmJ := nv, ramJ := ram, ringCmds := [], ops := [] },
                    ring := { s.ring with gtx := [], gnext := [], grx := [] } }
  let s := (List.range 8).foldl (fun s n => s.set (F.HOST_OP_STAT_BUSY n) 0) (s.setRegN R.HOST_JFREE (s.regN R.HOST_JFREE + gone))
  ((List.range 5).foldl (fun s f => s.setFlow f { s.flow f with held := [], taken := [], finals := [] }) s).guarCount

/-- The final responses of a JSYNC frame. -/
def finalsOf : List Word64 → List HFinal
  | a :: b :: c :: r => { seq := hi32 a, word := BitVec.ofNat 32 (lo32 a), data := unpack64 [b, c], unmirrored := false } :: finalsOf r
  | _ => []

/-- The standby takes the state of one flow. -/
def State.jsyncRx (s : State) (f : LinkFrame) : State :=
  let s := if s.twin.resync = 1 then { s.dropFlows with twin := { s.dropFlows.twin with resync := 2 } } else s
  if s.twin.resync != 2 then s
  else
    let d0 := f.data.getD 0 0
    let d1 := f.data.getD 1 0
    if hi32 d1 / 2 ^ 31 = 1 then
      let i := lo32 d1 % 512
      let s := s.setGrx i { guarRxInit with next := hi32 d0 }
      { s with ring := { s.ring with gnext := spPut 1 s.ring.gnext i (lo32 d0) } }
    else
      let k := lo32 d1 % 512
      if k < 5 then
        let fl := s.flow k
        ((s.setFlow k { fl with finals := fl.finals ++ finalsOf (f.data.drop 2) }).setRegN (R.HOST_FLOW_N k) (hi32 d0)).setRegN
          (R.HOST_FLOW_D k) (lo32 d0)
      else s

/-- Once the frames of the resynchronisation are received and written, the last one is answered with JACK. -/
def State.resyncEnd (s : State) : State :=
  if s.twin.resync = 3 ∧ s.twin.jackDue = [] then ({ s with twin := { s.twin with resync := 0 } }).jack (s.regN R.HOST_JPOS) else s

/-! ### The flow state after a reset (R596, R597) -/

/-- The final responses that the NVM journal holds of a flow, newest first. -/
def State.journalFinals (s : State) (f : Nat) : List HFinal :=
  ((s.host.nvmJ.filter fun r => r.kind == 3 && r.flow == f).map fun r : JRec =>
    ({ seq := r.seq, word := r.body.getD 0 0, data := r.body.drop 1, unmirrored := false } : HFinal)).reverse.take 256

/-- Whether a STARTED record stands for a command. -/
def State.wasStarted (s : State) (flow seq : Nat) : Bool := s.host.nvmJ.any fun r => r.kind == 2 && r.flow == flow && r.seq == seq

/-- One flow from the NVM journal: N after its newest PERSIST record, D, the responses, and the records without a FINAL record,
which wait until they are worked through. -/
def State.rebuildFlow (s : State) (f : Nat) : State :=
  let cmds := s.host.nvmJ.filter fun r => r.kind == 1 && r.flow == f
  let open_ := cmds.filter s.unfinished
  let recs := open_.map fun r => { s.applyRec r true with started := s.wasStarted f r.seq }
  let n := match cmds.getLast? with | some r => seqNext r.seq | none => s.regN (R.HOST_FLOW_N f)
  ((s.setFlow f { s.flow f with taken := recs, finals := s.journalFinals f }).setRegN (R.HOST_FLOW_N f) n).updateD f

/-- The GUAR flows from the NVM journal (09 R333): messages not covered by an ACK, next numbers, and delivered commands without a
FINAL record. -/
def State.rebuildGuar (s : State) : State :=
  s.host.nvmJ.foldl (fun s r =>
    if r.kind = 4 then
      let m : GMsg := { dst := r.opc, orig := bw r.body 1, seq := r.seq, payload := r.body.drop 2, nvmWait := false, jackWait := false,
                        last := some .west }
      ({ s with ring := { s.ring with gtx := s.ring.gtx ++ [m], gnext := spPut 1 s.ring.gnext r.opc (seqNext r.seq) } }).guarCount
    else if r.kind = 5 then
      let o := bw r.body 1
      let p := r.body.drop 2
      let s := s.setGrx o { s.grx o with next := seqNext r.seq }
      let final := s.host.nvmJ.any fun q => q.kind == 3 && q.flow == 15 && q.seq == r.seq && q.opc == bw p 2 % 65536
      if bw p 0 / 256 % 256 = 1 && (guarCmd o r.seq p).cls == 2 && !final then
        let e : HRec := { cmd := guarCmd o r.seq p, nvmWait := true, jackWait := false, started := s.wasStarted 15 r.seq, accepted := true,
                          unmirrored := false, partner := s.destOf (guarCmd o r.seq p).node == .partner, remote := false, apply := false,
                          tick := s.now, prio := 0, order := s.host.order }
        { s with host := { s.host with ringCmds := s.host.ringCmds ++ [e], order := s.host.order + 1 } }
      else s
    else s) s

/-- Work through the unfinished PERSIST records: one with a STARTED record is final as FAILED RESET, another is to be executed. -/
def State.workThrough (s : State) : State :=
  let all := (List.range 5).flatMap (fun f => (s.flow f).taken) ++ s.host.ringCmds
  (all.filter (·.nvmWait)).foldl (fun s r =>
    if r.started then (s.failed r.cmd.key 9).faultNew F.HOST_STAT_RESETFIN Q.HOST_RESETFIN (hw 0)
    else s.updRec r.cmd.key fun e => { e with nvmWait := false }) s

/-- The first entry to CONFIG or DEFAULT after a reset (R596); with a twin the working through waits for LINKS (R597). -/
def State.rebuild (s : State) : State :=
  if s.host.rebuilt then s
  else
    let s := ((List.range 5).foldl State.rebuildFlow s).rebuildGuar
    let s := { s with host := { s.host with rebuilt := true, order := s.host.order + 1 } }
    if s.on F.TWIN_CFG_EN then s else s.workThrough

/-! ### Twin frames (09 R347) and the commands -/

/-- Whether LEN is that of the frame type (09 Table 6). -/
def twinLenOk (f : LinkFrame) : Bool :=
  match f.ftype with
  | 1 | 6 => f.len == 2
  | 2 => f.len == 3
  | 3 => f.len == 32
  | 4 => f.len % 16 == 1 && 17 ≤ f.len && f.len ≤ 129
  | 5 => f.len % 2 == 1 && 3 ≤ f.len && f.len ≤ 129
  | 7 | 9 => 1 ≤ f.len && f.len ≤ 129
  | 8 | 10 | 11 | 12 => f.len == 1
  | 13 => 2 ≤ f.len && f.len ≤ 129
  | _ => false

/-- A twin frame of type `ty` arrives: it counts while the agent runs, the port's lanes are UP and the frame is valid. -/
def State.twinIn (s : State) (f : LinkFrame) (ty : Nat) (act : State → State) : State :=
  if s.on F.TWIN_CFG_EN && s.portUp 2 && f.ok && f.ftype == ty && twinLenOk f && f.data.length == f.len then act s else s

/-- Data block `i` of a twin frame. -/
def twinBlk (f : LinkFrame) (i : Nat) : Nat := (f.data.getD i 0).toNat

/-- GUAR_DATA_RX (09 R332). -/
def execGuarDataRx (p : Side) (f : RingFrame) (s : State) : Host.Outcome State Fault Refusal :=
  .next (settle s (s.ringIn p f (isGuar f 0) fun s => s.guarDataRx p f))

/-- JRNL_RX (09 R357; 16 R594). -/
def execJrnlRx (f : LinkFrame) (s : State) : Host.Outcome State Fault Refusal :=
  .next (settle s (s.twinIn f 7 fun s => s.jrnlRx f))

/-- JRNL_RESEND (09 R357). -/
def execJrnlResend (pos : Word) (s : State) : Host.Outcome State Fault Refusal := .next (settle s (s.jrnlResend pos.toNat))

/-- JACK_RX (R593). -/
def execJackRx (f : LinkFrame) (s : State) : Host.Outcome State Fault Refusal :=
  .next (settle s (s.twinIn f 8 fun s => s.jackRx (twinBlk f 0 % 2 ^ 32)))

/-- JSYNC_RX (09 R358). -/
def execJsyncRx (f : LinkFrame) (s : State) : Host.Outcome State Fault Refusal :=
  .next (settle s (s.twinIn f 13 fun s => s.jsyncRx f))

/-- NVM_WRITE_COMPLETE (R593; 09 R357). -/
def execNvmWriteComplete (s : State) : Host.Outcome State Fault Refusal := .next (settle s s.nvmDone.resyncEnd)

end Sys2Proof.Machine
end

