-- ==== Sys2Proof/Machine/Ocl.lean ====
section
/-! DEFINITION. Machine/Ocl.lean: what the device does with the frames of the pods, its window frames, the OCL rows of the inbox
and the OCL registers (07_cell_link.md R250 to R287). -/
namespace Sys2Proof.Machine

/-! ### Claims (R258) -/

/-- Whether claim `a` is higher than claim `b`; 0 is no claim. -/
def claimHigher (a b : Nat) : Bool :=
  if a = 0 then false else if b = 0 then true
  else
    let d := (a + 65536 - b % 65536) % 65536
    if d = 32768 then b < a else 1 ≤ d && d ≤ 32767

/-! ### Capability (Tables 12, 14; R254, R257) -/

def State.capOf (s : State) (l : Nat) : Nat := s.reg64 (R.OCL_LCAP_LO l)
def capVMAX (c : Nat) : Nat := bitsOf c 40 8
def capTACC (c : Nat) : Nat := bitsOf c 20 4
def capBYP (c : Nat) : Bool := c.testBit 16
def capNFRM (c : Nat) : Nat := bitsOf c 12 4
def capNSMP (c : Nat) : Nat := bitsOf c 7 5
def capNCH (c : Nat) : Nat := bitsOf c 3 4

/-- The versions of Table 13. -/
def oclVersions : List Nat := [0x20, 0x11, 0x10]

/-- Five times the class bound in ET (Table 14). -/
def classBound5 (tacc : Nat) : Nat :=
  if tacc = 0 then 8 else if tacc = 1 then 16 else if tacc = 2 then 32 else if tacc = 3 then 80 else 160

/-- The REASON for which a capability word fails (R257); 0 where it passes. -/
def State.capReason (s : State) (l cap : Nat) : Nat :=
  if !oclVersions.contains (capVMAX cap) || s.get F.OCL_TCFG_VMAX < 0x10 then 1
  else if capNCH cap < s.get (F.OCL_LCFG_NCHREQ l) then 2
  else if capNSMP cap < s.get F.OCL_INMAP_S || capNFRM cap < s.get F.OCL_INMAP_F then 3
  else if !capBYP cap && (s.on (F.OCL_LCFG_BYPREQ l) || s.on (F.OCL_LCFG_LLBYP l)) then 4
  else if 4 < capTACC cap || s.get (F.OCL_LCFG_ACCMAX l) < capTACC cap then 5 else 0

/-- The negotiated version (R254). -/
def State.version (s : State) (cap : Nat) : Nat :=
  (oclVersions.find? fun v => v ≤ s.get F.OCL_TCFG_VMAX && v ≤ capVMAX cap).getD 0

/-! ### Receiving (R250, R251) -/

/-- Whether the header of an upstream frame suits its type (Tables 4, 10, 11; R250). -/
def State.upValid (s : State) (f : LinkFrame) : Bool :=
  f.ok && f.data.length == f.len &&
  (if f.ftype = 8 then f.len == 1 + (s.get F.OCL_INMAP_S + 3) / 4 && f.tspec / 8 == 0 && f.tspec % 8 < s.get F.OCL_INMAP_F
   else f.ftype == 9 && f.tspec / 256 % 256 == 0 &&
     (let kind := f.tspec / 2 ^ 16
      if kind = 0 then f.len == 3
      else if kind = 1 then f.len == 1 && f.tspec % 256 == 0
      else kind == 2 && f.len == 1 && (f.data.headD 0).toNat / 2 ^ 16 % 2 ^ 16 == 0))

/-- An upstream frame that is not valid is discarded and counted (R250, Table 24). -/
def State.upInvalid (s : State) (l : Nat) : State :=
  (s.count (R.OCL_LCRC l) 1).oclFault l F.OCL_LSTAT_CRCERR Q.OCL_CRCERR

/-- A gap in SEQ is counted (R251). -/
def State.upSeq (s : State) (l : Nat) (f : LinkFrame) : State :=
  let x := s.lane l
  let gap := match x.rxSeq with | some q => f.seq != (q + 1) % 256 | none => false
  let s := s.setLane l { x with rxSeq := some f.seq }
  if gap then s.count (R.OCL_LSEQ l) 1 else s

/-! ### STATUS CAP (R257) -/

/-- A capability word is checked: CONFIG with SETCFG, or FAIL. -/
def State.capRx (s : State) (l : Nat) (f : LinkFrame) : State :=
  if s.ostate l != loQUERY then s
  else
    let cap := (f.data.headD 0).toNat
    let s := s.setReg64 (R.OCL_LCAP_LO l) cap
    let r := s.capReason l cap
    if r != 0 then s.toFail l r else (s.set (F.OCL_LSTATE_VER l) (s.version cap)).toState l loCONFIG

/-! ### STATUS ACK (R256, R279, R280) -/

/-- The answer to a SETCFG: OK with the device's own CRC, else FAIL with CONFIG (Table 15). -/
def State.setcfgAck (s : State) (l : Nat) (c : OclCmd) (result crc : Nat) : State :=
  if result = 0 && crc == (crc32 (c.data.flatMap blockBytes)).toNat then
    if s.ostate l = loCONFIG then s.toState l loTSYNC else (s.setLane l { s.lane l with cmd := none }).nextCmd l
  else (s.setLane l { s.lane l with cmd := none }).toFail l 6

/-- An ACK to the outstanding command, by SEQ and OPC. -/
def State.ackRx (s : State) (l : Nat) (f : LinkFrame) : State :=
  match (s.lane l).cmd with
  | none => s
  | some c =>
    let d := (f.data.headD 0).toNat
    let result := bitsOf d 8 8
    if f.tspec % 256 != c.seq || d % 256 != c.opc then s
    else if c.opc = 2 then s.setcfgAck l c result (d / 2 ^ 32)
    else
      let x := s.lane l
      let x := { x with cmd := none }
      let x := if result != 0 then x else if c.opc = 3 then { x with commanded := true }
        else if c.opc = 4 then { x with commanded := false, held := if x.held = 0 then 0 else if s.get ⟨R.OCL_LPST l, 16, 2⟩ = 0 then 0 else 2 } else x
      let s := s.setLane l x
      let s := if c.src = 1 then
          ((s.set F.OCL_LCMDST_BUSY 0).set F.OCL_LCMDST_RESULT result).setRegN R.OCL_LCMDDATA (d / 2 ^ 32)
        else s
      s.nextCmd l

/-! ### STATUS PERIODIC (R262 to R266, R274) -/

/-- DDN: the mean of the accepted values, from twice each (R264). -/
def meanOf (l : List Int) : Int := roundDiv (l.foldl (· + ·) 0) (2 * l.length)

/-- A value of d, given twice, is taken into the mean or not (R264). -/
def State.delayTake (s : State) (l : Nat) (d2 : Int) : State :=
  let x := s.lane l
  let show_ (x : OclLane) (s : State) : State :=
    let s := s.setLane l x
    let old := s.get (F.OCL_LDELAY_DDN l)
    let s := s.set (F.OCL_LDELAY_DDN l) (encS 24 (meanOf x.dAcc))
    if s.get (F.OCL_LDELAY_DDN l) = old then s else s.setRmax l
  let far := !x.dAcc.isEmpty && 2 * (s.get F.OCL_TCFG_DWIN : Int) < (d2 - 2 * meanOf x.dAcc).natAbs
  if far then
    let rej := x.dRej ++ [d2]
    let s := s.oclFault l F.OCL_LSTAT_DJUMP Q.OCL_DJUMP
    if 4 ≤ rej.length then show_ { x with dAcc := rej, dRej := [], dRun := 0 } s
    else s.setLane l { x with dRej := rej, dRun := 0 }
  else
    let acc := x.dAcc ++ [d2]
    let acc := acc.drop (acc.length - 8)
    let s := show_ { x with dAcc := acc, dRej := [], dRun := x.dRun + 1 } s
    if x.dAcc.isEmpty then s.setRmax l else s

/-- TSYNC ends once 8 values in a row were accepted and the pod shows TLOCK (R266; Table 15). -/
def State.tsyncExit (s : State) (l : Nat) (tlock : Bool) : State :=
  if s.ostate l = loTSYNC && 8 ≤ (s.lane l).dRun then
    if s.get (F.OCL_LRMAX_RMAX l) < s.get (F.OCL_LCFG_RMIN l) then s.toFail l 7
    else if tlock then s.toState l loREADY else s
  else s

/-- The bits of a PERIODIC's block 2. -/
def perHOLD (p : Nat) : Nat := bitsOf p 20 4
def perBYPST (p : Nat) : Nat := bitsOf p 16 2
def perGDF (p : Nat) : Nat := bitsOf p 8 8
def perDESAT (p : Nat) : Nat := bitsOf p 0 8

/-- What a PERIODIC reports beside the delay (Tables 11, 24; R262, R266, R274, R279). -/
def State.perStatus (s : State) (l claim b1 b2 : Nat) : State :=
  let old := s.regN (R.OCL_LPST l)
  let p := b2 % 2 ^ 32
  let x := s.lane l
  let x := { x with perClaim := some claim, held := if x.held = 2 && perBYPST p == 0 then 0 else x.held }
  let s := (s.setLane l x).setFollow l
  let s := ((s.setRegN (R.OCL_LPST l) p).setRegN (R.OCL_LPERR l) (b1 % 2 ^ 16 * 2 ^ 16 + b1 / 2 ^ 16 % 2 ^ 16)).setB (F.OCL_LSTATE_TLOCK l) (p.testBit 18)
  let s := if b2 / 2 ^ 32 = 0 then s else s.setRegN (R.OCL_LFSTAMP l) (b2 / 2 ^ 32)
  let s := s.count (R.OCL_LHOLD l) (perHOLD p - perHOLD old)
  let s := s.setPairBit R.OCL_BYP_LO l (perBYPST p != 0)
  let fresh (new o : Nat) : Bool := new - (new &&& o) != 0
  let s := if fresh (perDESAT p) (perDESAT old) then s.oclFault l F.OCL_LSTAT_DESAT Q.OCL_DESAT else s
  let s := if fresh (perGDF p) (perGDF old) then s.oclFault l F.OCL_LSTAT_GDF Q.OCL_GDF else s
  let s := if perBYPST p != perBYPST old then s.oclFault l F.OCL_LSTAT_BYPCHG Q.OCL_BYPCHG else s
  let s := if perHOLD p != 0 then s.oclFault l F.OCL_LSTAT_HOLD Q.OCL_HOLD else s
  let s := if p.testBit 24 || p.testBit 25 then s.oclFault l F.OCL_LSTAT_LVLERR Q.OCL_LVLERR else s
  let s := if p.testBit 26 then s.oclFault l F.OCL_LSTAT_CLASH Q.OCL_CLASH else s
  let perr := signedOf 16 (b1 / 2 ^ 16)
  if s.ostate l = loREADY && 0x11 ≤ s.get (F.OCL_LSTATE_VER l) && 2 * classBound5 (capTACC (s.capOf l)) < 5 * perr.natAbs then
    s.oclFault l F.OCL_LSTAT_TERR Q.OCL_TERR
  else s

/-- A PERIODIC, its SOF arriving `sub` ET into the tick (R263, R264, R363). -/
def State.perRx (s : State) (l : Nat) (f : LinkFrame) (sub : Nat) : State :=
  let b1 := (f.data.getD 1 0).toNat
  let s := s.perStatus l f.claim b1 (f.data.getD 2 0).toNat
  let x := s.lane l
  let s := match x.t1 with
    | some t1 =>
      if f.tspec % 256 = (x.tseq + 255) % 256 then
        let t4 := ctAdd (s.now + sub) (signedOf 16 (s.get (F.LANE_TSOFS_RX l)))
        s.delayTake l (ctDiff t4 t1 - (b1 / 2 ^ 32 : Nat) + 2 * signedOf 16 (s.get (F.OCL_LASYM_ASYM l)))
      else s
    | none => s
  let s := s.tsyncExit l ((f.data.getD 2 0).toNat.testBit 18)
  if s.on F.TWIN_CFG_EN && s.active && s.ostate l == loREADY && claimHigher f.claim (s.get F.OCL_CLAIM_CLAIM) then
    { s with twin := { s.twin with depose := true } }
  else s

/-! ### SAMPLE (R286) -/

/-- A SAMPLE frame is held for the commit; a later one of its slot replaces it. -/
def State.sampleRx (s : State) (l : Nat) (f : LinkFrame) : State :=
  let vals := (f.data.tail.flatMap fun d => (List.range 4).map fun m => BitVec.ofNat 16 (d.toNat / 2 ^ (16 * m))).take (s.get F.OCL_INMAP_S)
  let x := s.lane l
  let new : OclSample := { slot := f.tspec % 8, stamp := (f.data.headD 0).toNat, vals }
  s.setLane l { x with samples := new :: x.samples.filter (·.slot != new.slot) }

/-- A frame of a pod arrives on a lane (R247 to R251). A lane that is not block-locked or whose link is OFF or DOWN takes
nothing. -/
def State.upRx (s : State) (l : Nat) (f : LinkFrame) (sub : Nat) : State :=
  if !s.laneLocked l || s.ostate l < loQUERY then s
  else if !s.upValid f then s.upInvalid l
  else
    let s := s.upSeq l f
    if f.ftype = 8 then s.sampleRx l f
    else if f.tspec / 2 ^ 16 = 1 then s.capRx l f
    else if f.tspec / 2 ^ 16 = 2 then s.ackRx l f
    else s.perRx l f sub

/-! ### Timers (R256, R262, R280, R283) -/

/-- 100 µs after the last CAPQ without an answer another one goes out; 32 unanswered ones set NOCAP (Table 15). -/
def State.capqTimer (s : State) (l : Nat) : State :=
  if s.ostate l != loQUERY then s
  else
    let s := if (s.lane l).capSends = 32 then s.oclFault l F.OCL_LSTAT_NOCAP Q.OCL_NOCAP else s
    s.sendCapq l

/-- Send the outstanding command again (R251, R280). -/
def State.cmdAgain (s : State) (l : Nat) (c : OclCmd) : State :=
  (s.setLane l { s.lane l with cmd := some { c with due := true } }).lanePump l

/-- 20 µs after a SETCFG without an ACK: at most 3 sends, then FAIL (Table 15). -/
def State.setcfgTimer (s : State) (l : Nat) : State :=
  match (s.lane l).cmd with
  | some c =>
    if c.opc != 2 || c.due then s
    else if c.sends < 3 then s.cmdAgain l c
    else (s.setLane l { s.lane l with cmd := none }).toFail l 6
  | none => s

/-- 20 µs after a command without an answer: sent again at most 3 times, then it fails (R280). -/
def State.cmdTimer (s : State) (l : Nat) : State :=
  match (s.lane l).cmd with
  | some c =>
    if c.opc = 2 || c.due then s
    else if c.sends < 4 then s.cmdAgain l c
    else (s.cmdFail l c).nextCmd l
  | none => s

/-- FOLLOW has been 0 for 8 periods in a row on a READY lane of an ACTIVE device (R262). -/
def State.foreign (s : State) (l : Nat) : State :=
  if s.active && s.ostate l == loREADY && 8 ≤ (s.lane l).followRun then s.oclFault l F.OCL_LSTAT_FOREIGN Q.OCL_FOREIGN else s

/-- At a boundary the periods with FOLLOW at 0 are counted (R262). -/
def State.oclBoundary (s : State) : State :=
  s.ocl.lanes.foldl (fun s e =>
    let x := s.lane e.1
    let n := if s.ostate e.1 = loREADY && !s.on (F.OCL_LSTATE_FOLLOW e.1) then min 8 (x.followRun + 1) else 0
    s.setLane e.1 { x with followRun := n }) s

/-- The lanes in a link state. -/
def State.lanesIn (s : State) (st : Nat) : List Nat := (List.range 56).filter fun l => s.ostate l == st

/-- TIME frames: on lanes in TSYNC each time, on READY lanes when `ready` (R283; Table 15). -/
def State.sendTimes (s : State) (ready : Bool) : State :=
  let s := (s.lanesIn loTSYNC).foldl State.sendTime s
  if ready then (s.lanesIn loREADY).foldl State.sendTime s else s

/-- The 20 µs timer while the grid is stopped: a KEEP frame on each READY lane and, every TINT times, a TIME frame (R283). -/
def State.stoppedTimer (s : State) : State :=
  if s.gridRuns || !s.oclSends then s
  else
    let s := (s.lanesIn loREADY).foldl (fun s l => s.sendKeep l 0 0) s
    let n := s.ocl.stopCnt
    let s := { s with ocl := { s.ocl with stopCnt := (n + 1) % 64 } }
    s.sendTimes (n % max 1 (s.get F.OCL_TCFG_TINT) == 0)

/-! ### Window frames (R241, R242, R282 to R284) -/

/-- EQOVF in every channel of a lane that has records (R241). -/
def State.laneOverflow (s : State) (l : Nat) : State :=
  (List.range 8).foldl (fun s c =>
    if (s.chan (8 * l + c)).edges.isEmpty then s else s.chFault (8 * l + c) F.MOD_CHST_EQOVF Q.MOD_EQOVF (hw (chBase (8 * l + c)))) s

/-- Records two to a block (Table 5). -/
def packRecs : List Word → List Word64
  | a :: b :: r => (b ++ a) :: packRecs r
  | [a] => [(0 : Word) ++ a]
  | [] => []

/-- An EDGE frame (Table 5). -/
def State.sendEdge (s : State) (l t0 t1 slvl : Nat) (trip empty : Bool) (recs : List Word) : State :=
  let d1 := (t1 - t0) % 2 ^ 24 * 2 ^ 40 + slvl % 2 ^ 16
  let (f, s) := s.newFrame l 2 (2 ^ 17 * b2n trip + 2 ^ 16 * b2n empty + recs.length % 256)
    ([BitVec.ofNat 64 t0, BitVec.ofNat 64 d1] ++ packRecs recs)
  s.laneSend l f

/-- Whether a BLOCK_LOCAL of MOD holds a channel of a lane (15 Table 7). -/
def State.laneHeldMod (s : State) (l : Nat) : Bool := (List.range 8).any fun c => s.heldOut B.MOD (8 * l + c)

/-- The window frame of a READY lane for the window from `t0` to `t1`, after generation (R282, R284). -/
def State.windowFrame (s : State) (abandoned : Bool) (t0 t1 l : Nat) : State :=
  let edgeState := stARMED ≤ s.dev && s.dev ≤ stSAFE
  let win := s.mod.win.find? (·.1 == l)
  if !edgeState || abandoned then
    let s := s.sendKeep l t0 (t1 - t0)
    if win.isSome then s.laneReplay l else s
  else
    let trip := s.laneTripped l || s.heldOut B.OCL l || s.dev == stBLOCKED || s.dev == stSAFE
    let runs := (s.dev == stRUN || s.dev == stDEGRADED) && (s.lane l).held == 0 && !s.laneHeldMod l
    match win with
    | none => s.sendEdge l t0 t1 0 trip (!runs) []
    | some (_, slvl, ovf, recs) =>
      if !runs then (s.sendEdge l t0 t1 slvl trip true []).laneEmpty l
      else if ovf || s.get (F.OCL_LRMAX_RMAX l) < recs.length then
        ((s.laneOverflow l).sendKeep l t0 (t1 - t0)).laneReplay l
      else (s.sendEdge l t0 t1 slvl trip false recs).laneSent l

/-- All window frames of a deadline, then the TIME frames and what commands wait (R282, R283). Lanes that are not READY send
none; their pods replay. -/
def State.windowFrames (s : State) (abandoned : Bool) (t0 t1 : Nat) : State :=
  let s := s.mod.win.foldl (fun s e => if s.ostate e.1 = loREADY then s else s.laneReplay e.1) s
  let s := { s with ocl := { s.ocl with stopCnt := 0 } }
  if !s.oclSends then (s.lanesIn loREADY).foldl (fun s l => if (s.mod.win.find? (·.1 == l)).isSome then s.laneReplay l else s) s
  else
    let s : State := (s.lanesIn loREADY).foldl (fun s l => s.windowFrame abandoned t0 t1 l) s
    let p : Nat := if s.get F.ENG_STAT_ESTATE = 0 then s.sext.kAbs else s.reg64 R.ENG_PCNT_LO
    s.sendTimes (p % max 1 (s.get F.OCL_TCFG_TINT) == 0)

/-- The command that the program's bypass request of a lane calls for, read after a flip (R279). -/
def State.bypassWant (s : State) (l : Nat) : Option Nat :=
  let x := s.lane l
  let want := (s.rowLane (s.get F.OCL_BYPREQ_ROW) l).toNat
  if x.cmd.isSome || x.hostWait.isSome then none
  else if want = 1 && !x.commanded then some 3
  else if want = 2 && x.commanded then some 4 else none

/-- The commands that the program's requests call for, by lane. -/
def State.bypassWants (s : State) : List (Nat × Nat) :=
  if !s.on F.OCL_BYPREQ_EN then [] else (s.lanesIn loREADY).filterMap fun l => (s.bypassWant l).map fun o => (l, o)

/-- The window frames of a completed deadline with the program's bypass commands: a lane is held from the issue of BYPCLOSE, and the
CMD frame follows the window frame (R279, R283). -/
def State.windowsWithBypass (s : State) (t0 t1 : Nat) : State :=
  let wants := s.bypassWants
  let s := wants.foldl (fun s w => if w.2 = 3 then s.setLane w.1 { s.lane w.1 with held := 1 } else s) s
  wants.foldl (fun s w => s.issueCmd w.1 w.2 2 []) (s.windowFrames false t0 t1)

/-! ### The inbox (R286) -/

/-- Lane `l` of inbox row `r` from OCL_INMAP.OFS. -/
def State.inboxPut (s : State) (r l v : Nat) : State :=
  s.store (vdmAddr (s.get F.ENG_INBOX_BASE + s.get F.OCL_INMAP_OFS + r) l) 2 v

/-- The status word (Table 18). -/
def State.oclStatus (s : State) (l fresh : Nat) : Nat :=
  let p := s.regN (R.OCL_LPST l)
  2 ^ 8 * fresh + 2 ^ 7 * b2n (p.testBit 24 || p.testBit 25) + 2 ^ 6 * b2n (perHOLD p != 0) + 2 ^ 5 * b2n (p.testBit 19)
    + 2 ^ 4 * b2n (perGDF p != 0) + 2 ^ 3 * b2n (perDESAT p != 0) + 2 ^ 2 * b2n (perBYPST p != 0) + 2 * b2n (p.testBit 18)
    + b2n (s.ostate l == loREADY && s.on (F.OCL_LSTATE_FOLLOW l))

/-- The rows of one lane (Table 17). -/
def State.oclCommitLane (s : State) (l : Nat) : State :=
  let fN := s.get F.OCL_INMAP_F
  let sN := s.get F.OCL_INMAP_S
  if !s.pairBit R.OCL_EN_LO l then s.inboxPut (fN * sN + fN) l 0
  else
    let x := s.lane l
    let (s, fresh) := x.samples.foldl (fun (s, fresh) sm =>
      let s := (List.range sN).foldl (fun s i => s.inboxPut (sN * sm.slot + i) l (sm.vals.getD i 0).toNat) s
      let d := clampInt (-32768) 32767 ((ctDiff sm.stamp s.sext.b0).fdiv 16)
      (s.inboxPut (fN * sN + sm.slot) l (encS 16 d), fresh + 2 ^ sm.slot)) (s, 0)
    (s.setLane l { x with samples := [] }).inboxPut (fN * sN + fN) l (s.oclStatus l fresh)

/-- The OCL rows of the inbox. -/
def State.oclCommit (s : State) : State := (List.range 56).foldl State.oclCommitLane s

/-! ### Registers -/

/-- A host command by OCL_LCMD.GO (R279, R280). A GO while one runs does nothing; a command of a lane that is not READY or with an
opcode that is reserved or the device's own ends FAILED. -/
def State.lcmd (s : State) (v : Word) : State :=
  if fldOf F.OCL_LCMD_GO v = 0 || s.on F.OCL_LCMDST_BUSY then s
  else
    let l := fldOf F.OCL_LCMD_LANE v
    let opc := fldOf F.OCL_LCMD_OPC v
    let s := s.setRegN R.OCL_LCMDST (2 ^ 31 + 2 ^ 8 * opc + l)
    let s := s.setRegN R.OCL_LCMDDATA 0
    match cmdLen opc with
    | none => s.lcmdFailed
    | some n =>
      if opc ≤ 2 || 56 ≤ l || s.ostate l != loREADY then s.lcmdFailed
      else
        let data := if n = 1 then [BitVec.ofNat 64 (s.reg64 R.OCL_LCMDP_LO)] else []
        let x := s.lane l
        if x.cmd.isSome then s.setLane l { x with hostWait := some (opc, data) } else s.issueCmd l opc 1 data

def State.oclReject (s : State) (m : Master) (a : Nat) : State := s.faultNew F.OCL_GSTAT_CFGREJ Q.OCL_CFGREJ (wr m a)

/-- Whether a write of OCL_INMAP is refused (Table 19). -/
def State.inmapBad (s : State) (v : Word) : Bool :=
  let f := fldOf F.OCL_INMAP_F v
  let n := fldOf F.OCL_INMAP_S v
  s.get F.ENG_STAT_ESTATE != 0 || f == 0 || 8 < f || n == 0 || 16 < n
    || s.get F.ENG_INBOX_NROWS < fldOf F.OCL_INMAP_OFS v + f * n + f + 1

/-- A write in the OCL block. -/
def State.writeOCL (s : State) (m : Master) (a : Nat) (v : Word) : State :=
  if a = R.OCL_CLAIM then if v.toNat % 2 ^ 16 = 0 then s.oclReject m a else s.plainWrite a v
  else if a = R.OCL_INMAP then if s.inmapBad v then s.oclReject m a else s.plainWrite a v
  else if a = R.OCL_LCMD then s.lcmd v
  else if R.OCL_LCTRL 0 ≤ a ∧ (a - R.OCL_LCTRL 0) % 0x40 = 0 ∧ (a - R.OCL_LCTRL 0) / 0x40 < 56 then
    let l := (a - R.OCL_LCTRL 0) / 0x40
    if v.toNat % 2 = 1 && s.ostate l == loFAIL then s.toState l loQUERY else s
  else s.plainWrite a v

/-! ### The commands -/

/-- CAPQ_SEND (R256). -/
def execCapqSend (l : Fin 56) (s : State) : Host.Outcome State Fault Refusal := .next (settle s (s.capqTimer l))

/-- STATUS_CAP_RX (R257). -/
def execStatusCapRx (l : Fin 56) (f : LinkFrame) (s : State) : Host.Outcome State Fault Refusal := .next (settle s (s.upRx l f 0))

/-- SETCFG_RESEND (R256). -/
def execSetcfgResend (l : Fin 56) (s : State) : Host.Outcome State Fault Refusal := .next (settle s (s.setcfgTimer l))

/-- STATUS_ACK_RX (R280). -/
def execStatusAckRx (l : Fin 56) (f : LinkFrame) (s : State) : Host.Outcome State Fault Refusal := .next (settle s (s.upRx l f 0))

/-- STATUS_PERIODIC_RX (R263). -/
def execStatusPeriodicRx (l : Fin 56) (f : LinkFrame) (sub : Fin 16) (s : State) : Host.Outcome State Fault Refusal :=
  .next (settle s (s.upRx l f sub))

/-- FOREIGN_DETECT (R262). -/
def execForeignDetect (l : Fin 56) (s : State) : Host.Outcome State Fault Refusal := .next (settle s (s.foreign l))

/-- SAMPLE_RX (R286). -/
def execSampleRx (l : Fin 56) (f : LinkFrame) (s : State) : Host.Outcome State Fault Refusal := .next (settle s (s.upRx l f 0))

/-- KEEP_STOPPED_SEND (R283). -/
def execKeepStoppedSend (s : State) : Host.Outcome State Fault Refusal := .next (settle s s.stoppedTimer)

/-- CMD_RETRANSMIT (R280). -/
def execCmdRetransmit (l : Fin 56) (s : State) : Host.Outcome State Fault Refusal := .next (settle s (s.cmdTimer l))

end Sys2Proof.Machine
end

