-- ==== Sys2Proof/Machine/Crypto.lean ====
section
/-! DEFINITION. Machine/Crypto.lean: SHA-256 and the check of an ECDSA signature on curve P-256, the two functions of FIPS that the
manifest of an image rests on (17_firmware_update.md R617, R618). -/
namespace Sys2Proof.Machine

/-! ### SHA-256 -/

/-- The round constants of SHA-256. -/
def shaK : List Word :=
  [0x428A2F98, 0x71374491, 0xB5C0FBCF, 0xE9B5DBA5, 0x3956C25B, 0x59F111F1, 0x923F82A4, 0xAB1C5ED5,
   0xD807AA98, 0x12835B01, 0x243185BE, 0x550C7DC3, 0x72BE5D74, 0x80DEB1FE, 0x9BDC06A7, 0xC19BF174,
   0xE49B69C1, 0xEFBE4786, 0x0FC19DC6, 0x240CA1CC, 0x2DE92C6F, 0x4A7484AA, 0x5CB0A9DC, 0x76F988DA,
   0x983E5152, 0xA831C66D, 0xB00327C8, 0xBF597FC7, 0xC6E00BF3, 0xD5A79147, 0x06CA6351, 0x14292967,
   0x27B70A85, 0x2E1B2138, 0x4D2C6DFC, 0x53380D13, 0x650A7354, 0x766A0ABB, 0x81C2C92E, 0x92722C85,
   0xA2BFE8A1, 0xA81A664B, 0xC24B8B70, 0xC76C51A3, 0xD192E819, 0xD6990624, 0xF40E3585, 0x106AA070,
   0x19A4C116, 0x1E376C08, 0x2748774C, 0x34B0BCB5, 0x391C0CB3, 0x4ED8AA4A, 0x5B9CCA4F, 0x682E6FF3,
   0x748F82EE, 0x78A5636F, 0x84C87814, 0x8CC70208, 0x90BEFFFA, 0xA4506CEB, 0xBEF9A3F7, 0xC67178F2]

/-- The initial hash value of SHA-256. -/
def shaH : List Word :=
  [0x6A09E667, 0xBB67AE85, 0x3C6EF372, 0xA54FF53A, 0x510E527F, 0x9B05688C, 0x1F83D9AB, 0x5BE0CD19]

def rotr (x : Word) (n : Nat) : Word := x.rotateRight n

/-- The next word of the message schedule from the last 16, newest first. -/
def shaNext (w : List Word) : Word :=
  let a := w.getD 14 0
  let b := w.getD 1 0
  let s0 := rotr a 7 ^^^ rotr a 18 ^^^ (a >>> 3)
  let s1 := rotr b 17 ^^^ rotr b 19 ^^^ (b >>> 10)
  w.getD 15 0 + s0 + w.getD 6 0 + s1

/-- The 64 words of the message schedule, in order, from the block's 16. -/
def shaSched : Nat → List Word → List Word
  | 0, w => w.reverse
  | k + 1, w => shaSched k (shaNext w :: w)

/-- One round on the eight working variables. -/
def shaRound (v : List Word) (kw : Word × Word) : List Word :=
  match v with
  | [a, b, c, d, e, f, g, h] =>
    let t1 := h + (rotr e 6 ^^^ rotr e 11 ^^^ rotr e 25) + ((e &&& f) ^^^ (~~~ e &&& g)) + kw.1 + kw.2
    let t2 := (rotr a 2 ^^^ rotr a 13 ^^^ rotr a 22) + ((a &&& b) ^^^ (a &&& c) ^^^ (b &&& c))
    [t1 + t2, a, b, c, d + t1, e, f, g]
  | v => v

/-- One block of 16 words. -/
def shaBlock (h : List Word) (blk : List Word) : List Word :=
  List.zipWith (· + ·) h ((shaK.zip (shaSched 48 blk.reverse)).foldl shaRound h)

/-- Words of big-endian bytes. -/
def beWords : List Byte → List Word
  | a :: b :: c :: d :: r => (a ++ b ++ c ++ d) :: beWords r
  | _ => []

/-- The message in blocks of 16 words. -/
def shaBlocks : Nat → List Word → List (List Word)
  | 0, _ => []
  | k + 1, l => l.take 16 :: shaBlocks k (l.drop 16)

/-- The big-endian bytes of a number. -/
def beBytes (n : Nat) : Nat → List Byte
  | 0 => []
  | k + 1 => BitVec.ofNat 8 (n / 256 ^ k) :: beBytes n k

/-- The padded message. -/
def shaPad (m : List Byte) : List Byte :=
  m ++ [0x80] ++ List.replicate ((119 - m.length % 64) % 64) 0 ++ beBytes (8 * m.length) 8

/-- SHA-256 of a message, as 32 bytes. -/
def sha256 (m : List Byte) : List Byte :=
  let p := shaPad m
  ((shaBlocks (p.length / 64) (beWords p)).foldl shaBlock shaH).flatMap fun w => beBytes w.toNat 4

/-! ### ECDSA on P-256 -/

/-- The field prime, the order, the coefficient b and the base point of P-256. -/
def ecP : Nat := 0xFFFFFFFF00000001000000000000000000000000FFFFFFFFFFFFFFFFFFFFFFFF
def ecN : Nat := 0xFFFFFFFF00000000FFFFFFFFFFFFFFFFBCE6FAADA7179E84F3B9CAC2FC632551
def ecB : Nat := 0x5AC635D8AA3A93E7B3EBBD55769886BC651D06B0CC53B0F63BCE3C3E27D2604B
def ecG : Nat × Nat := (0x6B17D1F2E12C4247F8BCE6E563A440F277037D812DEB33A0F4A13945D898C296,
  0x4FE342E2FE1A7F9B8EE7EB4A7C0F9E162BCE33576B315ECECBB6406837BF51F5)

/-- `b ^ e mod m` over the low `k` bits of `e`. -/
def powMod (m : Nat) : Nat → Nat → Nat → Nat
  | 0, _, _ => 1
  | k + 1, b, e =>
    let r := powMod m k (b * b % m) (e / 2)
    if e % 2 = 1 then b * r % m else r

/-- The inverse modulo the prime `m`. -/
def invMod (m x : Nat) : Nat := powMod m 256 (x % m) (m - 2)

/-- The sum of two points; none is the point at infinity. -/
def ecAdd (a b : Option (Nat × Nat)) : Option (Nat × Nat) :=
  match a, b with
  | none, q => q
  | p, none => p
  | some (x1, y1), some (x2, y2) =>
    if x1 = x2 ∧ (y1 + y2) % ecP = 0 then none
    else
      let l := if x1 = x2 then (3 * x1 * x1 + ecP - 3) % ecP * invMod ecP (2 * y1) % ecP
        else (y2 + ecP - y1) % ecP * invMod ecP (x2 + ecP - x1) % ecP
      let x3 := (l * l + 2 * ecP - x1 - x2) % ecP
      some (x3, (l * (x1 + ecP - x3) + ecP - y1) % ecP)

/-- The multiple of a point by the low `k` bits of `e`. -/
def ecMul : Nat → Nat → Option (Nat × Nat) → Option (Nat × Nat)
  | 0, _, _ => none
  | k + 1, e, p =>
    let r := ecMul k (e / 2) (ecAdd p p)
    if e % 2 = 1 then ecAdd p r else r

/-- Whether a point lies on the curve. -/
def ecOn (x y : Nat) : Bool := x < ecP && y < ecP && y * y % ecP == (x * x * x + (ecP - 3) * x + ecB) % ecP

/-- A number from big-endian bytes. -/
def beNat (l : List Byte) : Nat := l.foldl (fun n b => 256 * n + b.toNat) 0

/-- Whether (r, s) is a valid signature on `m` under the public key (x, y), with SHA-256. -/
def ecdsaOk (x y r s : Nat) (m : List Byte) : Bool :=
  if 1 ≤ r ∧ r < ecN ∧ 1 ≤ s ∧ s < ecN ∧ ecOn x y then
    let w := invMod ecN s
    let u1 := beNat (sha256 m) * w % ecN
    let u2 := r * w % ecN
    match ecAdd (ecMul 256 u1 (some ecG)) (ecMul 256 u2 (some (x, y))) with
    | some (x, _) => x % ecN == r
    | none => false
  else false

end Sys2Proof.Machine
end

