-- ==== Sys2Proof/Machine/Lanes.lean ====
section
/-! DEFINITION. Machine/Lanes.lean: the serial lanes: bring-up, polarity, bonded ports, equaliser and eye monitor
(08_serial_lanes.md R289 to R313). -/
namespace Sys2Proof.Machine

/-! ### Lane states (Table 3) -/
def lsOFF : Nat := 0
def lsCDR : Nat := 1
def lsHUNT : Nat := 2
def lsPOLTEST : Nat := 3
def lsALIGN : Nat := 4
def lsUP : Nat := 5

def State.ls (s : State) (l : Nat) : Nat := s.get (F.LANE_STAT_LSTATE l)
/-- The base of a lane's register window (Table 1). -/
def laneBase (l : Nat) : Nat := 0x13000000 + 0x400 * l
/-- Whether a lane belongs to a bonded port, and the port: 0 east, 1 west, 2 twin. -/
def isBonded (l : Nat) : Bool := 56 ≤ l && l < 62
def bondOf (l : Nat) : Nat := (l - 56) / 2

/-- Set a bit of LANE_STAT; its source is raised when the bit changes from clear to set (R313). -/
def State.laneFault (s : State) (l : Nat) (f : Nat → Fld) (q : Src) : State := s.faultNew (f l) q (hw (laneBase l))

def bond0 : BondPort := { mcnt := 0, run := 0, skew := 0, rev := false }
def State.bond (s : State) (p : Nat) : BondPort := spGet bond0 s.ser.ports p
def State.setBond (s : State) (p : Nat) (x : BondPort) : State := { s with ser := { s.ser with ports := spPut bond0 s.ser.ports p x } }

/-! ### The equaliser (R307, R308) -/

/-- The target code. -/
def State.eqTarget (s : State) (l : Nat) : Nat :=
  if s.on (F.LANE_EQCTL_OVR l) then s.get (F.LANE_EQCTL_CODE l)
  else s.regN (R.LANE_EQPRE l) / 2 ^ (4 * s.get (F.LANE_STAT_BAND l)) % 16

/-- Set the code in force; a measurement that runs notes a change (R311). -/
def State.setEq (s : State) (l c : Nat) : State :=
  if s.get (F.LANE_STAT_EQCODE l) = c then s
  else
    let s := s.set (F.LANE_STAT_EQCODE l) c
    if s.on (F.LANE_EYECTL_BUSY l) then s.set (F.LANE_EYECTL_EQCHG l) 1 else s

/-- In OFF, CDR and HUNT the code moves to its target at once. -/
def State.eqNow (s : State) (l : Nat) : State := if l < 62 && s.ls l ≤ lsHUNT then s.setEq l (s.eqTarget l) else s

/-- A step of the equaliser toward its target. -/
def State.eqStep (s : State) (l : Nat) : State :=
  let c := s.get (F.LANE_STAT_EQCODE l)
  let t := s.eqTarget l
  if s.ls l ≤ lsHUNT then s.eqNow l else if c < t then s.setEq l (c + 1) else if t < c then s.setEq l (c - 1) else s

/-- The logic die's band reaches every lane (R307). -/
def State.laneBands (s : State) (band : Nat) : State :=
  (List.range 62).foldl (fun s l => (s.set (F.LANE_STAT_BAND l) band).eqNow l) s

/-! ### Changes of state (Table 4) -/

/-- Set LSTATE of a lane alone: LANE_UP, LOCKLOSS, the eye monitor and the equaliser follow (R298, R308, R311). -/
def State.setLs (s : State) (l st : Nat) : State :=
  let left := s.ls l = lsUP && st != lsUP
  let s := (s.set (F.LANE_STAT_LSTATE l) st).setPairBit R.LANE_UP_LO l (st == lsUP)
  let s := if left && l < 62 then (s.count (R.LANE_LOCKLOSS l) 1).laneFault l F.LANE_STAT_LOCKLOSS Q.LANE_LOCKLOSS else s
  let s := if st ≤ lsCDR && s.on (F.LANE_EYECTL_BUSY l) then
      ((s.set (F.LANE_EYECTL_BUSY l) 0).set (F.LANE_EYECTL_ABORT l) 1).set (F.LANE_EYECTL_DONE l) 1
    else s
  s.eqNow l

/-- The port's REV and aligned bits (R305, R306). -/
def State.setAligned (s : State) (p : Nat) (al rev : Bool) : State :=
  (s.set ⟨R.LANE_PORT, [0, 1, 2].getD p 0, 1⟩ (b2n al)).set ⟨R.LANE_PORT, 4 + p, 1⟩ (b2n rev)

/-- A port loses its alignment. -/
def State.unalign (s : State) (p : Nat) : State := (s.setBond p { s.bond p with run := 0 }).setAligned p false (s.bond p).rev

/-- A lane moves; when a lane of a bonded port leaves ALIGN and UP the other one goes back to ALIGN (Table 4). -/
def State.moveLane (s : State) (l st : Nat) : State :=
  let s := s.setLs l st
  if isBonded l && st < lsALIGN then
    let o := if l % 2 = 0 then l + 1 else l - 1
    let s := s.unalign (bondOf l)
    if s.ls o = lsUP then s.setLs o lsALIGN else s
  else s

/-- Whether the LC PLL of a lane's clock group is locked (Table 1; 14 R525). -/
def State.lcLocked (s : State) (l : Nat) : Bool := if l < 56 || l == 62 then s.on F.CLK_STAT_LCALOCK else s.on F.CLK_STAT_LCBLOCK

/-- Clock recovery locks (R299). -/
def State.cdrLock (s : State) (l : Nat) : State := if s.ls l = lsCDR && s.lcLocked l then s.moveLane l lsHUNT else s

/-- The signal or the recovered clock is lost (R299). -/
def State.cdrLoss (s : State) (l : Nat) : State := if lsHUNT ≤ s.ls l then s.moveLane l lsCDR else s

/-- 64 valid headers (R300). -/
def State.huntLock (s : State) (l : Nat) : State := if s.ls l = lsHUNT then s.moveLane l lsPOLTEST else s

/-- A hunt failure or a test timeout: back to CDR, the polarity toggled where AUTOPOL is 1 (Table 4, R303). -/
def State.huntFailed (s : State) (l : Nat) : State :=
  let s := (s.count (R.LANE_HUNTCNT l) 1).laneFault l F.LANE_STAT_HUNTFAIL Q.LANE_HUNTFAIL
  let s := if s.on (F.LANE_CFG_AUTOPOL l) then s.set (F.LANE_STAT_RXINV l) (1 - s.get (F.LANE_STAT_RXINV l)) else s
  s.moveLane l lsCDR

/-- 4 IDLE blocks; a lane in a test mode never reaches UP (R302, R312). -/
def State.polConfirm (s : State) (l : Nat) : State :=
  if s.ls l != lsPOLTEST || s.ser.test.testBit l then s else s.moveLane l (if isBonded l then lsALIGN else lsUP)

/-- 4 inverted IDLE blocks (R302). -/
def State.polInvert (s : State) (l : Nat) : State :=
  if s.ls l != lsPOLTEST then s
  else if s.on (F.LANE_CFG_AUTOPOL l) then
    (s.set (F.LANE_STAT_RXINV l) (1 - s.get (F.LANE_STAT_RXINV l))).laneFault l F.LANE_STAT_POLINV Q.LANE_POLINV
  else s.huntFailed l

/-- 16 invalid headers in a window of 64 blocks (R301). -/
def State.lockLoss (s : State) (l : Nat) : State :=
  if lsPOLTEST ≤ s.ls l then (s.count (R.LANE_HDRERR l) 16).moveLane l lsHUNT else s

/-! ### Bonded ports (R304 to R306) -/

/-- P of a marker (Table 5). -/
def markerP (port lane mcnt : Nat) : BitVec 56 :=
  BitVec.ofNat 56 (10 * 2 ^ 52 + port % 4 * 2 ^ 50 + lane % 2 * 2 ^ 49 + mcnt % 256 * 2 ^ 40 + 0x96C35AA53C)

/-- The transmitters of a port send their markers. -/
def State.sendMarkers (s : State) (p : Nat) : State :=
  if s.ls (56 + 2 * p) != lsOFF && s.ls (57 + 2 * p) != lsOFF then
    let x := s.bond p
    (s.setBond p { x with mcnt := (x.mcnt + 1) % 256 }).send (.marker p (markerP p 0 x.mcnt) (markerP p 1 x.mcnt))
  else s

/-- Whether KEY and PAT match (R305). -/
def isMarker (m : Nat) : Bool := m / 2 ^ 52 == 10 && m % 2 ^ 40 == 0x96C35AA53C

/-- The PORT a port expects (R305); a ring port in LOOP expects its own (09 R327). -/
def State.expectPort (s : State) (p : Nat) : Nat := if p = 2 then 2 else if s.ringPort p = 1 then p else 1 - p

/-- Both lanes of a port go back to ALIGN. -/
def State.realign (s : State) (p : Nat) : State :=
  let back (s : State) (l : Nat) : State := if s.ls l = lsUP then s.setLs l lsALIGN else s
  back (back (s.unalign p) (56 + 2 * p)) (57 + 2 * p)

/-- A fault that keeps both lanes of a port in ALIGN. -/
def State.portBad (s : State) (p : Nat) (f : Nat → Fld) (q : Src) : State :=
  ((s.laneFault (56 + 2 * p) f q).laneFault (57 + 2 * p) f q).realign p

/-- LANE_SKEW of a port. -/
def skewReg (p : Nat) : Nat := if p = 0 then R.LANE_SKEW_E else if p = 1 then R.LANE_SKEW_W else R.LANE_SKEW_T

/-- A marker slot: P on physical lanes 0 and 1, and the delay of logical lane 1 against logical lane 0 in UI (R305, R306). -/
def State.markerRx (s : State) (p : Nat) (m0 m1 : Nat) (skew : Int) : State :=
  let a := 56 + 2 * p
  if s.ls a < lsALIGN || s.ls (a + 1) < lsALIGN || !isMarker m0 || !isMarker m1 then s
  else
    let port (m : Nat) := bitsOf m 50 2
    let lane (m : Nat) := bitsOf m 49 1
    if port m0 != s.expectPort p || port m1 != s.expectPort p || lane m0 == lane m1 then s.portBad p F.LANE_STAT_PORTERR Q.LANE_PORTERR
    else if 2112 < skew.natAbs then s.portBad p F.LANE_STAT_SKEWERR Q.LANE_SKEWERR
    else
      let x := s.bond p
      let rev := lane m0 == 1
      let equal := bitsOf m0 40 8 == bitsOf m1 40 8
      let same := x.skew == skew && x.rev == rev
      if !equal then s.realign p
      else if s.ls a = lsUP && s.ls (a + 1) = lsUP then if same then s else (s.realign p).setBond p { x with run := 1, skew := skew, rev := rev }
      else
        let run := if same && x.run != 0 then 2 else 1
        let s := (s.setBond p { x with run := run, skew := skew, rev := rev }).setRegN (skewReg p) (encS 16 skew)
        if run = 2 then ((s.setAligned p true rev).setLs a lsUP).setLs (a + 1) lsUP else s

/-! ### Host lanes (R296, R297) -/

/-- A host lane's PCS comes up or goes down; a lane that is enabled and not UP shows CDR. -/
def State.pcs (s : State) (l : Nat) (up : Bool) : State :=
  if s.on (F.LANE_CFG_EN l) then s.setLs l (if up then lsUP else lsCDR) else s

/-! ### Registers -/

/-- A refused write of a lane. -/
def State.laneReject (s : State) (m : Master) (l : Nat) : State :=
  s.faultNew (F.LANE_STAT_CFGREJ l) Q.LANE_CFGREJ { wr m 0 with addr := laneBase l }

/-- A write of LANE_CFG (R289, R294, R298, R303, R312). -/
def State.laneCfg (s : State) (m : Master) (l : Nat) (v : Word) : State :=
  let a := R.LANE_CFG l
  let new := s.wouldBe a v
  let en := s.on (F.LANE_CFG_EN l)
  let diff (f : Nat → Fld) : Bool := fldOf (f l) new != s.get (f l)
  if (en && (diff F.LANE_CFG_RATE || diff F.LANE_CFG_HSMODE || diff F.LANE_CFG_ANEN || diff F.LANE_CFG_RXPOL))
      || fldOf (F.LANE_CFG_RATE l) new == 3 then s.laneReject m l
  else
    let s := s.plainWrite a v
    if fldOf (F.LANE_CFG_EN l) new = 0 then if en then s.moveLane l lsOFF else s
    else
      let s := if l < 62 then s.setRegN (R.LANE_PRBSERR l) 0 else s
      if en then s
      else
        let s := (s.set (F.LANE_STAT_RXINV l) (s.get (F.LANE_CFG_RXPOL l))).moveLane l lsCDR
        { s with ser := { s.ser with test := putBit s.ser.test l (s.on (F.LANE_CFG_PRBS l) || s.on (F.LANE_CFG_LOOP l)) } }

/-- A write of LANE_EYECTL (R310, R311): START needs LSTATE at HUNT or later. -/
def State.eyeWrite (s : State) (m : Master) (l : Nat) (v : Word) : State :=
  if s.on (F.LANE_EYECTL_BUSY l) then s.laneReject m l
  else
    let s := s.plainWrite (R.LANE_EYECTL l) v
    if fldOf (F.LANE_EYECTL_START l) v = 1 && lsHUNT ≤ s.ls l then
      (((((s.setRegN (R.LANE_EYEERR l) 0).set (F.LANE_EYECTL_BUSY l) 1).set (F.LANE_EYECTL_DONE l) 0).set (F.LANE_EYECTL_ABORT l) 0)).set
        (F.LANE_EYECTL_EQCHG l) 0
    else s

/-- A measurement ends with `n` disagreements (R310). -/
def State.eyeDone (s : State) (l : Nat) (n : Word) : State :=
  if s.on (F.LANE_EYECTL_BUSY l) then
    ((s.setReg (R.LANE_EYEERR l) n).set (F.LANE_EYECTL_BUSY l) 0).set (F.LANE_EYECTL_DONE l) 1
  else s

/-- A write in the LANE block. -/
def State.writeLANE (s : State) (m : Master) (a : Nat) (v : Word) : State :=
  let l := (a - 0x13000000) / 0x400
  let off := a % 0x400
  if 0x13010000 ≤ a then s.plainWrite a v
  else if off = 0 then s.laneCfg m l v
  else if off = 0x24 then s.eyeWrite m l v
  else if off = 0x08 ∨ off = 0x0C then (s.plainWrite a v).eqNow l
  else s.plainWrite a v

/-! ### The commands -/

/-- CDR_LOCK (R299). -/
def execCdrLock (l : Fin 62) (s : State) : Host.Outcome State Fault Refusal := .next (settle s (s.cdrLock l))

/-- CDR_LOSS (R299). -/
def execCdrLoss (l : Fin 62) (s : State) : Host.Outcome State Fault Refusal := .next (settle s (s.cdrLoss l))

/-- HUNT_LOCK (R300). -/
def execHuntLock (l : Fin 62) (s : State) : Host.Outcome State Fault Refusal := .next (settle s (s.huntLock l))

/-- HUNT_FAIL (R300). -/
def execHuntFail (l : Fin 62) (s : State) : Host.Outcome State Fault Refusal :=
  .next (settle s (if s.ls l = lsHUNT then s.huntFailed l else s))

/-- POLARITY_CONFIRM (R302). -/
def execPolarityConfirm (l : Fin 62) (s : State) : Host.Outcome State Fault Refusal := .next (settle s (s.polConfirm l))

/-- POLARITY_INVERT (R302). -/
def execPolarityInvert (l : Fin 62) (s : State) : Host.Outcome State Fault Refusal := .next (settle s (s.polInvert l))

/-- POLTEST_TIMEOUT (R302). -/
def execPoltestTimeout (l : Fin 62) (s : State) : Host.Outcome State Fault Refusal :=
  .next (settle s (if s.ls l = lsPOLTEST then s.huntFailed l else s))

/-- BLOCK_LOCK_LOSS (R301). -/
def execBlockLockLoss (l : Fin 62) (s : State) : Host.Outcome State Fault Refusal := .next (settle s (s.lockLoss l))

/-- ALIGN_MARKER_SEND (R304). -/
def execAlignMarkerSend (p : Fin 3) (s : State) : Host.Outcome State Fault Refusal := .next (settle s (s.sendMarkers p))

/-- ALIGN_MARKER_RX (R306). -/
def execAlignMarkerRx (p : Fin 3) (m0 m1 : BitVec 56) (skew : BitVec 16) (s : State) : Host.Outcome State Fault Refusal :=
  .next (settle s (s.markerRx p m0.toNat m1.toNat skew.toInt))

/-- EQ_STEP (R308). -/
def execEqStep (l : Fin 62) (s : State) : Host.Outcome State Fault Refusal := .next (settle s (s.eqStep l))

/-- EYE_DONE (R310). -/
def execEyeDone (l : Fin 64) (n : Word) (s : State) : Host.Outcome State Fault Refusal := .next (settle s (s.eyeDone l n))

/-- HOST_PCS_UP (R297): HS0, or HS1. -/
def execHostPcsUp (hs1 : Bool) (s : State) : Host.Outcome State Fault Refusal := .next (settle s (s.pcs (62 + b2n hs1) true))

/-- HOST_PCS_DOWN (R297). -/
def execHostPcsDown (hs1 : Bool) (s : State) : Host.Outcome State Fault Refusal := .next (settle s (s.pcs (62 + b2n hs1) false))

end Sys2Proof.Machine
end

