-- ==== Sys2Proof/Machine/Power.lean ====
section
/-! DEFINITION. Machine/Power.lean: resets and what they keep (15_faults_reset_startup.md R557 to R563), the PMU, the PLLs, the
temperature sensors and the thermal shutdown (14_power_clocks_thermal.md R505 to R540). -/
namespace Sys2Proof.Machine

/-! ### What the MRAM records show (17 Table 8) -/

/-- Whether every piece of chunk `c` is present. -/
def Session.has (x : Session) (c : Nat) : Bool := bitsOf x.pieces (8 * c) 8 == 255

/-- The number of complete chunks. -/
def Session.count (x : Session) : Nat := ((List.range x.nch).filter x.has).length

/-- The slot that the device does not run. -/
def State.idleSlot (s : State) : Nat := 1 - s.get F.UPD_SLOT_RUN

/-- The state of a slot. -/
def State.slotState (s : State) (x : Nat) : Nat := if x = 0 then s.nvm.boot.stA else s.nvm.boot.stB

/-- UPD_SLOT, UPD_VERA, UPD_VERB, UPD_SESSION, UPD_PROG, UPD_AGE and SSTATE follow the boot and session records. -/
def State.showUpd (s : State) : State :=
  let b := s.nvm.boot
  let s := ((s.set F.UPD_SLOT_A b.stA).set F.UPD_SLOT_B b.stB).setB F.UPD_SLOT_ACTPEND (s.upd.act.isSome || b.act.isSome)
  let s := s.set F.UPD_SLOT_ACTSLOT (match s.upd.act with | some a => a.slot | none => b.act.getD 0)
  let s := (s.setRegN R.UPD_VERA b.verA).setRegN R.UPD_VERB b.verB
  match s.nvm.sess with
  | some x =>
    let s := ((s.setRegN R.UPD_SESSION x.session).set F.UPD_PROG_DONE x.count).set F.UPD_PROG_NCH x.nch
    (s.setRegN R.UPD_AGE x.age).set F.UPD_STAT_SSTATE (if b.stA = 2 ∨ b.stB = 2 then 2 else 1)
  | none => (((s.setRegN R.UPD_SESSION 0).setReg R.UPD_PROG 0).setRegN R.UPD_AGE 0).set F.UPD_STAT_SSTATE 0

/-! ### Resets (15 R557 to R563) -/

/-- The registers that every reset keeps: the always-on part of the analog die, the MRAM counters, the OTP (15 Table 9). -/
def keptRegs : List Nat :=
  [R.PMU_LAST, R.THERM_SDREC, R.THERM_SDCNT, R.NVM_KEYS] ++ (List.range 32).map fun i => R.NVM_KEYHASH (i / 8) (i % 8)

/-- The registers that a reset other than power-on also keeps (15 Table 9; 09 Table 10, 17 Table 10: counts since power-on). -/
def warmRegs : List Nat := keptRegs ++ [R.CLK_CFG, R.SYS_STRAP, R.SYS_RSTCAUSE, R.TWIN_FOCNT, R.NVM_WRCNT]

/-- Every register and block at its reset value, but for the registers named, the MRAM, the always-on thermal supervisors, the levels at
the pins, the pods, and the model's own queue and wires. -/
def State.blank (s : State) (keep : List Nat) : State :=
  let z := State.reset
  { z with
    pending := s.pending, tx := s.tx, free := s.free, pods := s.pods, mem := s.mem, pwr := s.pwr
    regs := s.regs.filter fun e => keep.contains e.1
    nvm := { s.nvm with jobs := [] }
    cmp := { z.cmp with pins := s.cmp.pins }
    hall := { z.hall with home := s.hall.home }
    safe := { z.safe with sinA := s.safe.sinA, sinB := s.safe.sinB }
    axd := { z.axd with pins := s.axd.pins, vgdLow := s.axd.vgdLow }
    host := { z.host with nvmJ := s.host.nvmJ } }

/-- CT64 and CHRONO_TRIM go on (15 Table 9). -/
def State.keepTime (t s : State) : State :=
  { t with chrono := { t.chrono with ct := s.chrono.ct, frac := s.chrono.frac, ftrim := s.chrono.ftrim } }.setReg R.CHRONO_TRIM
    (s.reg R.CHRONO_TRIM)

/-- The SAFE latches WAITRST, DISCF, RBERR and OC go on (15 Table 9). -/
def State.keepSafe (t s : State) : State :=
  let t := { t with safe := { t.safe with disc := s.safe.disc } }
  let t := (List.range 3).foldl (fun t a => t.set (F.SAFE_CHSTAT_WAITRST a) (s.get (F.SAFE_CHSTAT_WAITRST a))) t
  (List.range 4).foldl (fun t n =>
    (t.set (F.SAFE_SOUTSTAT_RBERR n) (s.get (F.SAFE_SOUTSTAT_RBERR n))).set (F.SAFE_SOUTSTAT_OC n) (s.get (F.SAFE_SOUTSTAT_OC n))) t

/-- The rails, the reset pin's filter and the PMU's status go on; the FSWSEL written last takes effect (14 R514). -/
def State.keepRails (t s : State) : State :=
  let t := { t with pwr := { s.pwr with fsw := s.get F.PMU_CFG_FSWSEL, loop := false, firstRound := true, txW := 0, txA := 0 } }
  t.setReg R.PMU_STAT (s.reg R.PMU_STAT)

/-- One more warm reset, with its source (15 Table 14); the sources of one tick are one reset (R562). -/
def State.noteReset (t s : State) (src : Nat) : State :=
  let same := s.sys.rstAt == some s.now
  let w := s.get F.SYS_RSTCAUSE_WARM
  let t := (t.set F.SYS_RSTCAUSE_WARM (if same then w else min (w + 1) 65535)).set F.SYS_RSTCAUSE_IGN 0
  let t := t.set F.SYS_RSTCAUSE_SRC (2 ^ src ||| (if same then s.get F.SYS_RSTCAUSE_SRC else 0))
  { t with sys := { t.sys with porBoot := false, rstAt := some t.now } }

/-- A warm reset by source `src` of Table 8; a device in SEALED or THERMAL ignores it and records that it did (R561). The writes of the
MRAM in progress complete (14 R511, Table 7; R559). -/
def State.warmReset (s : State) (src : Nat) : State :=
  if s.dev ≤ stPMU_UP then s
  else if s.dev = stSEALED ∨ s.dev = stTHERMAL then s.orFld F.SYS_RSTCAUSE_IGN (2 ^ src)
  else
    let t := (((s.blank warmRegs).keepTime s).keepSafe s).keepRails s
    let t := { t with sys := { t.sys with firstConfig := s.sys.firstConfig } }
    ((t.noteReset s src).showCt).showUpd

/-- The thermal restart (14 R537; 15 Table 9). -/
def State.thermalReset (s : State) : State :=
  let t := (s.blank warmRegs).keepRails s
  let t := if s.sys.offL then t else t.keepTime s
  let t := if s.sys.offA then t else t.keepSafe s
  let t := { t with sys := { t.sys with thermBoot := true, firstConfig := s.sys.offA || s.sys.firstConfig } }
  ((t.noteReset s 5).showCt).showUpd

/-! ### The PMU (14 R505 to R514) -/

/-- A power-down (R511): OFF, with the cause in PMU_LAST; the MRAM completes what it was writing (R512). -/
def State.powerDown (s : State) (cause rail : Nat) : State :=
  let t := s.blank keptRegs
  let t := ((t.set F.PMU_LAST_CAUSE cause).set F.PMU_LAST_RAIL rail).setDev stOFF
  { t with pwr := { t.pwr with rails := 0, loop := false, badTs := 0, tsRun := [], firstRound := true, hotL := none, hotA := none,
                               noneL := 0, noneA := 0, txW := 0, txA := 0 } }.showUpd

/-- OFF to PMU_UP: VCORE starts (R505, R506). -/
def State.pmuUp (s : State) : State :=
  { (s.setDev stPMU_UP) with pwr := { s.pwr with rails := 1, retry := false } }

/-- A PMU fault: power-down, one more consecutive fault, and 100 ms of waiting (R509). -/
def State.pmuFault (s : State) (cause rail : Nat) : State :=
  let n := min (s.get F.PMU_LAST_NFLT + 1) 3
  let t := (s.powerDown cause rail).set F.PMU_LAST_NFLT n
  { t with pwr := { t.pwr with retry := decide (n < 3), off := decide (n = 3) } }

/-- VAUX has been valid for 1 ms. -/
def State.vauxValid (s : State) : State :=
  let s := { s with pwr := { s.pwr with vauxOk := true } }
  if s.dev = stOFF && !s.pwr.off && !s.pwr.retry then s.pmuUp else s

/-- VAUX below UVLO or above the overvoltage limit. -/
def State.vauxLost (s : State) (cause : Nat) : State :=
  let t := if s.dev = stOFF then s else s.powerDown cause 0
  { t with pwr := { t.pwr with vauxOk := false, retry := false, off := t.pwr.off && cause != 1 } }

/-- The power-good bit of rail `r`, 1 to 5. -/
def pgBit (r : Nat) : Fld := ⟨R.PMU_STAT, r - 1, 1⟩

/-- The next rail starts (R506). -/
def State.railStart (s : State) : State :=
  if s.dev = stPMU_UP && s.on (pgBit s.pwr.rails) && s.pwr.rails < 5 then { s with pwr := { s.pwr with rails := s.pwr.rails + 1 } } else s

/-- The rail that starts reaches power-good; with VIO18 the straps are sampled (R515; 15 R564). -/
def State.railGood (s : State) (straps : Nat) : State :=
  if s.dev = stPMU_UP && 1 ≤ s.pwr.rails then
    let s := s.set (pgBit s.pwr.rails) 1
    if s.pwr.rails = 3 then s.set F.SYS_STRAP_STRAP straps else s
  else s

/-- The device leaves PMU_UP for BOOT (R507, R514). -/
def State.pmuDone (s : State) : State :=
  if s.dev = stPMU_UP && bitsOf (s.regN R.PMU_STAT) 0 5 == 31 && s.on F.CLK_STAT_LOCK then
    let s := ((s.setDev stBOOT).set F.PMU_LAST_NFLT 0).setReg R.SYS_RSTCAUSE 1
    { s with sys := { s.sys with porBoot := true, firstConfig := true }, pwr := { s.pwr with fsw := s.get F.PMU_CFG_FSWSEL } }
  else s

/-- A sequence fault: a rail or the PLL was late (R507). -/
def State.seqFault (s : State) (pll : Bool) : State :=
  if s.dev = stPMU_UP then (if pll then s.pmuFault 5 0 else s.pmuFault 4 s.pwr.rails) else s

/-- A rail fault of a supervised rail, VCORE to VIO33 (R508). -/
def State.railFault (s : State) (r : Nat) : State := if s.dev != stOFF && s.on (pgBit r) then s.pmuFault 3 r else s

/-- 100 ms after a PMU fault (R509). -/
def State.pmuRetry (s : State) : State :=
  if s.dev = stOFF && s.pwr.retry then
    (if s.pwr.vauxOk then s.pmuUp else { s with pwr := { s.pwr with retry := false } })
  else s

/-- VAUX falls below about 5 V: the always-on records are lost (R509). -/
def State.vauxGone (s : State) : State :=
  let t := s.vauxLost 1
  (t.setReg R.PMU_LAST 0).setReg R.THERM_SDREC 0

/-- The power-fail warning (R512). -/
def State.pfailSet (s : State) : State :=
  if s.dev ≤ stPMU_UP then s else (s.set F.PMU_STAT_PFAIL 1).faultNew F.PMU_EVT_PFAIL Q.PMU_PFAIL (hw 0)

/-- PFAIL clears; what waited is written (R512). -/
def State.pfailClear (s : State) : State := (s.set F.PMU_STAT_PFAIL 0).flushLate

/-- VGD leaves or re-enters its window (R510). -/
def State.vgdWindow (s : State) (bad : Bool) : State :=
  if s.dev ≤ stPMU_UP then s
  else
    let s := (s.setB F.PMU_STAT_VGDBAD bad).setB F.PMU_STAT_PGVGD !bad
    if bad then s.faultNew F.PMU_EVT_VGDPG Q.PMU_VGDPG (hw 5) else s

/-! ### The PLLs (14 R516 to R525) -/

/-- The band search of the system PLL ends: the loop closes in the band found (R517). -/
def State.bandFound (s : State) (band : Nat) : State :=
  if s.dev = stOFF || s.on F.CLK_STAT_LOCK || s.on F.CLK_STAT_COAST then s
  else
    let s := (s.set F.CLK_BAND_SYS band).set F.CLK_BAND_REFMODE (s.get F.CLK_CFG_REFMODE)
    { s.set F.CLK_STAT_REFOK 1 with pwr := { s.pwr with loop := true } }

/-- CLK_COASTT: the coast in µs, saturating (R520). -/
def State.coastUs (s : State) : Nat := min (ctDiff s.now s.pwr.coastAt / 3200).toNat (2 ^ 32 - 1)

/-- The system PLL is locked: COAST clears (R518, R521). -/
def State.pllLock (s : State) : State :=
  if s.dev = stOFF || !s.pwr.loop || s.on F.CLK_STAT_LOCK then s
  else
    let s := if s.on F.CLK_STAT_COAST then s.setRegN R.CLK_COASTT s.coastUs else s
    ((s.set F.CLK_STAT_LOCK 1).set F.CLK_STAT_COAST 0).set F.CLK_STAT_REFOK 1

/-- The PLL freezes its control value and coasts (R520). -/
def State.coast (s : State) (loop : Bool) : State :=
  if s.on F.CLK_STAT_LOCK then
    let s := (s.set F.CLK_STAT_LOCK 0).set F.CLK_STAT_COAST 1
    { s with pwr := { s.pwr with coastAt := s.now, loop } }
  else { s with pwr := { s.pwr with loop := s.pwr.loop && loop } }

/-- The phase error has exceeded UNLKWIN (R518, R520); the reference is present, so the loop may lock again. -/
def State.pllUnlock (s : State) : State :=
  if s.on F.CLK_STAT_LOCK then ((s.coast true).faultNew F.CLK_STAT_UNLOCK Q.CLK_UNLOCK (hw 0)) else s

/-- The reference is lost (R520). -/
def State.refLoss (s : State) : State :=
  if s.dev = stOFF then s else ((s.set F.CLK_STAT_REFOK 0).coast false).faultNew F.CLK_STAT_REFLOSS Q.CLK_REFLOSS (hw 0)

/-- The reference is back for 100 µs: the loop closes from the frozen value, or BANDLIM where that lies outside the band (R521). -/
def State.refReturn (s : State) (inBand : Bool) : State :=
  if s.dev = stOFF then s
  else
    let s := s.set F.CLK_STAT_REFOK 1
    if !s.on F.CLK_STAT_COAST then s
    else if inBand then { s with pwr := { s.pwr with loop := true } }
    else ({ s with pwr := { s.pwr with loop := false } }).faultNew F.CLK_STAT_BANDLIM Q.CLK_BANDLIM (hw 0)

/-- The coast reaches COASTMAX; 0 sets no limit (R523). -/
def State.coastLimit (s : State) : State :=
  if s.on F.CLK_STAT_COAST && s.get F.CLK_COAST_COASTMAX != 0 then s.faultNew F.CLK_STAT_COASTLIM Q.CLK_COASTLIM (hw 0) else s

/-- The lanes of a clock group (08 Table 1). -/
def groupLanes (b : Bool) : List Nat := if b then [56, 57, 58, 59, 60, 61] else List.range 56

/-- An LC PLL unlocks without coasting: its lanes lose clock recovery (R525). -/
def State.lcUnlock (s : State) (b : Bool) : State :=
  let f := if b then F.CLK_STAT_LCBLOCK else F.CLK_STAT_LCALOCK
  if !s.on f || s.on F.CLK_STAT_COAST then s
  else ((groupLanes b).foldl State.cdrLoss (s.set f 0)).faultNew F.CLK_STAT_LCUNLK Q.CLK_LCUNLK (hw (1 + b2n b))

/-- An LC PLL locks in a band (R525). -/
def State.lcLock (s : State) (b : Bool) (band : Nat) : State :=
  if s.dev = stOFF then s
  else if b then (s.set F.CLK_STAT_LCBLOCK 1).set F.CLK_BAND_LCB band
  else (s.set F.CLK_STAT_LCALOCK 1).set F.CLK_BAND_LCA band

/-! ### Temperature (14 R526 to R538) -/

/-- Sensor readings in units of 0.125 °C: the range of R529, 20 K, 150 °C, 125 °C. -/
def tMin : Int := -440
def tMax : Int := 1400

/-- Insert into a rising list. -/
def insInt (x : Int) : List Int → List Int
  | [] => [x]
  | y :: r => if x ≤ y then x :: y :: r else y :: insInt x r

/-- Twice the median of a list; the mean of the middle two where its length is even (R529). -/
def median2 (l : List Int) : Int :=
  let l := l.foldr insInt []
  let n := l.length
  l.getD (n / 2) 0 + l.getD ((n - 1) / 2) 0

/-- Whether a reading of a die's round is valid (R529). -/
def roundOk (die : List Int) (r : Int) : Bool :=
  tMin ≤ r && r ≤ tMax && (2 * r - median2 (die.filter fun x => tMin ≤ x && x ≤ tMax)).natAbs ≤ 320

/-- Note a sensor's round: an invalid reading sets TSBAD; a sensor that was invalid is valid again after 10 valid rounds. -/
def State.noteSensor (s : State) (n : Nat) (ok : Bool) : State :=
  if !ok then
    let p := { s.pwr with badTs := s.pwr.badTs ||| 2 ^ n, tsRun := spPut 0 s.pwr.tsRun n 0 }
    ({ s with pwr := p }).faultBit F.THERM_EVT_TSBAD n Q.THERM_TSBAD (hw n)
  else if s.pwr.badTs.testBit n then
    let r := spGet 0 s.pwr.tsRun n + 1
    if 10 ≤ r then { s with pwr := { s.pwr with badTs := s.pwr.badTs - 2 ^ n, tsRun := spPut 0 s.pwr.tsRun n 0 } }
    else { s with pwr := { s.pwr with tsRun := spPut 0 s.pwr.tsRun n r } }
  else s

/-- The readings of the valid sensors of a die, with their numbers (0 to 7 logic, 8 to 11 analog). -/
def State.validOf (s : State) (ana : Bool) : List (Nat × Int) :=
  ((if ana then [8, 9, 10, 11] else List.range 8).filter fun n => !s.pwr.badTs.testBit n).map fun n =>
    (n, signedOf 16 (s.get (F.THERM_TS_READING n)))

/-- The highest reading, with its sensor; the lower number on a tie. -/
def hottest (l : List (Nat × Int)) : Option (Nat × Int) :=
  l.foldl (fun b e => match b with
    | none => some e
    | some x => if x.2 < e.2 then some e else b) none

/-- The band of a temperature in 0.125 °C (R531). -/
def bandOf (t : Int) : Nat := if t < 0 then 0 else if t < 560 then 1 else if t < 840 then 2 else 3

/-- The next band from the present one (R531). -/
def nextBand (band : Nat) (t : Int) : Nat :=
  if band < bandOf t then bandOf t else if bandOf (t + 24) < band then bandOf (t + 24) else band

/-- The band and DIEDEG of a die at the end of a round (R530, R531). -/
def State.dieBand (s : State) (ana : Bool) : State :=
  let v := s.validOf ana
  let bf := if ana then F.THERM_BAND_ANA else F.THERM_BAND_LOGIC
  let df := if ana then F.THERM_BAND_DEGA else F.THERM_BAND_DEGL
  let old := s.get bf
  let deg := decide (v.length < 2)
  let t := match hottest v with | some (_, t) => t | none => 0
  let new := if deg then 3 else if s.pwr.firstRound then bandOf t else nextBand old t
  let s := if deg && !s.on df then (s.set df 1).faultNew F.THERM_EVT_DIEDEG Q.THERM_DIEDEG (hw (b2n ana)) else s.setB df deg
  if new = old then s
  else
    let s := (s.set bf new).faultNew F.THERM_EVT_BANDCHG Q.THERM_BANDCHG (hw (b2n ana))
    if ana then s else s.laneBands new

/-- What a die's round says of a shutdown: the sensor and reading to record (R533, R536), and the state for the next round. -/
def State.dieHot (s : State) (ana : Bool) : Option (Nat × Int) × State :=
  let v := s.validOf ana
  let prev := if ana then s.pwr.hotA else s.pwr.hotL
  let none_ := if v = [] then (if ana then s.pwr.noneA else s.pwr.noneL) + 1 else 0
  let now := match hottest v with | some e => if 1200 ≤ e.2 then some e else none | none => none
  let best := match prev, now with
    | some a, some b => some (if b.2 < a.2 ∨ (b.2 = a.2 ∧ a.1 ≤ b.1) then a else b)
    | _, _ => none
  let due := if (if ana then s.sys.offA else s.sys.offL) then none else if 10 ≤ none_ then some (15, 0) else best
  let p := if ana then { s.pwr with hotA := now, noneA := none_ } else { s.pwr with hotL := now, noneL := none_ }
  (due, { s with pwr := p })

/-- Record a shutdown in THERM_SDREC (R536). -/
def State.recordShut (s : State) (ana : Bool) (e : Nat × Int) : State :=
  let fresh := !s.on F.THERM_SDREC_LOGIC && !s.on F.THERM_SDREC_ANA
  let s := if fresh then (s.set F.THERM_SDREC_SENSOR e.1).set F.THERM_SDREC_READING (encS 16 e.2) else s
  if ana then (s.set F.THERM_SDREC_ANA 1).set F.THERM_SDREC_AUNC 1 else (s.set F.THERM_SDREC_LOGIC 1).set F.THERM_SDREC_LUNC 1

/-- The shutdowns of a round (R534 to R536, R539): THERMAL, or SEALED goes on; YIELD while the logic die runs. -/
def State.shutDies (s : State) (l a : Option (Nat × Int)) : State :=
  match l, a with
  | none, none => s
  | _, _ =>
    let s := match l, a with
      | some x, some y => if x.2 < y.2 then (s.recordShut true y).recordShut false x else (s.recordShut false x).recordShut true y
      | some x, none => s.recordShut false x
      | none, some y => s.recordShut true y
      | none, none => s
    let s := if l.isNone && !s.sys.offL then s.yield 1 else s
    let s := { s with sys := { s.sys with offL := s.sys.offL || l.isSome, offA := s.sys.offA || a.isSome } }
    s.enterStop stTHERMAL none

/-- The end of a round with the readings of TS0 to TS11. -/
def State.tempRound (s : State) (ts : List (BitVec 16)) : State :=
  if s.dev ≤ stPMU_UP then s
  else
    let r (n : Nat) : Int := (ts.getD n 0).toInt
    let logic := (List.range 8).map r
    let ana := [8, 9, 10, 11].map r
    let s := (List.range 12).foldl (fun s n =>
      (s.set (F.THERM_TS_READING n) (ts.getD n 0).toNat).noteSensor n (roundOk (if n < 8 then logic else ana) (r n))) s
    let s := s.set F.THERM_VALID_VALID (4095 - s.pwr.badTs)
    let s := (s.dieBand false).dieBand true
    let s := { s with pwr := { s.pwr with firstRound := false } }
    let (l, s) := s.dieHot false
    let (a, s) := s.dieHot true
    s.shutDies l a

/-- The conditions of the restart at its end (R537). -/
def State.coolEnough (s : State) : Bool :=
  2 ≤ (s.validOf false).length && 2 ≤ (s.validOf true).length && (s.validOf false ++ s.validOf true).all fun e => e.2 < 1000

/-- The temperature of a thermistor in °C from its resistance in Ω (R527); none where the formula has no value, a short. -/
def State.txTemp (s : State) (n : Nat) (r : Rat) : Option Rat :=
  let d := 20 / 5963 + Config.lnRat (r / (10 * s.get (F.THERM_TXCFG_R25 n) : Nat)) / (s.get (F.THERM_TXCFG_B n) : Nat)
  if r ≤ 0 ∨ d ≤ 0 then none else some (1 / d - 5463 / 20)

/-- One of TXWARN and TXALARM (R528): set when the reading rises to its threshold, armed again 3 °C below it. -/
def State.txLimit (s : State) (n : Nat) (alarm : Bool) (code : Int) : State :=
  let lim := s.getS (if alarm then F.THERM_TXLIM_ALARM n else F.THERM_TXLIM_WARN n)
  let above := if alarm then s.pwr.txA else s.pwr.txW
  let put (x : Nat) (s : State) : State :=
    { s with pwr := if alarm then { s.pwr with txA := x } else { s.pwr with txW := x } }
  if lim ≤ code then
    if above.testBit n then s
    else
      let s := put (above ||| 2 ^ n) s
      if alarm then s.faultBit F.THERM_TXEVT_TXALARM n Q.THERM_TXALARM (hw n) else s.faultBit F.THERM_TXEVT_TXWARN n Q.THERM_TXWARN (hw n)
  else if code ≤ lim - 24 && above.testBit n then put (above - 2 ^ n) s else s

/-- A thermistor input is measured (R527, R528). A short has no temperature by the formula: its reading is free above 175 °C. -/
def State.txMeasure (s : State) (n : Nat) (r : Rat) : State :=
  if !s.on (F.THERM_TXCFG_EN n) then s
  else
    let (code, bad, s) : Int × Bool × State := match s.txTemp n r with
      | some t => (clampInt (minS 16) (maxS 16) (quantize (8 * t)), decide (t < -55) || decide (175 < t), s)
      | none => let (v, s) := s.draw; (1401 + ((v.toNat % 31367 : Nat) : Int), true, s)
    let s := s.set (F.THERM_TX_READING n) (encS 16 code)
    let s := if bad then s.faultBit F.THERM_TXEVT_TXBAD n Q.THERM_TXBAD (hw n) else s
    (s.txLimit n false code).txLimit n true code

/-! ### The reset pin (15 R558) -/

/-- RST_N has been low for 10 ms: the device is held in reset. -/
def State.rstLow (s : State) : State :=
  if s.on F.SYS_STRAP_RSTIGN then s
  else
    let s := s.set F.SYS_STRAP_RSTLVL 0
    let t := s.warmReset 1
    if s.dev ≤ stPMU_UP ∨ s.dev = stSEALED ∨ s.dev = stTHERMAL then t else { t with sys := { t.sys with resetHeld := true } }

/-- RST_N has been high for 10 ms: the device enters BOOT. -/
def State.rstHigh (s : State) : State :=
  let s := s.set F.SYS_STRAP_RSTLVL 1
  { s with sys := { s.sys with resetHeld := false } }

/-- RST_N has been low for 4 s with STRAP3 low: it is declared stuck and ignored. -/
def State.rstStuck (s : State) : State :=
  if s.sys.resetHeld && !s.fbit F.SYS_STRAP_STRAP 3 then
    let s := { s with sys := { s.sys with resetHeld := false } }
    (s.set F.SYS_STRAP_RSTIGN 1).faultNew F.SYS_EVT_RST_STUCK Q.SYS_RST_STUCK (hw 0)
  else s

/-- The stuck pin has been high for 100 ms. -/
def State.rstObeyed (s : State) : State := (s.set F.SYS_STRAP_RSTIGN 0).set F.SYS_STRAP_RSTLVL 1

/-! ### Registers (14 Tables 8, 10 and 12) -/

/-- A write in the PMU block. -/
def State.writePMU (s : State) (m : Master) (a : Nat) (v : Word) : State :=
  if a = R.PMU_CFG && (fldOf F.PMU_CFG_PFWTHR v < 800 || 2800 < fldOf F.PMU_CFG_PFWTHR v || fldOf F.PMU_CFG_FSWSEL v == 3) then
    s.faultNew F.PMU_EVT_CFGREJ Q.PMU_CFGREJ (wr m a)
  else s.plainWrite a v

/-- A write in the CLK block. -/
def State.writeCLK (s : State) (m : Master) (a : Nat) (v : Word) : State :=
  let bad := (a == R.CLK_CFG && fldOf F.CLK_CFG_REFMODE v == 3) ||
    (a == R.CLK_LOCK && (fldOf F.CLK_LOCK_UNLKWIN v ≤ fldOf F.CLK_LOCK_LOCKWIN v || fldOf F.CLK_LOCK_LOCKCNT v < 16))
  if bad then s.faultNew F.CLK_STAT_CFGREJ Q.CLK_CFGREJ (wr m a) else s.plainWrite a v

/-- A write in the THERM block. Clearing both die bits of THERM_SDREC clears its sensor and reading. -/
def State.writeTHERM (s : State) (m : Master) (a : Nat) (v : Word) : State :=
  let n := (a - R.THERM_TXCFG 0) / 4
  let k := (a - R.THERM_TXLIM 0) / 4
  let bad := (R.THERM_TXCFG 0 ≤ a && a ≤ R.THERM_TXCFG 3 && (fldOf (F.THERM_TXCFG_B n) v < 1000 || fldOf (F.THERM_TXCFG_R25 n) v < 10)) ||
    (R.THERM_TXLIM 0 ≤ a && a ≤ R.THERM_TXLIM 3 &&
      signedOf 16 (fldOf (F.THERM_TXLIM_ALARM k) v) < signedOf 16 (fldOf (F.THERM_TXLIM_WARN k) v))
  if bad then s.faultNew F.THERM_EVT_CFGREJ Q.THERM_CFGREJ (wr m a)
  else
    let s := s.plainWrite a v
    if a = R.THERM_SDREC && !s.on F.THERM_SDREC_LOGIC && !s.on F.THERM_SDREC_ANA then
      (s.set F.THERM_SDREC_SENSOR 0).set F.THERM_SDREC_READING 0
    else s

/-! ### The commands -/

/-- VAUX_VALID (R505). -/
def execVauxValid (s : State) : Host.Outcome State Fault Refusal := .next (settle s s.vauxValid)

/-- RAIL_START (R506). -/
def execRailStart (s : State) : Host.Outcome State Fault Refusal := .next (settle s s.railStart)

/-- RAIL_POWER_GOOD (R506). -/
def execRailPowerGood (straps : Fin 16) (s : State) : Host.Outcome State Fault Refusal := .next (settle s (s.railGood straps))

/-- PMU_UP_COMPLETE (R507). -/
def execPmuUpComplete (s : State) : Host.Outcome State Fault Refusal := .next (settle s s.pmuDone)

/-- SEQUENCE_FAULT (R507). -/
def execSequenceFault (pll : Bool) (s : State) : Host.Outcome State Fault Refusal := .next (settle s (s.seqFault pll))

/-- RAIL_FAULT (R508). -/
def execRailFault (r : Fin 4) (s : State) : Host.Outcome State Fault Refusal := .next (settle s (s.railFault (r + 1)))

/-- PMU_RETRY (R509). -/
def execPmuRetry (s : State) : Host.Outcome State Fault Refusal := .next (settle s s.pmuRetry)

/-- UVLO (R505). -/
def execUvlo (s : State) : Host.Outcome State Fault Refusal := .next (settle s (s.vauxLost 1))

/-- VAUX_OVERVOLTAGE (R505). -/
def execVauxOvervoltage (s : State) : Host.Outcome State Fault Refusal := .next (settle s (s.vauxLost 2))

/-- VAUX_BELOW_5V (R509). -/
def execVauxBelow5v (s : State) : Host.Outcome State Fault Refusal := .next (settle s s.vauxGone)

/-- PFAIL_WARNING (R512). -/
def execPfailWarning (s : State) : Host.Outcome State Fault Refusal := .next (settle s s.pfailSet)

/-- VGD_WINDOW_CHANGE (R510). -/
def execVgdWindowChange (bad : Bool) (s : State) : Host.Outcome State Fault Refusal := .next (settle s (s.vgdWindow bad))

/-- VGD_CURRENT_LIMIT (R510). -/
def execVgdCurrentLimit (on : Bool) (s : State) : Host.Outcome State Fault Refusal := .next (settle s (s.setB F.PMU_STAT_VGDLIM on))

/-- PLL_BAND_SEARCH_DONE (R517). -/
def execPllBandSearchDone (band : Fin 16) (s : State) : Host.Outcome State Fault Refusal := .next (settle s (s.bandFound band))

/-- PLL_LOCK (R518). -/
def execPllLock (s : State) : Host.Outcome State Fault Refusal := .next (settle s s.pllLock)

/-- PLL_UNLOCK (R520). -/
def execPllUnlock (s : State) : Host.Outcome State Fault Refusal := .next (settle s s.pllUnlock)

/-- REFERENCE_LOSS (R520). -/
def execReferenceLoss (s : State) : Host.Outcome State Fault Refusal := .next (settle s s.refLoss)

/-- REFERENCE_RETURN (R521). -/
def execReferenceReturn (inBand : Bool) (s : State) : Host.Outcome State Fault Refusal := .next (settle s (s.refReturn inBand))

/-- PLL_COAST_LIMIT (R523). -/
def execPllCoastLimit (s : State) : Host.Outcome State Fault Refusal := .next (settle s s.coastLimit)

/-- LC_PLL_UNLOCK (R525). -/
def execLcPllUnlock (b : Bool) (s : State) : Host.Outcome State Fault Refusal := .next (settle s (s.lcUnlock b))

/-- LC_PLL_LOCK (R525). -/
def execLcPllLock (b : Bool) (band : Fin 16) (s : State) : Host.Outcome State Fault Refusal := .next (settle s (s.lcLock b band))

/-- TEMP_ROUND_END (R531). -/
def execTempRoundEnd (ts : List (BitVec 16)) (s : State) : Host.Outcome State Fault Refusal := .next (settle s (s.tempRound ts))

/-- THERMISTOR_MEASURE (R527). -/
def execThermistorMeasure (n : Fin 4) (r : Rat) (s : State) : Host.Outcome State Fault Refusal := .next (settle s (s.txMeasure n r))

/-- THERMAL_RESTART (R537). -/
def execThermalRestart (s : State) : Host.Outcome State Fault Refusal :=
  .next (settle s (if s.dev = stTHERMAL && s.coolEnough then s.thermalReset else s))

/-- RST_N_ASSERT (15 R558). -/
def execRstNAssert (s : State) : Host.Outcome State Fault Refusal := .next (settle s s.rstLow)

/-- RST_N_RELEASE (15 R558). -/
def execRstNRelease (s : State) : Host.Outcome State Fault Refusal := .next (settle s s.rstHigh)

/-- RST_N_STUCK (15 R558). -/
def execRstNStuck (s : State) : Host.Outcome State Fault Refusal := .next (settle s s.rstStuck)

/-- RST_N_IGNORE_END (15 R558). -/
def execRstNIgnoreEnd (s : State) : Host.Outcome State Fault Refusal := .next (settle s s.rstObeyed)

/-- WATCHDOG_EXPIRY (15 R557; 09 R359): YIELD where the agent can still announce it. -/
def execWatchdogExpiry (announce : Bool) (s : State) : Host.Outcome State Fault Refusal :=
  .next (settle s ((if announce && stBOOT < s.dev && s.dev < stSEALED then s.yield 3 else s).warmReset 4))

/-- LOCKSTEP_MISMATCH (15 R555). -/
def execLockstepMismatch (s : State) : Host.Outcome State Fault Refusal :=
  .next (settle s (if s.dev ≤ stPMU_UP then s else s.faultNew F.SYS_EVT_LOCKSTEP Q.SYS_LOCKSTEP (hw 0)))

end Sys2Proof.Machine
end

