-- ==== Sys2Proof/Machine/Records.lean ====
section
/-! DEFINITION. Machine/Records.lean: configuration records (15_faults_reset_startup.md R569 to R571): their entries, when a copy
is valid, which is the newer, and the CFGCRC of R348. -/
namespace Sys2Proof.Machine

/-- Word `i` of a record. -/
def recW (ws : List Word) (i : Nat) : Nat := (ws.getD i 0).toNat

/-- The writes of the entries (Table 13), up to the END entry, which must be the last word; none where an entry is malformed. -/
def recEntries : Nat → List Word → Option (List (Nat × Word))
  | 0, _ => none
  | k + 1, ws =>
    match ws with
    | [] => none
    | h :: r =>
      let a := h.toNat / 4 * 4
      let at_ (i : Nat) : Nat := (a + 4 * i) % 2 ^ 32
      match h.toNat % 4, r with
      | 0, v :: r' => (recEntries k r').map ((a, v) :: ·)
      | 1, n :: v :: r' =>
        if 1 ≤ n.toNat ∧ n.toNat ≤ 4096 then (recEntries k r').map ((List.range n.toNat).map (fun i => (at_ i, v)) ++ ·) else none
      | 2, n :: r' =>
        if 1 ≤ n.toNat ∧ n.toNat ≤ 4096 ∧ n.toNat ≤ r'.length then
          (recEntries k (r'.drop n.toNat)).map (((List.range n.toNat).map at_).zip (r'.take n.toNat) ++ ·)
        else none
      | 3, [] => if h = 3 then some [] else none
      | _, _ => none

/-- The record in a slot: LEN bytes of it. -/
def recOf64K (ws : List Word) : List Word := ws.take (recW ws 2 / 4)

/-- The check word of a record (R570). -/
def recCheck (ws : List Word) : Word := crc32 ((ws.take (ws.length - 1)).flatMap wordBytes)

/-- The writes of a record, in entry order. -/
def recWrites (ws : List Word) : Option (List (Nat × Word)) := recEntries ws.length ((recOf64K ws).drop 8 |>.dropLast)

/-- Whether a copy is valid (R571). -/
def recValid (serial : Word) (ws : List Word) : Bool :=
  let r := recOf64K ws
  recW ws 0 == 0xC0F16456 && recW ws 1 % 65536 == 1 && recW ws 2 % 4 == 0 && 40 ≤ recW ws 2 && recW ws 2 ≤ 65536
    && r.length == recW ws 2 / 4 && (recW ws 4 == 0 || ws.getD 4 0 == serial) && (recWrites ws).isSome
    && r.getLastD 0 == recCheck r

/-- Whether generation `a` is newer than `b` (R571). -/
def genNewer (a b : Nat) : Bool := let d := (a + 2 ^ 32 - b) % 2 ^ 32; 1 ≤ d && d ≤ 2 ^ 31 - 1

/-- The CFGCRC of a record: its check word with the identity block taken as 0 (R570; 09 R348). -/
def recCfgCrc (ws : List Word) : Word :=
  let r := recOf64K ws
  recCheck (r.take 3 ++ List.replicate 5 0 ++ r.drop 8)

/-- The words of a copy, A (false) or B. -/
def State.cfgCopy (s : State) (b : Bool) : List Word := if b then s.nvm.cfgB else s.nvm.cfgA

/-- The CFGCRC of the copy in use; that of no bytes where none is in use. -/
def State.cfgCrc (s : State) : Word :=
  match s.sys.copyInUse with
  | some b => recCfgCrc (s.cfgCopy b)
  | none => crc32 []

end Sys2Proof.Machine
end

