-- ==== Sys2Proof/Machine/Update.lean ====
section
/-! DEFINITION. Machine/Update.lean: images in the MRAM and their verification (17_firmware_update.md R615 to R618), keys (R619, R620),
the slots and the boot record (R621, R622), sessions (R623 to R626), the relay (R629 to R631), activation, trial and fallback (R632
to R636), and the registers of UPD and NVM. -/
namespace Sys2Proof.Machine

/-- What a host command answers: DONE with data, FAILED with a reason, or nothing yet. -/
inductive CmdRes where
  | done (data : List Word)
  | failed (reason : Nat)
  | wait
  deriving DecidableEq, Repr

/-! ### Images (R615 to R618) -/

/-- The MRAM offset of chunk `c` of slot `x` (Tables 1 and 2). -/
def chunkAddr (x c : Nat) : Nat := 0x500000 * x + 4096 * c

/-- `n` bytes at offset `o` of slot `x`. -/
def State.imgBytes (s : State) (x o n : Nat) : List Byte := (List.range n).map fun i => memGet s.nvm.mram (chunkAddr x 0 + o + i)

/-- A little-endian field of `n` bytes of the manifest. -/
def State.man (s : State) (x o n : Nat) : Nat := memRead s.nvm.mram (chunkAddr x 0 + o) n

def State.imgNch (s : State) (x : Nat) : Nat := s.man x 8 4
def State.imgNht (s : State) (x : Nat) : Nat := s.man x 12 4
def State.imgVer (s : State) (x : Nat) : Nat := s.man x 16 4

/-- The SHA-256 of chunk `c`. -/
def State.chunkSha (s : State) (x c : Nat) : List Byte := sha256 (s.imgBytes x (4096 * c) 4096)

/-- The key hash of key slot `k`, byte 0 in bits 7..0 of the first word. -/
def State.keyHash (s : State) (k : Nat) : List Byte := (List.range 8).flatMap fun w => wordBytes (s.reg (R.NVM_KEYHASH k w))

/-- Whether key slot `k` is programmed and not revoked. -/
def State.keyGood (s : State) (k : Nat) : Bool := k < 4 && s.fbit F.NVM_KEYS_PROG k && !s.fbit F.NVM_KEYS_REVOKED k

/-- Whether the manifest in slot `x` is authentic (R617). -/
def State.authentic (s : State) (x : Nat) : Bool :=
  let k := s.man x 6 1
  let pub := s.imgBytes x 0x20 64
  let sig := s.imgBytes x 0xFC0 64
  s.keyGood k && sha256 pub == s.keyHash k
    && ecdsaOk (beNat (pub.take 32)) (beNat (pub.drop 32)) (beNat (sig.take 32)) (beNat (sig.drop 32)) (s.imgBytes x 0 0xFC0)

/-- Whether MAGIC, FMT, SYSID, NCH, NHT and NSEC are as Table 2 and R616 give them. -/
def State.manifestOk (s : State) (x : Nat) : Bool :=
  let nch := s.imgNch x
  s.man x 0 4 == 0x314F5846 && s.man x 4 2 == 1 && s.man x 0x18 4 == 0x0B645601 && (2 ≤ nch && nch ≤ 1280)
    && (1 ≤ s.imgNht x && s.imgNht x ≤ 10) && s.imgNht x == (nch - 1 + 128) / 129 && (1 ≤ s.man x 7 1 && s.man x 7 1 ≤ 8)

/-- The bytes that must hash to the hash of chunk `c`: where it is kept, in the manifest or in a hash-table chunk. -/
def State.hashOf (s : State) (x c : Nat) : List Byte :=
  let nht := s.imgNht x
  if c ≤ nht then s.imgBytes x (0xE0 + 32 * (c - 1)) 32 else s.imgBytes x (4096 + 32 * (c - 1 - nht)) 32

/-- A section: type, PARAM, first chunk, bytes. -/
structure ImgSec where
  ty : Nat
  param : Nat
  first : Nat
  bytes : Nat
  deriving DecidableEq, Repr

def State.imgSec (s : State) (x i : Nat) : ImgSec :=
  let o := 0x60 + 16 * i
  { ty := s.man x o 1, param := s.man x (o + 2) 2, first := s.man x (o + 4) 4, bytes := s.man x (o + 8) 4 }

def State.imgSecs (s : State) (x : Nat) : List ImgSec := (List.range (min 8 (s.man x 7 1))).map (s.imgSec x)

/-- The chunks of a section. -/
def ImgSec.chunks (e : ImgSec) : Nat := (e.bytes + 4095) / 4096

/-- Whether a section is one of Table 3. -/
def ImgSec.ok (e : ImgSec) : Bool :=
  match e.ty with
  | 1 => e.param == 0 && 4096 ≤ e.bytes && e.bytes ≤ 4194304
  | 2 => e.param == 0 && e.bytes % 8 == 0 && e.bytes ≤ 65536
  | 3 => 1 ≤ e.param && e.param ≤ 1024 && e.bytes % 16 == 0 && e.bytes ≤ 16384
  | 4 => e.param == 0 && 40 ≤ e.bytes && e.bytes ≤ 65536
  | _ => false

/-- The bytes of a section. -/
def State.secBytes (s : State) (x : Nat) (e : ImgSec) : List Byte := s.imgBytes x (4096 * e.first) e.bytes

/-- Whether the bytes of a section's last chunk beyond its length are 0. -/
def State.secTail (s : State) (x : Nat) (e : ImgSec) : Bool :=
  (s.imgBytes x (4096 * e.first + e.bytes) (4096 * e.chunks - e.bytes)).all (· == 0)

/-- Words of bytes, the first byte least significant. -/
def leWords : List Byte → List Word
  | a :: b :: c :: d :: r => (d ++ c ++ b ++ a) :: leWords r
  | _ => []

/-- Whether the sections are as R618 asks. -/
def State.secsOk (s : State) (x : Nat) : Bool :=
  let l := s.imgSecs x
  let cnt (t : Nat) : Nat := (l.filter (·.ty == t)).length
  l.all ImgSec.ok && cnt 1 == 1 && cnt 2 ≤ 1 && cnt 3 ≤ 1 && cnt 4 ≤ 1
    && l.all (fun e => 1 + s.imgNht x ≤ e.first && e.first + e.chunks ≤ s.imgNch x && s.secTail x e)
    && decide (l.Pairwise fun a b => a.first + a.chunks ≤ b.first ∨ b.first + b.chunks ≤ a.first)
    && l.all (fun e => e.ty != 4 || (recW (leWords (s.secBytes x e)) 4 == 0 && recValid 0 (leWords (s.secBytes x e))))

/-- Whether every chunk after the manifest matches its hash (R616). -/
def State.hashesOk (s : State) (x : Nat) : Bool := (List.range (s.imgNch x)).all fun c => c == 0 || s.chunkSha x c == s.hashOf x c

/-- Whether the image in slot `x` is well formed (R618). -/
def State.wellFormedImage (s : State) (x : Nat) : Bool := s.manifestOk x && s.authentic x && s.secsOk x && s.hashesOk x

/-! ### The boot record -/

/-- Set the state of a slot. -/
def State.setSlot (s : State) (x st : Nat) : State :=
  let b := s.nvm.boot
  { s with nvm := { s.nvm with boot := if x = 0 then { b with stA := st } else { b with stB := st } } }

def State.setSlotVer (s : State) (x v : Nat) : State :=
  let b := s.nvm.boot
  { s with nvm := { s.nvm with boot := if x = 0 then { b with verA := v } else { b with verB := v } } }

/-- Raise a source of UPD with the slot (R638). -/
def State.updFault (s : State) (f : Fld) (q : Src) (slot : Nat) : State := s.faultNew f q (hw slot)

/-- Verification of a slot ends (R625): VERIFIED, or FAILED with VERFAIL; the session is closed. -/
def State.verifyEnd (s : State) (x : Nat) : Bool × State :=
  let ok := s.wellFormedImage x
  let s := { s with nvm := { s.nvm with sess := none } }
  (ok, if ok then ((s.setSlot x 3).setSlotVer x (s.imgVer x)).showUpd
       else ((s.setSlot x 6).updFault F.UPD_STAT_VERFAIL Q.UPD_VERFAIL x).showUpd)

/-! ### Image selection at BOOT (R621, R622) -/

/-- The running slot is `x`. -/
def State.runSlot (s : State) (x : Nat) (trial : Bool) : State :=
  let s := ((s.set F.UPD_SLOT_RUN x).setB F.SYS_STATE_TRIAL trial).setB F.UPD_STAT_TRIAL trial
  { s.setRegN R.SYS_IMGVER (s.imgVer x) with upd := { s.upd with trialAt := s.now } }

/-- Recovery: the loader of the factory area runs. -/
def State.recovery (s : State) : State := (s.set F.UPD_STAT_NOIMAGE 1).setReg R.SYS_IMGVER 0

/-- A slot fails verification at BOOT. -/
def State.bootFailed (s : State) (x : Nat) : State := (s.setSlot x 6).updFault F.UPD_STAT_VERFAIL Q.UPD_VERFAIL x

/-- Try the confirmed slot. -/
def State.tryConfirmed (s : State) : State :=
  match (List.range 2).find? fun x => s.slotState x == 5 with
  | none => s.recovery
  | some x =>
    if s.wellFormedImage x then s.runSlot x false
    else
      let s := s.bootFailed x
      let y := 1 - x
      if (s.slotState y == 7 || s.slotState y == 3) && s.wellFormedImage y then
        ((s.setSlot y 5).updFault F.UPD_STAT_ALTBOOT Q.UPD_ALTBOOT y).runSlot y false
      else s.recovery

/-- A trial that a reset interrupted, or whose window ended, has fallen back. -/
def State.fallBack (s : State) : State :=
  match (List.range 2).find? fun x => s.slotState x == 4 with
  | some y => ((s.setSlot y 6).updFault F.UPD_STAT_FALLBACK Q.UPD_FALLBACK y).tryConfirmed
  | none =>
    (if s.nvm.boot.fell then
      ({ s with nvm := { s.nvm with boot := { s.nvm.boot with fell := false } } }).updFault F.UPD_STAT_FALLBACK Q.UPD_FALLBACK
        ((List.range 2).find? (fun x => s.slotState x == 6) |>.getD 0)
     else s).tryConfirmed

/-- Step 3 of R566. -/
def State.selectImage (s : State) : State :=
  let act := s.nvm.boot.act
  let s := { s with nvm := { s.nvm with boot := { s.nvm.boot with act := none } } }
  (match act with
   | some x =>
     if s.slotState x = 3 then
       let s := s.setSlot x 4
       if s.wellFormedImage x then s.runSlot x true else (s.bootFailed x).tryConfirmed
     else s.fallBack
   | none => s.fallBack).showUpd

/-! ### Closing a session or an activation (R626, R633) -/

/-- The pieces of a session that are taken in and not final are answered FAILED ABORTED: one in its verification, and those that wait
to start. -/
def State.abortWaiting (s : State) (session : Nat) : State :=
  let all := (List.range 5).flatMap (fun f => (s.flow f).taken) ++ s.host.ringCmds
  (all.filter fun r => r.cmd.opc == 0x81 && bw r.cmd.body 0 == session && !r.remote && !r.partner).foldl (fun s r => s.failed r.cmd.key 0x4E) s

/-- The session closes and its slot becomes EMPTY. -/
def State.closeSession (s : State) : State :=
  match s.nvm.sess with
  | none => s
  | some x =>
    let s := ({ s with nvm := { s.nvm with sess := none }, upd := { s.upd with verify := none } }).setSlot s.idleSlot 0
    (s.abortWaiting x.session).showUpd

/-- The pending activation is withdrawn, its command answered; so is one still in its verification. -/
def State.dropAct (s : State) (reason : Nat) : State :=
  match s.upd.act with
  | none =>
    (match s.host.ops.find? fun e => e.2.cmd.opc == 0x84 with
     | some e => s.failed e.2.cmd.key reason
     | none => s)
  | some a => (({ s with upd := { s.upd with act := none } }).failed a.cmd.key reason).showUpd

/-! ### Sessions from the host (R623 to R627) -/

/-- UPD_OPEN; on a device that applies it the session record waits for a checkpoint (R627). -/
def State.updOpen (s : State) (body : List Word) (apply : Bool) : CmdRes × State :=
  let digest := (body.drop 2).flatMap wordBytes
  let fresh : State → CmdRes × State := fun s =>
    if s.on F.SYS_STATE_TRIAL then (.failed 0x42, s)
    else
      let x : Session := { session := bw body 0, digest, nch := bw body 1, pieces := 0, age := 0, relay := false }
      let s := (s.setSlot s.idleSlot 1).setSlotVer s.idleSlot 0
      (.done [0], (if apply then s else { s with nvm := { s.nvm with sess := some x } }).showUpd)
  match s.nvm.sess with
  | some x =>
    if x.session = bw body 0 ∧ x.digest = digest then (.done [BitVec.ofNat 32 (2 ^ 31 + x.count)], s)
    else (.failed 0x41, s)
  | none => fresh s

/-- Whether the chunk that holds the hash of chunk `c` is complete (R624). -/
def State.hashPresent (s : State) (x : Session) (slot c : Nat) : Bool :=
  if c = 0 then true
  else if !x.has 0 then false
  else if c ≤ s.imgNht slot then true
  else x.has (1 + (c - 1 - s.imgNht slot) / 128)

/-- Whether a complete chunk passes its check (R624). -/
def State.chunkOk (s : State) (x : Session) (slot c : Nat) : Bool :=
  if c = 0 then (x.digest == [] || s.chunkSha slot 0 == x.digest) && s.authentic slot else s.chunkSha slot c == s.hashOf slot c

/-- Write bytes into the MRAM. -/
def State.putMram (s : State) (a : Nat) (l : List Byte) : State :=
  { s with nvm := { s.nvm with mram := ((List.range l.length).zip l).foldl (fun m e => memPut m (a + e.1) e.2) s.nvm.mram } }

def State.setSess (s : State) (x : Session) : State := { s with nvm := { s.nvm with sess := some x } }

/-- The pieces of chunk `c` that `mask` names, of 8. -/
def Session.setPieces (x : Session) (c mask : Nat) : Session := { x with pieces := x.pieces ||| (mask * 2 ^ (8 * c)) }
def Session.clearChunk (x : Session) (c : Nat) : Session := { x with pieces := x.pieces - bitsOf x.pieces (8 * c) 8 * 2 ^ (8 * c) }

/-- Check a chunk that has become complete: its pieces go on a mismatch; NCH of a relay comes from chunk 0. -/
def State.checkChunk (s : State) (x : Session) (slot c : Nat) : Bool × Session × State :=
  if s.chunkOk x slot c then
    let x := if c = 0 && x.relay then { x with nch := s.imgNch slot } else x
    (true, x, (s.setSess x).showUpd)
  else
    let x := x.clearChunk c
    let s := if c = 0 then s.updFault F.UPD_STAT_SIGFAIL Q.UPD_SIGFAIL slot else s.updFault F.UPD_STAT_CHUNKBAD Q.UPD_CHUNKBAD slot
    (false, x, (s.setSess x).showUpd)

/-- Whether every chunk of the session is complete. -/
def Session.full (x : Session) : Bool := x.nch != 0 && x.count == x.nch

/-- UPD_CHUNK (R624, R625). -/
def State.updChunk (s : State) (body : List Word) (apply : Bool) : CmdRes × State :=
  let c := bitsOf (bw body 1) 16 11
  let p := bw body 1 % 8
  let slot := s.idleSlot
  let data := ((body.drop 2).take 128).flatMap wordBytes
  match s.nvm.sess with
  | none => if apply then (.done [0], s.putMram (chunkAddr slot c + 512 * p) data) else (.failed 0x40, s)
  | some x =>
    if x.session != bw body 0 then (.failed 0x40, s)
    else if x.nch ≤ c then (.failed 0x46, s)
    else if apply then (.done [BitVec.ofNat 32 x.count], s.putMram (chunkAddr slot c + 512 * p) data)
    else if !s.hashPresent x slot c then (.failed 0x45, s)
    else if s.pfail then (.failed 7, s.faultNew F.NVM_STAT_PFREJ Q.NVM_PFREJ (hw (chunkAddr slot c)))
    else
      let had := x.has c
      let s := s.putMram (chunkAddr slot c + 512 * p) data
      let x := x.setPieces c (2 ^ p)
      if !x.has c || (had && s.chunkOk x slot c) then (.done [BitVec.ofNat 32 x.count], s.setSess x)
      else
        match s.checkChunk x slot c with
        | (false, _, s) => (.failed (if c = 0 then 0x43 else 0x44), s)
        | (true, x, s) =>
          if x.full then (.wait, (s.setSlot slot 2).showUpd) else (.done [BitVec.ofNat 32 x.count], s)

/-- UPD_ABORT (R626, R633). -/
def State.updAbort (s : State) (body : List Word) : CmdRes × State :=
  let cancel := bw body 1 % 2 == 1 && (s.upd.act.isSome || s.host.ops.any (·.2.cmd.opc == 0x84))
  let hit := match s.nvm.sess with | some x => bw body 0 == 0 || x.session == bw body 0 | none => false
  let s := if cancel then s.dropAct 0x4E else s
  let s := if hit then s.closeSession else s
  if cancel || hit then (.done [], s) else (.failed 0x40, s)

/-- A powered minute of an open session (R626). -/
def State.ageMinute (s : State) : State :=
  match s.nvm.sess with
  | none => s
  | some x =>
    let s := (s.setSess { x with age := x.age + 1 }).showUpd
    if s.get F.UPD_CFG_EXPIRY * 1440 ≤ x.age + 1 then s.closeSession.updFault F.UPD_STAT_SESSEXP Q.UPD_SESSEXP s.idleSlot else s

/-- A checkpoint of the active device's session arrives at its standby (R627): the standby's session record takes it; chunks newly
complete are checked in the standby's own slot; when all are, verification starts. -/
def State.takeSession (s : State) (x : Session) : State :=
  let old := match s.nvm.sess with | some o => o.pieces | none => 0
  let slot := s.idleSlot
  let bad := (List.range x.nch).filter fun c => x.has c && bitsOf old (8 * c) 8 != 255 && !s.chunkOk x slot c
  let x := bad.foldl Session.clearChunk { x with age := match s.nvm.sess with | some o => o.age | none => 0 }
  let s := s.setSess x
  let s := if bad = [] then s else s.updFault F.UPD_STAT_CHUNKBAD Q.UPD_CHUNKBAD slot
  let s := if s.slotState slot = 2 then s else s.setSlot slot 1
  (if x.full && s.upd.verify.isNone then ({ s with upd := { s.upd with verify := some slot } }).setSlot slot 2 else s).showUpd

/-! ### UPD_STATUS (R637) -/

/-- A version as a summary shows it. -/
def State.shownVer (s : State) (x : Nat) : Word :=
  if [3, 4, 5, 7].contains (s.slotState x) then s.reg (if x = 0 then R.UPD_VERA else R.UPD_VERB) else 0

/-- What is left of the confirmation window, in seconds. -/
def State.trialLeft (s : State) : Nat := s.get F.UPD_CFG_CONFWIN - (ctDiff s.now s.upd.trialAt / 3200000000).toNat

/-- Whether the lanes and links of R634 are up. -/
def State.trialLinks (s : State) : Bool :=
  let en := s.reg64 R.OCL_EN_LO % 2 ^ 56
  en &&& s.reg64 R.OCL_READY_LO == en
    && (!s.on F.RING_CFG_EN || (s.ringPort 0 == 3 && s.ringPort 1 == 3)) && (!s.on F.TWIN_CFG_EN || s.linked)

/-- UPD_TRIAL as it reads: 0 outside TRIAL. -/
def State.trialWord (s : State) : Nat :=
  if s.on F.SYS_STATE_TRIAL then
    2 ^ 16 * s.trialLeft + 4 * b2n (1000 ≤ s.regN R.UPD_OKRUN) + 2 * b2n s.trialLinks + b2n s.upd.testsOk
  else 0

/-- The CFGT section of the running image, read as 0 beyond its end (DESIGN CHOICE, log 40). -/
def State.cfgtWord (s : State) (o : Nat) : Word :=
  match (s.imgSecs (s.get F.UPD_SLOT_RUN)).find? (·.ty == 4) with
  | some e => if o + 4 ≤ e.bytes then BitVec.ofNat 32 (s.man (s.get F.UPD_SLOT_RUN) (4096 * e.first + o) 4) else 0
  | none => 0

def State.updStatus (s : State) (body : List Word) : List Word :=
  match bw body 0 % 4 with
  | 0 => [s.reg R.UPD_STAT, s.reg R.UPD_SLOT, s.reg R.UPD_SESSION, s.reg R.UPD_PROG, s.reg R.UPD_AGE, BitVec.ofNat 32 s.trialWord,
      s.reg R.UPD_OKRUN, s.shownVer 0, s.shownVer 1, s.reg R.UPD_RLY]
  | 1 =>
    let has (c : Nat) : Bool := match s.nvm.sess with | some x => x.has c | none => false
    (List.range (40 - bw body 1)).map fun i => BitVec.ofNat 32 ((List.range 32).foldl (fun n b =>
      n + 2 ^ b * b2n (has (32 * (bw body 1 + i) + b))) 0)
  | _ => (List.range (bw body 2 / 4)).map fun i => s.cfgtWord (bw body 1 + 4 * i)

/-! ### The relay (R629 to R631) -/

/-- UPD_RLY shows the relay. -/
def State.showRelay (s : State) : State :=
  match s.upd.relay with
  | some r => (((s.set F.UPD_RLY_BUSY 1).setB F.UPD_RLY_DIR (r.side == .west)).set F.UPD_RLY_ACKED r.acked).set F.UPD_RLY_HOPS r.hops
  | none => s.set F.UPD_RLY_BUSY 0

def State.setRelay (s : State) (r : Option Relay) : State := ({ s with upd := { s.upd with relay := r } }).showRelay

/-- Send the four quarters of a chunk to the neighbour (Table 5). -/
def State.sendChunk (s : State) (r : Relay) (c hops : Nat) : State :=
  (List.range 4).foldl (fun s q =>
    let d0 := blk r.session (2 ^ 21 * c + 2 ^ 19 * q + 2 ^ 10 * hops + r.origin)
    let data := pack64 (leWords (s.imgBytes r.slot (4096 * c + 1024 * q) 1024))
    s.ringOrig r.side (s.ownFrame rcBULK 0 0 true 1 (d0 :: data))) s

/-- UPD_RELAY (R629). -/
def State.updRelay (s : State) (c : HCmd) : CmdRes × State :=
  let w := bw c.body 1
  let slot := bitsOf w 28 1
  let side := if w.testBit 31 then Side.west else Side.east
  if !([3, 5, 7].contains (s.slotState slot)) then (.failed 0x48, s)
  else if s.ringPort (if side = .east then 0 else 1) != 3 || s.upd.relay.isSome then (.failed 1, s)
  else
    (.wait, s.setRelay (some { owner := some c, session := bw c.body 0, slot, side, hops := w % 512, nch := s.imgNch slot,
                               origin := s.nodeId, next := 0, sent := [], acked := 0 }))

/-- The origin sends its next chunk, a step of UPD_RELAY. -/
def State.relayNext (s : State) : State :=
  match s.upd.relay with
  | some r =>
    if r.owner.isSome ∧ r.next < r.nch then
      let s := match s.host.ops.find? (·.2.cmd.opc == 0x83) with | some (n, _) => s.count (R.HOST_OP_DONE n) 1 | none => s
      (s.sendChunk r r.next r.hops).setRelay (some { r with next := r.next + 1, sent := r.sent ++ [⟨r.next, 1, r.hops⟩] })
    else s
  | none => s

/-- A RACK frame to the neighbour on port `p`. -/
def State.rackSend (s : State) (p : Side) (session c : Nat) (bad : Bool) : State :=
  s.ringOrig p (s.ownFrame rcBULK 0 (2 ^ 12) true 1 [blk session (2 ^ 21 * c + 2 ^ 20 * b2n bad + s.nodeId)])

/-- Forward a chunk that passed to the port opposite the one it arrived on. -/
def State.relayOn (s : State) (p : Side) (session c hops origin : Nat) : State :=
  if hops ≤ 1 then s
  else
    let nch := match s.nvm.sess with | some x => x.nch | none => 0
    let r := match s.upd.relay with
      | some r => { r with nch := nch }
      | none => { owner := none, session, slot := s.idleSlot, side := otherSide p, hops := hops - 1, nch, origin, next := 0, sent := [], acked := 0 }
    (s.sendChunk r c (hops - 1)).setRelay (some { r with sent := r.sent.filter (·.chunk != c) ++ [⟨c, 1, hops - 1⟩] })

/-- A chunk of a relay is complete: checked, answered, forwarded; the last one starts verification. -/
def State.relayChunk (s : State) (p : Side) (x : Session) (c hops origin : Nat) : State :=
  let slot := s.idleSlot
  match s.checkChunk x slot c with
  | (false, x, s) => s.rackSend p x.session c true
  | (true, x, s) =>
    let s := (s.rackSend p x.session c false).relayOn p x.session c hops origin
    if x.full then (({ s with upd := { s.upd with verify := some slot } }).setSlot slot 2).showUpd else s

/-- A quarter arrives (R630, R631); a chunk whose hash is not yet present, or beyond NCH, is not taken. -/
def State.rchunkRx (s : State) (p : Side) (f : RingFrame) : State :=
  let session := hi32 (f.data.getD 0 0)
  let w := lo32 (f.data.getD 0 0)
  let c := w / 2 ^ 21
  let q := bitsOf w 19 2
  let hops := bitsOf w 10 9
  let slot := s.idleSlot
  let may := s.on F.UPD_CFG_RLYACC && !s.on F.SYS_STATE_TRIAL && !s.pfail
  let open_ : Option (Session × State) := match s.nvm.sess with
    | some x => if x.session = session then some (x, s) else none
    | none => if c = 0 ∧ q = 0 then
        some ({ session, digest := [], nch := 0, pieces := 0, age := 0, relay := true }, (s.setSlot slot 1).setSlotVer slot 0)
      else none
  match may, open_ with
  | true, some (x, s) =>
    if x.has c then (s.rackSend p session c false).relayOn p session c hops (w % 512)
    else if s.slotState slot = 2 || (c != 0 && x.nch ≤ c) || !s.hashPresent x slot c then s
    else
      let s := s.putMram (chunkAddr slot c + 1024 * q) ((unpack64 f.data.tail).flatMap wordBytes)
      let x := x.setPieces c (3 * 4 ^ q)
      let s := (s.setSess x).showUpd
      if x.has c then s.relayChunk p x c hops (w % 512) else s
  | _, _ => s

/-- RACK arrives: OK counts once; the origin answers when every chunk is acknowledged. -/
def State.rackRx (s : State) (f : RingFrame) : State :=
  let c := lo32 (f.data.getD 0 0) / 2 ^ 21
  match s.upd.relay with
  | none => s
  | some r =>
    if r.session = hi32 (f.data.getD 0 0) ∧ !(lo32 (f.data.getD 0 0)).testBit 20 ∧ r.sent.any (·.chunk == c) then
      let r := { r with sent := r.sent.filter (·.chunk != c), acked := r.acked + 1 }
      if r.acked = r.nch then
        ((s.setRelay (some r)).setRelay none).doneOpt (r.owner.map (·.key)) [BitVec.ofNat 32 r.acked]
      else s.setRelay (some r)
    else s

/-- 10 ms without RACK OK for a chunk: it is sent again, at most 8 times in all; then the relay stalls. -/
def State.relayResend (s : State) (c : Nat) : State :=
  match s.upd.relay with
  | none => s
  | some r =>
    match r.sent.find? (·.chunk == c) with
    | none => s
    | some e =>
      if e.sends < 8 then
        (s.sendChunk r c e.hops).setRelay (some { r with sent := r.sent.map fun y => if y.chunk = c then { y with sends := y.sends + 1 } else y })
      else ((s.setRelay none).updFault F.UPD_STAT_RLYSTALL Q.UPD_RLYSTALL r.slot).failedOpt (r.owner.map (·.key)) 0x4C

/-! ### Activation, trial and fallback (R632 to R636) -/

/-- A reset as R559 states: YIELD of an ACTIVE device, then the reset with CMD as its source. -/
def State.cmdReset (s : State) : State := (s.yield 2).warmReset 2

/-- The reason against UPD_ACTIVATE (R632). -/
def State.actBad (s : State) (body : List Word) : Option Nat :=
  let w := bw body 0
  let t := bw body 1 + 2 ^ 32 * bw body 2
  if s.slotState (w % 2) != 3 then some 0x48
  else if s.on F.SYS_STATE_TRIAL then some 0x42
  else if w.testBit 31 && ctDiff t s.now < 3200000 then some 0x4D
  else if s.active && (s.dev == stRUN || s.dev == stDEGRADED) && !s.linked && !w.testBit 30 then some 0x49
  else none

/-- The activation's reset (R632, R633); while PFAIL is set the boot record cannot be written and the reset waits (14 R512). -/
def State.actReset (s : State) : State :=
  match s.upd.act with
  | none => s
  | some a =>
    if s.dev = stSEALED ∨ s.dev = stTHERMAL then (s.updFault F.UPD_STAT_ACTCAN Q.UPD_ACTCAN a.slot).dropAct 1
    else if s.pfail then s.faultNew F.NVM_STAT_PFREJ Q.NVM_PFREJ (hw 0xAD0000)
    else
      let s := { s with upd := { s.upd with act := none }, nvm := { s.nvm with boot := { s.nvm.boot with act := some a.slot } } }
      (s.done a.cmd.key []).cmdReset

/-- The verification of an activation ends (R632). -/
def State.actVerified (s : State) (c : HCmd) : State :=
  let w := bw c.body 0
  let t := bw c.body 1 + 2 ^ 32 * bw c.body 2
  if !s.wellFormedImage (w % 2) then (s.updFault F.UPD_STAT_VERFAIL Q.UPD_VERFAIL (w % 2)).failed c.key 0x47
  else
    let now := !w.testBit 31
    let late := !now && ctDiff t s.now ≤ 0
    let s := ({ s with upd := { s.upd with act := some ⟨c, w % 2, if now then s.now else t⟩ } }).setReg64 R.UPD_ACTT_LO (if now then s.now else t)
    let s := if late then s.updFault F.UPD_STAT_ACTLATE Q.UPD_ACTLATE (w % 2) else s
    if now || late then s.actReset else s.showUpd

/-- Whether the conditions of R634 hold. -/
def State.trialMet (s : State) : Bool :=
  s.on F.SYS_STATE_TRIAL && s.upd.testsOk && s.trialLinks && 1000 ≤ s.regN R.UPD_OKRUN && (s.on F.UPD_CFG_AUTOCONF || s.upd.confirmIn)

/-- The image is confirmed (R634). -/
def State.confirm (s : State) : State :=
  let run := s.get F.UPD_SLOT_RUN
  let old := (List.range 2).find? fun x => s.slotState x == 5
  let s := (match old with | some x => s.setSlot x 7 | none => s).setSlot run 5
  let ks := s.upd.confirmers
  let s := { s with upd := { s.upd with confirmers := [], confirmIn := false, confWait := false } }
  let s := ((s.set F.SYS_STATE_TRIAL 0).set F.UPD_STAT_TRIAL 0).updFault F.UPD_STAT_CONFIRMED Q.UPD_CONFIRMED run
  (ks.foldl (fun s k => s.done k []) s).showUpd

/-- The conditions hold: confirm, or wait for PFAIL to clear (R636). -/
def State.tryConfirm (s : State) : State :=
  if !s.trialMet then s
  else if s.pfail then ({ s with upd := { s.upd with confWait := true } }).faultNew F.NVM_STAT_PFREJ Q.NVM_PFREJ (hw 0xAD0000)
  else s.confirm

/-- PFAIL clears: records that waited are written, and a confirmation that waited (14 R512; R636). -/
def State.pfailEnd (s : State) : State := let s := s.pfailClear; if s.upd.confWait then s.confirm else s

/-- The confirmation window ends (R635, R636). -/
def State.windowEnd (s : State) : State :=
  if !s.on F.SYS_STATE_TRIAL then s
  else if s.trialMet then s.tryConfirm
  else
    let ks := s.upd.confirmers
    let s := { s with upd := { s.upd with confirmers := [] } }
    let s := if s.pfail then s
      else ({ s with nvm := { s.nvm with boot := { s.nvm.boot with fell := true } } }).setSlot (s.get F.UPD_SLOT_RUN) 6
    (ks.foldl (fun s k => s.failed k 0x4A) s).cmdReset

/-- UPD_CONFIRM (R634). -/
def State.updConfirm (s : State) (k : CmdKey) : CmdRes × State :=
  if s.on F.SYS_STATE_TRIAL then
    (.wait, { s with upd := { s.upd with confirmers := s.upd.confirmers ++ [k], confirmIn := true } })
  else (.done [], s)

/-- A verification that no command of its own waits for. -/
def State.ownVerify (s : State) : State :=
  match s.upd.verify with
  | some x => (({ s with upd := { s.upd with verify := none } }).verifyEnd x).2
  | none => s

/-! ### Keys (R619, R620) and writes of the UPD and NVM blocks -/

/-- The periodic comparison of the OTP copies: `bad` is the item that disagrees, key hashes 0 to 3, revocation bits 4. -/
def State.otpCheck (s : State) (bad : Option Nat) : State :=
  match bad with
  | some i => s.faultNew F.NVM_STAT_KEYINT Q.NVM_KEYINT (hw i)
  | none => s

/-- A write of NVM_REVOKE. -/
def State.keyRevoke (s : State) (m : Master) (v : Word) : State :=
  if fldOf F.NVM_REVOKE_KEY v != 0x4B59 then s
  else
    let ks := fldOf F.NVM_REVOKE_SLOTS v
    let prog := s.get F.NVM_KEYS_PROG
    let left := (List.range 4).any fun k => prog.testBit k && !s.fbit F.NVM_KEYS_REVOKED k && !ks.testBit k
    let running := !s.on F.UPD_STAT_NOIMAGE && ks.testBit (s.man (s.get F.UPD_SLOT_RUN) 6 1)
    if !gateOpenCfg s.dev || running || !left then s.faultNew F.NVM_STAT_CFGREJ Q.NVM_CFGREJ (wr m R.NVM_REVOKE)
    else s.set F.NVM_KEYS_REVOKED (s.get F.NVM_KEYS_REVOKED ||| ks)

def State.writeUPD (s : State) (m : Master) (a : Nat) (v : Word) : State :=
  if a = R.UPD_CFG then
    let r := fldOf F.UPD_CFG_RRATE v
    if 1 ≤ r ∧ r ≤ 8 ∧ 1 ≤ fldOf F.UPD_CFG_EXPIRY v ∧ 60 ≤ fldOf F.UPD_CFG_CONFWIN v then s.plainWrite a v
    else s.faultNew F.UPD_STAT_CFGREJ Q.UPD_CFGREJ (wr m a)
  else s.plainWrite a v

def State.writeNVM (s : State) (m : Master) (a : Nat) (v : Word) : State :=
  if a = R.NVM_REVOKE then s.keyRevoke m v else s.plainWrite a v

/-! ### The commands -/

/-- PFAIL_CLEAR (14 R512). -/
def execPfailClear (s : State) : Host.Outcome State Fault Refusal := .next (settle s s.pfailEnd)

/-- UPD_AGE_MINUTE (R626). -/
def execUpdAgeMinute (s : State) : Host.Outcome State Fault Refusal := .next (settle s s.ageMinute)

/-- RELAY_CHUNK_SEND (R629). -/
def execRelayChunkSend (s : State) : Host.Outcome State Fault Refusal := .next (settle s s.relayNext)

/-- RCHUNK_RX (R631). -/
def execRchunkRx (p : Side) (f : RingFrame) (s : State) : Host.Outcome State Fault Refusal :=
  .next (settle s (s.ringIn p f (isBulk f 0 && f.len == 129) fun s => s.rchunkRx p f))

/-- RACK_RX (R631). -/
def execRackRx (p : Side) (f : RingFrame) (s : State) : Host.Outcome State Fault Refusal :=
  .next (settle s (s.ringIn p f (isBulk f 1 && f.len == 1) fun s => s.rackRx f))

/-- RELAY_RESEND (R631). -/
def execRelayResend (c : Fin 2048) (s : State) : Host.Outcome State Fault Refusal := .next (settle s (s.relayResend c))

/-- ACTIVATION_RESET (R632): at its instant. -/
def execActivationReset (s : State) : Host.Outcome State Fault Refusal := .next (settle s s.actReset)

/-- TRIAL_CONFIRM (R634). -/
def execTrialConfirm (s : State) : Host.Outcome State Fault Refusal := .next (settle s s.tryConfirm)

/-- TRIAL_WINDOW_END (R635). -/
def execTrialWindowEnd (s : State) : Host.Outcome State Fault Refusal := .next (settle s s.windowEnd)

/-- OTP_CHECK (R619). -/
def execOtpCheck (bad : Option (Fin 5)) (s : State) : Host.Outcome State Fault Refusal :=
  .next (settle s (s.otpCheck (bad.map Fin.val)))

end Sys2Proof.Machine
end

