-- ==== Sys2Proof/Machine/Twin.lean ====
section
/-! DEFINITION. Machine/Twin.lean: the twin agent (09_ring_and_twin.md R347 to R368): HELLO and heartbeat, roles and claims, the mirror
and its install, takeover and deposition, checkpoints of cold sessions, and PROOF_SWAP. -/
namespace Sys2Proof.Machine

/-! ### Registers (R350, R354, R360) -/

def State.setRole (s : State) (b : Bool) : State := (s.setB F.SYS_STATE_ROLE b).setB F.TWIN_STAT_ROLE b

/-- The partner's last seen claim. -/
def State.partnerClaim (s : State) : Nat := s.get F.TWIN_CLAIMS_PARTNER

/-- The claim that a STANDBY device holds: the partner's minus 1, or 0xFFFF when that is 0 (R350). -/
def standbyClaim (c : Nat) : Nat := if (c + 65535) % 65536 = 0 then 0xFFFF else (c + 65535) % 65536

/-- The claim of a device that takes over: the last seen one plus 1, or 1 when that is 0 (R350). -/
def takeoverClaim (c : Nat) : Nat := if (c + 1) % 65536 = 0 then 1 else (c + 1) % 65536

/-- The twin agent writes OCL_CLAIM. -/
def State.setClaim (s : State) (c : Nat) : State := (s.set F.OCL_CLAIM_CLAIM c).set F.TWIN_CLAIMS_OWN c

/-- Mirror blocks for `rows` rows and `mods` modulation entries (R354). -/
def mirrorBlocks (rows mods : Nat) : Nat := 41 + 3 * ((rows + 7) / 8) + 16 * rows + 3 * ((mods + 63) / 64) + 2 * mods

/-- TWIN_MFIT (R354): t_m in ns, saturating, and whether the mirror fits. -/
def State.mfit (s : State) : State :=
  let tm : Rat := 240 + (mirrorBlocks (s.get F.ENG_MIRROR_NROWS) (s.get F.TWIN_MCFG_MODMAX) : Rat) * 16 / 5 + s.twin.dly * 5 / 16
  let room : Rat := (s.get F.ENG_TIMING_T_LEAD + s.get F.ENG_TIMING_T_START : Nat) * 5 - 5
  (s.setB F.TWIN_MFIT_FIT (tm ≤ room)).set F.TWIN_MFIT_TM (min 65535 (quantize tm).toNat)

/-- Whether every lane required in OCL_REQ is READY. -/
def State.reqReady (s : State) : Bool :=
  let req := s.reg64 R.OCL_REQ_LO % 2 ^ 56
  req &&& s.reg64 R.OCL_READY_LO == req

/-- Whether the device is an eligible STANDBY (R358, R360). -/
def State.elig (s : State) : Bool :=
  !s.active && s.on F.TWIN_CFG_EN && s.twin.resync == 0 && !s.on F.TWIN_STAT_CFGMIS && s.on F.TWIN_MFIT_FIT
    && (s.reg R.TWIN_TOFS).toInt.natAbs ≤ 100 * s.get F.TWIN_CFG_TMAX && s.twin.sinceInstall < 8 && s.reqReady
    && (stARMED ≤ s.dev && s.dev ≤ stSAFE)

/-- The periods since the last install count up to 8. -/
def State.countInstall (s : State) : State := { s with twin := { s.twin with sinceInstall := min 8 (s.twin.sinceInstall + 1) } }

/-! ### HELLO and LINKED (R348) -/

/-- A HELLO frame. -/
def State.helloSend (s : State) : State :=
  s.twinSend 1 0 [blk s.nodeId (s.regN R.SYS_SERIAL), blk s.cfgCrc.toNat (s.regN R.SYS_IMGVER)]

/-- The HELLO of every 1 ms, until the partner has answered. -/
def State.helloTimer (s : State) : State := if s.on F.TWIN_CFG_EN && !s.twin.helloSeen then s.helloSend else s

/-- A HELLO arrives: of the partner named in TWIN_CFG, it is answered once; its PRIME, which no frame carries, is free (DESIGN CHOICE, log 2). -/
def State.helloRx (s : State) (f : LinkFrame) : State :=
  if hi32 (f.data.getD 0 0) % 512 != s.get F.TWIN_CFG_PARTNER then s
  else
    let s := if hi32 (f.data.getD 1 0) != s.cfgCrc.toNat then s.faultNew F.TWIN_STAT_CFGMIS Q.TWIN_CFGMIS (hw 0) else s
    if s.twin.helloSeen then s
    else
      let (v, s) := s.draw
      ({ s with twin := { s.twin with helloSeen := true, partnerPrime := some (v.getLsbD 0) } }).helloSend

/-- No heartbeat for too long: LOST; nothing waits for a JACK any longer, and the partner must be met and resynchronised again. -/
def State.twinLost (s : State) : State :=
  if s.linked then
    (({ s with twin := { s.twin with helloSeen := false, synced := false } }).set F.TWIN_STAT_TSTATE 3).releaseJacks
  else s

/-! ### Roles (R349, R363, R597) -/

/-- The device becomes ACTIVE in LINKS: it works through the records that a reset left unfinished. -/
def State.becomeActive (s : State) : State :=
  ({ s.setRole true with twin := { (s.setRole true).twin with resync := 0, synced := false } }).workThrough

/-- The device enters LINKS: with a twin as STANDBY that awaits its resynchronisation, else ACTIVE. -/
def State.twinLinks (s : State) : State :=
  if s.on F.TWIN_CFG_EN then
    let s := s.setRole false
    { s with twin := { s.twin with resync := 1, hbSince := false, sinceInstall := 8, synced := false } }
  else s.setRole true

/-- Whether R349 makes this device ACTIVE on a heartbeat of a STANDBY partner. -/
def State.winsRole (s : State) : Bool :=
  let mine := s.on F.TWIN_CFG_PRIME
  match s.twin.partnerPrime with
  | some p => (mine && !p) || (mine == p && s.nodeId < s.get F.TWIN_CFG_PARTNER)
  | none => false

/-- WAIT has passed since LINKS without a heartbeat. -/
def State.waitExpiry (s : State) : State :=
  if s.on F.TWIN_CFG_EN && !s.active && s.dev == stLINKS && !s.twin.hbSince then s.becomeActive else s

/-- A deposed device becomes STANDBY at its commit tick (R363, R368). -/
def State.deposed (s : State) : State :=
  let k := s.twin.swapOwner
  let s := (s.setRole false).faultNew F.TWIN_STAT_DEPOSED Q.TWIN_DEPOSED (hw 0)
  let s := s.setClaim (standbyClaim s.partnerClaim)
  let s := { s with twin := { s.twin with depose := false, swapP := none, swapOwner := none, resync := 1, synced := false, sinceInstall := 8 } }
  ((s.set F.TWIN_STAT_MISSRUN 0).releaseJacks).doneOpt k []

/-! ### Heartbeat (R351) -/

/-- A heartbeat of this device. -/
def State.hbSend (s : State) : State :=
  if s.on F.TWIN_CFG_EN && (s.twin.helloSeen || s.linked) then
    let t := 2 ^ 17 * b2n s.active + 2 ^ 13 * s.dev + 2 ^ 12 * b2n s.twin.swapFailed
    let s := s.twinSend 2 t [BitVec.ofNat 64 s.sext.b1, BitVec.ofNat 64 s.now, BitVec.ofNat 64 s.twin.hbArr]
    { s with twin := { s.twin with hbSent := (s.now :: s.twin.hbSent).take 16, swapFailed := false } }
  else s

/-- The own stamp that the partner's arrival stamp of data 2 answers: the one nearest to it. -/
def State.hbStamp (s : State) (t2 : Nat) : Option Nat :=
  s.twin.hbSent.foldl (fun o t => match o with
    | none => some t
    | some b => if (ctDiff t2 t).natAbs < (ctDiff t2 b).natAbs then some t else some b) none

/-- TWIN_TOFS and the link delay from the stamps of the latest heartbeat of each direction. -/
def State.twinOffset (s : State) (t2 t3 : Nat) : State :=
  match s.hbStamp t2 with
  | none => s
  | some t1 =>
    let a := ctDiff t2 t1
    let b := ctDiff s.now t3
    let o : Rat := ((a - b : Int) : Rat) / 2 * 625 / 2
    let s := { s with twin := { s.twin with dly := ((a + b : Int) : Rat) / 2 } }
    let s := (s.setReg R.TWIN_TOFS (satS 32 (quantize o))).mfit
    if (100 * s.get F.TWIN_CFG_TMAX : Nat) < (s.reg R.TWIN_TOFS).toInt.natAbs then s.faultNew F.TWIN_STAT_TSKEW Q.TWIN_TSKEW (hw 0) else s

/-- What a heartbeat with ROLE = ACTIVE means for the roles (R349, R350, R363). -/
def State.hbActive (s : State) : State :=
  if s.active then
    if claimHigher s.partnerClaim (s.get F.OCL_CLAIM_CLAIM) then { s with twin := { s.twin with depose := true } } else s
  else s.setClaim (standbyClaim s.partnerClaim)

/-- What a heartbeat with ROLE = STANDBY means: the role in LINKS (R349), a swap that was not made (R368), the
resynchronisation of a new standby (R358). -/
def State.hbStandby (s : State) (failed : Bool) : State :=
  let s := if !s.active && s.dev == stLINKS && s.winsRole then s.becomeActive else s
  let s := if s.active && failed && s.twin.swapOwner.isSome then
      let k := s.twin.swapOwner
      (({ s with twin := { s.twin with swapP := none, swapOwner := none } }).faultNew F.TWIN_STAT_SWAPFAIL Q.TWIN_SWAPFAIL (hw 0)).failedOpt k 0x28
    else s
  if s.active && !s.twin.synced then s.resync else s

/-- The frames of a resynchronisation have been received once the next heartbeat follows them. -/
def State.resyncMark (s : State) : State :=
  if s.twin.resync = 2 then ({ s with twin := { s.twin with resync := 3 } }).resyncEnd else s

/-- A heartbeat arrives. -/
def State.hbRx (s : State) (f : LinkFrame) : State :=
  let act := f.tspec.testBit 17
  let s := { s with twin := { s.twin with hbAnchor := some (twinBlk f 0), partnerRole := act, partnerState := bitsOf f.tspec 13 4,
                                          hbSince := true } }
  let s := (s.set F.TWIN_STAT_TSTATE 2).set F.TWIN_CLAIMS_PARTNER f.claim
  let s := s.twinOffset (twinBlk f 2) (twinBlk f 1)
  let s := { s with twin := { s.twin with hbArr := s.now } }
  let s := if act then s.hbActive.resyncMark else s
  if act then s else s.hbStandby (f.tspec.testBit 12)

/-! ### Modulation entries (R353; DESIGN CHOICE, log 37) -/

/-- The channel index of the mirror: auxiliary legs follow the local pairs. -/
def mirrorIdx (c : Nat) : Nat := if c < 464 then c else c - 8
def mirrorChan (i : Nat) : Nat := if i < 456 then i else i + 8

/-- The entry of field `f` of channel `c`: index, field, WR and staged marks and the shadow; the staged and active values. -/
def State.modEntry (s : State) (c f : Nat) : Word64 × Word64 :=
  let x := s.chan c
  let stg := (x.staged.find? (·.1 == f)).map (·.2)
  (blk (s.shadow c f) (mirrorIdx c + 65536 * f + 2 ^ 20 * b2n (s.fbit (F.MOD_CHST_WR (ri c)) f) + 2 ^ 21 * b2n stg.isSome),
   blk (x.act.getD f 0) (stg.getD 0))

/-- The entry of a field of a channel that nothing has changed. -/
def modEntry0 (c f : Nat) : Word64 × Word64 := State.reset.modEntry c f

/-- The fields whose entry has changed since the deadline before. -/
def State.modChanged (s : State) : List Nat :=
  allChans.flatMap fun c => (List.range 7).filterMap fun f =>
    if s.modEntry c f = spGet (modEntry0 c f) s.twin.modSeen (8 * c + f) then none else some (8 * c + f)

/-- Note the entries of the deadline; on an ACTIVE device with a LINKED partner the changed ones wait to be sent, oldest first. -/
def State.noteMods (s : State) : State :=
  let ch := s.modChanged
  let seen := ch.foldl (fun l k => spPut (modEntry0 (k / 8) (k % 8)) l k (s.modEntry (k / 8) (k % 8))) s.twin.modSeen
  let q := if s.active && s.linked then s.twin.mmodQ ++ ch.filter (!s.twin.mmodQ.contains ·) else []
  { s with twin := { s.twin with modSeen := seen, mmodQ := q } }

/-! ### Sending the mirror (R352) -/

/-- ALM_MODE as the mirror carries it: with the mode chosen for the next period. -/
def State.mirrorMode (s : State) : Word :=
  match s.eng.modeNext with
  | some m => withFld F.ALM_MODE_CUR (withFld F.ALM_MODE_PREV (s.reg R.ALM_MODE) (s.get F.ALM_MODE_CUR)) m
  | none => s.reg R.ALM_MODE

/-- The data of MSTATE (Table 7). -/
def State.mstate (s : State) : List Word64 :=
  let n (x : Nat) : Word64 := BitVec.ofNat 64 x
  [n s.sext.b1, n s.sext.b2, n s.pcnt, blk (angleWord s.sext.th).toNat (freqWord s.sext.f).toNat,
   blk (freqWord s.sext.i).toNat (s.sext.b1 - s.sext.b0), blk (s.regN R.SEXT_COAST_T) (s.sext.k % 2048 + 2 ^ 16 * s.sx),
   blk s.mirrorMode.toNat (s.regN R.ALM_MCNT), n (s.regN R.ALM_SWAP), n (s.reg64 R.ALM_SWAPP_LO),
   blk (2 ^ 16 * s.get F.MOD_GARM_G + s.dev) s.reactWord, blk (s.regN R.CHRONO_STAT) (s.regN R.CHRONO_TRIM),
   n (s.regN R.HOST_JPOS), n (s.regN R.HOST_JPOS)] ++ List.replicate 19 0

/-- A row as 16 data blocks. -/
def State.rowData (s : State) (row : Nat) : List Word64 :=
  (List.range 16).map fun j => BitVec.ofNat 64 ((List.range 4).foldl (fun n m => n + (s.rowLane row (4 * j + m)).toNat * 2 ^ (16 * m)) 0)

/-- The rows of the mirror range, up to 8 to a frame. -/
def State.rowFrames (s : State) : Nat → Nat → Nat → List (List Word64)
  | 0, _, _ => []
  | k + 1, r, n =>
    if n = 0 then []
    else (blk r (min 8 n) :: (List.range (min 8 n)).flatMap fun i => s.rowData (r + i)) :: s.rowFrames k (r + 8) (n - 8)

/-- Modulation entries, up to 64 to a frame. -/
def State.modFrames (s : State) : Nat → List Nat → List (List Word64)
  | 0, _ => []
  | k + 1, l =>
    if l = [] then []
    else (BitVec.ofNat 64 (l.take 64).length :: (l.take 64).flatMap fun q => [(s.modEntry (q / 8) (q % 8)).1, (s.modEntry (q / 8) (q % 8)).2])
      :: s.modFrames k (l.drop 64)

/-- The mirror of the period: MSTATE, rows, modulation entries, MEND. -/
def State.mirrorSend (s : State) : State :=
  if s.active && s.linked then
    let mods := s.twin.mmodQ.take (s.get F.TWIN_MCFG_MODMAX)
    let rest := s.twin.mmodQ.drop (s.get F.TWIN_MCFG_MODMAX)
    let st := s.mstate
    let rows := s.rowFrames 32 (s.get F.ENG_MIRROR_BASE) (s.get F.ENG_MIRROR_NROWS)
    let mf := s.modFrames 8 mods
    let all := st :: (rows ++ mf)
    let crc := crc32 (all.flatten.flatMap blockBytes)
    let s := s.twinSend 3 0 st
    let s := rows.foldl (fun s d => s.twinSend 4 0 d) s
    let s := mf.foldl (fun s d => s.twinSend 5 0 d) s
    let s := s.twinSend 6 0 [BitVec.ofNat 64 s.sext.b1, blk all.length crc.toNat]
    let (v, s) := s.draw
    let s := { s with twin := { s.twin with mmodQ := rest } }
    let s := (s.set F.TWIN_MLAST_BLOCKS (mirrorBlocks (s.get F.ENG_MIRROR_NROWS) mods.length)).set F.TWIN_MLAST_NS v.toNat
    if rest = [] then s else s.faultNew F.TWIN_STAT_MLAG Q.TWIN_MLAG (hw 0)
  else s

/-- The twin's part of a deadline: the heartbeat first, then the mirror (R351, R352). -/
def State.twinDeadline (s : State) : State := (s.hbSend.noteMods).mirrorSend

/-! ### Receiving the mirror (R355) -/

def mirror0 : MirrorIn := { state := [], rows := [], mods := [], words := [], frames := 0, ended := false, taken := false }

def State.setMirror (s : State) (m : MirrorIn) : State := { s with twin := { s.twin with mirror := m } }

def State.mstateRx (s : State) (f : LinkFrame) : State :=
  s.setMirror { mirror0 with state := f.data, words := f.data, frames := 1 }

/-- Entries in pairs of data blocks. -/
def pairs64 : List Word64 → List (Word64 × Word64)
  | a :: b :: r => (a, b) :: pairs64 r
  | _ => []

/-- Rows of 16 data blocks from row `r` on. -/
def rows64 : Nat → Nat → List Word64 → List (Nat × List Word64)
  | 0, _, _ => []
  | k + 1, r, l => (r, l.take 16) :: rows64 k (r + 1) (l.drop 16)

def State.mrowsRx (s : State) (f : LinkFrame) : State :=
  let m := s.twin.mirror
  let n := lo32 (f.data.getD 0 0)
  if m.state = [] || f.len != 1 + 16 * n then s
  else s.setMirror { m with rows := m.rows ++ rows64 n (hi32 (f.data.getD 0 0)) f.data.tail, words := m.words ++ f.data, frames := m.frames + 1 }

def State.mmodRx (s : State) (f : LinkFrame) : State :=
  let m := s.twin.mirror
  if m.state = [] || f.len != 1 + 2 * twinBlk f 0 then s
  else s.setMirror { m with mods := m.mods ++ pairs64 f.data.tail, words := m.words ++ f.data, frames := m.frames + 1 }

def State.mendRx (s : State) (f : LinkFrame) : State :=
  let m := s.twin.mirror
  let ok := f.data.getD 0 0 == m.state.getD 0 0 && hi32 (f.data.getD 1 0) == m.frames
    && lo32 (f.data.getD 1 0) == (crc32 (m.words.flatMap blockBytes)).toNat
  if m.state = [] then s else s.setMirror { m with ended := ok }

/-! ### Installing (R86, R190, R355, R356) -/

/-- Block `i` of the MSTATE received. -/
def State.mst (s : State) (i : Nat) : Word64 := s.twin.mirror.state.getD i 0

/-- Whether the MSTATE received belongs to the period that begins at `b`: its b_{k+1} lies within half a period. -/
def State.mirrorAt (s : State) (b : Nat) : Bool :=
  s.twin.mirror.state != [] && 2 * (ctDiff (s.mst 0).toNat b).natAbs < s.sext.b1 - s.sext.b0

/-- What the active device's boundary did: the mode change and a swap whose target was the next period, taken at the same boundary
(R190, R210), or with the install where MSTATE came later. -/
def State.mirrorHead (s : State) : State :=
  if s.twin.mirror.taken then s
  else
    let mode := fldOf F.ALM_MODE_CUR (BitVec.ofNat 32 (hi32 (s.mst 6)))
    let sw : Word := (s.mst 7).truncate 32
    let s := s.setMirror { s.twin.mirror with taken := true }
    let s := if mode != s.get F.ALM_MODE_CUR && s.modeDefined mode && s.get F.ENG_STAT_ESTATE != 0 then s.applyMode mode else s
    if fldOf F.ALM_SWAP_PEND sw = 1 && !s.on F.ALM_SWAP_PEND then
      let s := s.acceptSwap (fldOf F.ALM_SWAP_ATP sw == 1) (fldOf F.ALM_SWAP_SEL sw) (s.mst 8).toNat none
      if fldOf F.ALM_SWAP_ATP sw = 0 && s.on F.ALM_SWAP_PEND then s.exchangeBanks else s
    else s

/-- At a boundary of a STANDBY device, the changes that MSTATE announces. -/
def State.mirrorBoundary (s : State) : State :=
  if s.on F.TWIN_CFG_EN && !s.active && s.mirrorAt s.sext.b0 then s.mirrorHead else s

/-- The lanes of a row of the mirror. -/
def rowLanes64 (d : List Word64) : List (BitVec 16) :=
  d.flatMap fun w : Word64 => (List.range 4).map fun m => (w >>> (16 * m)).truncate 16

/-- Install a row: a state row into its committed page, clearing W; another row directly. -/
def State.installRow (s : State) (e : Nat × List Word64) : State :=
  let row := e.1 % 2048
  match s.vState row with
  | some i =>
    let s := s.putLanes (if s.eng.pV.testBit i then row + s.vRows else row) (BitVec.allOnes 64) (rowLanes64 e.2)
    { s with eng := { s.eng with wV := s.eng.wV - (if s.eng.wV.testBit i then 2 ^ i else 0) } }
  | none => s.putLanes row (BitVec.allOnes 64) (rowLanes64 e.2)

/-- Install a modulation entry into the copies and marks of its channel. -/
def State.installMod (s : State) (e : Word64 × Word64) : State :=
  let w := lo32 e.1
  let c := mirrorChan (w % 65536)
  let f := bitsOf w 16 4
  if w % 65536 < 465 ∧ f < 7 then
    let x := s.chan c
    let staged := if w.testBit 21 then spIns x.staged f (lo32 e.2) else spDel x.staged f
    let s := s.writeShadow c f (hi32 e.1)
    let s := if w.testBit 20 then s else s.setFbit (F.MOD_CHST_WR (ri c)) f false
    let act := x.act.set f (hi32 e.2)
    let s := s.setChan c { x with staged := staged, act := act }
    (s.showAct c act).setB (F.MOD_CHST_STG (ri c)) (staged != [])
  else s

/-- The Sextant takes the active device's values: the boundaries, the loop as its update of the period before left it, k and the
state; the standby's own update of this period proposes the next boundary from there (R86). -/
def State.installSext (s : State) : State :=
  let th : Rat := (hi32 (s.mst 3) : Rat) / 2 ^ 32
  let f : Rat := (lo32 (s.mst 3) : Rat) / 2 ^ 24
  let i : Rat := (hi32 (s.mst 4) : Rat) / 2 ^ 24
  let k := lo32 (s.mst 5) % 2048
  let k := if k + 1 < s.sxN then k + 1 else 0
  let own := s.sext
  let s := s.setSx (bitsOf (lo32 (s.mst 5)) 16 3)
  let s := { s with sext := { s.sext with b0 := (s.mst 0).toNat, b1 := (s.mst 1).toNat, k := k } }
  let s := s.commit (if own.first then own.f else s.fNom) own.eps
  let s := { s with sext := { s.sext with th := th, f := f, i := i, thPrev := th, fPrev := f, sPrev := own.sOld, first := true } }
  ((s.setReg R.SEXT_COAST_T (BitVec.ofNat 32 (hi32 (s.mst 5)))).setReg64 R.SEXT_B1_LO s.sext.b1).setRegN R.SEXT_PIDX k

/-- Install the mirror (R355). -/
def State.install (s : State) : State :=
  let s := s.mirrorHead
  let s := s.twin.mirror.rows.foldl State.installRow s
  let s := s.twin.mirror.mods.foldl State.installMod s
  let s := if s.sx = sxOFF then s else s.installSext
  let s := if s.get F.ENG_STAT_ESTATE = 0 then s else s.setReg64 R.ENG_PCNT_LO ((s.mst 2).toNat + 1)
  let s := { s with twin := { s.twin with sinceInstall := 0, mirror := mirror0 } }
  s.set F.TWIN_STAT_MSYNC 1

/-- The install of a commit tick, or its failure; whether it was made. -/
def State.tryInstall (s : State) : Bool × State :=
  if s.twin.mirror.ended && s.mirrorAt s.sext.b0 then (true, s.install)
  else (false, (((s.setMirror mirror0).count R.TWIN_MLATE 1).set F.TWIN_STAT_MSYNC 0).countInstall)

/-! ### Cold sessions (R364, R365; DESIGN CHOICE, log 38) -/

/-- The chunks that are complete, by bit. -/
def chunkBitmap (x : Session) : Nat :=
  (List.range x.nch).foldl (fun n c => if bitsOf x.pieces (8 * c) 8 = 255 then n + 2 ^ c else n) 0

/-- The opcode of a diagnostic sweep. -/
def isSweep (opc : Nat) : Bool := opc == 0x50 || opc == 0x52

/-- The registers that configure the Log. -/
def logCfgRegs : List Nat :=
  [R.LOG_CFG, R.LOG_PREPOST, R.LOG_CAPOFS] ++ (List.range 4).map R.LOG_TRIG ++ (List.range 4).map R.LOG_THR ++ (List.range 64).map R.LOG_SIG

/-- The checkpoint of an open session: 0 update, 1 Log, 2 sweep. -/
def State.checkpoint (s : State) (n : Nat) : Option (List Word64) :=
  match n with
  | 0 => s.nvm.sess.map fun x =>
      let m := chunkBitmap x
      [0, blk x.nch x.session] ++ pack64 (x.digest.map fun b => BitVec.zeroExtend 32 b) ++ (List.range 32).map fun i => BitVec.ofNat 64 (m / 2 ^ (64 * i))
  | 1 => if s.logState = logIDLE || s.logState = logDONE then none
      else some (1 :: pack64 (logCfgRegs.map s.reg))
  | _ => (s.host.ops.find? fun e => isSweep e.2.cmd.opc).map fun e =>
      let aux := if e.2.cmd.opc = 0x50 then [s.adc.forced] else e.2.aux
      [2, blk e.2.cmd.key.seq e.2.cmd.key.flow, blk e.2.cmd.opc (bw e.2.cmd.body 0), blk aux.length e.2.words.length]
        ++ aux.map (BitVec.ofNat 64) ++ pack64 e.2.words

/-- Send the checkpoint of a session that is open. -/
def State.ckptSend (s : State) (n : Nat) : State :=
  if s.active && s.linked then (match s.checkpoint n with | some d => s.twinSend 9 0 d | none => s) else s

/-- The update session of a checkpoint (R365; 17 R627). -/
def sessionOf (d : List Word64) : Session :=
  let m := (d.drop 18).foldr (fun w n => w.toNat + 2 ^ 64 * n) 0
  let nch := hi32 (d.getD 1 0)
  { session := lo32 (d.getD 1 0), digest := (unpack64 ((d.drop 2).take 16)).map fun w : Word => w.truncate 8, nch,
    pieces := (List.range nch).foldl (fun n c => if m.testBit c then n + 255 * 2 ^ (8 * c) else n) 0, age := 0, relay := false }

/-- A checkpoint arrives: it is written to the NVM, unless PFAIL keeps writes from starting; the session record of an update follows
it (17 R627). -/
def State.ckptRx (s : State) (f : LinkFrame) : State :=
  let n := twinBlk f 0
  if n < 3 && !s.pfail then
    let s := { s with twin := { s.twin with ckpts := spIns s.twin.ckpts n f.data, ckptT := s.now } }
    let s := (s.setFbit F.TWIN_CKPT_HELD n true).nvmStart (.ckpt n)
    if n = 0 then s.takeSession (sessionOf f.data) else s
  else s

/-- The Log is armed again with the configuration of a checkpoint, empty. -/
def State.restartLog (s : State) (d : List Word64) : State :=
  let s := (logCfgRegs.zip (unpack64 d.tail)).foldl (fun s e => s.setReg e.1 e.2) s
  s.logArm

/-- A sweep runs again from the start of the step in progress, unless this device runs it already: OFFDIAG with the channel under
diagnosis (second of its counters), CAL_ADC with the swaps that are left. -/
def State.restartSweep (s : State) (d : List Word64) : State :=
  if s.host.ops.any fun e => isSweep e.2.cmd.opc then s
  else
    let na := hi32 (d.getD 3 0)
    let aux := ((d.drop 4).take na).map BitVec.toNat
    let words := (unpack64 (d.drop (4 + na))).take (lo32 (d.getD 3 0))
    let c : HCmd := { key := ⟨lo32 (d.getD 1 0), hi32 (d.getD 1 0)⟩, hseq := hi32 (d.getD 1 0), opc := hi32 (d.getD 2 0), cls := 1, node := 0xFFFF,
                      body := [BitVec.ofNat 32 (lo32 (d.getD 2 0))], src := 0, port := .hs0 }
    match (List.range 8).find? fun n => !(s.host.ops.any (·.1 == n)) with
    | some n =>
      let s := { s with host := { s.host with ops := spIns s.host.ops n { cmd := c, aux, words } } }
      let s := if c.opc = 0x50 then { s with adc := { s.adc with forced := aux.getD 0 9 } }
        else if aux.getD 1 3 < 3 then s.set (F.AXD_CHSTAT_DIAG (aux.getD 1 3)) 1 else s
      (((s.set (F.HOST_OP_STAT_BUSY n) 1).set (F.HOST_OP_STAT_FLOW n) c.key.flow).set (F.HOST_OP_STAT_OPC n) c.opc).setRegN (R.HOST_OP_SEQ n) c.hseq
    | none => s

/-- The new active device restarts the sessions that it holds checkpoints for; its session record of an update holds the checkpoint's
bitmap already. -/
def State.coldRestart (s : State) : State :=
  let s := s.twin.ckpts.foldl (fun s e =>
    (match e.1 with
     | 0 => s
     | 1 => s.restartLog e.2
     | _ => s.restartSweep e.2).setFbit F.TWIN_STAT_COLDRST e.1 true) s
  ({ s with twin := { s.twin with ckpts := [] } }).set F.TWIN_CKPT_HELD 0

/-! ### Takeover (R361, R367) -/

def State.takeover (s : State) : State :=
  let s := (s.setRole true).setClaim (takeoverClaim s.partnerClaim)
  let s := { s with twin := { s.twin with yieldSeen := false, swapP := none, synced := false } }
  let s := ((s.set F.TWIN_STAT_MISSRUN 0).coldRestart).count R.TWIN_FOCNT 1
  let s := s.faultNew F.TWIN_STAT_TAKEOVER Q.TWIN_TAKEOVER (hw 0)
  ((s.ring.gtx.map (·.dst)).eraseDups.foldl State.guarKick s).workThrough

/-- The heartbeat of the period before is there, or missed (R351). -/
def State.hbJudge (s : State) : State :=
  if s.twin.hbAnchor = some s.sext.b0 then s.set F.TWIN_STAT_MISSRUN 0
  else if s.twin.partnerRole then
    (s.set F.TWIN_STAT_MISSRUN (min 2 (s.get F.TWIN_STAT_MISSRUN + 1))).count R.TWIN_MISSCNT 1
  else s

/-- The swap whose period has come is made with the mirror of the period before, or fails (R367). -/
def State.swapNow (s : State) (installed : Bool) : State :=
  if installed then s.takeover else { s with twin := { s.twin with swapP := none, swapFailed := true } }

/-- The takeover conditions of R361. -/
def State.takeNowOrNot (s : State) : State :=
  if s.twin.yieldSeen || s.get F.TWIN_STAT_MISSRUN = 2 then
    if s.elig then s.takeover else { s with twin := { s.twin with yieldSeen := false } }.faultNew F.TWIN_STAT_NOTAKE Q.TWIN_NOTAKE (hw 0)
  else s

/-- The commit tick of a STANDBY device. -/
def State.standbyCommit (s : State) : State :=
  let s := s.hbJudge
  let (done, s) := if s.twin.partnerRole then s.tryInstall else (false, s)
  if s.twin.swapP = some s.pcnt then s.swapNow done else s.takeNowOrNot

/-- The twin's part of the commit tick. -/
def State.twinCommit (s : State) : State :=
  if !s.on F.TWIN_CFG_EN then s
  else if s.active then (if s.twin.depose then s.deposed else s)
  else s.standbyCommit

/-- YIELD arrives at a STANDBY device (R359, R361). -/
def State.yieldRx (s : State) : State :=
  let s := s.flag F.TWIN_STAT_YIELDED
  if s.active then s else { s with twin := { s.twin with yieldSeen := true } }

/-- SWAP arrives at a STANDBY device (R367). -/
def State.swapRx (s : State) (p : Nat) : State :=
  if s.active then s else ({ s with twin := { s.twin with swapP := some p } }).setReg64 R.TWIN_SWAPP_LO p

/-- PROOF_SWAP (R367): accepted on an ACTIVE device whose partner is LINKED and eligible; of the conditions of R360 the device sees
those of the link, the rest is free (DESIGN CHOICE, log 39). -/
def State.proofSwap (s : State) (k : CmdKey) : State :=
  let (v, s) := s.draw
  let seen := s.linked && !s.on F.TWIN_STAT_CFGMIS && s.on F.TWIN_MFIT_FIT && !s.twin.partnerRole && s.twin.synced
    && (stARMED ≤ s.twin.partnerState && s.twin.partnerState ≤ stSAFE) && s.twin.swapOwner.isNone
  if seen && v.getLsbD 0 then
    let p := s.pcnt + 4
    let s := (s.twinSend 12 0 [BitVec.ofNat 64 p]).setReg64 R.TWIN_SWAPP_LO p
    { s with twin := { s.twin with swapP := some p, swapOwner := some k } }
  else s.failed k 0x27

/-! ### Writes of the TWIN block (Table 10) -/

/-- EN is written: the agent starts in WAIT without a role, or stops, and the device is ACTIVE (R348, R349, R585). -/
def State.twinEnable (s : State) (en : Bool) : State :=
  let s := { s with twin := { s.twin with helloSeen := false, synced := false, hbSince := false } }
  if en then ((s.setRole false).set F.TWIN_STAT_TSTATE 1).set F.TWIN_CLAIMS_OWN (s.get F.OCL_CLAIM_CLAIM)
  else ((s.setRole true).set F.TWIN_STAT_TSTATE 0).releaseJacks

def State.writeTWIN (s : State) (m : Master) (a : Nat) (v : Word) : State :=
  let rej := s.faultNew F.TWIN_STAT_CFGREJ Q.TWIN_CFGREJ (wr m a)
  if a = R.TWIN_CFG then
    if gateOpenCfg s.dev then
      let was := s.on F.TWIN_CFG_EN
      let s := s.plainWrite a v
      if was = s.on F.TWIN_CFG_EN then s else s.twinEnable (s.on F.TWIN_CFG_EN)
    else rej
  else if a = R.TWIN_MCFG then
    let n := fldOf F.TWIN_MCFG_MODMAX v
    if 1 ≤ n ∧ n ≤ 512 then (s.plainWrite a v).mfit else rej
  else s.plainWrite a v

/-! ### The commands -/

/-- TWIN_HELLO_SEND (R348). -/
def execTwinHelloSend (s : State) : Host.Outcome State Fault Refusal := .next (settle s s.helloTimer)

/-- TWIN_HELLO_RX (R348). -/
def execTwinHelloRx (f : LinkFrame) (s : State) : Host.Outcome State Fault Refusal := .next (settle s (s.twinIn f 1 fun s => s.helloRx f))

/-- HB_STOPPED_SEND (R351). -/
def execHbStoppedSend (s : State) : Host.Outcome State Fault Refusal := .next (settle s (if s.sx = sxOFF then s.hbSend else s))

/-- HB_RX (R351). -/
def execHbRx (f : LinkFrame) (s : State) : Host.Outcome State Fault Refusal := .next (settle s (s.twinIn f 2 fun s => s.hbRx f))

/-- TWIN_LOST (R348). -/
def execTwinLost (s : State) : Host.Outcome State Fault Refusal := .next (settle s s.twinLost)

/-- TWIN_WAIT_EXPIRY (R349). -/
def execTwinWaitExpiry (s : State) : Host.Outcome State Fault Refusal := .next (settle s s.waitExpiry)

/-- MSTATE_RX (R355). -/
def execMstateRx (f : LinkFrame) (s : State) : Host.Outcome State Fault Refusal := .next (settle s (s.twinIn f 3 fun s => s.mstateRx f))

/-- MROWS_RX (R355). -/
def execMrowsRx (f : LinkFrame) (s : State) : Host.Outcome State Fault Refusal := .next (settle s (s.twinIn f 4 fun s => s.mrowsRx f))

/-- MMOD_RX (R353). -/
def execMmodRx (f : LinkFrame) (s : State) : Host.Outcome State Fault Refusal := .next (settle s (s.twinIn f 5 fun s => s.mmodRx f))

/-- MEND_RX (R355). -/
def execMendRx (f : LinkFrame) (s : State) : Host.Outcome State Fault Refusal := .next (settle s (s.twinIn f 6 fun s => s.mendRx f))

/-- CKPT_SEND (R364): session 0 update, 1 Log, 2 sweep. -/
def execCkptSend (n : Fin 3) (s : State) : Host.Outcome State Fault Refusal := .next (settle s (s.ckptSend n))

/-- CKPT_RX (R364). -/
def execCkptRx (f : LinkFrame) (s : State) : Host.Outcome State Fault Refusal := .next (settle s (s.twinIn f 9 fun s => s.ckptRx f))

/-- CKACK_RX (R364): the acknowledgement changes nothing that the spec gives the device to hold. -/
def execCkackRx (f : LinkFrame) (s : State) : Host.Outcome State Fault Refusal := .next (settle s (s.twinIn f 10 fun s => s))

/-- YIELD_RX (R361). -/
def execYieldRx (f : LinkFrame) (s : State) : Host.Outcome State Fault Refusal := .next (settle s (s.twinIn f 11 fun s => s.yieldRx))

/-- SWAP_RX (R367). -/
def execSwapRx (f : LinkFrame) (s : State) : Host.Outcome State Fault Refusal :=
  .next (settle s (s.twinIn f 12 fun s => s.swapRx (twinBlk f 0)))

end Sys2Proof.Machine
end

