-- ==== Sys2Proof/Machine/Blocks.lean ====
section
/-! DEFINITION. Machine/Blocks.lean: writes of the SYS, ENG and HOST registers (15_faults_reset_startup.md Table 14;
03_engine_architecture.md R109 and Table 4; 16_host_commands.md Table 10). -/
namespace Sys2Proof.Machine

/-- A write in the SYS block. -/
def State.writeSYS (s : State) (m : Master) (a : Nat) (v : Word) : State :=
  if a = R.SYS_CTRL && !gateOpenCfg s.dev then s.faultNew F.SYS_EVT_CFGREJ Q.SYS_CFGREJ (wr m a) else s.plainWrite a v

/-! ### ENG -/

/-- Whether the rows `b .. b + n - 1` and `c .. c + k - 1` have one in common. -/
def rowsMeet (b n c k : Nat) : Bool := n != 0 && k != 0 && b < c + k && c < b + n

/-- Whether a value of ENG_SPAGE_V is accepted (R109, Table 4). -/
def State.spageVOk (s : State) (v : Word) : Bool :=
  let b := fldOf F.ENG_SPAGE_V_BASE v
  let n := fldOf F.ENG_SPAGE_V_NROWS v
  n ≤ 128 && b + 2 * n ≤ 2048 && !rowsMeet b (2 * n) (s.get F.ENG_INBOX_BASE) (s.get F.ENG_INBOX_NROWS)

/-- Whether a value of ENG_SPAGE_S is accepted. -/
def spageSOk (v : Word) : Bool :=
  let n := fldOf F.ENG_SPAGE_S_NWORDS v
  n ≤ 1024 && fldOf F.ENG_SPAGE_S_BASE v + 2 * n ≤ 0x3FF0

/-- Whether a value of ENG_INBOX is accepted. -/
def State.inboxOk (s : State) (v : Word) : Bool :=
  let b := fldOf F.ENG_INBOX_BASE v
  let n := fldOf F.ENG_INBOX_NROWS v
  n ≤ 512 && b + n ≤ 2048 && !rowsMeet s.vBase (2 * s.vRows) b n

/-- Whether a value of ENG_MIRROR is accepted. -/
def mirrorOk (v : Word) : Bool :=
  let n := fldOf F.ENG_MIRROR_NROWS v
  n ≤ 256 && fldOf F.ENG_MIRROR_BASE v + n ≤ 2048

/-- Whether a value of ENG_ALMLEN is accepted: the active bank's field at its value, the other one 1 to 1024 (Table 4). -/
def State.almLenOk (s : State) (v : Word) : Bool :=
  let l0 := fldOf F.ENG_ALMLEN_LEN0 v
  let l1 := fldOf F.ENG_ALMLEN_LEN1 v
  let (act, cur, other) := if s.aBank = 0 then (l0, s.get F.ENG_ALMLEN_LEN0, l1) else (l1, s.get F.ENG_ALMLEN_LEN1, l0)
  act == cur && 1 ≤ other && other ≤ 1024

/-- Whether a value of ENG_TIMING is accepted (Table 7). -/
def State.timingOk (s : State) (v : Word) : Bool :=
  !s.on F.SEXT_CTRL_EN && !outside 200 1000 (fldOf F.ENG_TIMING_T_LEAD v) && !outside 200 2000 (fldOf F.ENG_TIMING_T_START v)

/-- A write in the ENG block. -/
def State.writeENG (s : State) (m : Master) (a : Nat) (v : Word) : State :=
  let rej := s.faultNew F.ENG_STAT_CFGREJ Q.ENG_CFGREJ (wr m a)
  let region (ok : Bool) (t : State) : State := if s.get F.ENG_STAT_ESTATE = 0 && ok then t else rej
  if a = R.ENG_TIMING then if s.timingOk v then ((s.plainWrite a v).setBudget.mfit).domCheck else rej
  else if a = R.ENG_ALMLEN then if s.almLenOk v then s.plainWrite a v else rej
  else if a = R.ENG_OVR_CFG then if fldOf F.ENG_OVR_CFG_OVR_LIM v = 0 then rej else s.plainWrite a v
  else if a = R.ENG_SPAGE_V then
    region (s.spageVOk v) (let t := s.plainWrite a v; { t with eng := { t.eng with pV := 0, wV := 0 } })
  else if a = R.ENG_SPAGE_S then
    region (spageSOk v) (let t := s.plainWrite a v; { t with eng := { t.eng with pS := 0, wS := 0 } })
  else if a = R.ENG_INBOX then region (s.inboxOk v) (s.plainWrite a v)
  else if a = R.ENG_MIRROR then region (mirrorOk v) (s.plainWrite a v).mfit
  else if R.ENG_FLG_SAT_LO ≤ a ∧ a ≤ R.ENG_SFLG then s.flagWrite a v
  else s.plainWrite a v

/-! ### HOST -/

/-- Whether the register at `a` is one of those that HOST accepts only in CONFIG and DEFAULT. -/
def hostLocked (a : Nat) : Bool :=
  a == R.HOST_ETYPE || a == R.HOST_EVTCFG || (R.HOST_FLOW_CFG 0 ≤ a && a < R.HOST_FLOW_CFG 4)

/-- Whether a value lies in the range that HOST states for the register. -/
def hostRange (a : Nat) (v : Word) : Bool :=
  if a = R.HOST_ETYPE then
    let e := fldOf F.HOST_ETYPE_ETYPE v
    0x600 ≤ e && e != 0x8100 && e != 0x8808
  else if a = R.HOST_EVTCFG then fldOf F.HOST_EVTCFG_RTO v != 0 else true

/-- A write in the HOST block. -/
def State.writeHOST (s : State) (m : Master) (a : Nat) (v : Word) : State :=
  if hostLocked a && !(gateOpenCfg s.dev && hostRange a v) then s.faultNew F.HOST_STAT_CFGREJ Q.HOST_CFGREJ (wr m a)
  else s.plainWrite a v

end Sys2Proof.Machine
end

