-- ==== Sys2Proof/Machine/Hall.lean ====
section
/-! DEFINITION. Machine/Hall.lean: Hall decoding, position, speed windows and home edges (13_hall_and_safe_stop.md R472 to R482),
and what they do to a running SS1 (R491). -/
namespace Sys2Proof.Machine

/-- The sector of a filtered code C B A; none for the illegal codes (R473). -/
def hallSector (code : Nat) : Option Nat :=
  match code with
  | 1 => some 0 | 3 => some 1 | 2 => some 2 | 6 => some 3 | 4 => some 4 | 5 => some 5
  | _ => none

/-- The classes of a change (R474). -/
inductive HallClass where
  | illegal | first (sector : Nat) | noMove | forward (sector : Nat) | backward (sector : Nat)
  deriving DecidableEq, Repr

/-- Whether two 3-bit codes differ in two or more lines. -/
def twoLines (a b : Nat) : Bool := let d := a ^^^ b; 2 ≤ b2n (d.testBit 0) + b2n (d.testBit 1) + b2n (d.testBit 2)

/-- Classify a change of the filtered state from `prev` to `code` with the last valid sector `sec` (R474). -/
def hallClass (prev : Option Nat) (sec : Option Nat) (code : Nat) : HallClass :=
  match hallSector code with
  | none => .illegal
  | some f =>
    if (match prev with | some p => twoLines p code | none => false) then .illegal
    else match sec with
      | none => .first f
      | some x => if f = x then .noMove else if f = (x + 1) % 6 then .forward f else if f = (x + 5) % 6 then .backward f else .illegal

def State.hallCode (s : State) (a : Nat) : Option Nat := spGet none s.hall.code a
def State.hallS (s : State) (a : Nat) : Option Nat := spGet none s.hall.sector a
def State.setHallS (s : State) (a : Nat) (x : Option Nat) : State :=
  ({ s with hall := { s.hall with sector := spPut none s.hall.sector a x } }).set (F.HALL_STATE_S a) (x.getD 7)

/-- SS1 ends in STO on channel `a` (R491). -/
def State.ss1End (s : State) (a : Nat) : State :=
  ({ s with safe := { s.safe with ss1Held := s.safe.ss1Held ||| 2 ^ a } }).set (F.SAFE_CHSTAT_SS1 a) 0

/-- SS1 aborts on a violation (R491). -/
def State.ss1Violate (s : State) (a : Nat) : State := (s.ss1End a).faultBit F.SAFE_EVT_SS1ENV a Q.SAFE_SS1ENV (hw a)

/-- A Hall fault stops a running SS1 at once (R476, R491). -/
def State.hallFault (s : State) (a : Nat) : State :=
  let s := s.faultNew (F.HALL_STAT_HALLF a) Q.HALL_HALLF (hw a)
  if s.on (F.SAFE_CHSTAT_SS1 a) then s.ss1Violate a else s

/-- An illegal change; ILLRUN is shown up to 2, and the third in a row is a Hall fault (R475, R476). -/
def State.hallIllegal (s : State) (a : Nat) : State :=
  let run := s.get (F.HALL_STAT_ILLRUN a) + 1
  let s := ((s.count (R.HALL_ILLCNT a) 1).set (F.HALL_STAT_ILLRUN a) (min run 2)).faultNew (F.HALL_STAT_ILLEGAL a) Q.HALL_ILLEGAL (hw a)
  if 3 ≤ run then s.hallFault a else s

/-- A forward (+1) or backward (−1) move (R475, R477, R478). -/
def State.hallMove (s : State) (a sec : Nat) (d : Int) : State :=
  let s := (s.setHallS a (some sec)).setReg (R.HALL_POS a) (s.reg (R.HALL_POS a) + BitVec.ofInt 32 d)
  let s := (s.set (F.HALL_STAT_ILLRUN a) 0).setReg64 (R.HALL_TSTAMP_LO a) s.now
  { s with hall := { s.hall with moves := spPut 0 s.hall.moves a (spGet 0 s.hall.moves a + d) } }

/-- The filtered Hall state of a channel changes to `code` (R472, R474, R475). -/
def State.hallChange (s : State) (a code : Nat) : State :=
  let prev := s.hallCode a
  let s := ({ s with hall := { s.hall with code := spPut none s.hall.code a (some code) } }).set (F.HALL_STATE_CODE a) code
  if s.on (F.HALL_CFG_EN a) then
    match hallClass prev (s.hallS a) code with
    | .illegal => s.hallIllegal a
    | .first f => s.setHallS a (some f)
    | .noMove => s
    | .forward f => s.hallMove a f 1
    | .backward f => s.hallMove a f (-1)
  else s

/-- The slip of a position against the home position (R479). -/
def homeSlip (p home : Word) (spr : Nat) : Int := ((p - home).toInt + (spr / 2 : Nat)) % spr - (spr / 2 : Nat)

/-- The filtered home input of a channel changes (R479, R480). -/
def State.homeEdge (s : State) (a : Nat) (level : Bool) : State :=
  let s := { s with hall := { s.hall with home := (s.hall.home &&& (7 - 2 ^ a)) + (if level then 2 ^ a else 0) } }
  if s.on (F.HALL_CFG_HEN a) && (level != s.on (F.HALL_CFG_HPOL a)) then
    let p := s.reg (R.HALL_POS a)
    let s := (s.setReg (R.HALL_HOMECAP a) p).setReg64 (R.HALL_HSTAMP_LO a) s.now
    if s.on (F.HALL_CFG_SETPOS a) && !s.on (F.HALL_STAT_HOMED a) then
      (s.setReg (R.HALL_POS a) (s.reg (R.HALL_HOMEPOS a))).flag (F.HALL_STAT_HOMED a)
    else
      let r := homeSlip p (s.reg (R.HALL_HOMEPOS a)) (s.get (F.HALL_CFG_SPR a))
      if r = 0 then s
      else
        let s := s.faultNew (F.HALL_STAT_SLIP a) Q.HALL_SLIP (hw a)
        if s.on (F.HALL_CFG_AUTOHOME a) then s.setReg (R.HALL_POS a) (p - BitVec.ofInt 32 r) else s
  else s

/-- SS1 at a window end (R491). -/
def State.ss1Window (s : State) (a : Nat) : State :=
  if s.on (F.SAFE_CHSTAT_SS1 a) then
    let j := s.get (F.SAFE_CHSTAT_J a) + 1
    let e : Int := ((spGet 0 s.safe.v0 a : Nat) : Int) + s.get (F.SAFE_SS1_MARG a) - s.get (F.SAFE_SS1_DEC a) * j
    let v := (signedOf 16 (s.get (F.HALL_SPEED_V a))).natAbs
    let still := s.get (F.SAFE_SS1_STILL a)
    let s := (s.set (F.SAFE_CHSTAT_J a) j).set (F.SAFE_CHSTAT_E a) (clampInt 0 0xFFFF e).toNat
    if s.on (F.HALL_STAT_HALLF a) || max e still < v then s.ss1Violate a
    else if v ≤ still then s.ss1End a
    else if j = s.get (F.SAFE_SS1_MAXW a) then (s.ss1End a).faultBit F.SAFE_EVT_SS1TO a Q.SAFE_SS1TO (hw a)
    else s
  else s

/-- A speed window ends (R478); a count that does not fit 16 bits is a free value (DESIGN CHOICE, log 2). -/
def State.speedWindow (s : State) (a : Nat) : State :=
  if s.on (F.HALL_CFG_EN a) then
    let n := spGet 0 s.hall.moves a
    let s := { s with hall := { s.hall with moves := spPut 0 s.hall.moves a 0 } }
    let s := if fitsS 16 n then s.set (F.HALL_SPEED_V a) (encS 16 n) else let (w, s) := s.draw; s.set (F.HALL_SPEED_V a) w.toNat
    s.ss1Window a
  else s

/-- A refused write in the HALL block. -/
def State.hallReject (s : State) (m : Master) (a : Nat) : State := s.faultNew F.HALL_GSTAT_CFGREJ Q.HALL_CFGREJ (wr m a)

/-- A write of HALL_CFGn (R474, R492; 13, text under Table 8). -/
def State.hallCfgWrite (s : State) (m : Master) (n : Nat) (v : Word) : State :=
  let en := fldOf (F.HALL_CFG_EN n) v
  let win := fldOf (F.HALL_CFG_WIN n) v
  let old := s.reg (R.HALL_CFG n)
  let running := s.on (F.HALL_CFG_EN n)
  let changes := (s.wouldBe (R.HALL_CFG n) v &&& 0x7FFFFFFF#32) != (old &&& 0x7FFFFFFF#32)
  if win = 0 || 100 < win || fldOf (F.HALL_CFG_SPR n) v = 0 || (running && changes) || (en = 0 && s.get (F.SAFE_CHCFG_SS1MASK n) != 0) then
    s.hallReject m (R.HALL_CFG n)
  else
    let s := s.plainWrite (R.HALL_CFG n) v
    if en = 1 && !running then
      let s := { s with hall := { s.hall with code := spPut none s.hall.code n none, moves := spPut 0 s.hall.moves n 0 } }
      ((s.set (F.HALL_STAT_HOMED n) 0).set (F.HALL_STAT_ILLRUN n) 0).setHallS n none
    else s

/-- A write of HALL_CLR (R476). -/
def State.hallClear (s : State) (m : Master) (v : Word) : State :=
  (List.range 3).foldl (fun s n =>
    if v.toNat.testBit n then
      if (hallSector (s.get (F.HALL_STATE_CODE n))).isSome then
        if s.clearable (F.HALL_STAT_HALLF n) 0 then (s.set (F.HALL_STAT_HALLF n) 0).set (F.HALL_STAT_ILLRUN n) 0 else s
      else s.faultNew F.HALL_GSTAT_CLRREF Q.HALL_CLRREF (wr m R.HALL_CLR)
    else s) s

/-- A write in the HALL block. -/
def State.writeHALL (s : State) (m : Master) (a : Nat) (v : Word) : State :=
  let n := (a - R.HALL_CFG 0) / 0x40
  if a = R.HALL_CLR then s.hallClear m v
  else if R.HALL_CFG 0 ≤ a ∧ n < 3 ∧ a = R.HALL_CFG n then s.hallCfgWrite m n v
  else if R.HALL_CFG 0 ≤ a ∧ n < 3 ∧ a = R.HALL_POS n ∧ s.on (F.HALL_CFG_EN n) then s.hallReject m a
  else s.plainWrite a v

/-! ### The commands -/

/-- HALL_CHANGE (R474). -/
def execHallChange (a : Fin 3) (code : Fin 8) (s : State) : Host.Outcome State Fault Refusal := .next (settle s (s.hallChange a code))

/-- HOME_EDGE (R479). -/
def execHomeEdge (a : Fin 3) (level : Bool) (s : State) : Host.Outcome State Fault Refusal := .next (settle s (s.homeEdge a level))

/-- SPEED_WINDOW_END (R478, R491). -/
def execSpeedWindowEnd (a : Fin 3) (s : State) : Host.Outcome State Fault Refusal := .next (settle s (s.speedWindow a))

end Sys2Proof.Machine
end

