-- ==== Sys2Proof/Machine/Sdf.lean ====
section
/-! DEFINITION. Machine/Sdf.lean: the sigma-delta filters (10_analog_acquisition.md R397 to R405). -/
namespace Sys2Proof.Machine

/-- R of a sinc3 sum, and whether sat16 changed it (R399). -/
def sdfResult (sum osr : Nat) : Int × Bool :=
  let full := osr ^ 3
  let r := roundDiv ((2 * (sum : Int) - full) * 32768) full
  (clampInt (-32768) 32767 r, !fitsS 16 r)

/-- The clock divider of a clock output (R397). -/
def State.sdcDiv (s : State) (m : Nat) : Nat := bitsOf (s.regN R.SDF_CLK) (8 * m) 5

/-- Place the latest result of a filter under its destinations (R404, R384). -/
def State.sdfPlace (s : State) (n : Nat) : State :=
  let v := if s.on (F.SDF_PLACE_VEN n) then some (s.get (F.SDF_PLACE_VROW n), s.get (F.SDF_PLACE_LANE n)) else none
  let w := if s.on (F.SDF_PLACE_SEN n) then some (s.get (F.SDF_SWORD_SWORD n)) else none
  let (s, rej) := s.place v w (s.reg64 (R.SDF_RSTAMP_LO n)) false (signedOf 16 (s.get (F.SDF_RES_R n)))
  if rej then s.adcFault F.ADC_STAT_DSTREJ Q.ADC_DSTREJ n else s

/-- A run of OSR bits ends with the sum given (R399 to R404). -/
def State.sdfRun (s : State) (n sum : Nat) : State :=
  if !s.on (F.SDF_CFG_EN n) then s
  else
    let osr := s.get (F.SDF_CFG_OSR n)
    let (r, clip) := sdfResult (min sum (osr ^ 3)) osr
    let stamp := ctAdd s.now (-(24 * (osr - 1) * s.sdcDiv (s.get (F.SDF_CFG_CLKSEL n)) : Nat))
    let due := spGet 0 s.adc.sdfFirst n
    let valid := due = 0 && !s.adc.stuck.testBit n
    let s := if s.adc.stuck.testBit n then s else { s with adc := { s.adc with sdfFirst := spPut 0 s.adc.sdfFirst n (due - 1) } }
    let s := ((s.setB (F.SDF_RES_VALID n) valid).setB (F.SDF_RES_CLIP n) clip).set (F.SDF_RES_R n) (encS 16 r)
    let s := s.setReg64 (R.SDF_RSTAMP_LO n) stamp
    let s := if clip then s.faultBit F.SDF_CLIP_F n Q.SDF_CLIP (hw n) else s
    if !valid then s
    else
      let hi := signedOf 16 (s.regN (R.SDF_LIM n) / 2 ^ 16)
      let lo := signedOf 16 (s.regN (R.SDF_LIM n))
      let s := if hi < r || r < lo then s.faultBit F.SDF_LIMIT_F n Q.SDF_LIMIT (hw n) else s
      let s := { s with adc := { s.adc with sdfNew := s.adc.sdfNew ||| 2 ^ n } }
      if s.get (F.SDF_PLACE_MODE n) = 2 then s.sdfPlace n
      else { s with adc := { s.adc with sdfHeld := s.adc.sdfHeld ||| 2 ^ n } }

/-- The commit tick: filters under COMMIT place their latest new valid result (R404). -/
def State.sdfCommit (s : State) : State :=
  if s.sx = sxOFF then s
  else
    let s := (List.range 16).foldl (fun s n =>
      if s.get (F.SDF_PLACE_MODE n) == 1 && s.adc.sdfHeld.testBit n then s.sdfPlace n else s) s
    { s with adc := { s.adc with sdfHeld := 0 } }

/-- The bitstream of a filter has held one level for STK clocks (R403). -/
def State.sdfStick (s : State) (n : Nat) : State :=
  if s.on (F.SDF_CFG_EN n) && s.get (F.SDF_CFG_STK n) != 0 then
    ({ s with adc := { s.adc with stuck := s.adc.stuck ||| 2 ^ n } }).faultBit F.SDF_STUCK_F n Q.SDF_STUCK (hw n)
  else s

/-- A stuck run ends: two results follow with VALID = 0 (R401). -/
def State.sdfUnstick (s : State) (n : Nat) : State :=
  if s.adc.stuck.testBit n then
    { s with adc := { s.adc with stuck := putBit s.adc.stuck n false, sdfFirst := spIns s.adc.sdfFirst n 2 } }
  else s

def State.sdfReject (s : State) (m : Master) (a n : Nat) : State := s.faultNew F.SDF_GSTAT_CFGREJ Q.SDF_CFGREJ { wr m a with addr := n }

/-- A write of SDF_CFGn (R401, R402; 10, text under Table 10). -/
def State.sdfCfg (s : State) (m : Master) (n : Nat) (v : Word) : State :=
  let a := R.SDF_CFG n
  let osr := fldOf (F.SDF_CFG_OSR n) v
  let was := s.on (F.SDF_CFG_EN n)
  let same := (s.wouldBe a v) ||| 0x80000000#32 == s.reg a ||| 0x80000000#32
  if osr < 32 || 256 < osr || (was && !same) then s.sdfReject m a n
  else
    let s := s.plainWrite a v
    if !was && s.on (F.SDF_CFG_EN n) then
      { s with adc := { s.adc with sdfFirst := spIns s.adc.sdfFirst n 2, stuck := putBit s.adc.stuck n false,
                                   sdfNew := putBit s.adc.sdfNew n false, sdfHeld := putBit s.adc.sdfHeld n false } }
    else s

/-- Whether a write of SDF_CLK is refused: a DIV outside 5 to 20, or a change of a clock that a running filter uses. -/
def State.sdfClkBad (s : State) (v : Word) : Bool :=
  (List.range 4).any fun k =>
    let d := bitsOf v.toNat (8 * k) 5
    d < 5 || 20 < d || (d != s.sdcDiv k && (List.range 16).any fun n => s.on (F.SDF_CFG_EN n) && s.get (F.SDF_CFG_CLKSEL n) == k)

/-- A write in the SDF block. -/
def State.writeSDF (s : State) (m : Master) (a : Nat) (v : Word) : State :=
  if a = R.SDF_CLK then if s.sdfClkBad v then s.sdfReject m a 0 else s.plainWrite a (v &&& 0x9F9F9F9F#32)
  else if 0x14010100 ≤ a ∧ a < 0x14010300 then
    let n := (a - 0x14010100) / 0x20
    if a % 0x20 = 0 then s.sdfCfg m n v
    else if a % 0x20 = 4 ∨ a % 0x20 = 8 ∨ a % 0x20 = 0xC then
      let lane := fldOf (F.SDF_PLACE_LANE n) v
      let bad := a % 0x20 = 8 && (fldOf (F.SDF_PLACE_MODE n) v == 3 || lane < 56)
      if bad || (s.on (F.SDF_CFG_EN n) && s.wouldBe a v != s.reg a) then s.sdfReject m a n else s.plainWrite a v
    else s
  else s.plainWrite a v

/-! ### The commands -/

/-- SDF_RESULT (R399): the sinc3 sum of the run that ends. -/
def execSdfResult (n : Fin 16) (sum : Fin 16777217) (s : State) : Host.Outcome State Fault Refusal := .next (settle s (s.sdfRun n sum))

/-- SDF_STUCK (R403). -/
def execSdfStuck (n : Fin 16) (s : State) : Host.Outcome State Fault Refusal := .next (settle s (s.sdfStick n))

/-- SDF_STUCK_END (R401). -/
def execSdfStuckEnd (n : Fin 16) (s : State) : Host.Outcome State Fault Refusal := .next (settle s (s.sdfUnstick n))

end Sys2Proof.Machine
end

