-- ==== Sys2Proof/Machine/Access.lean ====
section
/-! DEFINITION. Machine/Access.lean: the accesses of the masters to the map (00_scope.md R9 to R17; 02 R54 to R56;
15_faults_reset_startup.md R543 to R549; 18_address_map.md R639 to R646), and the commands that are writes or reads of registers. -/
namespace Sys2Proof.Machine

/-! ### The map (R639, R641, R646) -/

/-- Whether a window of the map holds `a`. -/
def inWindow (a : Nat) : Bool :=
  [0x1000, 0x1001, 0x1002, 0x1003, 0x1004, 0x1005, 0x1010, 0x1100, 0x1101, 0x1102, 0x1103, 0x1108, 0x110C, 0x110D, 0x110E, 0x1200, 0x1201,
   0x1300, 0x1301, 0x1310, 0x1320, 0x1330, 0x1400, 0x1401, 0x1402, 0x1403, 0x1500, 0x1501, 0x1502, 0x1600, 0x1601, 0x1602, 0x1700].contains
    (a / 0x10000) || (0x1800 ≤ a / 0x10000 && a / 0x10000 ≤ 0x181F)

/-- Whether a register lies in a block of the analog die. -/
def onAnalog (a : Nat) : Bool :=
  [0x1001, 0x1003, 0x1400, 0x1401, 0x1402, 0x1403, 0x1500, 0x1501, 0x1502].contains (a / 0x10000)

/-- Whether the analog die serves `a`: while it is shut down only PMU_LAST and THERM_SDREC (R646). -/
def State.analogServes (s : State) (a : Nat) : Bool := !(s.sys.offA && onAnalog a) || a == R.PMU_LAST || a == R.THERM_SDREC

/-- Whether a master reaches `a` (R641). -/
def reaches (m : Master) (a : Nat) : Bool :=
  match m with
  | .engine => isVdm a || isSdm a
  | .safety => a / 0x10000 == 0x1502
  | .ring => isVdm a || (0x13201000 ≤ a && a < 0x13203000)
  | .twin => isVdm a || a / 0x10000 == 0x1200 || a / 0x10000 == 0x1201
  | .supervisor | .host | .debug => true

/-- Whether a window of LOG memory holds `a`. -/
def isLogMem (a : Nat) : Bool := 0x1800 ≤ a / 0x10000 && a / 0x10000 ≤ 0x181F

/-! ### 64-bit quantities (R16, R17) -/

/-- Low words of the 64-bit quantities (DEDUCED, log 15). -/
def isWideLow (a : Nat) : Bool :=
  [R.CHRONO_NOW_LO, R.CHRONO_SET_LO, R.SEXT_B1_LO, R.SEXT_B2_LO, R.ENG_OVR_T_LO, R.ENG_PCNT_LO, R.ALM_SWAPP_LO, R.LOG_TRIGT_LO,
   R.MOD_TREF_LO, R.TWIN_SWAPP_LO, R.UPD_ACTT_LO, R.OCL_LCMDP_LO].contains a
    || (List.range 24).any (fun n => a == R.CMP_STAMP_LO n) || (List.range 8).any (fun n => a == R.TRIP_TSTAMP_LO n)
    || (List.range 3).any (fun n => a == R.AXD_SCSTAMP_LO n || a == R.HALL_TSTAMP_LO n || a == R.HALL_HSTAMP_LO n)
    || (List.range 16).any (fun n => a == R.SDF_RSTAMP_LO n) || (List.range 56).any (fun n => a == R.OCL_LCAP_LO n)

/-- Low words of the writable ones. -/
def isWideWrite (a : Nat) : Bool := a == R.CHRONO_SET_LO || a == R.MOD_TREF_LO || a == R.OCL_LCMDP_LO

/-- What a master captured or holds, by its code and the address. -/
def busKey (m : Master) (a : Nat) : Nat := 2 ^ 32 * m.code + a

/-- The words that a read of `a` captures beside R16: words 1 to 3 of a result word, the stamp of a filter's result (10 R383). -/
def resultCaps (a : Nat) : List Nat :=
  if 0x14001000 ≤ a ∧ a < 0x14002000 ∧ a % 16 = 0 then [a + 4, a + 8, a + 12]
  else if 0x14010100 ≤ a ∧ a < 0x14010300 ∧ a % 32 = 16 then [a + 4, a + 8]
  else []

/-! ### The fault registers (15 R543 to R548) -/

def State.rej (s : State) (b : Nat) : Bool := spGet false s.faults.rej b

/-- A write to a fault register is refused (R548). -/
def State.setRej (s : State) (b : Nat) : State :=
  let s := s.mark (fltBase b) (maskW 29 1)
  { s with faults := { s.faults with rej := spPut false s.faults.rej b true } }

/-- FLT_IDX of a master in block `b`. -/
def State.fltIdx (s : State) (m : Master) (b : Nat) : Nat := spGet 0 s.faults.idx (8 * b + m.code)

/-- FLT_STAT (Table 3). -/
def State.fltStat (s : State) (b : Nat) : Nat :=
  let p := s.pendSrcs b
  2 ^ 31 * b2n (s.irqOf b) + 2 ^ 30 * b2n (s.cap b).valid + 2 ^ 29 * b2n (s.rej b) + 2 ^ 16 * p.length
    + (match p with | q :: _ => q.idx | [] => 0xFF)

/-- A source word (Table 4); 0 beyond the block's last source. -/
def State.sourceWord (s : State) (q : Src) : Nat :=
  match (srcDefs q.blk)[q.idx]? with
  | none => 0
  | some d =>
    let w := s.src q
    2 ^ 31 * b2n w.pend + 2 ^ 30 * b2n w.ie + 2 ^ 24 * w.rlvl + 8 * b2n d.fixed + w.react

/-- A capture item (Table 5). -/
def Capture.item (c : Capture) (i : Nat) : Nat :=
  match i with
  | 0x40 => 2 ^ 31 * b2n c.valid + 2 ^ 28 * c.master + 2 ^ 26 * c.acc + 2 ^ 16 * c.merge + c.src
  | 0x41 => c.addr
  | 0x42 => c.stamp
  | 0x43 => c.stamp / 2 ^ 32
  | 0x44 => c.types
  | 0x45 => c.types / 2 ^ 32
  | _ => 0

/-- A read of the fault register of block `b` at offset `o`. -/
def State.fltRead (s : State) (m : Master) (b o : Nat) : Nat :=
  let i := s.fltIdx m b
  if o = 0 then s.fltStat b
  else if o = 4 then 0
  else if o = 8 then i
  else if i < 0x40 then s.sourceWord ⟨b, i⟩ else (s.cap b).item i

/-- The raises of this tick in block `b`, in the order of its sources. -/
def State.recentOf (s : State) (b : Nat) : List (Src × Acc) :=
  (srcsOf b).flatMap fun q => s.recent.filter fun e => e.1 == q

/-- CAPCLR: the capture is cleared, and the raises of this tick fill it again (R546). -/
def State.capClear (s : State) (b : Nat) : State :=
  let c := { s.cap b with valid := false, merge := 0, types := 0 }
  s.setCap b ((s.recentOf b).foldl (fun (c : Capture) e => c.take e.1.idx e.2 s.now) c)

/-- REACT is written: refused for code 0b111, a change of a fixed source, BLOCK_LOCAL where the block has no local outputs (R548). -/
def State.reactWrite (s : State) (q : Src) (d : SrcDef) (r : Nat) : State :=
  let w := s.src q
  if r = 7 || (d.fixed && r != w.react) || (r == 3 && !hasLocal q.blk) then s.setRej q.blk
  else (s.noteReact q).setSrc q { w with react := r }

/-- A write of a source word (R546, R548). -/
def State.sourceWrite (s : State) (q : Src) (v : Word) : State :=
  match (srcDefs q.blk)[q.idx]? with
  | none => s.setRej q.blk
  | some d =>
    let raised := s.recent.any fun e => e.1 == q
    let s := if v.toNat.testBit 31 && !raised then s.clearPend q else s
    let s := s.setSrc q { s.src q with ie := v.toNat.testBit 30 }
    s.reactWrite q d (v.toNat % 8)

/-- A write of the fault register of block `b` at offset `o`. -/
def State.fltWrite (s : State) (m : Master) (b o : Nat) (v : Word) : State :=
  let n := v.toNat % 128
  if o = 0 then
    if v.toNat.testBit 29 && !(s.fresh (fltBase b)).toNat.testBit 29 then
      { s with faults := { s.faults with rej := spPut false s.faults.rej b false } } else s
  else if o = 4 then if v.toNat.testBit 0 then s.capClear b else s
  else if o = 8 then
    if 0x46 ≤ n then s.setRej b else { s with faults := { s.faults with idx := spPut 0 s.faults.idx (8 * b + m.code) n } }
  else
    let i := s.fltIdx m b
    if i < 0x40 then s.sourceWrite ⟨b, i⟩ v else s

/-! ### Reads -/

/-- A free value of the bits of `mask` (the readings that no command brings: DESIGN CHOICE, log 2). -/
def State.freeBits (s : State) (mask : Word) : Word × State :=
  let (v, s) := s.draw
  (v.truncate 32 &&& mask, s)

/-- A read of a register by its access codes: WO bits read 0, RC bits clear; one that the device has changed in this tick returns
the value from before it and stays (R9, R11). -/
def State.codeRead (s : State) (a : Nat) : Word × State :=
  match regRowAt a with
  | none => (0, s)
  | some row =>
    if row.rc = 0 then (s.reg a &&& ~~~ row.wo, s)
    else if s.fresh a != 0 then (spGet (s.reg a) s.bus.rcPrev a, s)
    else (s.reg a, s.setReg a (s.reg a &&& ~~~ row.rc))

/-- The registers that show what the device computes at the read. -/
def State.shown (s : State) (a : Nat) : Option Nat :=
  if a = R.CHRONO_NOW_LO then some s.now
  else if a = R.CHRONO_NOW_HI then some (s.now / 2 ^ 32)
  else if a = R.SYS_REACT then some s.reactWord
  else if a = R.SYS_IRQSRC then some s.irqSrc
  else if a = R.MOD_FSUM then some s.fsum
  else if a = R.SAFE_SINSTAT then some s.sinStat
  else if a = R.UPD_TRIAL then some s.trialWord
  else if a = R.CLK_COASTT && s.on F.CLK_STAT_COAST then some s.coastUs
  else if a = R.RING_TOPO then some (withFld F.RING_TOPO_PARENT (s.reg a) (sideNo s.parentSide)).toNat
  else if a = R.TWIN_STAT then some (withFld F.TWIN_STAT_ELIG (s.reg a) (b2n s.elig)).toNat
  else if a = R.TWIN_CLAIMS && s.on F.TWIN_CFG_EN then some (withFld F.TWIN_CLAIMS_OWN (s.reg a) (s.get F.OCL_CLAIM_CLAIM)).toNat
  else if a = R.TWIN_CKPT && s.on F.TWIN_CKPT_HELD then
    some (withFld F.TWIN_CKPT_AGE (s.reg a) (min 65535 (ctDiff s.now s.twin.ckptT / 3200000).toNat)).toNat
  else none

/-- A read of a register, of PMEM and ALM banks and of the Log memory. -/
def State.blockRead (s : State) (m : Master) (a : Nat) : Word × State :=
  if isPmem a || isAlmMem a then (BitVec.ofNat 32 (s.load a 4), s)
  else if isLogMem a then s.logRead m a
  else if a = R.PMU_VAUX then s.freeBits 0xFFF#32
  else if a = R.PMU_VMON0 ∨ a = R.PMU_VMON1 ∨ a = R.PMU_VMON2 then s.freeBits (BitVec.allOnes 32)
  else if a = R.CLK_PERR then s.freeBits 0xFFFF#32
  else
    match fltBlockAt a, s.shown a with
    | some (b, o), _ => (BitVec.ofNat 32 (s.fltRead m b o), s)
    | none, some n => (BitVec.ofNat 32 n, s)
    | none, none => s.codeRead a

/-- Keep a word captured for a master, by R16 or by R383. -/
def State.capture (s : State) (m : Master) (a : Nat) (v : Word) : State := { s with bus := { s.bus with caps := spIns s.bus.caps (busKey m a) v } }
def State.captureRes (s : State) (m : Master) (a : Nat) : State :=
  { s with bus := { s.bus with rescap := spIns s.bus.rescap (busKey m a) (s.reg a) } }

/-- A read of a register of 4-byte address `a` by a master, with the captures of R16 and R383: a captured word answers the next read. -/
def State.capRead (s : State) (m : Master) (a : Nat) : Word × State :=
  match s.bus.rescap.find? (·.1 == busKey m a), s.bus.caps.find? (·.1 == busKey m a) with
  | some (_, v), _ => (v, { s with bus := { s.bus with rescap := spDel s.bus.rescap (busKey m a) } })
  | none, some (_, v) => (v, { s with bus := { s.bus with caps := spDel s.bus.caps (busKey m a) } })
  | none, none =>
    let (v, s) := s.blockRead m a
    let s := if isWideLow a then s.capture m (a + 4) (s.blockRead m (a + 4)).1 else s
    (v, (resultCaps a).foldl (fun s a => s.captureRes m a) s)

/-- A read of the map by a master, served (18 R641, R646). -/
def State.readAt (s : State) (m : Master) (a : Nat) : Word × State :=
  let a := a / 4 * 4
  if isVdm a || isSdm a then (s.foreignRead a, s)
  else if s.analogServes a then s.capRead m a else (0, s)

/-! ### Writes -/

/-- The settings of the Sextant from which the engine's budget follows (03 R119). -/
def budgetRegs : List Nat := [R.SEXT_N, R.SEXT_FLIM]

/-- A write of a register by a master, in its block. -/
def State.blockWrite (s : State) (m : Master) (a : Nat) (v : Word) : State :=
  match fltBlockAt a with
  | some (b, o) => s.fltWrite m b o v
  | none =>
    match a / 0x10000 with
    | 0x1000 => s.writeSYS m a v
    | 0x1001 => s.writePMU m a v
    | 0x1002 => s.writeCLK m a v
    | 0x1003 => s.writeTHERM m a v
    | 0x1004 => s.writeCHRONO m a v
    | 0x1005 => let s := s.writeSEXT m a v; if budgetRegs.contains a then s.setBudget else s
    | 0x1010 => s.writeENG m a v
    | 0x110C | 0x110D => s.writeBank m a v
    | 0x110E => s.writeALM m a v
    | 0x1200 | 0x1201 => s.writeMOD m a v
    | 0x1300 | 0x1301 => s.writeLANE m a v
    | 0x1310 => s.writeOCL m a v
    | 0x1320 => s.writeRING m a v
    | 0x1330 => s.writeTWIN m a v
    | 0x1400 => s.writeADC m a v
    | 0x1401 => s.writeSDF m a v
    | 0x1402 => s.writeCMP m a v
    | 0x1403 => s.writeTRIP m a v
    | 0x1500 => s.writeAXD m a v
    | 0x1501 => s.writeHALL m a v
    | 0x1502 => s.writeSAFE m a v
    | 0x1600 => s.writeHOST m a v
    | 0x1601 => s.writeUPD m a v
    | 0x1602 => s.writeNVM m a v
    | 0x1700 => s.writeLOG m a v
    | _ => s

/-- A write with the held low words of R17: a low word of a writable 64-bit quantity is held until its master writes the high one. -/
def State.wideWrite (s : State) (m : Master) (a : Nat) (v : Word) : State :=
  if isWideWrite a then { s with bus := { s.bus with lows := spIns s.bus.lows (busKey m a) (some v) } }
  else if isWideWrite (a - 4) then
    match spGet none s.bus.lows (busKey m (a - 4)) with
    | some lo =>
      let s := { s with bus := { s.bus with lows := spDel s.bus.lows (busKey m (a - 4)) } }
      (s.blockWrite m (a - 4) lo).blockWrite m a v
    | none => s.blockWrite m a v
  else s.blockWrite m a v

/-- A write of the map by a master, served; LOG memory takes no write (05 R205; 18 R641). -/
def State.writeAt (s : State) (m : Master) (a : Nat) (v : Word) : State :=
  let a := a / 4 * 4
  if isVdm a || isSdm a then s.foreignWrite m a v
  else if isLogMem a then s
  else if s.analogServes a then s.wideWrite m a v else s

/-! ### Claims (02 R54 to R56; 03 R131, R132) -/

/-- The resource that an access claims: a row or a word of the engine memories, else one register. -/
def claimKey (a : Nat) : Nat := if isVdm a || isSdm a then engKey a else a / 4 * 4

/-- Whether claims of a master on an engine memory are held now (03 R131, R132). -/
def State.holds (s : State) (m : Master) (a : Nat) : Bool :=
  (isVdm a || isSdm a) && s.get F.ENG_STAT_ESTATE == 2 && m != .engine &&
    ((s.on F.ENG_CTRL_PEEKHOLD && (m == .host || m == .debug)) || 2 * s.get F.ENG_CTRL_STALLCAP ≤ s.eng.waited)

/-- Serve a claim. -/
def State.serve (s : State) (c : Claim) : State := (s.served (claimKey c.addr) c.master).serveBy State.readAt State.writeAt c

/-- A new claim: held, deferred behind earlier ones or behind another master's of this tick, or served. -/
def State.claim (s : State) (c : Claim) : State :=
  let k := claimKey c.addr
  if s.holds c.master c.addr then { s with bus := { s.bus with held := s.bus.held ++ [c] } }
  else if s.bus.deferred.any (claimKey ·.addr == k) || (s.servedBy k).any (· != c.master.code) then
    { s with bus := { s.bus with deferred := insClaim c s.bus.deferred } }
  else s.serve c

/-- Serve one deferred claim, where its resource has served none in this tick. -/
def State.serveOne (s : State) (c : Claim) : State :=
  if (s.servedBy (claimKey c.addr)).isSome then s
  else ({ s with bus := { s.bus with deferred := s.bus.deferred.erase c } }).serve c

/-- Claims that are held no longer go to arbitration (03 R131, R132). -/
def State.unhold (s : State) : State :=
  let free := s.bus.held.filter fun c => !s.holds c.master c.addr
  let rest := s.bus.held.filter fun c => s.holds c.master c.addr
  { s with bus := { s.bus with held := rest, deferred := free.foldl (fun d c => insClaim c d) s.bus.deferred } }

/-- Serve the deferred claims, one for each resource and tick (R55). -/
def State.serveDeferred (s : State) : State :=
  let s := s.unhold
  s.bus.deferred.foldl State.serveOne s

/-- An access outside every window: recorded, and a read returns 0 (R15; 15 R556). -/
def State.addrErr (s : State) (m : Master) (w : Bool) (a : Nat) : State :=
  let s := (s.flag F.SYS_EVT_ADDRERR).raise Q.SYS_ADDRERR (if w then wr m a else rd m a)
  if w then s else { s with bus := { s.bus with rdata := spIns s.bus.rdata m.code 0 } }

/-- Whether the map can be reached by a master: the logic die runs, BOOT has been reached, and for the host its ports have opened. -/
def State.mapOpen (s : State) (m : Master) : Bool :=
  stBOOT ≤ s.dev && !s.sys.offL && (m != .host || stCONFIG ≤ s.dev) && (m != .debug || s.get F.SYS_STRAP_STRAP / 4 % 2 == 1)

/-- An access of a master to the map. -/
def State.access (s : State) (m : Master) (w : Bool) (a : Nat) (v : Word) : State :=
  if !s.mapOpen m || (inWindow a && !reaches m a) then s
  else if !inWindow a then s.addrErr m w a
  else if w && ((m == .host && (s.dev == stSEALED || s.dev == stTHERMAL)) || (m == .debug && s.dev == stSEALED)) then s
  else s.claim { master := m, write := w, addr := a, value := v, tick := s.now }

/-- An access of the debug master (18 R643): only aligned words. -/
def State.debugAccess (s : State) (a : Nat) (w : Bool) (v : Word) (size : Nat) : State :=
  if !s.mapOpen .debug then s
  else if size != 4 || a % 4 != 0 then s.addrErr .debug w a
  else s.access .debug w a v

/-- A write of the map as a command. -/
def busWrite (m : Master) (a : Nat) (v : Word) (s : State) : Host.Outcome State Fault Refusal := .next (settle s (s.access m true a v))
/-- A read of the map as a command. -/
def busRead (m : Master) (a : Nat) (s : State) : Host.Outcome State Fault Refusal := .next (settle s (s.access m false a 0))

/-! ### The commands -/

/-- REGISTER_WRITE (R9). -/
def execRegisterWrite (m : Master) (a v : Word) (s : State) : Host.Outcome State Fault Refusal := busWrite m a.toNat v s

/-- READ_CLEAR (R9). -/
def execReadClear (m : Master) (a : Word) (s : State) : Host.Outcome State Fault Refusal := busRead m a.toNat s

/-- WIDE_LOW_READ (R16). -/
def execWideLowRead (m : Master) (a : Word) (s : State) : Host.Outcome State Fault Refusal := busRead m a.toNat s

/-- WIDE_LOW_WRITE (R17). -/
def execWideLowWrite (m : Master) (a v : Word) (s : State) : Host.Outcome State Fault Refusal := busWrite m a.toNat v s

/-- UNMAPPED_ACCESS (R15). -/
def execUnmappedAccess (m : Master) (a : Word) (w : Bool) (v : Word) (s : State) : Host.Outcome State Fault Refusal :=
  .next (settle s (s.access m w a.toNat v))

/-- DEBUG_ACCESS (18 R643). -/
def execDebugAccess (a : Word) (w : Bool) (v : Word) (size : Fin 5) (s : State) : Host.Outcome State Fault Refusal :=
  .next (settle s (s.debugAccess a.toNat w v size))

/-- CLAIM_DEFERRED_SERVE (R55). -/
def execClaimDeferredServe (s : State) : Host.Outcome State Fault Refusal := .next (settle s s.serveDeferred)

/-- RESULT_WORD_READ (10 R383). -/
def execResultWordRead (m : Master) (n : Fin 256) (s : State) : Host.Outcome State Fault Refusal := busRead m (R.ADC_RES n 0) s

/-- LOG_MEMORY_READ (05 R205). -/
def execLogMemoryRead (m : Master) (a : Word) (s : State) : Host.Outcome State Fault Refusal := busRead m a.toNat s

/-- FLT_IDX_WRITE (15 R543). -/
def execFltIdxWrite (m : Master) (b : Fin 24) (v : Word) (s : State) : Host.Outcome State Fault Refusal := busWrite m (fltBase b + 8) v s

/-- SOURCE_WORD_WRITE (15 R548): FLT_DATA, at the index the master has selected. -/
def execSourceWordWrite (m : Master) (b : Fin 24) (v : Word) (s : State) : Host.Outcome State Fault Refusal :=
  busWrite m (fltBase b + 12) v s

/-- CAPTURE_CLEAR (15 R546). -/
def execCaptureClear (m : Master) (b : Fin 24) (v : Word) (s : State) : Host.Outcome State Fault Refusal :=
  busWrite m (fltBase b + 4) v s

/-- CHRONO_LOAD (02 R41). -/
def execChronoLoad (m : Master) (v : Word) (s : State) : Host.Outcome State Fault Refusal := busWrite m R.CHRONO_SET_HI v s

/-- CHRONO_TRIM_WRITE (02 R39). -/
def execChronoTrimWrite (m : Master) (v : Word) (s : State) : Host.Outcome State Fault Refusal := busWrite m R.CHRONO_TRIM v s

/-- SEXT_ENABLE (02 R71). -/
def execSextEnable (m : Master) (v : Word) (s : State) : Host.Outcome State Fault Refusal := busWrite m R.SEXT_CTRL v s

/-- SEXT_DISABLE (02 R71). -/
def execSextDisable (m : Master) (v : Word) (s : State) : Host.Outcome State Fault Refusal := busWrite m R.SEXT_CTRL v s

/-- ENG_TIMING_WRITE (03 R140). -/
def execEngTimingWrite (m : Master) (v : Word) (s : State) : Host.Outcome State Fault Refusal := busWrite m R.ENG_TIMING v s

/-- ENG_SPAGE_V_WRITE (03 R122). -/
def execEngSpageVWrite (m : Master) (v : Word) (s : State) : Host.Outcome State Fault Refusal := busWrite m R.ENG_SPAGE_V v s

/-- ENG_SPAGE_S_WRITE (03 R128). -/
def execEngSpageSWrite (m : Master) (v : Word) (s : State) : Host.Outcome State Fault Refusal := busWrite m R.ENG_SPAGE_S v s

/-- ENGINE_ENABLE (03 R117). -/
def execEngineEnable (m : Master) (v : Word) (s : State) : Host.Outcome State Fault Refusal := busWrite m R.ENG_CTRL v s

/-- ENGINE_DISABLE (03 R676). -/
def execEngineDisable (m : Master) (v : Word) (s : State) : Host.Outcome State Fault Refusal := busWrite m R.ENG_CTRL v s

/-- CMP_CFG_WRITE (11 R409). -/
def execCmpCfgWrite (m : Master) (n : Fin 24) (v : Word) (s : State) : Host.Outcome State Fault Refusal :=
  busWrite m (R.CMP_CFG n) v s

/-- LATCH_CLEAR (11 R412). -/
def execLatchClear (m : Master) (v : Word) (s : State) : Host.Outcome State Fault Refusal := busWrite m R.CMP_LATCH v s

/-- COMPARATOR_TEST (11 R418). -/
def execComparatorTest (m : Master) (v : Word) (s : State) : Host.Outcome State Fault Refusal := busWrite m R.CMP_TEST v s

/-- TRIPIN_LATCH_CLEAR (11 R424). -/
def execTripinLatchClear (m : Master) (v : Word) (s : State) : Host.Outcome State Fault Refusal := busWrite m R.TRIP_TLATCH v s

/-- HALL_ENABLE (13 R474). -/
def execHallEnable (m : Master) (a : Fin 3) (v : Word) (s : State) : Host.Outcome State Fault Refusal :=
  busWrite m (R.HALL_CFG a) v s

/-- HALL_CLEAR (13 R476). -/
def execHallClear (m : Master) (v : Word) (s : State) : Host.Outcome State Fault Refusal := busWrite m R.HALL_CLR v s

/-- SOUT_REQUEST_WRITE (13 R495). -/
def execSoutRequestWrite (m : Master) (v : Word) (s : State) : Host.Outcome State Fault Refusal := busWrite m R.SAFE_SOUTREQ v s

/-- SAFE_KEY_WRITE (13 R501). -/
def execSafeKeyWrite (m : Master) (v : Word) (s : State) : Host.Outcome State Fault Refusal := busWrite m R.SAFE_KEY v s

/-- CHANNEL_ENABLE (06 R219). -/
def execChannelEnable (m : Master) (c : Fin 465) (v : Word) (s : State) : Host.Outcome State Fault Refusal :=
  busWrite m (chBase (chanOf c)) v s

/-- CHANNEL_DISABLE (06 R220). -/
def execChannelDisable (m : Master) (c : Fin 465) (v : Word) (s : State) : Host.Outcome State Fault Refusal :=
  busWrite m (chBase (chanOf c)) v s

/-- MOD_CFG_WRITE (06 R232). -/
def execModCfgWrite (m : Master) (c : Fin 465) (v : Word) (s : State) : Host.Outcome State Fault Refusal :=
  busWrite m (chBase (chanOf c)) v s

/-- SHADOW_WRITE (06 R226): PERIOD, CMPA, CMPB, PHASE, DT, MINP, in the order of their offsets. -/
def execShadowWrite (m : Master) (c : Fin 465) (r : Fin 6) (v : Word) (s : State) : Host.Outcome State Fault Refusal :=
  busWrite m (chBase (chanOf c) + 4 + 4 * r.val) v s

/-- GROUP_LOAD_ARM (06 R227). -/
def execGroupLoadArm (m : Master) (v : Word) (s : State) : Host.Outcome State Fault Refusal := busWrite m R.MOD_GLOAD v s

/-- AUX_FAULT_CLEAR (12 R458). -/
def execAuxFaultClear (m : Master) (a : Fin 3) (v : Word) (s : State) : Host.Outcome State Fault Refusal :=
  busWrite m (R.AXD_FLTCLR a) v s

/-- ADC_ENABLE (10 R376). -/
def execAdcEnable (m : Master) (v : Word) (s : State) : Host.Outcome State Fault Refusal := busWrite m R.ADC_CTRL v s

/-- ADC_DISABLE (10 R376). -/
def execAdcDisable (m : Master) (v : Word) (s : State) : Host.Outcome State Fault Refusal := busWrite m R.ADC_CTRL v s

/-- LIST_START_HOST (10 R377). -/
def execListStartHost (m : Master) (v : Word) (s : State) : Host.Outcome State Fault Refusal := busWrite m R.ADC_LSTART v s

/-- INJECT_TRIGGER_HOST (10 R386). -/
def execInjectTriggerHost (m : Master) (v : Word) (s : State) : Host.Outcome State Fault Refusal := busWrite m R.ADC_INJGO v s

/-- SLICE_RETIRE (10 R394). -/
def execSliceRetire (m : Master) (v : Word) (s : State) : Host.Outcome State Fault Refusal := busWrite m R.ADC_RETIRE v s

/-- SDF_ENABLE (10 R402). -/
def execSdfEnable (m : Master) (n : Fin 16) (v : Word) (s : State) : Host.Outcome State Fault Refusal :=
  busWrite m (R.SDF_CFG n) v s

/-- LANE_COMMAND (07 R279). -/
def execLaneCommand (m : Master) (v : Word) (s : State) : Host.Outcome State Fault Refusal := busWrite m R.OCL_LCMD v s

/-- LANE_RETRY (07 R256). -/
def execLaneRetry (m : Master) (l : Fin 56) (v : Word) (s : State) : Host.Outcome State Fault Refusal :=
  busWrite m (R.OCL_LCTRL l) v s

/-- LANE_ENABLE (08 R298). -/
def execLaneEnable (m : Master) (l : Fin 64) (v : Word) (s : State) : Host.Outcome State Fault Refusal :=
  busWrite m (R.LANE_CFG l) v s

/-- LANE_DISABLE (08 R298). -/
def execLaneDisable (m : Master) (l : Fin 64) (v : Word) (s : State) : Host.Outcome State Fault Refusal :=
  busWrite m (R.LANE_CFG l) v s

/-- EYE_START (08 R310). -/
def execEyeStart (m : Master) (l : Fin 64) (v : Word) (s : State) : Host.Outcome State Fault Refusal :=
  busWrite m (R.LANE_EYECTL l) v s

/-- LOG_FORCE (05 R201). -/
def execLogForce (m : Master) (v : Word) (s : State) : Host.Outcome State Fault Refusal := busWrite m R.LOG_CTRL v s

/-- KEY_REVOKE (17 R620). -/
def execKeyRevoke (m : Master) (v : Word) (s : State) : Host.Outcome State Fault Refusal := busWrite m R.NVM_REVOKE v s

/-- SEXT_CONFIG_WRITE (02 R85): N, FLIM, FNOM. -/
def execSextConfigWrite (m : Master) (r : Fin 3) (v : Word) (s : State) : Host.Outcome State Fault Refusal :=
  busWrite m (R.SEXT_N + 4 * r.val) v s

/-- MOD_REF_WRITE (06 R221): AREF, TREF_LO, TREF_HI. -/
def execModRefWrite (m : Master) (r : Fin 3) (v : Word) (s : State) : Host.Outcome State Fault Refusal :=
  busWrite m (if r.val = 0 then R.MOD_AREF else R.MOD_TREF_LO + 4 * (r.val - 1)) v s

/-- TRIP_MASK_WRITE (11 R426): the masks of the 20 targets, then the 16 words of the cell groups. -/
def execTripMaskWrite (m : Master) (i : Fin 36) (v : Word) (s : State) : Host.Outcome State Fault Refusal :=
  busWrite m (if i.val < 20 then R.TRIP_MASK i else R.TRIP_CG_LO 0 + 4 * (i.val - 20)) v s

/-- OCL_LANE_ENABLE (07 R256). -/
def execOclLaneEnable (m : Master) (hi : Bool) (v : Word) (s : State) : Host.Outcome State Fault Refusal :=
  busWrite m (if hi then R.OCL_EN_HI else R.OCL_EN_LO) v s

/-- OCL_LANE_DISABLE (07 R256). -/
def execOclLaneDisable (m : Master) (hi : Bool) (v : Word) (s : State) : Host.Outcome State Fault Refusal :=
  busWrite m (if hi then R.OCL_EN_HI else R.OCL_EN_LO) v s

end Sys2Proof.Machine
end

