-- ==== Sys2Proof/Machine/Boot.lean ====
section
/-! DEFINITION. Machine/Boot.lean: BOOT, the application of a configuration record, the loading of the image's banks, and the ways
to DEFAULT and LINKS (15_faults_reset_startup.md R565 to R575; 17 R621, R622; 14 R538). -/
namespace Sys2Proof.Machine

/-! ### A configuration copy (R571 to R573) -/

/-- The CFGREJ bits that a write at `a` may set. -/
def cfgrejAt (a : Nat) : List Fld :=
  match a / 0x10000 with
  | 0x1000 => [F.SYS_EVT_CFGREJ]
  | 0x1001 => [F.PMU_EVT_CFGREJ]
  | 0x1002 => [F.CLK_STAT_CFGREJ]
  | 0x1003 => [F.THERM_EVT_CFGREJ]
  | 0x1005 => [F.SEXT_STAT_CFGREJ]
  | 0x1010 | 0x1100 | 0x1101 | 0x1102 | 0x1103 | 0x1108 => [F.ENG_STAT_CFGREJ]
  | 0x110E => [F.ALM_STAT_CFGREJ]
  | 0x1200 | 0x1201 => F.MOD_GSTAT_CFGREJ :: (match chanAt a with | some c => [F.MOD_CHST_CFGREJ (ri c)] | none => [])
  | 0x1300 => [F.LANE_STAT_CFGREJ ((a - 0x13000000) / 0x400)]
  | 0x1310 => [F.OCL_GSTAT_CFGREJ]
  | 0x1320 => [F.RING_STAT_CFGREJ]
  | 0x1330 => [F.TWIN_STAT_CFGREJ]
  | 0x1400 => [F.ADC_STAT_CFGREJ]
  | 0x1401 => [F.SDF_GSTAT_CFGREJ]
  | 0x1402 => [F.CMP_STAT_CFGREJ]
  | 0x1403 => [F.TRIP_STAT_CFGREJ]
  | 0x1500 => F.AXD_GSTAT_CFGREJ :: (List.range 3).map F.AXD_CHSTAT_CFGREJ
  | 0x1501 => [F.HALL_GSTAT_CFGREJ]
  | 0x1502 => [F.SAFE_EVT_CFGREJ]
  | 0x1600 => [F.HOST_STAT_CFGREJ]
  | 0x1601 => [F.UPD_STAT_CFGREJ]
  | 0x1602 => [F.NVM_STAT_CFGREJ]
  | 0x1700 => [F.LOG_STAT_CFGREJ]
  | _ => []

/-- Whether a write by the supervisor makes a copy fail: it sets a CFGREJ bit, set before or not, or lies outside every window
(R573). -/
def State.cfgFails (s : State) (a : Nat) (v : Word) : Bool :=
  !inWindow a ||
    (let t := ((cfgrejAt a).foldl (fun s f => s.set f 0) s).writeAt .supervisor a v
     (cfgrejAt a).any t.on)

/-- One write of a record, with what it reports when it fails. -/
def State.cfgWrite1 (s : State) (a : Nat) (v : Word) : State :=
  if inWindow a then s.writeAt .supervisor a v else s.addrErr .supervisor true a

/-- The writes of a record in order, up to one that fails: the state, and the address of the failing one. -/
def State.cfgWrites (s : State) : List (Nat × Word) → State × Option Nat
  | [] => (s, none)
  | (a, v) :: r => if s.cfgFails a v then (s.cfgWrite1 a v, some a) else (s.cfgWrite1 a v).cfgWrites r

/-- The identity block in the registers that Table 12 names, over any value there (R572): ID and TKPRI, PARTNER and PRIME. -/
def State.identity (s : State) (ws : List Word) : State :=
  let s := (s.set F.RING_CFG_ID (recW ws 5 % 512)).set F.RING_CFG_TKPRI (recW ws 6 / 2 ^ 24)
  let s := (s.set F.TWIN_CFG_PARTNER (recW ws 5 / 65536 % 512)).set F.TWIN_CFG_PRIME (recW ws 6 / 65536 % 2)
  ({ s with ring := { s.ring with quiet := false } }).electTk

/-- A copy is undone (R573): every word as before its first write, with what the failing write reported. -/
def State.cfgUndo (s0 t : State) (a : Nat) : State :=
  let u := { s0 with faults := t.faults, free := t.free }
  (F.SYS_EVT_ADDRERR :: cfgrejAt a).foldl (fun u f => if t.on f then u.flag f else u) u

/-- CFGBAD and the copy's bit (R573). -/
def State.copyBad (s : State) (b : Bool) : State := s.set (if b then F.SYS_CFGST_BADB else F.SYS_CFGST_BADA) 1

/-- Apply a copy: its entries, then its identity block, the claim last as a write that may be refused (R572, R573). -/
def State.applyCopy (s : State) (b : Bool) : Bool × State :=
  let ws := s.cfgCopy b
  match s.cfgWrites ((recWrites ws).getD []) with
  | (t, some a) => (false, ((s.cfgUndo t a).copyBad b).faultNew F.SYS_EVT_CFGBAD Q.SYS_CFGBAD (hw a))
  | (t, none) =>
    let t := t.identity ws
    match t.cfgWrites [(R.OCL_CLAIM, BitVec.ofNat 32 (recW ws 6 % 65536))] with
    | (u, some a) => (false, ((s.cfgUndo u a).copyBad b).faultNew F.SYS_EVT_CFGBAD Q.SYS_CFGBAD (hw a))
    | (u, none) =>
      let u := { u with sys := { u.sys with copyInUse := some b } }
      (true, ((u.set F.SYS_CFGST_COPY (b2n b)).set F.SYS_CFGST_CFG_DEF 0).setRegN R.SYS_CFGGEN (recW ws 3))

/-- The valid copies, the one to apply first in front; invalid ones are marked (R571; Table 14). -/
def State.copies (s : State) : List Bool × State :=
  let a := recValid (s.reg R.SYS_SERIAL) s.nvm.cfgA
  let b := recValid (s.reg R.SYS_SERIAL) s.nvm.cfgB
  let s := (s.setB F.SYS_CFGST_BADA (!a)).setB F.SYS_CFGST_BADB (!b)
  let newerB := genNewer (recW s.nvm.cfgB 3) (recW s.nvm.cfgA 3)
  (if a && b then (if newerB then [true, false] else [false, true]) else if a then [false] else if b then [true] else [], s)

/-- Apply the first of the copies that applies. -/
def State.applyCopies (s : State) : List Bool → Bool × State
  | [] => (false, s)
  | b :: r =>
    match s.applyCopy b with
    | (true, t) => (true, t)
    | (false, t) => t.applyCopies r

/-! ### DEFAULT (R574) -/

/-- Enter DEFAULT: every register at its value of reset, no copy in use. -/
def State.enterDefault (s : State) : State :=
  let s := { s.setDev stDEFAULT with sys := { s.sys with copyInUse := none } }
  let s := ((s.set F.SYS_CFGST_CFG_DEF 1).set F.SYS_CFGST_COPY 3).setReg R.SYS_CFGGEN 0
  (s.faultNew F.SYS_EVT_CFGDEF Q.SYS_CFGDEF (hw 0)).rebuild

/-! ### The banks of the running image (R567 step 3) -/

/-- Put bytes into a memory from `a` on. -/
def State.putBytes (s : State) (a : Nat) (l : List Byte) : State :=
  { s with mem := ((List.range l.length).zip l).foldl (fun m e => memPut m (a + e.1) e.2) s.mem }

/-- The bytes of the image's section of a type. -/
def State.section? (s : State) (ty : Nat) : Option (ImgSec × List Byte) :=
  let x := s.get F.UPD_SLOT_RUN
  ((s.imgSecs x).find? (·.ty == ty)).map fun e => (e, s.secBytes x e)

/-- Load the ALM section into the inactive bank, check it, and make it active when it passes. -/
def State.loadAlmSec (s : State) : State :=
  match s.section? 3 with
  | none => s
  | some (e, bytes) =>
    let b := 1 - s.aBank
    let s := s.set (if b = 0 then F.ENG_ALMLEN_LEN0 else F.ENG_ALMLEN_LEN1) e.param
    let (g, s) := (s.putBytes (almAddr b 0) bytes).verifyAlm
    match g with
    | none => s.acceptSwap false 2 0 none
    | some _ => s

/-- Load the PROG section into the inactive bank, check it, and make it active when it passes. -/
def State.loadProgSec (s : State) : State :=
  match s.section? 2 with
  | none => s
  | some (_, bytes) =>
    let (g, s) := (s.putBytes (pmemAddr (1 - s.pBank) 0) bytes).verifyProg
    match g with
    | none => s.acceptSwap false 1 0 none
    | some (g, _) => if g = 0x16 then s.faultNew F.ENG_STAT_BUDREJ Q.ENG_BUDREJ (hw 0) else s

/-- The banks of the running image; none in recovery. -/
def State.loadImage (s : State) : State := if s.on F.UPD_STAT_NOIMAGE then s else s.loadAlmSec.loadProgSec

/-! ### CONFIG (R567) -/

/-- CONFIG after a copy has applied: the restart interlock, the STO readback, the banks, LINKS. `sto` is a channel whose elements did
not act. -/
def State.leaveConfig (s : State) (sto : Option Nat) : State :=
  let s := if s.sys.firstConfig then { s.configInterlock with sys := { s.sys with firstConfig := false } } else s
  match sto with
  | some a => s.raise Q.SAFE_STOTEST (hw a)
  | none =>
    let s := (s.loadImage.rebuild).enterLinks
    let s := s.twinLinks
    ({ s with sys := { s.sys with sextDue := !s.on F.SEXT_CTRL_EN } }).sextAuto

/-- CONFIG: apply one of the copies, or move to DEFAULT. -/
def State.config (s : State) (l : List Bool) (sto : Option Nat) : State :=
  match s.applyCopies l with
  | (true, t) => t.leaveConfig sto
  | (false, t) => t.enterDefault

/-! ### BOOT (R566) -/

/-- The thermal shutdown counters (14 R538). -/
def State.countShut (s : State) : State :=
  if s.sys.thermBoot then
    let one (unc cnt : Fld) (s : State) : State := if s.on unc then (s.set unc 0).set cnt (min 65535 (s.get cnt + 1)) else s
    let s := one F.THERM_SDREC_AUNC F.THERM_SDCNT_ANA (one F.THERM_SDREC_LUNC F.THERM_SDCNT_LOGIC s)
    { s.faultNew F.THERM_EVT_SDRST Q.THERM_SDRST (hw 0) with sys := { s.sys with thermBoot := false } }
  else s

/-- Step 4: the memories, the banks and their marks, ENG_ALMLEN. -/
def State.clearMems (s : State) : State :=
  let s := { s with mem := [], eng := { s.eng with actVer := 0, budOk := false } }
  let s := ((s.set F.ENG_STAT_PBANK 0).set F.ENG_STAT_ABANK 0).setReg R.ENG_ALMLEN (regReset R.ENG_ALMLEN)
  (s.set F.ALM_SWAP_VERP 0).set F.ALM_SWAP_VERA 0

/-- What BOOT reports of the reset before it (14 R509; 15 Table 14). -/
def State.bootReports (s : State) : State :=
  let s := if s.sys.porBoot then s else s.faultNew F.SYS_EVT_RSTINFO Q.SYS_RSTINFO (hw 0)
  if s.on F.PMU_LAST_CAUSE then s.faultNew F.PMU_EVT_RETRY Q.PMU_RETRY (hw (s.get F.PMU_LAST_RAIL)) else s

/-- Steps 1 and 2: the self-tests and the key store; a failure applies SEAL. -/
def State.bootTests (s : State) (lockstep safe : Bool) (otp : Option Nat) : State :=
  let s := if lockstep then s else s.faultNew F.SYS_EVT_LOCKSTEP Q.SYS_LOCKSTEP (hw 0)
  let s := if safe then s else s.raise Q.SAFE_SELFTEST (hw 0)
  s.otpCheck otp

/-- Steps 3 and 4, up to the choice of a copy; the spare slice calibrates. -/
def State.bootLoad (s : State) : State :=
  let s := ((s.selectImage).clearMems).countShut
  let s := { s with upd := { s.upd with testsOk := true } }
  if s.spareOk && !s.adc.calDone then s.set F.ADC_STAT_CALBUSY 1 else s

/-- Whether BOOT runs: not while the reset pin holds the device. -/
def State.booting (s : State) : Bool := s.dev == stBOOT && !s.sys.resetHeld

/-- Step 5: no copy, recovery or STRAP1 lead to DEFAULT, else CONFIG. -/
def State.bootChoose (s : State) : List Bool × State :=
  let (l, s) := s.copies
  if l = [] || s.fbit F.SYS_STRAP_STRAP 1 || s.on F.UPD_STAT_NOIMAGE then ([], s.enterDefault) else (l, s.setDev stCONFIG)

/-- BOOT_SEQUENCE (R566): the outcomes of the lockstep and safety self-tests, the OTP item that disagrees, and the channel whose STO
readback fails. CONFIG, where BOOT enters it, is a state of its own, with its EVENT. -/
def execBootSequence (lockstep safe : Bool) (otp : Option (Fin 5)) (sto : Option (Fin 3)) (s : State) : Host.Outcome State Fault Refusal :=
  .next (if !s.booting then s
    else
      let t := s.bootReports.bootTests lockstep safe (otp.map (·.val))
      if t.dev != stBOOT then settle s t
      else
        let (l, u) := t.bootLoad.bootChoose
        let u := settle s u
        if u.dev = stCONFIG then settle u (u.config l (sto.map (·.val))) else u)

end Sys2Proof.Machine
end

