-- ==== Sys2Proof/Machine/HostCmd.lean ====
section
/-! DEFINITION. Machine/HostCmd.lean: what each command of a host does when it starts, and the steps of the stepped ones
(16_host_commands.md R588, R603 to R606, Tables 4, 6, 8 and 9; 17_firmware_update.md R637). -/
namespace Sys2Proof.Machine

def n32 (n : Nat) : Word := BitVec.ofNat 32 n

/-- The final response DONE of a command: of a query, or of one taken in. -/
def State.answerCmd (s : State) (c : HCmd) (data : List Word) : State := if c.ownQuery then s.respond c 2 0 data else s.done c.key data

/-- The final response FAILED of a command, with data. -/
def State.failCmd (s : State) (c : HCmd) (reason : Nat) (data : List Word) : State :=
  if c.ownQuery then s.respond c (3 + 256 * reason) 0 data else s.finish c.key reason data false

/-! ### Slots of stepped operations (R605, R606) -/

/-- The lowest free slot. -/
def State.slotFree (s : State) : Option Nat := (List.range 8).find? fun n => !(s.host.ops.any (·.1 == n))

/-- The flow that HOST_OPk shows: 7 for a command that the ring delivered (DESIGN CHOICE, log 41). -/
def HCmd.shownFlow (c : HCmd) : Nat := if c.key.flow < 5 then c.key.flow else if 16 ≤ c.key.flow ∧ c.key.flow < 21 then c.key.flow - 16 else 7

/-- A stepped command takes a slot with counters of its own; HOST_OPk shows it. -/
def State.openSlot (s : State) (c : HCmd) (aux : List Nat) (total : Nat) : State :=
  match s.slotFree with
  | none => s
  | some n =>
    let s := { s with host := { s.host with ops := spIns s.host.ops n { cmd := c, aux, words := [] } } }
    let s := ((s.set (F.HOST_OP_STAT_BUSY n) 1).set (F.HOST_OP_STAT_FLOW n) c.shownFlow).set (F.HOST_OP_STAT_OPC n) c.opc
    ((s.setRegN (R.HOST_OP_SEQ n) c.hseq).setRegN (R.HOST_OP_DONE n) 0).setRegN (R.HOST_OP_TOTAL n) total

/-- An operation leaves its slot. -/
def State.closeSlot (s : State) (n : Nat) : State :=
  ({ s with host := { s.host with ops := spDel s.host.ops n } }).set (F.HOST_OP_STAT_BUSY n) 0

/-- An operation ends as DONE. -/
def State.opDone (s : State) (n : Nat) (c : HCmd) (data : List Word) : State := (s.closeSlot n).answerCmd c data
/-- An operation ends as FAILED. -/
def State.opFailed (s : State) (n : Nat) (c : HCmd) (reason : Nat) (data : List Word) : State := (s.closeSlot n).failCmd c reason data

/-- The counters and words of an operation after a step. -/
def State.setOp (s : State) (n : Nat) (o : OpSlot) : State := { s with host := { s.host with ops := spIns s.host.ops n o } }

/-! ### READ, WRITE and MODIFY (R603, R644) -/

/-- How many words the command serves. -/
def HCmd.accWords (c : HCmd) : Nat := if c.opc = 3 then 1 else bw c.body 1

/-- The address of word `i`. -/
def HCmd.accAddr (c : HCmd) (i : Nat) : Nat := bw c.body 0 + 4 * i

/-- Claim the next word of a command; in SEALED and THERMAL the words of a WRITE still to come have no effect (01 R29). -/
def State.accIssue (s : State) (x : HostAcc) : State :=
  if !s.host.accs.contains x then s
  else
    let put (y : HostAcc) : State := { s with host := { s.host with accs := s.host.accs.map fun z => if z = x then y else z } }
    if x.cmd.opc = 2 ∧ (s.dev = stSEALED ∨ s.dev = stTHERMAL) then put { x with i := x.i + 1 }
    else
      let c : Claim := { master := .host, write := x.cmd.opc == 2, addr := x.cmd.accAddr x.i,
                         value := if x.cmd.opc = 2 then x.cmd.body.getD (2 + x.i) 0 else 0, tick := s.now }
      (put { x with wait := some c }).claim c

/-- Whether every word is served. -/
def HostAcc.final (x : HostAcc) : Bool := x.wait.isNone && x.i == x.cmd.accWords

/-- The DONE data: the words read, the old value, nothing. -/
def HostAcc.data (x : HostAcc) : List Word := if x.cmd.opc = 2 then [] else x.vals

/-- Answer the commands whose words are all served. -/
def State.accsFinal (s : State) : State :=
  let l := s.host.accs.filter HostAcc.final
  l.foldl (fun s x => s.answerCmd x.cmd x.data) { s with host := { s.host with accs := s.host.accs.filter (!·.final) } }

/-- READ, WRITE or MODIFY starts with its first word; an address outside every window fails it, and nothing is accessed. -/
def State.accStart (s : State) (c : HCmd) : CmdRes × State :=
  if (List.range c.accWords).any fun i => !inWindow (c.accAddr i) then (.failed 6, s)
  else
    let x : HostAcc := { cmd := c, i := 0, vals := [], wait := none }
    let s := ({ s with host := { s.host with accs := s.host.accs ++ [x] } }).accIssue x
    match s.host.accs.find? fun y => y.cmd == c && y.final with
    | some y => (.done y.data, { s with host := { s.host with accs := s.host.accs.erase y } })
    | none => (.wait, s)

/-- One tick of the commands with words still to serve. -/
def State.accsTick (s : State) : State :=
  let s := s.accsFinal
  ((s.host.accs.filter (·.wait.isNone)).foldl State.accIssue s).accsFinal

/-! ### STATUS (Table 9) -/

/-- STATUS data; a command of no flow of this device reads the flow's words as 0 (DESIGN CHOICE, log 42). -/
def State.statusData (s : State) (c : HCmd) : List Word :=
  let f := if 16 ≤ c.key.flow then c.key.flow - 16 else c.key.flow
  let own (w : Word) : Word := if f < 5 then w else 0
  [s.reg R.SYS_STATE, n32 s.reactWord, n32 s.irqSrc, s.reg R.SYS_RSTCAUSE, own (s.reg (R.HOST_FLOW_N f)), own (s.reg (R.HOST_FLOW_D f)),
   n32 (256 * s.host.ops.length) + own (n32 (s.flow f).taken.length), s.reg R.HOST_JPOS, n32 s.now, n32 (s.now / 2 ^ 32),
   own (n32 (s.flow f).lastEvent)]

/-! ### DATA frames (R604) -/

/-- The DATA frames of bytes that start at an offset of the command's result. -/
def State.dataFrames (s : State) (c : HCmd) (off : Nat) (bytes : List Byte) : State :=
  let parts := chunks 1468 bytes.length bytes
  ((List.range parts.length).zip parts).foldl (fun s e =>
    s.toHost (.host c.port c.src 3 c.key.flow c.hseq c.opc c.cls 0 s.nodeId (n32 (off + 1468 * e.1) :: wordsOf e.2))) s

/-! ### Banks, swaps and modes (05 R185, R208, R209) -/

/-- LOAD_PROGRAM: its words go to the inactive PMEM bank; with LAST the bank is verified in steps. -/
def State.loadProgram (s : State) (c : HCmd) : CmdRes × State :=
  let w := bw c.body 0
  let b := 1 - s.pBank
  let s := (List.range (bw c.body 1)).foldl (fun s i =>
    s.store (pmemAddr b (w % 8192 + i)) 8 (bw c.body (2 + 2 * i) + 2 ^ 32 * bw c.body (3 + 2 * i))) s
  let s := if bw c.body 1 = 0 then s else s.set F.ALM_SWAP_VERP 0
  if w.testBit 31 then (.wait, s.openSlot c [] 1) else (.done [], s)

/-- LOAD_ALMANAC: its rows go to the inactive ALM bank; with LAST ALMLEN is written and the bank verified. -/
def State.loadAlmanac (s : State) (c : HCmd) : CmdRes × State :=
  let w := bw c.body 0
  let b := 1 - s.aBank
  let s := (List.range (4 * bw c.body 1)).foldl (fun s i => s.store (almAddr b (w % 1024) + 4 * i) 4 (bw c.body (2 + i))) s
  let s := if bw c.body 1 = 0 then s else s.set F.ALM_SWAP_VERA 0
  if w.testBit 31 then
    (.wait, (s.set (if b = 0 then F.ENG_ALMLEN_LEN0 else F.ENG_ALMLEN_LEN1) (bitsOf w 16 11)).openSlot c [] 1)
  else (.done [], s)

/-- The verification of a bank ends, with the reason and the offending word or row. -/
def State.verifyStep (s : State) (n : Nat) (o : OpSlot) : State :=
  let (g, s) := if o.cmd.opc = 0x10 then s.verifyProg else s.verifyAlm
  match g with
  | none => s.opDone n o.cmd []
  | some (g, i) => s.opFailed n o.cmd g [n32 i]

/-- SWAP_BANK (05 R209, R210, R213). -/
def State.swapBank (s : State) (c : HCmd) : CmdRes × State :=
  let w := bw c.body 0
  let p := bw c.body 1 + 2 ^ 32 * bw c.body 2
  match s.swapBad (w.testBit 31) (w % 4) p with
  | some g => (.failed g, s)
  | none => (.wait, s.acceptSwap (w.testBit 31) (w % 4) p (some c.key))

/-- SET_MODE (05 R185, R191). -/
def State.setMode (s : State) (c : HCmd) : CmdRes × State :=
  let m := bw c.body 0 % 8
  if s.get F.ENG_STAT_ESTATE = 0 then
    if s.modeDefined m then (.wait, s.modeStopped m (some c.key))
    else (.failed 0x0C, s.faultNew F.ALM_STAT_MODEREJ Q.ALM_MODEREJ (hw 0))
  else (.wait, s.requestMode m (some c.key))

/-! ### Moves of the device (01 R31 to R36, R675; 15 R553, R568) -/

/-- A move to `target` waits for the next boundary; commands that ask for the same move wait together. -/
def State.askMove (s : State) (target : Nat) (k : CmdKey) : State :=
  let old := match s.sys.move with | some m => if m.target = target then m.owners else [] | none => []
  { s with sys := { s.sys with move := some { target, owners := old ++ [k] } } }

/-- Whether every lane and link that R568 requires is ready. -/
def State.linksReady (s : State) : Bool :=
  s.reqReady && (!s.on F.SYS_CTRL_REQRING || (s.ringPort 0 == 3 && s.ringPort 1 == 3)) && (!s.on F.SYS_CTRL_REQTWIN || s.linked)

/-- Whether a trip latch that targets cell lanes is set (R33). -/
def State.cellLatch (s : State) : Bool :=
  (List.range 8).any fun g => (s.regN (R.TRIP_MASK (12 + g)) &&& s.tripSources) != 0 && s.cgLanes g % 2 ^ 56 != 0

/-- Whether the device accepts a RUN of its own (R33). -/
def State.runAllowed (s : State) : Bool := s.sx == sxLOCKED && !s.on F.SEXT_STAT_COAST && !s.cellLatch && s.active

def State.armCmd (s : State) (c : HCmd) : CmdRes × State :=
  if s.dev != stLINKS then (.failed 1, s) else if !s.linksReady then (.failed 0x2B, s) else (.wait, s.askMove stARMED c.key)

def State.runCmd (s : State) (c : HCmd) (apply : Bool) : CmdRes × State :=
  if s.dev != stARMED then (.failed 1, s) else if apply || s.runAllowed then (.wait, s.askMove stRUN c.key) else (.failed 0x29, s)

def State.blockCmd (s : State) : CmdRes × State :=
  if stopAllowed s.dev stBLOCKED then (.done [], s.enterStop stBLOCKED none) else (.failed 1, s)

def State.releaseCmd (s : State) (c : HCmd) : CmdRes × State :=
  if s.dev != stBLOCKED then (.failed 1, s) else if s.activeSource then (.failed 0x2A, s) else (.wait, s.askMove stARMED c.key)

/-- SAFE_RESET (13 R494). -/
def State.safeResetCmd (s : State) : CmdRes × State :=
  let s := s.safeReset
  if s.dev = stSAFE then (.failed 0x26, s) else (.done [], s)

/-- RESET (15 R559; R595): the final response first, then the reset; one that the partner sent is the TWIN source (R600). On a device
that applies the record only the response is written (DEDUCED, log 43). -/
def State.resetCmd (s : State) (c : HCmd) (apply : Bool) : CmdRes × State :=
  if apply then (.done [], s)
  else
    let s := s.done c.key []
    (.wait, if 16 ≤ c.key.flow ∧ c.key.flow < 1024 then (s.yield 2).warmReset 3 else s.cmdReset)

/-! ### Fixes (09 R342 to R345) -/

/-- The bank of a FIXID. -/
def State.bankOf (s : State) (id : Nat) : Option Nat :=
  (List.range 4).find? fun b => (s.fixBank b).state != fxFREE && (s.fixBank b).fixid == id

/-- FIX; one that found no bank ends as NOFIX (DEDUCED, log 44). -/
def State.fixCmd (s : State) (c : HCmd) : CmdRes × State :=
  let t := bw c.body 1 + 2 ^ 32 * bw c.body 2
  if ctDiff t s.now < 320000 then (.failed 0x21, s)
  else
    let s := s.fixStart (bw c.body 0) t
    match s.bankOf (bw c.body 0) with
    | none => (.failed 0x22, s)
    | some b => if fxLATCHED ≤ (s.fixBank b).state then (.done [n32 (s.fixBank b).state], s) else (.wait, s)

def State.fixRead (s : State) (c : HCmd) : CmdRes × State :=
  match s.bankOf (bw c.body 0) with
  | none => (.failed 0x22, s)
  | some b =>
    let w := bw c.body 1
    (.done ((List.range (bitsOf w 16 11 / 4)).map fun i => s.reg (R.RING_FIXBANK b (w % 2048 / 4 + i))), s)

/-! ### The Log (05 R197, R202, R204, R205) -/

def State.logIdle (s : State) : Bool := s.logState == logIDLE || s.logState == logDONE

/-- LOG_ARM; outside IDLE and DONE it fails with STATE (DEDUCED, log 45). -/
def State.logArmCmd (s : State) : CmdRes × State :=
  if !s.logIdle then (.failed 1, s) else if s.armBad then (.failed 0x20, s) else (.done [], s.logArm.ckptSend 1)

def State.logReadCmd (s : State) (c : HCmd) : CmdRes × State := if s.logIdle then (.wait, s.openSlot c [0] 0) else (.failed 1, s)

/-- One step of LOG_READ: a record, its DATA frames in offset order, and after the last one the final response. -/
def State.logReadStep (s : State) (n : Nat) (o : OpSlot) : State :=
  let i := o.aux.getD 0 0
  let first := bw o.cmd.body 0
  let total := min (bw o.cmd.body 1) (s.get F.LOG_FIRST_HELD - first)
  let s := if i < total then s.dataFrames o.cmd (i * s.recSize) (s.logRecord (first + i)) else s
  if total ≤ i + 1 then s.opDone n o.cmd [n32 total] else s.setOp n { o with aux := [i + 1] }

/-! ### JOURNAL_READ -/

/-- The first record that the journal still holds at a distance of `lo` or more from `pos`. -/
def State.recFrom (s : State) (pos lo : Nat) : Option (Nat × JRec) :=
  (s.host.ramJ ++ s.host.nvmJ).foldl (fun best r =>
    let d := (r.pos + 2 ^ 32 - pos) % 2 ^ 32
    if d < lo || 2 ^ 31 ≤ d then best
    else match best with
      | none => some (d, r)
      | some (e, _) => if d < e then some (d, r) else best) none

/-- One step of JOURNAL_READ: a record. Its counters: records sent, the next distance from POS, the offset. -/
def State.journalStep (s : State) (n : Nat) (o : OpSlot) : State :=
  let sent := o.aux.getD 0 0
  match s.recFrom (bw o.cmd.body 0) (o.aux.getD 1 0) with
  | none => s.opDone n o.cmd [n32 sent]
  | some (d, r) =>
    let bytes := r.full.flatMap wordBytes
    let s := s.dataFrames o.cmd (o.aux.getD 2 0) bytes
    let more := sent + 1 < bw o.cmd.body 1 && (s.recFrom (bw o.cmd.body 0) (d + 1)).isSome
    if more then s.setOp n { o with aux := [sent + 1, d + 1, o.aux.getD 2 0 + bytes.length] }
    else s.opDone n o.cmd [n32 (sent + 1)]

/-! ### CFG_COMMIT (15 R575; 17 R622) -/

/-- Words by index from `i` on, 0 where none is listed. -/
def fillFrom : Nat → List (Nat × Word) → List Word
  | _, [] => []
  | i, (k, v) :: r => List.replicate (k - i) 0 ++ v :: fillFrom (k + 1) r

/-- CFG_COMMIT: a piece of the record is staged; LAST commits it in steps; in recovery it fails with NOIMAGE. -/
def State.cfgCommit (s : State) (c : HCmd) : CmdRes × State :=
  let w := bw c.body 0
  if s.on F.UPD_STAT_NOIMAGE then (.failed 0x4B, s)
  else
    let stage := if w.testBit 30 then [] else s.sys.stage
    let data := c.body.tail
    let stage := ((List.range data.length).zip data).foldl (fun m e => spIns m (w % 2 ^ 17 / 4 + e.1) e.2) stage
    let s := { s with sys := { s.sys with stage := stage } }
    if w.testBit 31 then (.wait, s.openSlot c [] 1) else (.done [], s)

/-- The record staged, with its GEN and its check word. -/
def State.stagedRec (s : State) (gen : Nat) : List Word :=
  let r := (recOf64K (fillFrom 0 s.sys.stage)).set 3 (n32 gen)
  r.dropLast ++ [recCheck r]

/-- The commit; while PFAIL is set it waits. In DEFAULT a valid one leads to CONFIG, where `sto` is a channel whose elements did not act. -/
def State.commitStep (s : State) (n : Nat) (o : OpSlot) (sto : Option Nat) : State :=
  if s.pfail then s
  else
    let b := match s.sys.copyInUse with | some x => !x | none => false
    let gen := match s.sys.copyInUse with | some _ => (s.regN R.SYS_CFGGEN + 1) % 2 ^ 32 | none => 1
    let r := s.stagedRec gen
    let s := { s with nvm := if b then { s.nvm with cfgB := r } else { s.nvm with cfgA := r }, sys := { s.sys with stage := [] } }
    let s := s.count R.NVM_WRCNT 1
    if !recValid (s.reg R.SYS_SERIAL) r then s.opFailed n o.cmd 0x25 []
    else
      let s := s.opDone n o.cmd [n32 gen]
      if s.dev = stDEFAULT then ((s.setDev stCONFIG).event).config [b] sto else s

/-! ### OFFDIAG (12 R467 to R470) -/

/-- Whether the diagnosis of a channel is refused (R467). -/
def State.diagRefused (s : State) (a : Nat) : Bool :=
  s.legsOn a || (s.on (F.AXD_CHCFG_SRC a) && (List.range 6).any (s.auxIn a)) || s.on (F.AXD_CHSTAT_FAULT a)
    || s.get F.AXD_VM_VM < s.get F.AXD_VMLIM_VMUV

/-- AXD_DIAGSTAT shows the channel and the measurement; none runs on channel 3. -/
def State.showDiag (s : State) (a m : Nat) : State :=
  let s := s.setB F.AXD_DIAGSTAT_BUSY (a < 3)
  if a < 3 then (s.set F.AXD_DIAGSTAT_CH a).set F.AXD_DIAGSTAT_MEAS m else s

/-- The next channel of `todo` that is not refused comes under diagnosis; refused ones are noted in the outcomes. -/
def State.diagNext (s : State) : Nat → Nat → List Nat → State × Nat × Nat × List Nat
  | 0, todo, outs => (s.showDiag 3 0, todo, 3, outs)
  | k + 1, todo, outs =>
    match (List.range 3).find? todo.testBit with
    | none => (s.showDiag 3 0, 0, 3, outs)
    | some a =>
      if s.diagRefused a then s.diagNext k (putBit todo a false) (outs.set a 0x01000000)
      else ((s.set (F.AXD_CHSTAT_DIAG a) 1).showDiag a 0, putBit todo a false, a, outs)

/-- OFFDIAG starts with its first channel; the counters are the channels to come, the channel (3: none), the measurement, V and the
outcomes of AX0 to AX2. -/
def State.offdiag (s : State) (c : HCmd) : CmdRes × State :=
  if s.get F.AXD_VM_VM < s.get F.AXD_VMLIM_VMUV then (.failed 0x24, s)
  else
    match s.diagNext 3 (bw c.body 0) [0xFF000000, 0xFF000000, 0xFF000000] with
    | (s, todo, a, outs) =>
      if a = 3 then (.done (outs.map n32), s)
      else
        let chans := ((List.range 3).filter (bw c.body 0).testBit).length
        (.wait, (s.openSlot c ([todo, a, 0, s.get F.AXD_VM_VM] ++ outs) (9 * chans)).ckptSend 2)

/-- The readings of a diagnosis: two of each of 12 nodes, U of legs 0 to 2, D, then P and Q of pairs 0 to 2; of two readings that agree
within 0.02 × V either may be the one classified (DESIGN CHOICE, log 46). -/
structure Diag where
  v : Nat
  rd : List Nat
  pick : Nat
  deriving DecidableEq, Repr

def Diag.read (d : Diag) (i : Nat) : Nat := d.rd.getD (2 * i + b2n (d.pick.testBit i)) 0
def Diag.low (d : Diag) (i : Nat) : Bool := 10 * d.read i < d.v
def Diag.high (d : Diag) (i : Nat) : Bool := 9 * d.v < 10 * d.read i
/-- Whether the two readings of a node differ too much. -/
def Diag.unsteady (d : Diag) : Bool :=
  (List.range 12).any fun i => d.v < 50 * ((d.rd.getD (2 * i) 0 : Int) - (d.rd.getD (2 * i + 1) 0 : Nat)).natAbs

/-- The open pairs, pair j between legs j and (j + 1) mod 3. -/
def Diag.openPairs (d : Diag) : List Nat := (List.range 3).filter fun j => d.high (6 + 2 * j) && d.low (7 + 2 * j)

/-- The verdict of a leg (R469; Table 6). -/
def Diag.verdict (d : Diag) (l : Nat) : Nat :=
  let shorted (l : Nat) : Bool := d.high (3 + l) || d.low l
  let inPair (j : Nat) : Bool := l == j || l == (j + 1) % 3
  if d.unsteady then 6
  else if (List.range 3).any shorted then (if d.high (3 + l) then 2 else if d.low l then 3 else 1)
  else match d.openPairs.length with
    | 0 => 1
    | 1 => if d.openPairs.any inPair then 6 else 1
    | 2 => if d.openPairs.all inPair then 4 else 1
    | _ => 5

/-- A channel's diagnosis ends (R470). -/
def State.diagEnd (s : State) (a : Nat) (d : Diag) : Nat × State :=
  let vs := (List.range 3).map d.verdict
  let s := ((s.set (F.AXD_DIAGRES_L0 a) (vs.getD 0 0)).set (F.AXD_DIAGRES_L1 a) (vs.getD 1 0)).set (F.AXD_DIAGRES_L2 a) (vs.getD 2 0)
  let s := s.set (F.AXD_CHSTAT_DIAG a) 0
  let s := if vs.any fun v => v == 2 || v == 3 || v == 4 then s.axFault a F.AXD_CHSTAT_DIAGF Q.AXD_DIAGF else s
  (vs.getD 0 0 + 16 * vs.getD 1 0 + 256 * vs.getD 2 0, s)

/-- One step of OFFDIAG: a measurement with its readings, two of the node or of both nodes in turn. -/
def State.diagStep (s : State) (n : Nat) (o : OpSlot) (rd : List (BitVec 12)) : State :=
  let a := o.aux.getD 1 3
  let m := o.aux.getD 2 0
  let outs := o.aux.drop 4
  let new := (List.range (if m < 6 then 2 else 4)).map fun i => n32 (rd.getD i 0).toNat
  let words := o.words ++ new
  if m < 8 then ((s.showDiag a (m + 1)).setOp n { o with aux := [o.aux.getD 0 0, a, m + 1, o.aux.getD 3 0] ++ outs, words }).ckptSend 2
  else
    let (v, s) := s.draw
    match s.diagEnd a { v := o.aux.getD 3 0, rd := words.map BitVec.toNat, pick := v.toNat } with
    | (out, s) =>
      match s.diagNext 3 (o.aux.getD 0 0) (outs.set a out) with
      | (s, todo, a, outs) =>
        if a = 3 then s.opDone n o.cmd (outs.map n32)
        else (s.setOp n { o with aux := [todo, a, 0, s.get F.AXD_VM_VM] ++ outs, words := [] }).ckptSend 2

/-! ### CAL_ADC (10 R396) -/

/-- CAL_ADC: nine swaps are forced; without a spare slice it fails at once (DEDUCED, log 47). -/
def State.calAdc (s : State) (c : HCmd) : CmdRes × State :=
  if s.spareOk then (.wait, (({ s with adc := { s.adc with forced := 9 } }).openSlot c [] 9).ckptSend 2) else (.failed 0x23, s)

/-! ### EVENT_ACK (R609) -/

/-- The latest event of the flow is not sent again once it, or a later one, is named. -/
def State.eventAck (s : State) (c : HCmd) : State :=
  let f := c.key.flow
  let fl := s.flow f
  if f < 5 ∧ fl.event.isSome ∧ (bw c.body 0 + 2 ^ 32 - fl.lastEvent) % 2 ^ 32 < 2 ^ 31 then s.setFlow f { fl with event := none } else s

/-! ### Update commands (17 R623 to R637) -/

/-- UPD_CHUNK: a piece that completes the image starts the verification in steps; each completed chunk makes a checkpoint (R627). -/
def State.chunkCmd (s : State) (c : HCmd) (apply : Bool) : CmdRes × State :=
  let n (s : State) : Nat := match s.nvm.sess with | some x => x.count | none => 0
  match s.updChunk c.body apply with
  | (r, t) =>
    let t := if !apply && n s < n t then t.ckptSend 0 else t
    (r, if r = .wait then t.openSlot c [] 1 else t)

/-- UPD_RELAY (R628, R629). -/
def State.relayCmd (s : State) (c : HCmd) (apply : Bool) : CmdRes × State :=
  if apply then (.done [0], s)
  else
    match s.updRelay c with
    | (.wait, t) => (.wait, t.openSlot c [] (t.imgNch (bitsOf (bw c.body 1) 28 1)))
    | r => r

/-- UPD_ACTIVATE (R628, R632). -/
def State.activateCmd (s : State) (c : HCmd) (apply : Bool) : CmdRes × State :=
  if apply then (.done [], s)
  else match s.actBad c.body with
    | some g => (.failed g, s)
    | none => (.wait, s.openSlot c [] 1)

/-- The verification of a slot for UPD_CHUNK ends. -/
def State.chunkStep (s : State) (n : Nat) (o : OpSlot) : State :=
  let nch := match s.nvm.sess with | some x => x.nch | none => 0
  match s.verifyEnd s.idleSlot with
  | (true, s) => s.opDone n o.cmd [n32 nch]
  | (false, s) => s.opFailed n o.cmd 0x47 []

/-! ### All commands -/

/-- Whether the present state allows a command (R588; 01 Table 5). -/
def stateAllows (dev opc : Nat) : Bool :=
  if dev = stDEFAULT then [1, 2, 3, 4, 0x51, 0x70, 0x72].contains opc || (0x80 ≤ opc && opc ≤ 0x86)
  else if dev = stSEALED then [1, 4, 0x72].contains opc
  else if dev = stTHERMAL then [1, 4].contains opc
  else true

/-- What a command does when it starts; `apply`: as an application of the partner's record (R594). -/
def State.perform (s : State) (c : HCmd) (apply : Bool) : CmdRes × State :=
  if !stateAllows s.dev c.opc then (.failed 1, s)
  else
    match c.opc with
    | 0x01 | 0x02 | 0x03 => s.accStart c
    | 0x04 => (.done (s.statusData c), s)
    | 0x10 => s.loadProgram c
    | 0x11 => s.loadAlmanac c
    | 0x12 => s.swapBank c
    | 0x13 => s.setMode c
    | 0x20 => s.armCmd c
    | 0x21 => s.runCmd c apply
    | 0x22 => s.blockCmd
    | 0x23 => s.releaseCmd c
    | 0x30 => s.fixCmd c
    | 0x31 => s.fixRead c
    | 0x40 => s.logArmCmd
    | 0x41 => s.logReadCmd c
    | 0x50 => s.calAdc c
    | 0x51 => s.cfgCommit c
    | 0x52 => s.offdiag c
    | 0x60 => s.safeResetCmd
    | 0x61 => if apply then (.done [], s) else (.wait, s.proofSwap c.key)
    | 0x70 => s.resetCmd c apply
    | 0x71 => (.done [], s.eventAck c)
    | 0x72 => (.wait, s.openSlot c [0, 0, 0] 0)
    | 0x80 => s.updOpen c.body apply
    | 0x81 => s.chunkCmd c apply
    | 0x82 => (.done (s.updStatus c.body), s)
    | 0x83 => s.relayCmd c apply
    | 0x84 => s.activateCmd c apply
    | 0x85 => if apply then (.done [], s) else s.updConfirm c.key
    | 0x86 => s.updAbort c.body
    | _ => (.failed 3, s)

/-- One step of the operation in slot `n`, with what it measures and what the STO readback of a commit shows. CAL_ADC goes on with its
swaps, UPD_RELAY with its chunks, an activation that waits for its instant with none. -/
def State.opStep (s : State) (n : Nat) (rd : List (BitVec 12)) (sto : Option Nat) : State :=
  match s.host.ops.find? (·.1 == n) with
  | none => s
  | some (_, o) =>
    let t := match o.cmd.opc with
      | 0x10 | 0x11 => s.verifyStep n o
      | 0x41 => s.logReadStep n o
      | 0x51 => s.commitStep n o sto
      | 0x52 => s.diagStep n o rd
      | 0x72 => s.journalStep n o
      | 0x81 => s.chunkStep n o
      | 0x84 => if s.upd.act.isSome then s else s.actVerified o.cmd
      | _ => s
    let counts := [0x41, 0x52, 0x72].contains o.cmd.opc
    if counts && t.host.ops.any (·.1 == n) then t.count (R.HOST_OP_DONE n) 1 else t

end Sys2Proof.Machine
end

