-- ==== Sys2Proof/Machine/Host.lean ====
section
/-! DEFINITION. Machine/Host.lean: when a command starts (16_host_commands.md R587, R589, R595, R599 to R606), and the rows of the host
ports: command frames, the QSPI port, starts, steps and event resends. -/
namespace Sys2Proof.Machine

/-! ### Resources (R606, Table 8) -/

/-- The resources that stepped commands hold. -/
inductive Res where
  | pmem | alm | log | adc | axd | cfg | upd
  deriving DecidableEq, Repr

/-- The resource that a stepped command holds. -/
def heldRes (opc : Nat) : Option Res :=
  match opc with
  | 0x10 => some .pmem
  | 0x11 => some .alm
  | 0x41 => some .log
  | 0x50 => some .adc
  | 0x51 => some .cfg
  | 0x52 => some .axd
  | 0x81 | 0x83 | 0x84 => some .upd
  | _ => none

/-- Whether a WRITE reaches the window of a block. -/
def writesTo (c : HCmd) (win : Nat) : Bool := (List.range c.accWords).any fun i => c.accAddr i / 0x10000 == win

/-- The resources that a command needs; UPD_ABORT waits for none, or it could not end what holds UPD (DEDUCED, log 48). -/
def HCmd.needs (c : HCmd) : List Res :=
  match c.opc with
  | 0x02 => (if writesTo c 0x1700 then [.log] else []) ++ (if writesTo c 0x1400 then [.adc] else [])
  | 0x10 => [.pmem]
  | 0x11 => [.alm]
  | 0x12 => (if (bw c.body 0).testBit 0 then [.pmem] else []) ++ (if (bw c.body 0).testBit 1 then [.alm] else [])
  | 0x40 | 0x41 => [.log]
  | 0x50 => [.adc]
  | 0x51 => [.cfg]
  | 0x52 => [.axd]
  | 0x80 | 0x81 | 0x83 | 0x84 | 0x85 => [.upd]
  | _ => []

/-- Whether a piece completes the image of the open session. -/
def State.lastPiece (s : State) (c : HCmd) : Bool :=
  match s.nvm.sess with
  | some x =>
    let i := bitsOf (bw c.body 1) 16 11
    c.opc == 0x81 && x.session == bw c.body 0 && !x.has i && (x.setPieces i (2 ^ (bw c.body 1 % 8))).full
  | none => false

/-- Whether a command needs a slot. -/
def State.stepped (s : State) (c : HCmd) : Bool :=
  match c.opc with
  | 0x10 | 0x11 | 0x51 => (bw c.body 0).testBit 31
  | 0x41 | 0x50 | 0x52 | 0x72 | 0x83 | 0x84 => true
  | _ => s.lastPiece c

/-- Whether the resources of a command are free, and a slot where it needs one. -/
def State.resFree (s : State) (c : HCmd) : Bool :=
  c.needs.all (fun x => !s.host.ops.any fun e => heldRes e.2.cmd.opc == some x) && (!s.stepped c || s.slotFree.isSome)

/-! ### Which command starts next (R587, R589) -/

/-- Whether this device executes the command of a record itself. -/
def HRec.executed (r : HRec) : Bool := !r.remote && !r.partner

/-- Whether a record is secured (R593). -/
def HRec.secured (r : HRec) : Bool := !r.nvmWait && !r.jackWait

/-- Whether `a` was taken in before `b`: by tick, in a tick by flow, in a flow by number. -/
def HRec.before (a b : HRec) : Bool := a.tick < b.tick || (a.tick == b.tick && (a.prio < b.prio || (a.prio == b.prio && a.order < b.order)))

/-- A record put after those taken in before it. -/
def insByTake (r : HRec) : List HRec → List HRec
  | [] => [r]
  | x :: l => if r.before x then r :: x :: l else x :: insByTake r l

/-- The commands that have not started, in the order of their take-in. -/
def State.waiting (s : State) : List HRec :=
  (((List.range 5).flatMap (fun f => (s.flow f).taken) ++ s.host.ringCmds).filter (!·.started)).foldl (fun l r => insByTake r l) []

/-- The first command that may start. One that is not secured holds back all later ones of the device's own flows; one that waits for a
resource or a slot holds back its own flow; commands of the ring and the partner hold back their own flow only (DEDUCED, log 49). -/
def State.nextRec (s : State) : List HRec → Bool → List Nat → Option HRec
  | [], _, _ => none
  | r :: l, strict, stuck =>
    let f := r.cmd.key.flow
    if stuck.contains f || (strict && f < 5) then s.nextRec l strict stuck
    else if !r.secured then s.nextRec l (strict || f < 5) (f :: stuck)
    else if r.executed && !s.resFree r.cmd then s.nextRec l strict (f :: stuck)
    else some r

/-- Whether a query may start: every command its flow took in before it has started and, unless it holds a slot, is final. -/
def State.queryReady (s : State) (f ord : Nat) (c : HCmd) : Bool :=
  (s.flow f).taken.all (fun r => ord ≤ r.order || (r.started && s.host.ops.any fun e => e.2.cmd == r.cmd))
    && (s.destOf c.node != .own || s.resFree c)

/-- The first query that may start, with its flow. -/
def State.nextQuery (s : State) : Option (Nat × Nat × HCmd) :=
  [0, 1, 2, 3, 4, 15].findSome? fun f => ((s.flow f).queries.find? fun e => s.queryReady f e.1 e.2).map fun e => (f, e.1, e.2)

/-! ### Starting (R590, R595, R599 to R602) -/

/-- What the outcome of a start answers: ACCEPTED where the command goes on. -/
def State.answerStart (s : State) (c : HCmd) (r : CmdRes) : State :=
  match r with
  | .done d => s.answerCmd c d
  | .failed g => s.failCmd c g []
  | .wait => if c.ownQuery then s.respond c 1 0 [] else s.accept c.key

/-- The flow of a command as a journal record names it (Table 5). -/
def HCmd.journalFlow (c : HCmd) : Nat := if c.key.flow < 16 then c.key.flow else if c.key.flow < 1024 then c.key.flow - 16 else 15

/-- A command of the device's own flows goes to its destination (R600, R601). -/
def State.startAway (s : State) (r : HRec) : State :=
  if r.remote then
    match s.destOf r.cmd.node with
    | .remote dst =>
      let q := spGet 1 s.ring.gnext dst
      (s.guarSend dst (guarFrame 1 r.cmd r.cmd.node r.cmd.body)).ackRemote dst q
    | _ => s.failed r.cmd.key 0x0A
  else if r.cmd.key.flow < 5 then s.accept r.cmd.key
  else s.journal (r.cmd.cls == 2) .nothing 1 15 r.cmd.cls 2 r.cmd.key.seq r.cmd.opc r.cmd.body

/-- The ground against a command that another node sent: those of R584 and Table 6 that do not need the host's number (DEDUCED, log 50). -/
def ringBad (c : HCmd) : Option Nat :=
  if c.key.flow < 1024 then none
  else if opClasses c.opc = [] then some 3
  else if !(opClasses c.opc).contains c.cls then some 4
  else if !bodyOk c.opc c.cls c.body then some 5
  else if withData c.opc then some 0x0A
  else none

/-- A command starts. -/
def State.startRec (s : State) (r : HRec) : State :=
  let k := r.cmd.key
  let s := s.updRec k fun e => { e with started := true }
  let s := if r.cmd.cls = 2 then s.journal true .nothing 2 r.cmd.journalFlow 2 0 k.seq r.cmd.opc [] else s
  if !r.executed then (if r.apply then s else s.startAway r)
  else match ringBad r.cmd with
    | some g => s.failCmd r.cmd g []
    | none => match s.perform r.cmd r.apply with | (res, t) => t.answerStart r.cmd res

/-- A query starts: it is answered here, or goes to the partner or to another node, which answers it. -/
def State.startQuery (s : State) (f ord : Nat) (c : HCmd) : State :=
  let fl := s.flow f
  let s := s.setFlow f { fl with queries := fl.queries.erase (ord, c) }
  match s.destOf c.node with
  | .own => match s.perform c false with | (res, t) => t.answerStart c res
  | .partner =>
    let s := { s with host := { s.host with remQ := s.host.remQ ++ [c] } }
    (s.journal false .nothing 1 f 0 2 c.hseq c.opc c.body).respond c 1 0 []
  | .remote dst =>
    let s := { s with host := { s.host with remQ := s.host.remQ ++ [c] } }
    (s.guarSend dst (guarFrame 1 c c.node c.body)).respond c 1 0 []

/-- Whether the supervisor executes commands. -/
def State.hostRuns (s : State) : Bool := stCONFIG ≤ s.dev && !s.sys.offL

/-- Start the first command that may start. -/
def State.startOne (s : State) : Option State :=
  if !s.hostRuns then none
  else match s.nextRec s.waiting false [] with
    | some r => some (s.startRec r)
    | none => s.nextQuery.map fun e => s.startQuery e.1 e.2.1 e.2.2

/-- Start the commands that may start, up to a number. -/
def State.startMany (s : State) : Nat → State
  | 0 => s
  | n + 1 => match s.startOne with | some t => t.startMany n | none => s

/-- Start every command that may start: no more than the commands and queries that wait. -/
def State.startReady (s : State) : State :=
  s.startMany (s.waiting.length + [0, 1, 2, 3, 4, 15].foldl (fun n f => n + (s.flow f).queries.length) 0)

/-! ### The QSPI port (R579) -/

/-- Whether the QSPI port serves. -/
def State.qspiOn (s : State) : Bool := s.hostRuns && s.on F.HOST_CTRL_QEN

/-- RDSTAT: the queue's state. -/
def State.qspiStat (s : State) : State :=
  if s.qspiOn then s.send (.qspiStat (n32 (2 ^ 31 * b2n (s.host.queue != []) + s.regN R.HOST_QSTAT))) else s

/-- RDFRAME: a frame read to its last byte leaves the queue. -/
def State.qspiRead (s : State) (complete : Bool) : State :=
  match s.host.queue with
  | [] => s
  | m :: r => if s.qspiOn && complete then (s.setQueue r).send m else s

/-! ### Events (R609) -/

/-- The latest EVENT of a flow is sent again. -/
def State.eventResend (s : State) (f : Nat) : State :=
  match (s.flow f).event with
  | some m => if s.hostRuns then s.toHost m else s
  | none => s

/-! ### The commands -/

/-- A command frame with the opcode `opc` arrives; commands that may start do. -/
def State.rxStart (s : State) (h : HostHdr) (opc : Nat) (body : List Word) : State := (s.hostRx h opc body).startReady

/-- QSPI_WRFRAME (R579). -/
def execQspiWrframe (h : HostHdr) (opc : BitVec 16) (body : List Word) (s : State) : Host.Outcome State Fault Refusal :=
  .next (settle s (s.rxStart { h with port := .qspi } opc.toNat body))

/-- QSPI_RDSTAT (R579). -/
def execQspiRdstat (s : State) : Host.Outcome State Fault Refusal := .next (settle s s.qspiStat)

/-- QSPI_RDFRAME (R579): `complete` where the host reads the frame's last byte. -/
def execQspiRdframe (complete : Bool) (s : State) : Host.Outcome State Fault Refusal := .next (settle s (s.qspiRead complete))

/-- COMMAND_START (R587). -/
def execCommandStart (s : State) : Host.Outcome State Fault Refusal :=
  .next (settle s (match s.startOne with | some t => t | none => s))

/-- OPERATION_STEP (R605): a step of the operation in slot `n`; what OFFDIAG reads in it, and a channel whose STO readback fails in the
CONFIG that a commit leads to. -/
def execOperationStep (n : Fin 8) (rd : List (BitVec 12)) (sto : Option (Fin 3)) (s : State) : Host.Outcome State Fault Refusal :=
  .next (settle s (if s.hostRuns then s.opStep n rd (sto.map Fin.val) else s))

/-- EVENT_RESEND (R609). -/
def execEventResend (f : Fin 5) (s : State) : Host.Outcome State Fault Refusal := .next (settle s (s.eventResend f))

/-- READ (R603): its frame arrives. -/
def execRead (h : HostHdr) (body : List Word) (s : State) : Host.Outcome State Fault Refusal :=
  .next (settle s (s.rxStart h 0x01 body))

/-- WRITE (R603): its frame arrives. -/
def execWrite (h : HostHdr) (body : List Word) (s : State) : Host.Outcome State Fault Refusal :=
  .next (settle s (s.rxStart h 0x02 body))

/-- MODIFY (R603): its frame arrives. -/
def execModify (h : HostHdr) (body : List Word) (s : State) : Host.Outcome State Fault Refusal :=
  .next (settle s (s.rxStart h 0x03 body))

/-- STATUS (R603): its frame arrives. -/
def execStatus (h : HostHdr) (body : List Word) (s : State) : Host.Outcome State Fault Refusal :=
  .next (settle s (s.rxStart h 0x04 body))

/-- LOAD_PROGRAM (05 R208): its frame arrives. -/
def execLoadProgram (h : HostHdr) (body : List Word) (s : State) : Host.Outcome State Fault Refusal :=
  .next (settle s (s.rxStart h 0x10 body))

/-- LOAD_ALMANAC (05 R208): its frame arrives. -/
def execLoadAlmanac (h : HostHdr) (body : List Word) (s : State) : Host.Outcome State Fault Refusal :=
  .next (settle s (s.rxStart h 0x11 body))

/-- SWAP_BANK (05 R209): its frame arrives. -/
def execSwapBank (h : HostHdr) (body : List Word) (s : State) : Host.Outcome State Fault Refusal :=
  .next (settle s (s.rxStart h 0x12 body))

/-- SET_MODE (05 R185): its frame arrives. -/
def execSetMode (h : HostHdr) (body : List Word) (s : State) : Host.Outcome State Fault Refusal :=
  .next (settle s (s.rxStart h 0x13 body))

/-- ARM (01 R675): its frame arrives. -/
def execArm (h : HostHdr) (body : List Word) (s : State) : Host.Outcome State Fault Refusal :=
  .next (settle s (s.rxStart h 0x20 body))

/-- RUN (01 R33): its frame arrives. -/
def execRun (h : HostHdr) (body : List Word) (s : State) : Host.Outcome State Fault Refusal :=
  .next (settle s (s.rxStart h 0x21 body))

/-- BLOCK (01 R675): its frame arrives. -/
def execBlock (h : HostHdr) (body : List Word) (s : State) : Host.Outcome State Fault Refusal :=
  .next (settle s (s.rxStart h 0x22 body))

/-- RELEASE (15 R553): its frame arrives. -/
def execRelease (h : HostHdr) (body : List Word) (s : State) : Host.Outcome State Fault Refusal :=
  .next (settle s (s.rxStart h 0x23 body))

/-- FIX (09 R342): its frame arrives. -/
def execFixCmd (h : HostHdr) (body : List Word) (s : State) : Host.Outcome State Fault Refusal :=
  .next (settle s (s.rxStart h 0x30 body))

/-- FIX_READ (R603): its frame arrives. -/
def execFixRead (h : HostHdr) (body : List Word) (s : State) : Host.Outcome State Fault Refusal :=
  .next (settle s (s.rxStart h 0x31 body))

/-- LOG_ARM (05 R204): its frame arrives. -/
def execLogArm (h : HostHdr) (body : List Word) (s : State) : Host.Outcome State Fault Refusal :=
  .next (settle s (s.rxStart h 0x40 body))

/-- LOG_READ (05 R205): its frame arrives. -/
def execLogRead (h : HostHdr) (body : List Word) (s : State) : Host.Outcome State Fault Refusal :=
  .next (settle s (s.rxStart h 0x41 body))

/-- CAL_ADC (10 R396): its frame arrives. -/
def execCalAdc (h : HostHdr) (body : List Word) (s : State) : Host.Outcome State Fault Refusal :=
  .next (settle s (s.rxStart h 0x50 body))

/-- CFG_COMMIT (15 R575): its frame arrives. -/
def execCfgCommit (h : HostHdr) (body : List Word) (s : State) : Host.Outcome State Fault Refusal :=
  .next (settle s (s.rxStart h 0x51 body))

/-- OFFDIAG (12 R467): its frame arrives. -/
def execOffdiag (h : HostHdr) (body : List Word) (s : State) : Host.Outcome State Fault Refusal :=
  .next (settle s (s.rxStart h 0x52 body))

/-- SAFE_RESET (13 R494): its frame arrives. -/
def execSafeReset (h : HostHdr) (body : List Word) (s : State) : Host.Outcome State Fault Refusal :=
  .next (settle s (s.rxStart h 0x60 body))

/-- PROOF_SWAP (09 R367): its frame arrives. -/
def execProofSwap (h : HostHdr) (body : List Word) (s : State) : Host.Outcome State Fault Refusal :=
  .next (settle s (s.rxStart h 0x61 body))

/-- RESET (15 R559): its frame arrives. -/
def execReset (h : HostHdr) (body : List Word) (s : State) : Host.Outcome State Fault Refusal :=
  .next (settle s (s.rxStart h 0x70 body))

/-- EVENT_ACK (R609): its frame arrives. -/
def execEventAck (h : HostHdr) (body : List Word) (s : State) : Host.Outcome State Fault Refusal :=
  .next (settle s (s.rxStart h 0x71 body))

/-- JOURNAL_READ (R603): its frame arrives. -/
def execJournalRead (h : HostHdr) (body : List Word) (s : State) : Host.Outcome State Fault Refusal :=
  .next (settle s (s.rxStart h 0x72 body))

/-- UPD_OPEN (17 R623): its frame arrives. -/
def execUpdOpen (h : HostHdr) (body : List Word) (s : State) : Host.Outcome State Fault Refusal :=
  .next (settle s (s.rxStart h 0x80 body))

/-- UPD_CHUNK (17 R624): its frame arrives. -/
def execUpdChunk (h : HostHdr) (body : List Word) (s : State) : Host.Outcome State Fault Refusal :=
  .next (settle s (s.rxStart h 0x81 body))

/-- UPD_STATUS (17 R637): its frame arrives. -/
def execUpdStatus (h : HostHdr) (body : List Word) (s : State) : Host.Outcome State Fault Refusal :=
  .next (settle s (s.rxStart h 0x82 body))

/-- UPD_RELAY (17 R629): its frame arrives. -/
def execUpdRelay (h : HostHdr) (body : List Word) (s : State) : Host.Outcome State Fault Refusal :=
  .next (settle s (s.rxStart h 0x83 body))

/-- UPD_ACTIVATE (17 R632): its frame arrives. -/
def execUpdActivate (h : HostHdr) (body : List Word) (s : State) : Host.Outcome State Fault Refusal :=
  .next (settle s (s.rxStart h 0x84 body))

/-- UPD_CONFIRM (17 R634): its frame arrives. -/
def execUpdConfirm (h : HostHdr) (body : List Word) (s : State) : Host.Outcome State Fault Refusal :=
  .next (settle s (s.rxStart h 0x85 body))

/-- UPD_ABORT (17 R626): its frame arrives. -/
def execUpdAbort (h : HostHdr) (body : List Word) (s : State) : Host.Outcome State Fault Refusal :=
  .next (settle s (s.rxStart h 0x86 body))

end Sys2Proof.Machine
end

