-- ==== Sys2Proof/Machine/Helm.lean ====
section
/-! DEFINITION. Machine/Helm.lean: what a period does: its boundary, engine start, block ends, deadline, the Almanac's conversion starts,
the commit into the inbox, and the tick (03_engine_architecture.md R113 to R135, R676; 05_engine_programs.md R179 to R191, R210 to R213;
01_stack_and_pods.md R31 to R36; 07_cell_link.md R282, R286; 13_hall_and_safe_stop.md R482, R503; 02 R55). -/
namespace Sys2Proof.Machine

/-! ### Moves at a boundary (01 R31, R32) -/

/-- Whether the commands that wait ask for a move to `target`. -/
def State.asked (s : State) (target : Nat) : Bool := s.sys.move.any (·.target == target)

/-- The pending move is made: the commands that asked for it, and the state without it. -/
def State.takeMove (s : State) : List CmdKey × State :=
  match s.sys.move with
  | some m => (m.owners, { s with sys := { s.sys with move := none } })
  | none => ([], s)

/-- The move that takes effect at a period boundary (01 Table 6, R32; 15 R568). -/
def State.boundaryMove (s : State) : State :=
  if s.dev = stLINKS then
    if (s.on F.SYS_CTRL_AUTOARM || s.asked stARMED) && s.linksReady then s.takeMove.2.enterArmed s.takeMove.1 else s
  else if s.dev = stBLOCKED then (if s.asked stARMED then s.takeMove.2.enterArmed s.takeMove.1 else s)
  else if s.dev = stARMED then
    if s.asked stRUN then s.takeMove.1.foldl (fun s k => s.done k []) (s.takeMove.2.setDev stRUN) else s
  else if s.dev = stRUN then (if s.bypassSeen then s.setDev stDEGRADED else s)
  else if s.dev = stDEGRADED then (if s.bypassSeen then s else s.setDev stRUN)
  else s

/-! ### The row of a period (R114, R179) -/

/-- The conditions of R117. -/
def State.helmMay (s : State) : Bool :=
  s.on F.ENG_CTRL_EN && s.sx != sxOFF && stARMED ≤ s.dev && s.dev ≤ stSAFE && s.eng.budOk

/-- The current row. -/
def State.curRow (s : State) : Nat := s.pcnt % s.almLen s.aBank

/-- The entry words of the blocks that a row runs in period p, in order: the entry block where the mode still needs it, then the slots
(R179, R188). -/
def State.rowEntries (s : State) (row : Nat) : List Nat :=
  let m := s.get F.ALM_MODE_CUR
  let entry := if s.eng.entryDue then (s.dirEntry s.pBank m 63).toList else []
  entry ++ ((s.namedSlots s.pBank m row).filter fun x => s.pcnt % x.1.div == x.1.ph).map (·.2)

/-- C_row of a list of blocks (R114). -/
def rowCycles (blocks : List Nat) : Nat := blocks.foldl (fun n c => n + c + 2) 0

/-- The row of the period with what the registers show of it; none of its blocks is complete. -/
def State.loadRow (s : State) : State :=
  let r := s.curRow
  let row := s.arow s.aBank r
  let blocks := (s.rowEntries row).map fun e => (s.blockCost s.pBank e).1
  let mwrs := (s.rowCost s.pBank (s.get F.ALM_MODE_CUR) r (s.almLen s.aBank) row).2
  let s := { s with eng := { s.eng with blocks, doneBlks := 0 } }
  ((s.set F.ENG_ROW_ROW r).setRegN R.ENG_ROWCYC (rowCycles blocks)).set F.ENG_LADLE_COUNT mwrs

/-! ### The boundary -/

/-- The Helm at a boundary: it starts with p = 0, goes on with p + 1, or stops (R117, R118, R134, R676). A swap applies before a mode
change (05 R212). -/
def State.helmBoundary (s : State) : State :=
  if !s.helmMay then s.helmStop
  else
    let s := s.setReg64 R.ENG_PCNT_LO (if s.get F.ENG_STAT_ESTATE = 0 then 0 else s.pcnt + 1)
    let s := (s.boundarySwap.boundaryMode.set F.ENG_STAT_ESTATE 1).mirrorBoundary
    s.loadRow

/-- A boundary of the grid. -/
def State.periodBoundary (s : State) : State :=
  if s.gridDue then
    let s := s.gridNext
    let s := { s with adc := { s.adc with plaus := [] } }
    (s.modBoundary.oclBoundary.logBoundary.boundaryMove).helmBoundary
  else s

/-! ### Engine start and block ends -/

/-- The values that SGET returns in the period (04 Table 13). -/
def State.sgetValues (s : State) : List Word :=
  [s.reg R.ENG_PCNT_LO, BitVec.ofNat 32 s.now, BitVec.ofNat 32 (s.now / 2 ^ 32), n32 (s.get F.THERM_BAND_ANA), n32 (s.get F.THERM_BAND_LOGIC),
   n32 (b2n s.active + 2 * b2n (s.on F.SYS_STATE_TRIAL)), s.reg R.ENG_OVR_RUN, s.reg R.ENG_STALL]

/-- ESTATE leaves RUN: the claims that were held are served (R131, R132). -/
def State.leaveRun (s : State) (es : Nat) : State := (s.set F.ENG_STAT_ESTATE es).serveDeferred

/-- The engine start (R114): the row begins, or is complete where no block runs; the SGET values are latched (04 R165) and the staged slot
is cleared (04 R172). -/
def State.engineStart (s : State) : State :=
  if s.get F.ENG_STAT_ESTATE = 1 then
    let s := s.loadRow
    let s := { s with eng := { s.eng with sget := s.sgetValues, waited := 0, stallSrc := 0, ran := 0, slot := [] } }
    if s.eng.blocks = [] then s.leaveRun 3 else s.set F.ENG_STAT_ESTATE 2
  else s

/-- Whether every block of the row is complete. -/
def State.rowDone (s : State) : Bool := s.eng.blocks.length ≤ s.eng.doneBlks

/-- A block is complete (R113): its write-backs have landed, and the next block starts, or the row is complete; a flag that they set may
stop the Helm. -/
def State.blockComplete (s : State) : State :=
  if s.get F.ENG_STAT_ESTATE = 2 then
    let s := s.newWord.drain
    if s.get F.ENG_STAT_ESTATE != 2 then s
    else
      let s := { s with eng := { s.eng with doneBlks := s.eng.doneBlks + 1 } }
      if s.rowDone then s.leaveRun 3 else s
  else s

/-! ### The deadline (R116, R133) -/

/-- The pour of one ladle entry: the field of each selected lane's channel (04 R168). -/
def State.pourOne (s : State) (e : LadleEntry) : State :=
  e.vals.foldl (fun s v => match mwrChan e.tgt v.1 e.ch with
    | some c => s.writeShadow c e.fld v.2
    | none => s) s

/-- The register of a field's shadow. -/
def shadowAddr (c fld : Nat) : Nat :=
  match fld with
  | 0 => (F.MOD_PERIOD_V (ri c)).addr
  | 1 => (F.MOD_CMPA_V (ri c)).addr
  | 2 => (F.MOD_CMPB_V (ri c)).addr
  | 3 => (F.MOD_PHASE_V (ri c)).addr
  | 4 | 5 => (F.MOD_DT_DTR (ri c)).addr
  | _ => (F.MOD_MINP_MINP (ri c)).addr

/-- The claims of a ladle entry: the pour claims the shadows for the engine, so that a host write of the same tick comes after it. -/
def State.pourClaims (s : State) (e : LadleEntry) : State :=
  e.vals.foldl (fun s v => match mwrChan e.tgt v.1 e.ch with
    | some c => s.served (shadowAddr c e.fld) .engine
    | none => s) s

/-- The ladle is poured in the order in which the instructions executed, and empties (R116, 04 R170). -/
def State.pour (s : State) : State :=
  let l := s.eng.ladle
  let s := l.foldl State.pourOne (l.foldl State.pourClaims s)
  { s with eng := { s.eng with ladle := [] } }

/-- The waits of the period are shown (R130). -/
def State.showStalls (s : State) : State := (s.setRegN R.ENG_STALL s.eng.waited).set F.ENG_STALLSRC_SRC s.eng.stallSrc

/-- Cycles from engine start to the completion of the row, waits included. -/
def State.lastCyc (s : State) : Nat := if s.eng.blocks = [] then 0 else rowCycles s.eng.blocks - 2 + s.eng.waited

/-- ENG_LASTCYC and ENG_PEAKCYC of a completed period. -/
def State.showCycles (s : State) : State :=
  let n := s.lastCyc
  let s := s.setRegN R.ENG_LASTCYC n
  if s.regN R.ENG_PEAKCYC < n then s.setRC R.ENG_PEAKCYC (BitVec.ofNat 32 n) else s

/-- Whether the row of the period is a fix point (05 R182). -/
def State.fixPoint (s : State) : Bool :=
  let row (r : Nat) : Nat := s.arow s.aBank r
  rowFix (row (s.get F.ENG_ROW_ROW)) || !(List.range (s.almLen s.aBank)).any fun r => rowFix (row r)

/-- Whether a trial's periods count in this state (17 R634). -/
def State.okState (s : State) : Bool := stARMED ≤ s.dev && s.dev ≤ stDEGRADED

/-- Edge generation of the next window (06 R239). -/
def State.generateNext (s : State) : State := s.generate (s.sext.kAbs + 1) s.sext.b1 s.sext.b2

/-- The deadline of a period whose blocks are all complete (R116). The mode of the next period is chosen after the flip (05 R185), so that the
mirror carries it; a swap ripens (05 R210). -/
def State.deadlineDone (s : State) : State :=
  let s := s.showCycles.flipPages.pour
  let s := (s.loadArmed s.eng.armed)
  let s := { s with eng := { s.eng with armed := 0, entryDue := false } }
  let s := (s.chooseMode.ripenSwap).generateNext
  let slot := if rowSends (s.arow s.aBank (s.get F.ENG_ROW_ROW)) then some s.eng.slot else none
  let s := s.schedSend false slot
  let s := (s.setReg R.ENG_OVR_RUN 0).twinDeadline
  let s := if s.fixPoint then s.fixRows else s
  let s := if s.okState then s.count R.UPD_OKRUN 1 else s
  s.windowsWithBypass s.sext.b1 s.sext.b2

/-- Static cycles of the row not executed at the deadline: of the engine cycles since the engine start those of waits do not count
(Table 8). -/
def State.ovrRemain (s : State) : Nat :=
  let ran := max (s.eng.ran - s.eng.waited) (rowCycles (s.eng.blocks.take s.eng.doneBlks))
  min 4095 (rowCycles s.eng.blocks - ran)

/-- The flags and records of an overrun (R133 step 7, R135). -/
def State.overrunFlags (s : State) : State :=
  let s := ((s.set F.ENG_OVR_INFO_REMAIN s.ovrRemain).set F.ENG_OVR_INFO_ROW (s.get F.ENG_ROW_ROW)).set F.ENG_OVR_INFO_BLK s.eng.doneBlks
  let s := ((s.setReg64 R.ENG_OVR_T_LO s.now).count R.ENG_OVR_CNT 1).count R.ENG_OVR_RUN 1
  let s := s.fault F.ENG_STAT_OVERRUN Q.ENG_OVERRUN (hw 0)
  if s.regN R.ENG_OVR_RUN = s.get F.ENG_OVR_CFG_OVR_LIM then s.fault F.ENG_STAT_OVRLIM Q.ENG_OVRLIM (hw 0) else s

/-- The deadline of a period with a block that is not complete (R133): the period is abandoned. -/
def State.deadlineAbandoned (s : State) : State :=
  let s := { s with eng := { s.eng with pend := [], vOpen := none, ladle := [], armed := 0 } }
  let s := s.dropPages.ripenSwap.generateNext
  let s := (s.schedSend true none).twinDeadline
  let s := { s with log := { s.log with abandoned := true, events := s.log.events ||| 1 } }
  let s := (s.setReg R.UPD_OKRUN 0).windowFrames true s.sext.b1 s.sext.b2
  s.overrunFlags

/-- The deadline of a grid period in which the Helm does not run: host-armed groups, edge generation and the frames of the links
(06 R227, R239; 07 R282; 09 R351). -/
def State.deadlineStopped (s : State) : State :=
  ((s.loadArmed 0).generateNext.twinDeadline).windowFrames false s.sext.b1 s.sext.b2

/-- The deadline of a period. -/
def State.deadline (s : State) : State :=
  if !(s.sx != sxOFF && s.sext.begun && s.sext.comm) then s
  else
    let es := s.get F.ENG_STAT_ESTATE
    if es = 0 then s.deadlineStopped
    else if es = 4 then s
    else
      let s := s.showStalls
      let s := if s.rowDone then s.deadlineDone else s.deadlineAbandoned
      if s.get F.ENG_STAT_ESTATE = 0 then s else (s.leaveRun 4).logDeadline

/-! ### Conversion starts of the row (05 R180) -/

/-- Conversion start A or B of the current row reaches its offset. -/
def State.almListStart (s : State) (b : Bool) : State :=
  let (en, list, ofs) := rowStart (s.arow s.aBank (s.get F.ENG_ROW_ROW)) b
  if en && s.get F.ENG_STAT_ESTATE != 0 then
    if s.sext.b1 ≤ s.sext.b0 + 320 * ofs then s.faultNew F.ALM_STAT_OFSLATE Q.ALM_OFSLATE (hw 0) else s.listStart list
  else s

/-! ### The commit tick (07 R286; 09 R338, R355; 10 R404; 13 R482, R503) -/

/-- A placement word; a protected destination is not written and sets DSTREJ (13 R482). -/
def State.placeOne (s : State) (n w v : Nat) : State :=
  if s.inStateS w || 0x4000 ≤ w then s.faultNew F.HALL_GSTAT_DSTREJ Q.HALL_DSTREJ (hw n) else s.store (sdmAddr w) 4 v

/-- The second Hall placement word (13 Table 2). -/
def State.hallWord (s : State) (n : Nat) : Nat :=
  2 ^ 16 * s.get (F.HALL_SPEED_V n) + 2 ^ 7 * b2n (s.on (F.HALL_STAT_HALLF n)) + 2 ^ 6 * b2n (s.on (F.HALL_STAT_HOMED n))
    + 2 ^ 5 * b2n (s.on (F.HALL_STAT_SLIP n)) + s.get (F.HALL_STATE_S n)

/-- The Hall placement of a channel. -/
def State.hallPlace (s : State) (n : Nat) : State :=
  if s.on (F.HALL_PLACE_EN n) then
    let w := s.get (F.HALL_PLACE_SWORD n)
    let t := clampInt (-2147483648) 2147483647 ((ctDiff (s.reg64 (R.HALL_TSTAMP_LO n)) s.sext.b0).fdiv 16)
    let p := s.regN (R.HALL_POS n)
    ((s.placeOne n w p).placeOne n (w + 1) (s.hallWord n)).placeOne n (w + 2) (encS 32 t)
  else s

/-- A bit for each of `n` things. -/
def bitsWhere (n : Nat) (f : Nat → Bool) : Nat := (List.range n).foldl (fun m i => m + 2 ^ i * b2n (f i)) 0

/-- The safety placement word (13 Table 6a). -/
def State.safeWord (s : State) : Nat :=
  2 ^ 20 * bitsWhere 4 (fun n => s.on (F.SAFE_SOUTSTAT_RBERR n)) + 2 ^ 16 * bitsWhere 4 (fun n => s.on (F.SAFE_SOUTSTAT_ON n))
    + 2 ^ 11 * bitsWhere 3 (fun a => s.on (F.SAFE_CHSTAT_SS1 a)) + 2 ^ 8 * bitsWhere 3 (fun a => s.on (F.SAFE_CHSTAT_STO a))
    + 2 ^ 4 * (s.safe.disc % 16) + s.demands % 16

def State.safePlace (s : State) : State :=
  if s.on F.SAFE_PLACE_EN then s.placeOne 3 (s.get F.SAFE_PLACE_SWORD) s.safeWord else s

/-- The commit tick, whether the Helm runs or not. -/
def State.inboxCommit (s : State) : State :=
  if s.sx != sxOFF && s.sext.begun then
    let s := s.oclCommit.schedCommit.sdfCommit
    ((List.range 3).foldl State.hallPlace s).safePlace.twinCommit
  else s

/-! ### The tick -/

/-- A common tick passes: CT64 advances, outputs whose refresh ends fall, the wires of the lanes and the ring move on, deferred claims and the
words of the host's accesses are served, and the supervisor enables the Sextant where it waits to (02 R39, R54, R55; 12 R447; 07 R283;
09 R319; 15 R567). -/
def State.tick (s : State) : State :=
  let s := s.advance
  let s := if s.get F.ENG_STAT_ESTATE = 2 then { s with eng := { s.eng with ran := s.eng.ran + 2 } } else s
  (s.refreshEnds.ringPump.oclPump.serveDeferred.accsTick).sextAuto

/-! ### The commands -/

/-- PERIOD_BOUNDARY (R118): b_0, or the committed b_{k+1}. -/
def execPeriodBoundary (s : State) : Host.Outcome State Fault Refusal := .next (settle s s.periodBoundary)

/-- ENGINE_START (R114). -/
def execEngineStart (s : State) : Host.Outcome State Fault Refusal := .next (settle s s.engineStart)

/-- BLOCK_COMPLETE (R113). -/
def execBlockComplete (s : State) : Host.Outcome State Fault Refusal := .next (settle s s.blockComplete)

/-- DEADLINE (R116, R133). -/
def execDeadline (s : State) : Host.Outcome State Fault Refusal := .next (settle s s.deadline)

/-- ALMANAC_LIST_START (05 R180). -/
def execAlmanacListStart (b : Bool) (s : State) : Host.Outcome State Fault Refusal := .next (settle s (s.almListStart b))

/-- INBOX_COMMIT (07 R286). -/
def execInboxCommit (s : State) : Host.Outcome State Fault Refusal := .next (settle s s.inboxCommit)

end Sys2Proof.Machine
end

