-- ==== Sys2Proof/Machine/Pods.lean ====
section
/-! DEFINITION. Machine/Pods.lean: the pods at the far end of the cell links (07_cell_link.md R252, R255, R259 to R261, R265,
R267 to R274, R276 to R278, R281; 01 R20). A command on a pod stands for the instant it names, in the pod's own CT64. -/
namespace Sys2Proof.Machine

def podPort0 : PodPort := { seq := 0, lastCmd := none, tseq := 0, t2 := 0, perr := 0 }

/-- A pod without power. -/
def pod0 : PodSt :=
  { on := false, off := 0, cap := 0, tlock := false, tlockRun := 0, portA := podPort0, portB := podPort0, sight := [], cacc := 0,
    cPrev := 0, wStart := 0, wLen := 64000, wins := [], sched := [], playing := false, play := [], delayed := [], hold := 0,
    blocked := true, tlockBlk := false, needCfg := true, llost := false, tripped := false, desat := 0, gdf := 0, chb := 0, bypst := 0,
    bypClose := false, loss := false, cfg := [], outs := 0, late := false, intlk := false, lvlerr := false, clash := false,
    fstamp := 0, temp := 0 }

def State.pod (s : State) (l : Nat) : PodSt := spGet pod0 s.pods l
def State.setPod (s : State) (l : Nat) (p : PodSt) : State := { s with pods := spPut pod0 s.pods l p }
/-- The pod's CT64. -/
def State.podNow (s : State) (p : PodSt) : Nat := ctAdd s.now p.off

def PodSt.port (p : PodSt) (b : Bool) : PodPort := if b then p.portB else p.portA
def PodSt.setPort (p : PodSt) (b : Bool) (x : PodPort) : PodSt := if b then { p with portB := x } else { p with portA := x }

/-! ### The applied configuration (Table 9) -/
def PodSt.cfgBlk (p : PodSt) (i : Nat) : Nat := (p.cfg.getD i 0).toNat
/-- The negotiated version; 1.0 before any SETCFG. -/
def PodSt.ver (p : PodSt) : Nat := if p.cfg.isEmpty then 0x10 else p.cfgBlk 0 % 256
def PodSt.dtmin (p : PodSt) : Nat := bitsOf (p.cfgBlk 0) 40 12
def PodSt.vbyp (p : PodSt) : Int := signedOf 16 (bitsOf (p.cfgBlk 0) 24 16)
def PodSt.vbsrc (p : PodSt) : Nat := bitsOf (p.cfgBlk 0) 18 4
def PodSt.llbyp (p : PodSt) : Bool := (p.cfgBlk 0).testBit 17
def PodSt.smp (p : PodSt) : Nat := bitsOf (p.cfgBlk 0) 12 5
def PodSt.frm (p : PodSt) : Nat := bitsOf (p.cfgBlk 0) 8 4
def PodSt.safe (p : PodSt) : Nat := p.cfgBlk 1 % 2 ^ 16

/-! ### Claims (R259, R260) -/

/-- The claim that is higher than every other one sighted; none where there is no such claim. -/
def topClaim (l : List Nat) : Option Nat := l.find? fun c => l.all fun d => d == c || claimHigher c d

/-- C_acc from the sightings of the current window and the 7 before it. -/
def PodSt.accept (p : PodSt) : PodSt := { p with cacc := (topClaim (p.sight.map (·.1))).getD p.cPrev }

/-- A sighting of a claim on a port; equal claims on both ports are reported from OCL 2.0. -/
def PodSt.see (p : PodSt) (claim : Nat) (b : Bool) : PodSt :=
  let both := p.sight.any fun e => e.1 == claim && e.2.1 != b
  let p := { p with sight := (claim, b, 0) :: p.sight.filter fun e => !(e.1 == claim && e.2.1 == b) }
  { p.accept with clash := p.clash || (both && 0x20 ≤ p.ver) }

/-- An accepted downstream frame ends link loss (R277). -/
def PodSt.heard (p : PodSt) : PodSt := { p with loss := false }

/-! ### Outputs (R269, R272, R278) -/

/-- Whether a channel is blocked on its own (R273). -/
def PodSt.chBlk (p : PodSt) (c : Nat) : Bool := p.chb.testBit c

/-- The levels of a channel while blocked (R272, R278). -/
def PodSt.blockLevel (p : PodSt) (o : Nat) : Bool := p.bypst == 0 && !p.desat.testBit (o / 2) && p.safe.testBit o

/-- Set one output, where neither a latch nor the bypass holds it. -/
def PodSt.drive (p : PodSt) (o : Nat) (b : Bool) : PodSt :=
  if p.chBlk (o / 2) then p else { p with outs := putBit p.outs o (b && p.bypst == 0) }

/-- The outputs of the blocked channels at their levels (R272). -/
def PodSt.settleBlocked (p : PodSt) : PodSt :=
  { p with outs := (List.range 16).foldl (fun n o =>
      if p.blocked || p.chBlk (o / 2) then putBit n o (p.blockLevel o) else if p.bypst != 0 then putBit n o false else n) p.outs }

/-- The pod blocks: the window being played ends (R272, R273). -/
def PodSt.block (p : PodSt) : PodSt :=
  ({ p with blocked := true, playing := false, play := [], delayed := [] }).settleBlocked

/-- Output `o` is to turn on or off; a turn-on whose complement is on waits for DTMIN after the complement's turn-off (R269). -/
def PodSt.toLevel (p : PodSt) (now o : Nat) (b : Bool) : PodSt :=
  let comp := if o % 2 = 0 then o + 1 else o - 1
  if !b then { p.drive o false with delayed := p.delayed.filter (·.1 != o) }
  else if p.outs.testBit comp then
    { p.drive comp false with delayed := p.delayed ++ [(o, now + p.dtmin)], intlk := true }
  else p.drive o true

/-! ### Upstream frames -/

/-- A frame on a port, with the next SEQ and the accepted claim (R251, Table 3). -/
def State.podSend (s : State) (l : Nat) (b : Bool) (ftype tspec : Nat) (data : List Word64) : State :=
  let p := s.pod l
  let x := p.port b
  let f : LinkFrame := { ftype, claim := p.cacc, seq := x.seq, len := data.length, tspec, data, ok := true }
  (s.setPod l (p.setPort b { x with seq := (x.seq + 1) % 256 })).send (.pod l b f)

/-- The data blocks of a PERIODIC on a port (Table 11). -/
def State.periodicData (s : State) (p : PodSt) (b : Bool) : List Word64 :=
  let x := p.port b
  let perr := if 0x11 ≤ p.ver then encS 16 (clampInt (minS 16) (maxS 16) x.perr) else 0
  let bits := 2 ^ 28 * b2n p.late + 2 ^ 27 * b2n p.llost + 2 ^ 26 * b2n p.clash + 2 ^ 25 * b2n p.intlk + 2 ^ 24 * b2n p.lvlerr
    + 2 ^ 20 * p.hold + 2 ^ 19 * b2n p.tripped + 2 ^ 18 * b2n p.tlock + 2 ^ 16 * p.bypst + 2 ^ 8 * p.gdf + p.desat
  [BitVec.ofNat 64 x.t2, BitVec.ofNat 64 (encS 32 (ctDiff (s.podNow p) x.t2) * 2 ^ 32 + perr * 2 ^ 16 + p.temp.toNat),
   BitVec.ofNat 64 (p.fstamp * 2 ^ 32 + bits)]

/-- A PERIODIC on each port; what it reports once is cleared (R274). -/
def State.periodic (s : State) (l : Nat) : State :=
  let p := s.pod l
  let s := s.podSend l false 9 p.portA.tseq (s.periodicData p false)
  let s := s.podSend l true 9 p.portB.tseq (s.periodicData p true)
  s.setPod l { s.pod l with late := false, clash := false, intlk := false, lvlerr := false, fstamp := 0 }

/-- A change of DESAT, GDF, BYPST or TRIPPED is reported in an extra PERIODIC with its stamp (R274). -/
def State.podReport (s : State) (l : Nat) (old : PodSt) : State :=
  let p := s.pod l
  if p.desat = old.desat ∧ p.gdf = old.gdf ∧ p.bypst = old.bypst ∧ p.tripped = old.tripped then s
  else (s.setPod l (if p.fstamp = 0 then { p with fstamp := s.podNow p % 2 ^ 32 } else p)).periodic l

/-! ### Downstream frames (R250, R252, R258) -/

/-- Whether the records of an EDGE frame are in the order of R241 and inside the window. -/
def recsOk (wlen : Nat) : List Word → Bool
  | [] => true
  | x :: r => decide (x.toNat % 2 ^ 24 < wlen) && (match r with | y :: _ => !recBefore y x | [] => true) && recsOk wlen r

/-- The records of an EDGE frame's blocks. -/
def unpackRecs (n : Nat) (l : List Word64) : List Word := (unpack64 l).take n

/-- The parts of a valid EDGE frame for this pod (Table 5, R252). -/
def PodSt.edgeOf (p : PodSt) (f : LinkFrame) : Option PodWin :=
  let nrec := f.tspec % 256
  let trip := f.tspec.testBit 17
  let empty := f.tspec.testBit 16
  let d1 := (f.data.getD 1 0).toNat
  let wlen := d1 / 2 ^ 40
  let recs := unpackRecs nrec (f.data.drop 2)
  let lim := if p.ver = 0x10 then 64 else 128
  if f.ok && f.ftype == 2 && f.claim != 0 && f.data.length == f.len && f.tspec / 256 % 256 == 0 && f.len == 2 + (nrec + 1) / 2 && nrec ≤ lim
      && recsOk wlen recs && !(empty && nrec != 0) then
    some { anchor := (f.data.getD 0 0).toNat, wlen, claim := f.claim, edge := some (trip, empty, d1 % 2 ^ 16, recs) }
  else none

/-- Whether a KEEP, TIME or CMD frame is valid (Tables 6 to 8). -/
def downValid (f : LinkFrame) : Bool :=
  f.ok && f.claim != 0 && f.data.length == f.len &&
  (if f.ftype = 4 then f.len == 2 && f.tspec == 0
   else if f.ftype = 1 then f.len == 2 && f.tspec / 256 == 0
   else f.ftype == 3 && f.tspec / 256 == 0 && cmdLen f.tspec == some f.len)

/-- A pod receives an EDGE frame (R259, R267, R268). -/
def State.podEdge (s : State) (l : Nat) (b : Bool) (f : LinkFrame) : State :=
  let p := s.pod l
  match p.edgeOf f with
  | none => s
  | some w =>
    let p := p.see f.claim b
    if !p.on then s
    else if f.claim != p.cacc then s.setPod l p
    else
      let tsu := bitsOf p.cap.toNat 32 8
      if ctDiff w.anchor (s.podNow p) < (32 * tsu : Nat) then s.setPod l { p.heard with late := true }
      else
        let p := { p.heard with wins := p.wins ++ [w], wLen := if w.wlen = 0 then 64000 else w.wlen }
        s.setPod l (if f.tspec.testBit 17 then p.block else p)

/-- A pod receives a KEEP frame (R259, R267). -/
def State.podKeep (s : State) (l : Nat) (b : Bool) (f : LinkFrame) : State :=
  if !(s.pod l).on || !downValid f || f.ftype != 4 then s
  else
    let p := (s.pod l).see f.claim b
    if f.claim != p.cacc then s.setPod l p
    else
      let wlen := (f.data.getD 1 0).toNat / 2 ^ 40
      let anchor := (f.data.getD 0 0).toNat
      let p := { p.heard with wLen := if wlen = 0 then 64000 else wlen }
      if anchor = 0 then s.setPod l p
      else s.setPod l { p with wins := p.wins ++ [{ anchor, wlen, claim := f.claim, edge := none }] }

/-! ### Time (R265) -/

/-- A value limited to ± `n`. -/
def limitTo (n : Nat) (x : Int) : Int := clampInt (-(n : Int)) n x

/-- The pod steers its CT64 toward an error: by a step that leaves it within its class bound while it plays no schedule, else by
part of the way. How far is a free value (DESIGN CHOICE, log 2). -/
def State.podSteer (s : State) (p : PodSt) (e : Int) : PodSt × State :=
  let (v, s) := s.draw
  let r := limitTo ((classBound5 (capTACC p.cap.toNat)) / 5) v.toInt
  ({ p with off := p.off + (if p.playing then limitTo e.natAbs v.toInt else e + r) }, s)

/-- A pod stamps a TIME frame whose SOF arrives `sub` ET into the tick, and follows it where it accepts its claim. -/
def State.podTime (s : State) (l : Nat) (b : Bool) (f : LinkFrame) (sub : Nat) : State :=
  if !(s.pod l).on || !downValid f || f.ftype != 1 then s
  else
    let p := (s.pod l).see f.claim b
    let t2 := ctAdd (s.podNow p) sub
    let e := ctDiff (ctAdd (f.data.getD 0 0).toNat ((f.data.getD 1 0).toNat % 2 ^ 24 : Nat)) t2
    let p := p.setPort b { p.port b with tseq := f.tspec % 256, t2 := t2, perr := e }
    if f.claim != p.cacc then s.setPod l p
    else
      let p := p.heard
      let bound := classBound5 (capTACC p.cap.toNat)
      let err := 5 * e.natAbs
      let run := if err ≤ bound then min 4 (p.tlockRun + 1) else 0
      let lost := 2 * bound < err && p.tlock
      let p := { p with tlockRun := run, tlock := if 2 * bound < err then false else p.tlock || run == 4 }
      let p := if lost && p.playing then { p.block with tlockBlk := true } else p
      let p := if p.tlock then { p with tlockBlk := false } else p
      let (p, s) := s.podSteer p e
      s.setPod l p

/-! ### Windows (R267 to R272, R274) -/

/-- The accepted frame that governs a window start: the highest claim, and among equal claims the later one (R268). -/
def governing (ws : List PodWin) : Option PodWin :=
  ws.foldl (fun o w => match o with | some x => if claimHigher x.claim w.claim then some x else some w | none => some w) none

/-- Whether the blocks that need more than an EDGE frame are over (R274). -/
def PodSt.mayLeave (p : PodSt) : Bool := !p.tlockBlk && !p.needCfg

/-- From OCL 2.0 a channel whose levels differ from SLVL turns off at the window start (R270). -/
def PodSt.levelCheck (p : PodSt) (slvl : Nat) : PodSt :=
  if p.ver < 0x20 then p
  else (List.range 8).foldl (fun p c =>
    if p.outs / 4 ^ c % 4 != slvl / 4 ^ c % 4 && !p.chBlk c then { (p.drive (2 * c) false).drive (2 * c + 1) false with lvlerr := true } else p) p

/-- The channels blocked on their own whose latches FLTCLR has cleared start again with both outputs off (R274). -/
def PodSt.freeChans (p : PodSt) : PodSt :=
  (List.range 8).foldl (fun p c =>
    if p.chb.testBit c && !p.desat.testBit c && !p.gdf.testBit c then
      { p with chb := putBit p.chb c false, outs := putBit (putBit p.outs (2 * c) false) (2 * c + 1) false }
    else p) p

/-- The window of an accepted EDGE frame starts (R268, R270, R271, R273, R274). -/
def PodSt.startEdge (p : PodSt) (trip empty : Bool) (slvl : Nat) (recs : List Word) : PodSt :=
  let p := { p with hold := 0, delayed := [] }
  if trip then p.block
  else if p.blocked && !p.mayLeave then p
  else
    let p := if p.blocked then { p with blocked := false, tripped := false, llost := false, outs := 0 }.settleBlocked else p
    let p := p.freeChans.levelCheck slvl
    if empty then { (List.range 16).foldl (fun p o => p.drive o false) p with sched := [], play := [], playing := true }
    else { p with sched := recs, play := recs, playing := true }

/-- A window starts without an EDGE frame: the pod replays, and blocks instead of a ninth replay (R271). -/
def PodSt.replay (p : PodSt) : PodSt :=
  if p.blocked then p else if 8 ≤ p.hold then p.block
  else { p with hold := p.hold + 1, play := p.sched, delayed := [], playing := true }

/-- A pod window starts: at the latest accepted ANCHOR that is due, else WLEN after the start before (R267). -/
def State.podWindow (s : State) (l : Nat) : State :=
  let p := s.pod l
  if !p.on then s
  else
    let t := s.podNow p
    let due := p.wins.filter fun w => ctDiff w.anchor t < 16
    let start := due.foldl (fun a w => match a with | some x => some (if 0 < ctDiff w.anchor x then w.anchor else x) | none => some w.anchor) none
    let p := { p with cPrev := p.cacc, sight := (p.sight.map fun (e : Nat × Bool × Nat) => (e.1, e.2.1, e.2.2 + 1)).filter (·.2.2 < 8) }
    let p := p.accept
    let old := p
    let p := match start with
      | some a =>
        let here := due.filter (·.anchor == a)
        let p := { p with wins := p.wins.filter fun w => 16 ≤ ctDiff w.anchor t, wStart := a }
        (match governing (here.filter (·.edge.isSome)) with
         | some { edge := some (trip, empty, slvl, recs), .. } => p.startEdge trip empty slvl recs
         | _ => p.replay)
      | none => { p with wStart := ctAdd p.wStart p.wLen }.replay
    ((s.setPod l p).podReport l old).periodic l

/-- A record, or a turn-on that the interlock delayed, is played (R268, R269): the records of the window still to come count from
0, the delayed turn-ons after them. -/
def State.podPlay (s : State) (l i : Nat) : State :=
  let p := s.pod l
  if !p.on || p.blocked || !p.playing then s
  else
    let n := p.play.length
    if i < n then
      let w := (p.play.getD i 0).toNat
      let p := { p with play := p.play.eraseIdx i }
      s.setPod l (p.toLevel (s.podNow p) (2 * (w / 2 ^ 24 % 8) + w / 2 ^ 27 % 2) (w.testBit 28))
    else
      match p.delayed[i - n]? with
      | some (o, _) => s.setPod l (({ p with delayed := p.delayed.eraseIdx (i - n) }).toLevel (s.podNow p) o true)
      | none => s

/-! ### TRIP, faults, link loss (R273, R276 to R278) -/

/-- A TRIP block with payload field `f` (Table 1, R276). -/
def State.podTrip (s : State) (l : Nat) (b : Bool) (f : Nat) : State :=
  let claim := f / 2 ^ 40 % 2 ^ 16
  if !(s.pod l).on || f % 2 ^ 40 != 0xA55A9669C3 || claim = 0 then s
  else
    let p := (s.pod l).see claim b
    if claimHigher p.cacc claim then s.setPod l p
    else (s.setPod l { p.block with tripped := true }).podReport l (s.pod l)

/-- Desaturation or a gate-driver fault of a channel (R273). -/
def State.podFault (s : State) (l c : Nat) (gdf : Bool) : State :=
  let old := s.pod l
  if !old.on then s
  else
    let p := if gdf then { old with gdf := old.gdf ||| 2 ^ c, chb := old.chb ||| 2 ^ c } else { old with desat := old.desat ||| 2 ^ c, chb := old.chb ||| 2 ^ c }
    (s.setPod l p.settleBlocked).podReport l old

/-- No frame has been accepted for 500 µs (R277). -/
def State.podLoss (s : State) (l : Nat) : State :=
  if (s.pod l).on then s.setPod l { (s.pod l).block with loss := true, llost := true } else s

/-- The bypass starts to move (R278, R279). -/
def PodSt.moveBypass (p : PodSt) (close : Bool) : PodSt :=
  if p.bypst = (if close then 1 else 0) then p
  else ({ p with bypst := 2, bypClose := close, delayed := [] }).settleBlocked

/-- A sampling instant: a SAMPLE frame on each port; in link loss the sample of VBSRC is compared with VBYP (R278). -/
def State.podSample (s : State) (l slot : Nat) (vs : List (BitVec 16)) (temp : BitVec 16) : State :=
  let p := { s.pod l with temp := temp }
  if !p.on || p.cfg.isEmpty || p.frm ≤ slot then s
  else
    let n := p.smp
    let word (j : Nat) : Word64 := BitVec.ofNat 64 ((List.range 4).foldl (fun v m =>
      v + (if 4 * j + m < n then (vs.getD (4 * j + m) 0).toNat else 0) * 2 ^ (16 * m)) 0)
    let data := BitVec.ofNat 64 (s.podNow p) :: (List.range ((n + 3) / 4)).map word
    let old := s.pod l
    let close := p.loss && p.llbyp && capBYP p.cap.toNat && p.vbsrc < n && (vs.getD p.vbsrc 0).toInt < p.vbyp
    let p := if close then p.moveBypass true else p
    let s := ((s.setPod l p).podSend l false 8 slot data).podSend l true 8 slot data
    s.podReport l old

/-- The bypass switch has finished moving (R274). -/
def State.podBypass (s : State) (l : Nat) (fault : Bool) : State :=
  let old := s.pod l
  if !old.on || old.bypst != 2 then s
  else (s.setPod l { old with bypst := if fault then 3 else b2n old.bypClose }).podReport l old

/-- A pod powers up (R259, R273): its bypass keeps its state; its CT64 is a free value (DESIGN CHOICE, log 2). -/
def State.podPower (s : State) (l : Nat) (cap : Word64) : State :=
  let (v, s) := s.draw
  s.setPod l { pod0 with on := true, cap := cap, off := v.toInt, bypst := (s.pod l).bypst, bypClose := (s.pod l).bypClose }

/-! ### CMD (R255, R261, R281; Table 8) -/

/-- An ACK's data block. -/
def ackData (opc result val : Nat) : Word64 := BitVec.ofNat 64 (val % 2 ^ 32 * 2 ^ 32 + result * 2 ^ 8 + opc)

/-- Whether the pod can apply a configuration (R255, Table 9). -/
def PodSt.takes (p : PodSt) (cfg : List Word64) : Bool :=
  let q := { p with cfg := cfg }
  let cap := p.cap.toNat
  oclVersions.contains q.ver && q.ver ≤ capVMAX cap && 1 ≤ q.smp && q.smp ≤ capNSMP cap && 1 ≤ q.frm && q.frm ≤ capNFRM cap

/-- The CRC-32 that answers a SETCFG. -/
def setcfgCrc (cfg : List Word64) : Nat := (crc32 (cfg.flatMap blockBytes)).toNat

/-- An accepted command is executed: RESULT, DATA and the pod after it. A pod register read gives a free value (DESIGN CHOICE, log 2). -/
def State.podExec (s : State) (p : PodSt) (opc : Nat) (data : List Word64) : Nat × Nat × PodSt × State :=
  let byp := capBYP p.cap.toNat
  if opc = 2 then
    if p.takes data then (0, setcfgCrc data, ({ p with cfg := data, needCfg := false }).settleBlocked, s) else (2, setcfgCrc data, p, s)
  else if opc = 3 then if byp then (0, 0, p.moveBypass true, s) else (1, 0, p, s)
  else if opc = 4 then if byp then (0, 0, p.moveBypass false, s) else (1, 0, p, s)
  else if opc = 5 then (0, 0, { p.block with needCfg := true, wins := [], sched := [], hold := 0 }, s)
  else if opc = 6 then (if 0x11 ≤ p.ver then 0 else 1, 0, p, s)
  else if opc = 7 then if 0x11 ≤ p.ver then let (v, s) := s.draw; (0, v.toNat % 2 ^ 32, p, s) else (1, 0, p, s)
  else (0, 0, ({ p with desat := 0, gdf := 0 }).settleBlocked, s)

/-- Answer a command on the port that carried it. -/
def State.podAck (s : State) (l : Nat) (b : Bool) (seq : Nat) (d : Word64) : State := s.podSend l b 9 (2 ^ 17 + seq) [d]

/-- A pod receives a CMD frame. -/
def State.podCmd (s : State) (l : Nat) (b : Bool) (f : LinkFrame) : State :=
  if !(s.pod l).on || !downValid f || f.ftype != 3 then s
  else
    let p := (s.pod l).see f.claim b
    let opc := f.tspec
    if opc = 1 then
      let p := if f.claim = p.cacc then p.heard else p
      (s.setPod l p).podSend l b 9 (2 ^ 16) [p.cap]
    else if f.claim != p.cacc then
      let r := if opc = 2 then (if p.cfg == f.data then 0 else 3) else 4
      (s.setPod l p).podAck l b f.seq (ackData opc r (if opc = 2 then setcfgCrc f.data else 0))
    else
      let p := p.heard
      let key := (f.seq, opc, f.claim)
      match (p.port b).lastCmd with
      | some (k, d) =>
        if k = key then (s.setPod l p).podAck l b f.seq d
        else
          let (r, v, q, s) := s.podExec p opc f.data
          let d := ackData opc r v
          ((s.setPod l (q.setPort b { q.port b with lastCmd := some (key, d) })).podAck l b f.seq d).podReport l p
      | none =>
        let (r, v, q, s) := s.podExec p opc f.data
        let d := ackData opc r v
        ((s.setPod l (q.setPort b { q.port b with lastCmd := some (key, d) })).podAck l b f.seq d).podReport l p

/-! ### The commands -/

/-- POD_EDGE_FRAME_RX (R268). -/
def execPodEdgeFrameRx (l : Fin 56) (b : Bool) (f : LinkFrame) (s : State) : Host.Outcome State Fault Refusal :=
  .next (settle s (s.podEdge l b f))

/-- POD_WINDOW_START (R271). -/
def execPodWindowStart (l : Fin 56) (s : State) : Host.Outcome State Fault Refusal := .next (settle s (s.podWindow l))

/-- POD_TRIP_RX (R276). -/
def execPodTripRx (l : Fin 56) (b : Bool) (p : BitVec 56) (s : State) : Host.Outcome State Fault Refusal :=
  .next (settle s (s.podTrip l b p.toNat))

/-- POD_TIME_RX (R265). -/
def execPodTimeRx (l : Fin 56) (b : Bool) (f : LinkFrame) (sub : Fin 16) (s : State) : Host.Outcome State Fault Refusal :=
  .next (settle s (s.podTime l b f sub))

/-- POD_CMD_RX (R281). -/
def execPodCmdRx (l : Fin 56) (b : Bool) (f : LinkFrame) (s : State) : Host.Outcome State Fault Refusal :=
  .next (settle s (s.podCmd l b f))

/-- POD_DESAT (R273). -/
def execPodDesat (l : Fin 56) (c : Fin 8) (gdf : Bool) (s : State) : Host.Outcome State Fault Refusal :=
  .next (settle s (s.podFault l c gdf))

/-- POD_LINK_LOSS (R277). -/
def execPodLinkLoss (l : Fin 56) (s : State) : Host.Outcome State Fault Refusal := .next (settle s (s.podLoss l))

/-- POD_SAMPLE (R278). -/
def execPodSample (l : Fin 56) (slot : Fin 8) (vs : List (BitVec 16)) (temp : BitVec 16) (s : State) : Host.Outcome State Fault Refusal :=
  .next (settle s (s.podSample l slot vs temp))

/-- POD_EDGE_PLAY (R268). -/
def execPodEdgePlay (l : Fin 56) (i : Fin 256) (s : State) : Host.Outcome State Fault Refusal := .next (settle s (s.podPlay l i))

/-- POD_KEEP_RX (R267). -/
def execPodKeepRx (l : Fin 56) (b : Bool) (f : LinkFrame) (s : State) : Host.Outcome State Fault Refusal :=
  .next (settle s (s.podKeep l b f))

/-- POD_BYPASS_COMPLETE (R274). -/
def execPodBypassComplete (l : Fin 56) (fault : Bool) (s : State) : Host.Outcome State Fault Refusal :=
  .next (settle s (s.podBypass l fault))

/-- POD_POWER_UP (R273). -/
def execPodPowerUp (l : Fin 56) (cap : Word64) (s : State) : Host.Outcome State Fault Refusal := .next (settle s (s.podPower l cap))

end Sys2Proof.Machine
end

