-- ==== Sys2Proof/Machine/Dispatch.lean ====
section
/-! DEFINITION. Machine/Dispatch.lean: the meaning of each command, one arm for each constructor of Instr. -/
namespace Sys2Proof.Machine

def exec (i : Instr) (s : State) : Host.Outcome State Fault Refusal :=
  match i with
  | .vauxValid => Sys2Proof.Machine.execVauxValid s
  | .railStart => Sys2Proof.Machine.execRailStart s
  | .railPowerGood straps => Sys2Proof.Machine.execRailPowerGood straps s
  | .pmuUpComplete => Sys2Proof.Machine.execPmuUpComplete s
  | .sequenceFault pll => Sys2Proof.Machine.execSequenceFault pll s
  | .railFault r => Sys2Proof.Machine.execRailFault r s
  | .pmuRetry => Sys2Proof.Machine.execPmuRetry s
  | .uvlo => Sys2Proof.Machine.execUvlo s
  | .vauxOvervoltage => Sys2Proof.Machine.execVauxOvervoltage s
  | .pfailWarning => Sys2Proof.Machine.execPfailWarning s
  | .pfailClear => Sys2Proof.Machine.execPfailClear s
  | .vgdWindowChange bad => Sys2Proof.Machine.execVgdWindowChange bad s
  | .vgdCurrentLimit on => Sys2Proof.Machine.execVgdCurrentLimit on s
  | .vgdLockout => Sys2Proof.Machine.execVgdLockout s
  | .vgdLockoutRelease => Sys2Proof.Machine.execVgdLockoutRelease s
  | .pllBandSearchDone band => Sys2Proof.Machine.execPllBandSearchDone band s
  | .pllLock => Sys2Proof.Machine.execPllLock s
  | .pllUnlock => Sys2Proof.Machine.execPllUnlock s
  | .referenceLoss => Sys2Proof.Machine.execReferenceLoss s
  | .referenceReturn inBand => Sys2Proof.Machine.execReferenceReturn inBand s
  | .pllCoastLimit => Sys2Proof.Machine.execPllCoastLimit s
  | .lcPllUnlock b => Sys2Proof.Machine.execLcPllUnlock b s
  | .tempRoundEnd ts => Sys2Proof.Machine.execTempRoundEnd ts s
  | .thermistorMeasure n r => Sys2Proof.Machine.execThermistorMeasure n r s
  | .thermalRestart => Sys2Proof.Machine.execThermalRestart s
  | .rstNAssert => Sys2Proof.Machine.execRstNAssert s
  | .rstNRelease => Sys2Proof.Machine.execRstNRelease s
  | .rstNStuck => Sys2Proof.Machine.execRstNStuck s
  | .rstNIgnoreEnd => Sys2Proof.Machine.execRstNIgnoreEnd s
  | .watchdogExpiry announce => Sys2Proof.Machine.execWatchdogExpiry announce s
  | .bootSequence lockstep safe otp sto => Sys2Proof.Machine.execBootSequence lockstep safe otp sto s
  | .fltIdxWrite m b v => Sys2Proof.Machine.execFltIdxWrite m b v s
  | .sourceWordWrite m b v => Sys2Proof.Machine.execSourceWordWrite m b v s
  | .captureClear m b v => Sys2Proof.Machine.execCaptureClear m b v s
  | .registerWrite m a v => Sys2Proof.Machine.execRegisterWrite m a v s
  | .readClear m a => Sys2Proof.Machine.execReadClear m a s
  | .wideLowRead m a => Sys2Proof.Machine.execWideLowRead m a s
  | .wideLowWrite m a v => Sys2Proof.Machine.execWideLowWrite m a v s
  | .unmappedAccess m a w v => Sys2Proof.Machine.execUnmappedAccess m a w v s
  | .debugAccess a w v size => Sys2Proof.Machine.execDebugAccess a w v size s
  | .resultWordRead m n => Sys2Proof.Machine.execResultWordRead m n s
  | .logMemoryRead m a => Sys2Proof.Machine.execLogMemoryRead m a s
  | .chronoLoad m v => Sys2Proof.Machine.execChronoLoad m v s
  | .chronoTrimWrite m v => Sys2Proof.Machine.execChronoTrimWrite m v s
  | .syncExchangeStart => Sys2Proof.Machine.execSyncExchangeStart s
  | .timeReqRx p f sub => Sys2Proof.Machine.execTimeReqRx p f sub s
  | .timeRespRx p f sub => Sys2Proof.Machine.execTimeRespRx p f sub s
  | .exchangeTimeout p => Sys2Proof.Machine.execExchangeTimeout p s
  | .sextEnable m v => Sys2Proof.Machine.execSextEnable m v s
  | .sextDisable m v => Sys2Proof.Machine.execSextDisable m v s
  | .sextConfigWrite m r v => Sys2Proof.Machine.execSextConfigWrite m r v s
  | .sextantUpdate => Sys2Proof.Machine.execSextantUpdate s
  | .periodBoundary => Sys2Proof.Machine.execPeriodBoundary s
  | .engineStart => Sys2Proof.Machine.execEngineStart s
  | .blockComplete => Sys2Proof.Machine.execBlockComplete s
  | .deadline => Sys2Proof.Machine.execDeadline s
  | .engTimingWrite m v => Sys2Proof.Machine.execEngTimingWrite m v s
  | .engSpageVWrite m v => Sys2Proof.Machine.execEngSpageVWrite m v s
  | .engSpageSWrite m v => Sys2Proof.Machine.execEngSpageSWrite m v s
  | .engineEnable m v => Sys2Proof.Machine.execEngineEnable m v s
  | .engineDisable m v => Sys2Proof.Machine.execEngineDisable m v s
  | .claimDeferredServe => Sys2Proof.Machine.execClaimDeferredServe s
  | .vnop => Sys2Proof.Machine.execVnop s
  | .vadd vd va vb k => Sys2Proof.Machine.execVadd vd va vb k s
  | .vsub vd va vb k => Sys2Proof.Machine.execVsub vd va vb k s
  | .vneg vd va k => Sys2Proof.Machine.execVneg vd va k s
  | .vabs vd va k => Sys2Proof.Machine.execVabs vd va k s
  | .vmul vd va vb k => Sys2Proof.Machine.execVmul vd va vb k s
  | .vmuls vd va sx k => Sys2Proof.Machine.execVmuls vd va sx k s
  | .vmax vd va vb k => Sys2Proof.Machine.execVmax vd va vb k s
  | .vmin vd va vb k => Sys2Proof.Machine.execVmin vd va vb k s
  | .vand vd va vb k => Sys2Proof.Machine.execVand vd va vb k s
  | .vor vd va vb k => Sys2Proof.Machine.execVor vd va vb k s
  | .vxor vd va vb k => Sys2Proof.Machine.execVxor vd va vb k s
  | .vshl vd va n k => Sys2Proof.Machine.execVshl vd va n k s
  | .vshr vd va n k => Sys2Proof.Machine.execVshr vd va n k s
  | .vmov vd va k => Sys2Proof.Machine.execVmov vd va k s
  | .vsel vd va vb kc k => Sys2Proof.Machine.execVsel vd va vb kc k s
  | .vcmp kd cc scalar va vb sx k => Sys2Proof.Machine.execVcmp kd cc scalar va vb sx k s
  | .vsplat vd imm k => Sys2Proof.Machine.execVsplat vd imm k s
  | .vmpy ad va vb k => Sys2Proof.Machine.execVmpy ad va vb k s
  | .vmac ad va vb k => Sys2Proof.Machine.execVmac ad va vb k s
  | .vmsb ad va vb k => Sys2Proof.Machine.execVmsb ad va vb k s
  | .vmacs ad va sx k => Sys2Proof.Machine.execVmacs ad va sx k s
  | .vacc ad va k => Sys2Proof.Machine.execVacc ad va k s
  | .vaz ad k => Sys2Proof.Machine.execVaz ad k s
  | .vawb vd aa l k => Sys2Proof.Machine.execVawb vd aa l k s
  | .ast vd aa k => Sys2Proof.Machine.execAst vd aa k s
  | .ald ad va k => Sys2Proof.Machine.execAld ad va k s
  | .vetm p va sx wrap k => Sys2Proof.Machine.execVetm p va sx wrap k s
  | .vrecip vd va l k => Sys2Proof.Machine.execVrecip vd va l k s
  | .vsqrt vd va k => Sys2Proof.Machine.execVsqrt vd va k s
  | .vsincos p va sx k => Sys2Proof.Machine.execVsincos p va sx k s
  | .mnop => Sys2Proof.Machine.execMnop s
  | .endWord => Sys2Proof.Machine.execEndWord s
  | .vld v am sb row k => Sys2Proof.Machine.execVld v am sb row k s
  | .vst v am sb row k => Sys2Proof.Machine.execVst v am sb row k s
  | .sld r am sb off => Sys2Proof.Machine.execSld r am sb off s
  | .sst r am sb off => Sys2Proof.Machine.execSst r am sb off s
  | .kld kd am sb off => Sys2Proof.Machine.execKld kd am sb off s
  | .kst ks am sb off => Sys2Proof.Machine.execKst ks am sb off s
  | .vlut vd va sb m sgn k => Sys2Proof.Machine.execVlut vd va sb m sgn k s
  | .lutb vd va sb kd k => Sys2Proof.Machine.execLutb vd va sb kd k s
  | .vrank vd va ke desc k => Sys2Proof.Machine.execVrank vd va ke desc k s
  | .vrsum sd va k => Sys2Proof.Machine.execVrsum sd va k s
  | .vrmax sd va k => Sys2Proof.Machine.execVrmax sd va k s
  | .vrmin sd va k => Sys2Proof.Machine.execVrmin sd va k s
  | .vrot vd va n k => Sys2Proof.Machine.execVrot vd va n k s
  | .vbcast vd src k => Sys2Proof.Machine.execVbcast vd src k s
  | .vgath vd va vb k => Sys2Proof.Machine.execVgath vd va vb k s
  | .vext sd va j => Sys2Proof.Machine.execVext sd va j s
  | .vins vd sb j k => Sys2Proof.Machine.execVins vd sb j k s
  | .kmov kd ka => Sys2Proof.Machine.execKmov kd ka s
  | .kand kd ka kb => Sys2Proof.Machine.execKand kd ka kb s
  | .kor kd ka kb => Sys2Proof.Machine.execKor kd ka kb s
  | .kxor kd ka kb => Sys2Proof.Machine.execKxor kd ka kb s
  | .kandn kd ka kb => Sys2Proof.Machine.execKandn kd ka kb s
  | .knot kd ka => Sys2Proof.Machine.execKnot kd ka s
  | .smov sd sa => Sys2Proof.Machine.execSmov sd sa s
  | .saddI sd sa sb => Sys2Proof.Machine.execSaddI sd sa sb s
  | .ssubI sd sa sb => Sys2Proof.Machine.execSsubI sd sa sb s
  | .saddQ sd sa sb => Sys2Proof.Machine.execSaddQ sd sa sb s
  | .ssubQ sd sa sb => Sys2Proof.Machine.execSsubQ sd sa sb s
  | .smulI sd sa sb => Sys2Proof.Machine.execSmulI sd sa sb s
  | .smulQ sd sa sb => Sys2Proof.Machine.execSmulQ sd sa sb s
  | .sand sd sa sb => Sys2Proof.Machine.execSand sd sa sb s
  | .sor sd sa sb => Sys2Proof.Machine.execSor sd sa sb s
  | .sxor sd sa sb => Sys2Proof.Machine.execSxor sd sa sb s
  | .sshl sd sa n => Sys2Proof.Machine.execSshl sd sa n s
  | .sshra sd sa n => Sys2Proof.Machine.execSshra sd sa n s
  | .sshrl sd sa n => Sys2Proof.Machine.execSshrl sd sa n s
  | .smin sd sa sb => Sys2Proof.Machine.execSmin sd sa sb s
  | .smax sd sa sb => Sys2Proof.Machine.execSmax sd sa sb s
  | .ssat16 sd sa => Sys2Proof.Machine.execSsat16 sd sa s
  | .slil sd imm => Sys2Proof.Machine.execSlil sd imm s
  | .slih sd imm => Sys2Proof.Machine.execSlih sd imm s
  | .srecip sd sa l => Sys2Proof.Machine.execSrecip sd sa l s
  | .sget sd src => Sys2Proof.Machine.execSget sd src s
  | .mwr p tgt fld k => Sys2Proof.Machine.execMwr p tgt fld k s
  | .ldall groups => Sys2Proof.Machine.execLdall groups s
  | .rsst vs row k => Sys2Proof.Machine.execRsst vs row k s
  | .flgclr fmask k => Sys2Proof.Machine.execFlgclr fmask k s
  | .flgk kd f ka => Sys2Proof.Machine.execFlgk kd f ka s
  | .almanacListStart b => Sys2Proof.Machine.execAlmanacListStart b s
  | .idleListStart b => Sys2Proof.Machine.execIdleListStart b s
  | .logCapture => Sys2Proof.Machine.execLogCapture s
  | .logForce m v => Sys2Proof.Machine.execLogForce m v s
  | .channelEnable m c v => Sys2Proof.Machine.execChannelEnable m c v s
  | .channelDisable m c v => Sys2Proof.Machine.execChannelDisable m c v s
  | .modCfgWrite m c v => Sys2Proof.Machine.execModCfgWrite m c v s
  | .shadowWrite m c r v => Sys2Proof.Machine.execShadowWrite m c r v s
  | .groupLoadArm m v => Sys2Proof.Machine.execGroupLoadArm m v s
  | .modRefWrite m r v => Sys2Proof.Machine.execModRefWrite m r v s
  | .gridPoint c => Sys2Proof.Machine.execGridPoint c s
  | .localEdgeOutput => Sys2Proof.Machine.execLocalEdgeOutput s
  | .oclLaneEnable m hi v => Sys2Proof.Machine.execOclLaneEnable m hi v s
  | .oclLaneDisable m hi v => Sys2Proof.Machine.execOclLaneDisable m hi v s
  | .capqSend l => Sys2Proof.Machine.execCapqSend l s
  | .statusCapRx l f => Sys2Proof.Machine.execStatusCapRx l f s
  | .setcfgResend l => Sys2Proof.Machine.execSetcfgResend l s
  | .statusAckRx l f => Sys2Proof.Machine.execStatusAckRx l f s
  | .statusPeriodicRx l f sub => Sys2Proof.Machine.execStatusPeriodicRx l f sub s
  | .foreignDetect l => Sys2Proof.Machine.execForeignDetect l s
  | .sampleRx l f => Sys2Proof.Machine.execSampleRx l f s
  | .inboxCommit => Sys2Proof.Machine.execInboxCommit s
  | .keepStoppedSend => Sys2Proof.Machine.execKeepStoppedSend s
  | .cmdRetransmit l => Sys2Proof.Machine.execCmdRetransmit l s
  | .laneCommand m v => Sys2Proof.Machine.execLaneCommand m v s
  | .laneRetry m l v => Sys2Proof.Machine.execLaneRetry m l v s
  | .podEdgeFrameRx l b f => Sys2Proof.Machine.execPodEdgeFrameRx l b f s
  | .podWindowStart l => Sys2Proof.Machine.execPodWindowStart l s
  | .podTripRx l b p => Sys2Proof.Machine.execPodTripRx l b p s
  | .podTimeRx l b f sub => Sys2Proof.Machine.execPodTimeRx l b f sub s
  | .podCmdRx l b f => Sys2Proof.Machine.execPodCmdRx l b f s
  | .podDesat l c gdf => Sys2Proof.Machine.execPodDesat l c gdf s
  | .podLinkLoss l => Sys2Proof.Machine.execPodLinkLoss l s
  | .laneEnable m l v => Sys2Proof.Machine.execLaneEnable m l v s
  | .laneDisable m l v => Sys2Proof.Machine.execLaneDisable m l v s
  | .cdrLock l => Sys2Proof.Machine.execCdrLock l s
  | .cdrLoss l => Sys2Proof.Machine.execCdrLoss l s
  | .huntLock l => Sys2Proof.Machine.execHuntLock l s
  | .huntFail l => Sys2Proof.Machine.execHuntFail l s
  | .polarityConfirm l => Sys2Proof.Machine.execPolarityConfirm l s
  | .polarityInvert l => Sys2Proof.Machine.execPolarityInvert l s
  | .poltestTimeout l => Sys2Proof.Machine.execPoltestTimeout l s
  | .blockLockLoss l => Sys2Proof.Machine.execBlockLockLoss l s
  | .alignMarkerSend p => Sys2Proof.Machine.execAlignMarkerSend p s
  | .alignMarkerRx p m0 m1 skew => Sys2Proof.Machine.execAlignMarkerRx p m0 m1 skew s
  | .eqStep l => Sys2Proof.Machine.execEqStep l s
  | .eyeStart m l v => Sys2Proof.Machine.execEyeStart m l v s
  | .eyeDone l n => Sys2Proof.Machine.execEyeDone l n s
  | .hostPcsUp hs1 => Sys2Proof.Machine.execHostPcsUp hs1 s
  | .beaconSend => Sys2Proof.Machine.execBeaconSend s
  | .beaconRx p f => Sys2Proof.Machine.execBeaconRx p f s
  | .beaconExpiry id => Sys2Proof.Machine.execBeaconExpiry id s
  | .ringHelloSend p => Sys2Proof.Machine.execRingHelloSend p s
  | .ringHelloRx p f => Sys2Proof.Machine.execRingHelloRx p f s
  | .insertTimeout p => Sys2Proof.Machine.execInsertTimeout p s
  | .schedRx p f => Sys2Proof.Machine.execSchedRx p f s
  | .fixRx p f => Sys2Proof.Machine.execFixRx p f s
  | .fixLatch b => Sys2Proof.Machine.execFixLatch b s
  | .guarDataRx p f => Sys2Proof.Machine.execGuarDataRx p f s
  | .guarAckRx p f => Sys2Proof.Machine.execGuarAckRx p f s
  | .guarRetransmit dst seq => Sys2Proof.Machine.execGuarRetransmit dst seq s
  | .logExportRx p f => Sys2Proof.Machine.execLogExportRx p f s
  | .logGapRequestRx p f => Sys2Proof.Machine.execLogGapRequestRx p f s
  | .twinHelloSend => Sys2Proof.Machine.execTwinHelloSend s
  | .twinHelloRx f => Sys2Proof.Machine.execTwinHelloRx f s
  | .hbStoppedSend => Sys2Proof.Machine.execHbStoppedSend s
  | .hbRx f => Sys2Proof.Machine.execHbRx f s
  | .twinLost => Sys2Proof.Machine.execTwinLost s
  | .twinWaitExpiry => Sys2Proof.Machine.execTwinWaitExpiry s
  | .mstateRx f => Sys2Proof.Machine.execMstateRx f s
  | .mrowsRx f => Sys2Proof.Machine.execMrowsRx f s
  | .mmodRx f => Sys2Proof.Machine.execMmodRx f s
  | .mendRx f => Sys2Proof.Machine.execMendRx f s
  | .jrnlRx f => Sys2Proof.Machine.execJrnlRx f s
  | .jrnlResend pos => Sys2Proof.Machine.execJrnlResend pos s
  | .jackRx f => Sys2Proof.Machine.execJackRx f s
  | .ckptSend n => Sys2Proof.Machine.execCkptSend n s
  | .ckptRx f => Sys2Proof.Machine.execCkptRx f s
  | .ckackRx f => Sys2Proof.Machine.execCkackRx f s
  | .yieldRx f => Sys2Proof.Machine.execYieldRx f s
  | .swapRx f => Sys2Proof.Machine.execSwapRx f s
  | .jsyncRx f => Sys2Proof.Machine.execJsyncRx f s
  | .adcEnable m v => Sys2Proof.Machine.execAdcEnable m v s
  | .adcDisable m v => Sys2Proof.Machine.execAdcDisable m v s
  | .listStartHost m v => Sys2Proof.Machine.execListStartHost m v s
  | .entryStart n => Sys2Proof.Machine.execEntryStart n s
  | .conversionResult e vs => Sys2Proof.Machine.execConversionResult e vs s
  | .injectTriggerHost m v => Sys2Proof.Machine.execInjectTriggerHost m v s
  | .injectPending j => Sys2Proof.Machine.execInjectPending j s
  | .injectClaim j => Sys2Proof.Machine.execInjectClaim j s
  | .injectStart j => Sys2Proof.Machine.execInjectStart j s
  | .entryRestart n => Sys2Proof.Machine.execEntryRestart n s
  | .swapDue => Sys2Proof.Machine.execSwapDue s
  | .swapStart => Sys2Proof.Machine.execSwapStart s
  | .swapWindowEnd => Sys2Proof.Machine.execSwapWindowEnd s
  | .calibrationDone ofs gain => Sys2Proof.Machine.execCalibrationDone ofs gain s
  | .sliceRetire m v => Sys2Proof.Machine.execSliceRetire m v s
  | .sdfEnable m n v => Sys2Proof.Machine.execSdfEnable m n v s
  | .sdfResult n sum => Sys2Proof.Machine.execSdfResult n sum s
  | .sdfStuck n => Sys2Proof.Machine.execSdfStuck n s
  | .sdfStuckEnd n => Sys2Proof.Machine.execSdfStuckEnd n s
  | .comparatorAssert n hi lo => Sys2Proof.Machine.execComparatorAssert n hi lo s
  | .comparatorDeassert n hi lo => Sys2Proof.Machine.execComparatorDeassert n hi lo s
  | .latchClear m v => Sys2Proof.Machine.execLatchClear m v s
  | .cmpCfgWrite m n v => Sys2Proof.Machine.execCmpCfgWrite m n v s
  | .comparatorTest m v => Sys2Proof.Machine.execComparatorTest m v s
  | .testSample hi lo => Sys2Proof.Machine.execTestSample hi lo s
  | .testSettleEnd hi lo => Sys2Proof.Machine.execTestSettleEnd hi lo s
  | .tripinChange n level => Sys2Proof.Machine.execTripinChange n level s
  | .tripinLatchClear m v => Sys2Proof.Machine.execTripinLatchClear m v s
  | .tripMaskWrite m t v => Sys2Proof.Machine.execTripMaskWrite m t v s
  | .gateHoldEnd a => Sys2Proof.Machine.execGateHoldEnd a s
  | .auxInputChange a p level => Sys2Proof.Machine.execAuxInputChange a p level s
  | .vbsMeasure a v2 v1 v0 => Sys2Proof.Machine.execVbsMeasure a v2 v1 v0 s
  | .overcurrentDetect a legs => Sys2Proof.Machine.execOvercurrentDetect a legs s
  | .slopeDetect a legs => Sys2Proof.Machine.execSlopeDetect a legs s
  | .softTurnoffEnd a => Sys2Proof.Machine.execSoftTurnoffEnd a s
  | .auxFaultClear m a v => Sys2Proof.Machine.execAuxFaultClear m a v s
  | .vmConversion v => Sys2Proof.Machine.execVmConversion v s
  | .brakeLimit => Sys2Proof.Machine.execBrakeLimit s
  | .brakeWindowEnd => Sys2Proof.Machine.execBrakeWindowEnd s
  | .hallEnable m a v => Sys2Proof.Machine.execHallEnable m a v s
  | .hallChange a code => Sys2Proof.Machine.execHallChange a code s
  | .hallClear m v => Sys2Proof.Machine.execHallClear m v s
  | .speedWindowEnd a => Sys2Proof.Machine.execSpeedWindowEnd a s
  | .homeEdge a level => Sys2Proof.Machine.execHomeEdge a level s
  | .sinChange n b level => Sys2Proof.Machine.execSinChange n b level s
  | .discrepancyStrobe => Sys2Proof.Machine.execDiscrepancyStrobe s
  | .safeKeyWrite m v => Sys2Proof.Machine.execSafeKeyWrite m v s
  | .safeCrcCheck => Sys2Proof.Machine.execSafeCrcCheck s
  | .safeOscFail => Sys2Proof.Machine.execSafeOscFail s
  | .stoPeriodicTest a => Sys2Proof.Machine.execStoPeriodicTest a s
  | .stoTestEnd a opened => Sys2Proof.Machine.execStoTestEnd a opened s
  | .soutRequestWrite m v => Sys2Proof.Machine.execSoutRequestWrite m v s
  | .soutPulseStart n => Sys2Proof.Machine.execSoutPulseStart n s
  | .soutPulseEnd n rb => Sys2Proof.Machine.execSoutPulseEnd n rb s
  | .soutOvercurrent n => Sys2Proof.Machine.execSoutOvercurrent n s
  | .qspiWrframe h opc body => Sys2Proof.Machine.execQspiWrframe h opc body s
  | .qspiRdstat => Sys2Proof.Machine.execQspiRdstat s
  | .qspiRdframe complete => Sys2Proof.Machine.execQspiRdframe complete s
  | .read h body => Sys2Proof.Machine.execRead h body s
  | .write h body => Sys2Proof.Machine.execWrite h body s
  | .modify h body => Sys2Proof.Machine.execModify h body s
  | .status h body => Sys2Proof.Machine.execStatus h body s
  | .loadProgram h body => Sys2Proof.Machine.execLoadProgram h body s
  | .loadAlmanac h body => Sys2Proof.Machine.execLoadAlmanac h body s
  | .swapBank h body => Sys2Proof.Machine.execSwapBank h body s
  | .setMode h body => Sys2Proof.Machine.execSetMode h body s
  | .arm h body => Sys2Proof.Machine.execArm h body s
  | .run h body => Sys2Proof.Machine.execRun h body s
  | .block h body => Sys2Proof.Machine.execBlock h body s
  | .release h body => Sys2Proof.Machine.execRelease h body s
  | .fixCmd h body => Sys2Proof.Machine.execFixCmd h body s
  | .fixRead h body => Sys2Proof.Machine.execFixRead h body s
  | .logArm h body => Sys2Proof.Machine.execLogArm h body s
  | .logRead h body => Sys2Proof.Machine.execLogRead h body s
  | .calAdc h body => Sys2Proof.Machine.execCalAdc h body s
  | .cfgCommit h body => Sys2Proof.Machine.execCfgCommit h body s
  | .offdiag h body => Sys2Proof.Machine.execOffdiag h body s
  | .safeReset h body => Sys2Proof.Machine.execSafeReset h body s
  | .proofSwap h body => Sys2Proof.Machine.execProofSwap h body s
  | .reset h body => Sys2Proof.Machine.execReset h body s
  | .eventAck h body => Sys2Proof.Machine.execEventAck h body s
  | .journalRead h body => Sys2Proof.Machine.execJournalRead h body s
  | .updOpen h body => Sys2Proof.Machine.execUpdOpen h body s
  | .updChunk h body => Sys2Proof.Machine.execUpdChunk h body s
  | .updStatus h body => Sys2Proof.Machine.execUpdStatus h body s
  | .updRelay h body => Sys2Proof.Machine.execUpdRelay h body s
  | .updActivate h body => Sys2Proof.Machine.execUpdActivate h body s
  | .updConfirm h body => Sys2Proof.Machine.execUpdConfirm h body s
  | .updAbort h body => Sys2Proof.Machine.execUpdAbort h body s
  | .commandStart => Sys2Proof.Machine.execCommandStart s
  | .operationStep n rd sto => Sys2Proof.Machine.execOperationStep n rd sto s
  | .nvmWriteComplete => Sys2Proof.Machine.execNvmWriteComplete s
  | .eventResend f => Sys2Proof.Machine.execEventResend f s
  | .updAgeMinute => Sys2Proof.Machine.execUpdAgeMinute s
  | .relayChunkSend => Sys2Proof.Machine.execRelayChunkSend s
  | .rchunkRx p f => Sys2Proof.Machine.execRchunkRx p f s
  | .rackRx p f => Sys2Proof.Machine.execRackRx p f s
  | .relayResend c => Sys2Proof.Machine.execRelayResend c s
  | .activationReset => Sys2Proof.Machine.execActivationReset s
  | .trialConfirm => Sys2Proof.Machine.execTrialConfirm s
  | .trialWindowEnd => Sys2Proof.Machine.execTrialWindowEnd s
  | .otpCheck bad => Sys2Proof.Machine.execOtpCheck bad s
  | .keyRevoke m v => Sys2Proof.Machine.execKeyRevoke m v s
  | .lockstepMismatch => Sys2Proof.Machine.execLockstepMismatch s
  | .lcPllLock b band => Sys2Proof.Machine.execLcPllLock b band s
  | .hostPcsDown hs1 => Sys2Proof.Machine.execHostPcsDown hs1 s
  | .vauxBelow5v => Sys2Proof.Machine.execVauxBelow5v s
  | .soutReadbackChange n rb => Sys2Proof.Machine.execSoutReadbackChange n rb s
  | .podSample l slot vs temp => Sys2Proof.Machine.execPodSample l slot vs temp s
  | .podEdgePlay l e => Sys2Proof.Machine.execPodEdgePlay l e s
  | .podKeepRx l b f => Sys2Proof.Machine.execPodKeepRx l b f s
  | .podBypassComplete l fault => Sys2Proof.Machine.execPodBypassComplete l fault s
  | .podPowerUp l cap => Sys2Proof.Machine.execPodPowerUp l cap s

end Sys2Proof.Machine
end

