-- ==== Sys2Proof/Machine/Step.lean ====
section
/-! DEFINITION. Machine/Step.lean: one step of the block: the command at the front of the queue, or a common tick where none waits. -/
namespace Sys2Proof.Machine

/-- One step: the command at the front of the queue acts on the state with the rest of the queue; on an empty queue a common tick of
5 ns passes (02 R39; DESIGN CHOICE, log 52). -/
def step (s : State) : Host.Outcome State Fault Refusal :=
  match s.pending with
  | [] => .next (settle s s.tick)
  | c :: rest => exec c { s with pending := rest }

/-- The state with the command that a table word spells put at the front of its queue; no word spells one. -/
def State.withFetchWord (s : State) (nbits w : Nat) : State :=
  match decodeTableWord nbits w with
  | some c => { s with pending := c :: s.pending }
  | none => s

end Sys2Proof.Machine
end

