-- ==== Sys2Proof/Safety.lean ====
section
/-! DEFINITION. Safety.lean: what claims call a safe state of the outputs, and runs of the block. -/
namespace Sys2Proof.Machine

/-- The gate of one side of auxiliary leg `k` is on. -/
def State.gateOn (s : State) (k : Nat) (high : Bool) : Bool := s.axd.gates.testBit (2 * k + (if high then 0 else 1))

/-- No leg has both its gates on (12 R441). -/
def State.noShootThrough (s : State) : Prop := ∀ k, k < 9 → ¬ (s.gateOn k true = true ∧ s.gateOn k false = true)

/-- A channel whose gates a level above 4 of 12 Table 3 holds has none of them on (12 R438, R440, R443). -/
def State.heldGatesOff (s : State) : Prop :=
  ∀ k, k < 9 → s.gatesHeld (k / 3) = true → s.gateOn k true = false ∧ s.gateOn k false = false

/-- The states that runs of the block from `s` reach, with commands arriving between steps in any order. -/
inductive Reach (s : State) : State → Prop where
  | start : Reach s s
  | arrive {t : State} (c : Instr) : Reach s t → Reach s { t with pending := t.pending ++ [c] }
  | step {t u : State} : Reach s t → step t = .next u → Reach s u

end Sys2Proof.Machine
end

