-- ==== Sys2Proof/WellFormed.lean ====
section
/-! DEFINITION. WellFormed.lean: which terms of `Instr` stand for a command that can reach the device. Most operands cannot be written out
of range; the fields of frames, the bodies of host commands and the readings of a round can. `exec` does not ask: a term that fails
here is no event of the hardware, and what `exec` makes of it says nothing (DESIGN CHOICE, log 51). -/
namespace Sys2Proof

/-- The header fields of a link frame fit (07 Table 3), and a frame that passed the receiver's checks has LEN data blocks (07 R248). -/
def LinkFrame.wf (f : LinkFrame) : Bool :=
  f.ftype < 16 && f.claim < 2 ^ 16 && f.seq < 256 && f.len < 1024 && f.tspec < 2 ^ 18 && (!f.ok || f.data.length == f.len)

/-- The header fields of a ring frame fit (09 Table 1), and a good frame has LEN data blocks. -/
def RingFrame.wf (f : RingFrame) : Bool :=
  f.cls < 8 && f.src < 512 && f.dst < 512 && f.ttl < 512 && f.len < 1024 && f.cspec < 2 ^ 15 && (!f.ok || f.data.length == f.len)

/-- LEN of a host frame fits its field, and a frame that has arrived whole carries a body of LEN bytes (16 Table 2). -/
def hostWf (h : HostHdr) (body : List Word) : Bool :=
  h.len < 2 ^ 16 && (!h.crcOk || h.avail < 20 + h.len || 4 * body.length == h.len / 4 * 4)

/-- Whether the operands lie in the ranges that the spec gives them. -/
def Instr.wf (i : Instr) : Bool :=
  match i with
  | .vauxValid => true
  | .railStart => true
  | .railPowerGood _ => true
  | .pmuUpComplete => true
  | .sequenceFault _ => true
  | .railFault _ => true
  | .pmuRetry => true
  | .uvlo => true
  | .vauxOvervoltage => true
  | .pfailWarning => true
  | .pfailClear => true
  | .vgdWindowChange _ => true
  | .vgdCurrentLimit _ => true
  | .vgdLockout => true
  | .vgdLockoutRelease => true
  | .pllBandSearchDone _ => true
  | .pllLock => true
  | .pllUnlock => true
  | .referenceLoss => true
  | .referenceReturn _ => true
  | .pllCoastLimit => true
  | .lcPllUnlock _ => true
  | .tempRoundEnd ts => ts.length == 12
  | .thermistorMeasure _ _ => true
  | .thermalRestart => true
  | .rstNAssert => true
  | .rstNRelease => true
  | .rstNStuck => true
  | .rstNIgnoreEnd => true
  | .watchdogExpiry _ => true
  | .bootSequence _ _ _ _ => true
  | .fltIdxWrite _ _ _ => true
  | .sourceWordWrite _ _ _ => true
  | .captureClear _ _ _ => true
  | .registerWrite _ _ _ => true
  | .readClear _ _ => true
  | .wideLowRead _ _ => true
  | .wideLowWrite _ _ _ => true
  | .unmappedAccess _ _ _ _ => true
  | .debugAccess _ _ _ _ => true
  | .resultWordRead _ _ => true
  | .logMemoryRead _ _ => true
  | .chronoLoad _ _ => true
  | .chronoTrimWrite _ _ => true
  | .syncExchangeStart => true
  | .timeReqRx _ f _ => f.wf
  | .timeRespRx _ f _ => f.wf
  | .exchangeTimeout _ => true
  | .sextEnable _ _ => true
  | .sextDisable _ _ => true
  | .sextConfigWrite _ _ _ => true
  | .sextantUpdate => true
  | .periodBoundary => true
  | .engineStart => true
  | .blockComplete => true
  | .deadline => true
  | .engTimingWrite _ _ => true
  | .engSpageVWrite _ _ => true
  | .engSpageSWrite _ _ => true
  | .engineEnable _ _ => true
  | .engineDisable _ _ => true
  | .claimDeferredServe => true
  | .vnop => true
  | .vadd _ _ _ _ => true
  | .vsub _ _ _ _ => true
  | .vneg _ _ _ => true
  | .vabs _ _ _ => true
  | .vmul _ _ _ _ => true
  | .vmuls _ _ _ _ => true
  | .vmax _ _ _ _ => true
  | .vmin _ _ _ _ => true
  | .vand _ _ _ _ => true
  | .vor _ _ _ _ => true
  | .vxor _ _ _ _ => true
  | .vshl _ _ _ _ => true
  | .vshr _ _ _ _ => true
  | .vmov _ _ _ => true
  | .vsel _ _ _ _ _ => true
  | .vcmp _ _ _ _ _ _ _ => true
  | .vsplat _ _ _ => true
  | .vmpy _ _ _ _ => true
  | .vmac _ _ _ _ => true
  | .vmsb _ _ _ _ => true
  | .vmacs _ _ _ _ => true
  | .vacc _ _ _ => true
  | .vaz _ _ => true
  | .vawb _ _ _ _ => true
  | .ast _ _ _ => true
  | .ald _ _ _ => true
  | .vetm _ _ _ _ _ => true
  | .vrecip _ _ _ _ => true
  | .vsqrt _ _ _ => true
  | .vsincos _ _ _ _ => true
  | .mnop => true
  | .endWord => true
  | .vld _ _ _ _ _ => true
  | .vst _ _ _ _ _ => true
  | .sld _ _ _ _ => true
  | .sst _ _ _ _ => true
  | .kld _ _ _ _ => true
  | .kst _ _ _ _ => true
  | .vlut _ _ _ _ _ _ => true
  | .lutb _ _ _ _ _ => true
  | .vrank _ _ _ _ _ => true
  | .vrsum _ _ _ => true
  | .vrmax _ _ _ => true
  | .vrmin _ _ _ => true
  | .vrot _ _ _ _ => true
  | .vbcast _ _ _ => true
  | .vgath _ _ _ _ => true
  | .vext _ _ _ => true
  | .vins _ _ _ _ => true
  | .kmov _ _ => true
  | .kand _ _ _ => true
  | .kor _ _ _ => true
  | .kxor _ _ _ => true
  | .kandn _ _ _ => true
  | .knot _ _ => true
  | .smov _ _ => true
  | .saddI _ _ _ => true
  | .ssubI _ _ _ => true
  | .saddQ _ _ _ => true
  | .ssubQ _ _ _ => true
  | .smulI _ _ _ => true
  | .smulQ _ _ _ => true
  | .sand _ _ _ => true
  | .sor _ _ _ => true
  | .sxor _ _ _ => true
  | .sshl _ _ _ => true
  | .sshra _ _ _ => true
  | .sshrl _ _ _ => true
  | .smin _ _ _ => true
  | .smax _ _ _ => true
  | .ssat16 _ _ => true
  | .slil _ _ => true
  | .slih _ _ => true
  | .srecip _ _ _ => true
  | .sget _ _ => true
  | .mwr _ _ _ _ => true
  | .ldall _ => true
  | .rsst _ _ _ => true
  | .flgclr _ _ => true
  | .flgk _ _ _ => true
  | .almanacListStart _ => true
  | .idleListStart _ => true
  | .logCapture => true
  | .logForce _ _ => true
  | .channelEnable _ _ _ => true
  | .channelDisable _ _ _ => true
  | .modCfgWrite _ _ _ => true
  | .shadowWrite _ _ _ _ => true
  | .groupLoadArm _ _ => true
  | .modRefWrite _ _ _ => true
  | .gridPoint _ => true
  | .localEdgeOutput => true
  | .oclLaneEnable _ _ _ => true
  | .oclLaneDisable _ _ _ => true
  | .capqSend _ => true
  | .statusCapRx _ f => f.wf
  | .setcfgResend _ => true
  | .statusAckRx _ f => f.wf
  | .statusPeriodicRx _ f _ => f.wf
  | .foreignDetect _ => true
  | .sampleRx _ f => f.wf
  | .inboxCommit => true
  | .keepStoppedSend => true
  | .cmdRetransmit _ => true
  | .laneCommand _ _ => true
  | .laneRetry _ _ _ => true
  | .podEdgeFrameRx _ _ f => f.wf
  | .podWindowStart _ => true
  | .podTripRx _ _ _ => true
  | .podTimeRx _ _ f _ => f.wf
  | .podCmdRx _ _ f => f.wf
  | .podDesat _ _ _ => true
  | .podLinkLoss _ => true
  | .laneEnable _ _ _ => true
  | .laneDisable _ _ _ => true
  | .cdrLock _ => true
  | .cdrLoss _ => true
  | .huntLock _ => true
  | .huntFail _ => true
  | .polarityConfirm _ => true
  | .polarityInvert _ => true
  | .poltestTimeout _ => true
  | .blockLockLoss _ => true
  | .alignMarkerSend _ => true
  | .alignMarkerRx _ _ _ _ => true
  | .eqStep _ => true
  | .eyeStart _ _ _ => true
  | .eyeDone _ _ => true
  | .hostPcsUp _ => true
  | .beaconSend => true
  | .beaconRx _ f => f.wf
  | .beaconExpiry _ => true
  | .ringHelloSend _ => true
  | .ringHelloRx _ f => f.wf
  | .insertTimeout _ => true
  | .schedRx _ f => f.wf
  | .fixRx _ f => f.wf
  | .fixLatch _ => true
  | .guarDataRx _ f => f.wf
  | .guarAckRx _ f => f.wf
  | .guarRetransmit _ _ => true
  | .logExportRx _ f => f.wf
  | .logGapRequestRx _ f => f.wf
  | .twinHelloSend => true
  | .twinHelloRx f => f.wf
  | .hbStoppedSend => true
  | .hbRx f => f.wf
  | .twinLost => true
  | .twinWaitExpiry => true
  | .mstateRx f => f.wf
  | .mrowsRx f => f.wf
  | .mmodRx f => f.wf
  | .mendRx f => f.wf
  | .jrnlRx f => f.wf
  | .jrnlResend _ => true
  | .jackRx f => f.wf
  | .ckptSend _ => true
  | .ckptRx f => f.wf
  | .ckackRx f => f.wf
  | .yieldRx f => f.wf
  | .swapRx f => f.wf
  | .jsyncRx f => f.wf
  | .adcEnable _ _ => true
  | .adcDisable _ _ => true
  | .listStartHost _ _ => true
  | .entryStart _ => true
  | .conversionResult _ vs => vs.length < 9
  | .injectTriggerHost _ _ => true
  | .injectPending _ => true
  | .injectClaim _ => true
  | .injectStart _ => true
  | .entryRestart _ => true
  | .swapDue => true
  | .swapStart => true
  | .swapWindowEnd => true
  | .calibrationDone _ _ => true
  | .sliceRetire _ _ => true
  | .sdfEnable _ _ _ => true
  | .sdfResult _ _ => true
  | .sdfStuck _ => true
  | .sdfStuckEnd _ => true
  | .comparatorAssert _ _ _ => true
  | .comparatorDeassert _ _ _ => true
  | .latchClear _ _ => true
  | .cmpCfgWrite _ _ _ => true
  | .comparatorTest _ _ => true
  | .testSample _ _ => true
  | .testSettleEnd _ _ => true
  | .tripinChange _ _ => true
  | .tripinLatchClear _ _ => true
  | .tripMaskWrite _ _ _ => true
  | .gateHoldEnd _ => true
  | .auxInputChange _ _ _ => true
  | .vbsMeasure _ _ _ _ => true
  | .overcurrentDetect _ _ => true
  | .slopeDetect _ _ => true
  | .softTurnoffEnd _ => true
  | .auxFaultClear _ _ _ => true
  | .vmConversion _ => true
  | .brakeLimit => true
  | .brakeWindowEnd => true
  | .hallEnable _ _ _ => true
  | .hallChange _ _ => true
  | .hallClear _ _ => true
  | .speedWindowEnd _ => true
  | .homeEdge _ _ => true
  | .sinChange _ _ _ => true
  | .discrepancyStrobe => true
  | .safeKeyWrite _ _ => true
  | .safeCrcCheck => true
  | .safeOscFail => true
  | .stoPeriodicTest _ => true
  | .stoTestEnd _ _ => true
  | .soutRequestWrite _ _ => true
  | .soutPulseStart _ => true
  | .soutPulseEnd _ _ => true
  | .soutOvercurrent _ => true
  | .qspiWrframe h _ body => hostWf h body
  | .qspiRdstat => true
  | .qspiRdframe _ => true
  | .read h body => hostWf h body
  | .write h body => hostWf h body
  | .modify h body => hostWf h body
  | .status h body => hostWf h body
  | .loadProgram h body => hostWf h body
  | .loadAlmanac h body => hostWf h body
  | .swapBank h body => hostWf h body
  | .setMode h body => hostWf h body
  | .arm h body => hostWf h body
  | .run h body => hostWf h body
  | .block h body => hostWf h body
  | .release h body => hostWf h body
  | .fixCmd h body => hostWf h body
  | .fixRead h body => hostWf h body
  | .logArm h body => hostWf h body
  | .logRead h body => hostWf h body
  | .calAdc h body => hostWf h body
  | .cfgCommit h body => hostWf h body
  | .offdiag h body => hostWf h body
  | .safeReset h body => hostWf h body
  | .proofSwap h body => hostWf h body
  | .reset h body => hostWf h body
  | .eventAck h body => hostWf h body
  | .journalRead h body => hostWf h body
  | .updOpen h body => hostWf h body
  | .updChunk h body => hostWf h body
  | .updStatus h body => hostWf h body
  | .updRelay h body => hostWf h body
  | .updActivate h body => hostWf h body
  | .updConfirm h body => hostWf h body
  | .updAbort h body => hostWf h body
  | .commandStart => true
  | .operationStep _ _ _ => true
  | .nvmWriteComplete => true
  | .eventResend _ => true
  | .updAgeMinute => true
  | .relayChunkSend => true
  | .rchunkRx _ f => f.wf
  | .rackRx _ f => f.wf
  | .relayResend _ => true
  | .activationReset => true
  | .trialConfirm => true
  | .trialWindowEnd => true
  | .otpCheck _ => true
  | .keyRevoke _ _ => true
  | .lockstepMismatch => true
  | .lcPllLock _ _ => true
  | .hostPcsDown _ => true
  | .vauxBelow5v => true
  | .soutReadbackChange _ _ => true
  | .podSample _ _ vs _ => vs.length < 17
  | .podEdgePlay _ _ => true
  | .podKeepRx _ _ f => f.wf
  | .podBypassComplete _ _ => true
  | .podPowerUp _ _ => true

end Sys2Proof
end

