-- ==== Sys2Proof/Certificates/Slice0/Obligations.lean ====
section
/-! DEFINITION. Certificates/Slice0/Obligations.lean: the statements for the provers. The helpers first: each says in one place a
shape that several statements share. -/
namespace Sys2Proof.Stmt
open Sys2Proof.Machine

/-- The command's own effect on `s` is a state with property `P`; the block's next state is that state after what follows from it
in the same tick (`settle`). -/
def Gives (i : Instr) (s : State) (P : State → Prop) : Prop := ∃ t, exec i s = .next (settle s t) ∧ P t

end Sys2Proof.Stmt

namespace Sys2Proof.Stmt
open Sys2Proof.Machine

/-- The state with the V-slot instruction `i` issued into the open word with the write-back `w`, and nothing else changed. -/
def issuedV (b : State) (i : Instr) (w : Wb) : State := { b with eng := { b.eng with pend := b.eng.pend ++ [w], vOpen := some i } }

/-- The V-slot instruction issues, in the state `s.newWord` in which its word begins, one write-back with property `P` and changes
nothing else. -/
def IssuesV (i : Instr) (s : State) (P : State → Wb → Prop) : Prop :=
  ∃ w, exec i s = .next (settle s (issuedV s.newWord i w)) ∧ P s.newWord w

/-- The same for an instruction that draws `d` free values first. -/
def IssuesFree (d : Nat) (i : Instr) (s : State) (P : State → Wb → Prop) : Prop :=
  ∃ w, exec i s = .next (settle s (issuedV { s.newWord with free := s.newWord.free + d } i w)) ∧ P s.newWord w

/-- The write-back of the values `x` in the lanes of `m` of V `r` after `lat` cycles, with no flag. -/
def Plain (lat r : Nat) (m : Word64) (x : Nat → BitVec 16) (w : Wb) : Prop :=
  ∃ vals, w = { left := lat, acts := [.vec r m vals], flags := [], ssat := false, sdz := false } ∧
    ∀ n, n < 64 → vals[n]? = some (x n)

/-- The write-back of the exact values `x`, saturated to 16 bits, with SAT in the selected lanes whose value does not fit. -/
def Sat (lat r : Nat) (m : Word64) (x : Nat → Int) (w : Wb) : Prop :=
  ∃ vals sat, w = { left := lat, acts := [.vec r m vals], flags := [sat], ssat := false, sdz := false } ∧
    ∀ n, n < 64 → vals[n]? = some (BitVec.ofInt 16 (max (-32768) (min 32767 (x n)))) ∧
      (sat.getLsbD n = true ↔ m.getLsbD n = true ∧ (x n < -32768 ∨ 32767 < x n))

/-- The write-back of the values `x` in the lanes of `m` of A `r`. -/
def AccSet (lat r : Nat) (m : Word64) (x : Nat → BitVec 40) (w : Wb) : Prop :=
  ∃ vals, w = { left := lat, acts := [.acc r m vals], flags := [], ssat := false, sdz := false } ∧ ∀ n, n < 64 → vals[n]? = some (x n)

/-- The accumulation of the exact values `x` into A `r`, which is read when the sum lands. -/
def AccAdd (r : Nat) (m : Word64) (x : Nat → Int) (w : Wb) : Prop :=
  ∃ vals, w = { left := 3, acts := [.accum r m vals], flags := [], ssat := false, sdz := false } ∧ ∀ n, n < 64 → vals[n]? = some (x n)

end Sys2Proof.Stmt

open Sys2Proof Sys2Proof.Machine Sys2Proof.Stmt

/-- 04 R143, R144, R151, R152 (Tables 4 and 5): the V-slot arithmetic on 16-bit lanes: latency, exact value, saturation and SAT; and the
instructions whose result always fits: selection of the larger or smaller lane, moves, bitwise logic, lane selection by a mask and the
rounding right shift. Every other part of the state is as the word found it. -/
def Obligations.VectorArithmeticAndLogicIssueTheirLanes : Prop :=
  ∀ (s : State) (vd va vb : Fin 32) (sx : Fin 16) (kc k : Fin 8),
    IssuesV (.vadd vd va vb k) s (fun b => Sat 2 vd (b.kReg k) fun n => b.vS va n + b.vS vb n) ∧
    IssuesV (.vsub vd va vb k) s (fun b => Sat 2 vd (b.kReg k) fun n => b.vS va n - b.vS vb n) ∧
    IssuesV (.vneg vd va k) s (fun b => Sat 2 vd (b.kReg k) fun n => -b.vS va n) ∧
    IssuesV (.vabs vd va k) s (fun b => Sat 2 vd (b.kReg k) fun n => max (b.vS va n) (-b.vS va n)) ∧
    IssuesV (.vmul vd va vb k) s (fun b => Sat 3 vd (b.kReg k) fun n => roundShift (b.vS va n * b.vS vb n) 15) ∧
    IssuesV (.vmuls vd va sx k) s (fun b => Sat 3 vd (b.kReg k) fun n =>
      roundShift (b.vS va n * (BitVec.extractLsb' 16 16 (b.sReg sx)).toInt) 15) ∧
    (∀ i : Fin 16, IssuesV (.vshl vd va i k) s (fun b => Sat 2 vd (b.kReg k) fun n => b.vS va n * 2 ^ i.val)) ∧
    (∀ (aa : Fin 4) (l : Fin 10), IssuesV (.vawb vd aa l k) s (fun b => Sat 3 vd (b.kReg k) fun n =>
      roundShift (b.aS aa n) (15 - l.val))) ∧
    IssuesV (.vmax vd va vb k) s (fun b => Plain 2 vd (b.kReg k) fun n => BitVec.ofInt 16 (max (b.vS va n) (b.vS vb n))) ∧
    IssuesV (.vmin vd va vb k) s (fun b => Plain 2 vd (b.kReg k) fun n => BitVec.ofInt 16 (min (b.vS va n) (b.vS vb n))) ∧
    IssuesV (.vmov vd va k) s (fun b => Plain 1 vd (b.kReg k) fun n => b.vLane va n) ∧
    (∀ imm, IssuesV (.vsplat vd imm k) s (fun b => Plain 1 vd (b.kReg k) fun _ => imm)) ∧
    IssuesV (.vand vd va vb k) s (fun b => Plain 1 vd (b.kReg k) fun n => b.vLane va n &&& b.vLane vb n) ∧
    IssuesV (.vor vd va vb k) s (fun b => Plain 1 vd (b.kReg k) fun n => b.vLane va n ||| b.vLane vb n) ∧
    IssuesV (.vxor vd va vb k) s (fun b => Plain 1 vd (b.kReg k) fun n => b.vLane va n ^^^ b.vLane vb n) ∧
    IssuesV (.vsel vd va vb kc k) s (fun b => Plain 1 vd (b.kReg k) fun n =>
      if (b.kReg kc).getLsbD n then b.vLane va n else b.vLane vb n) ∧
    (∀ i : Fin 16, IssuesV (.vshr vd va i k) s (fun b => Plain 2 vd (b.kReg k) fun n => BitVec.ofInt 16 (roundShift (b.vS va n) i.val)))

/-- 04 R150, R151 (Table 4): the accumulator instructions: VMPY and VAZ set an accumulator, VMAC, VMSB, VMACS and VACC add to it when
they land, AST spreads it over three vector registers and ALD gathers it from three. -/
def Obligations.AccumulatorInstructionsIssueTheirSums : Prop :=
  ∀ (s : State) (ad aa : Fin 4) (va vb : Fin 32) (sx : Fin 16) (k : Fin 8),
    IssuesV (.vmpy ad va vb k) s (fun b => AccSet 3 ad (b.kReg k) fun n => BitVec.ofInt 40 (b.vS va n * b.vS vb n)) ∧
    IssuesV (.vaz ad k) s (fun b => AccSet 1 ad (b.kReg k) fun _ => 0) ∧
    IssuesV (.vmac ad va vb k) s (fun b => AccAdd ad (b.kReg k) fun n => b.vS va n * b.vS vb n) ∧
    IssuesV (.vmsb ad va vb k) s (fun b => AccAdd ad (b.kReg k) fun n => -(b.vS va n * b.vS vb n)) ∧
    IssuesV (.vmacs ad va sx k) s (fun b => AccAdd ad (b.kReg k) fun n => b.vS va n * (BitVec.extractLsb' 16 16 (b.sReg sx)).toInt) ∧
    IssuesV (.vacc ad va k) s (fun b => AccAdd ad (b.kReg k) fun n => b.vS va n * 32768) ∧
    (∀ vd : Fin 30, IssuesV (.ast vd aa k) s (fun b w => ∃ v0 v1 v2,
      w = { left := 2, acts := [.vec vd (b.kReg k) v0, .vec (vd.val + 1) (b.kReg k) v1, .vec (vd.val + 2) (b.kReg k) v2], flags := [],
            ssat := false, sdz := false } ∧
      ∀ n, n < 64 → v0[n]? = some (BitVec.extractLsb' 0 16 (b.aLane aa n)) ∧ v1[n]? = some (BitVec.extractLsb' 16 16 (b.aLane aa n)) ∧
        v2[n]? = some (BitVec.ofInt 16 (BitVec.extractLsb' 32 8 (b.aLane aa n)).toInt))) ∧
    (∀ v : Fin 30, IssuesV (.ald ad v k) s (fun b => AccSet 2 ad (b.kReg k) fun n =>
      BitVec.extractLsb' 0 8 (b.vLane (v.val + 2) n) ++ b.vLane (v.val + 1) n ++ b.vLane v n))

/-- 04 R147, R152 to R154 (Tables 6 and 7): VNOP issues nothing; VCMP writes the mask of the lanes in which its condition holds; VETM scales
a fraction of the period; VRECIP and VSQRT give a value within their bounds and their stated results on 0 and on negative lanes (the
value within the bound is free, DESIGN CHOICE, log 2); VSINCOS writes the sine and the cosine within their bound, by the series `sinFix` that stands for the
sine (DESIGN CHOICE, log 2). -/
def Obligations.CompareAndFunctionInstructionsIssueTheirResults : Prop :=
  ∀ (s : State) (vd va vb : Fin 32) (sx : Fin 16) (k : Fin 8),
    exec .vnop s = .next (settle s { s.newWord with eng := { s.newWord.eng with vOpen := some .vnop } }) ∧
    (∀ (kd : Fin 7) (cc : Fin 6) (sc : Bool), IssuesV (.vcmp kd cc sc va vb sx k) s (fun b w => ∃ val : Word64,
      w = { left := 2, acts := [.mask (kd.val + 1) (b.kReg k) val], flags := [], ssat := false, sdz := false } ∧
      ∀ n, n < 64 → (val.getLsbD n = true ↔
        let x := b.vS va n
        let y := if sc then (BitVec.extractLsb' 0 16 (b.sReg sx)).toInt else b.vS vb n
        match cc with | 0 => x = y | 1 => x ≠ y | 2 => x < y | 3 => x ≤ y | 4 => y < x | 5 => y ≤ x))) ∧
    (∀ (p : Fin 16) (wrap : Bool), IssuesV (.vetm p va sx wrap k) s (fun b w => ∃ lo hi sat,
      w = { left := 4, acts := [.vec (2 * p.val) (b.kReg k) lo, .vec (2 * p.val + 1) (b.kReg k) hi], flags := [sat], ssat := false, sdz := false } ∧
      ∀ n, n < 64 →
        let per : Int := ((b.sReg sx).toNat % 2 ^ 28 : Nat)
        let x : Int := if 0 ≤ b.vS va n then roundShift (b.vS va n * per) 15
          else if wrap then per + roundShift (b.vS va n * per) 15 else 0
        lo[n]? = some (BitVec.ofInt 16 x) ∧ hi[n]? = some (BitVec.ofInt 16 (x / 65536)) ∧
          (sat.getLsbD n = true ↔ (b.kReg k).getLsbD n = true ∧ wrap = false ∧ b.vS va n < 0))) ∧
    (∀ l : Fin 16, IssuesFree 64 (.vrecip vd va l k) s (fun b w => ∃ vals sat dz,
      w = { left := 6, acts := [.vec vd (b.kReg k) vals], flags := [sat, 0, dz], ssat := false, sdz := false } ∧
      ∀ n, n < 64 → ∃ q : Int, vals[n]? = some (BitVec.ofInt 16 (max (-32768) (min 32767 q))) ∧
        (b.vS va n = 0 → q = 32767) ∧
        (b.vS va n ≠ 0 → |q - (2 ^ (30 - l.val) : Rat) / b.vS va n| ≤ 2) ∧
        (dz.getLsbD n = true ↔ (b.kReg k).getLsbD n = true ∧ b.vS va n = 0) ∧
        (sat.getLsbD n = true ↔ (b.kReg k).getLsbD n = true ∧ b.vS va n ≠ 0 ∧ (q < -32768 ∨ 32767 < q)))) ∧
    IssuesFree 64 (.vsqrt vd va k) s (fun b w => ∃ vals sat,
      w = { left := 6, acts := [.vec vd (b.kReg k) vals], flags := [sat], ssat := false, sdz := false } ∧
      ∀ n, n < 64 → (b.vS va n < 0 → vals[n]? = some 0) ∧
        (0 ≤ b.vS va n → ∃ r : Int, vals[n]? = some (BitVec.ofInt 16 r) ∧ r ≤ 32767 ∧
          -1 ≤ r ∧ (r ≤ 1 ∨ (r - 1) ^ 2 ≤ b.vS va n * 32768) ∧ (b.vS va n * 32768 ≤ (r + 1) ^ 2 ∨ r = 32767)) ∧
        (sat.getLsbD n = true ↔ (b.kReg k).getLsbD n = true ∧ b.vS va n < 0)) ∧
    (∀ p : Fin 16, IssuesFree 128 (.vsincos p va sx k) s (fun b w => ∃ vs vc,
      w = { left := 5, acts := [.vec (2 * p.val) (b.kReg k) vs, .vec (2 * p.val + 1) (b.kReg k) vc], flags := [], ssat := false, sdz := false } ∧
      ∀ n, n < 64 → ∃ x y : Int,
        let angle := ((b.sReg sx).toNat + (b.vLane va n).toNat * 65536) % 2 ^ 32
        vs[n]? = some (BitVec.ofInt 16 (max (-32767) (min 32767 x))) ∧ vc[n]? = some (BitVec.ofInt 16 (max (-32767) (min 32767 y))) ∧
        |(x : Rat) - sinFix angle / 2 ^ 33| ≤ 2 + 1 / 1000 ∧ |(y : Rat) - sinFix ((angle + 2 ^ 30) % 2 ^ 32) / 2 ^ 33| ≤ 2 + 1 / 1000))

namespace Sys2Proof.Stmt
open Sys2Proof.Machine

/-- The state in which an M-slot instruction with the claims `keys` acts: deferred claims on them have been served, and the open word
has waited two engine cycles for each of them in a row (R56, R130). -/
def wordM (s : State) (keys : List Nat) : State :=
  if s.engWaits keys = 0 then s.engClaim keys else (s.engClaim keys).lateWord (2 * s.engWaits keys)

/-- The M-slot instruction acts in `wordM s keys`, leaving a state with property `P`, and its word ends. -/
def ActsM (i : Instr) (s : State) (keys : List Nat) (P : State → State → Prop) : Prop :=
  ∃ u, exec i s = .next (settle s u.closeWord) ∧ P (wordM s keys) u

/-- The M-slot instruction issues one write-back with property `P`, changes nothing else, and its word ends. -/
def IssuesM (i : Instr) (s : State) (keys : List Nat) (P : State → Wb → Prop) : Prop :=
  ActsM i s keys fun b u => ∃ w, u = { b with eng := { b.eng with pend := b.eng.pend ++ [w] } } ∧ P b w

/-- The write-back of a scalar register after `lat` cycles, with no flag. -/
def Scal (lat r : Nat) (v : Word) (w : Wb) : Prop := w = { left := lat, acts := [.scal r v], flags := [], ssat := false, sdz := false }

/-- The write-back of an exact value saturated to the signed format of `n` bits, with SSAT where it does not fit. -/
def ScalSat (lat r n : Nat) (x : Int) (w : Wb) : Prop :=
  ∃ f : Bool, w = { left := lat, acts := [.scal r (BitVec.ofInt 32 (max (-(2 ^ (n - 1))) (min (2 ^ (n - 1) - 1) x)))], flags := [],
                    ssat := f, sdz := false } ∧ (f = true ↔ x < -(2 ^ (n - 1)) ∨ 2 ^ (n - 1) - 1 < x)

/-- The write-back of the whole mask register `r` after `lat` cycles. -/
def MaskSet (lat r : Nat) (v : Word64) (w : Wb) : Prop :=
  w = { left := lat, acts := [.mask r (BitVec.allOnes 64) v], flags := [], ssat := false, sdz := false }

/-- Every byte outside `n` bytes from `a` reads in `u` as in `b`. -/
def BytesKept (b u : State) (a n : Nat) : Prop := ∀ x, x < a ∨ a + n ≤ x → memGet u.mem x = memGet b.mem x

/-- In physical row `p` of VDM the lanes of `m` hold `x` and the others `old`; every byte outside the row is unchanged. -/
def RowStored (b u : State) (p : Nat) (m : Word64) (x : Nat → BitVec 16) (old : Nat → Nat) : Prop :=
  (∀ n, n < 64 → u.load (vdmAddr p n) 2 = if m.getLsbD n then (x n).toNat else old n) ∧ BytesKept b u (vdmAddr p 0) 128

/-- Physical word `p` of SDM holds `v`; every byte outside it is unchanged. -/
def WordStored (b u : State) (p : Nat) (v : Word) : Prop := u.load (sdmAddr p) 4 = v.toNat ∧ BytesKept b u (sdmAddr p) 4

/-- The engine's write of the scalar `v` to logical word `w`, beginning in `b`: a word of the Sextant record and a physical word of page 1
take nothing; a state word goes to the page that is not current, and is noted as written; any other word is stored where it lies. -/
def StoresWord (b u : State) (w : Nat) (v : Word) : Prop :=
  (∃ mem wS, u = { b with mem, eng := { b.eng with wS } }) ∧
  (0x3FF0 ≤ w → u = b) ∧
  (w < 0x3FF0 → b.sState w = none → u.eng.wS = b.eng.wS ∧ if b.sPage1 w then u.mem = b.mem else WordStored b u w v) ∧
  (∀ i, w < 0x3FF0 → b.sState w = some i → u.eng.wS = b.eng.wS ||| 2 ^ i ∧
    WordStored b u (if b.eng.pS.testBit i then w else w + b.sWords) v)

end Sys2Proof.Stmt

/-- 04 R155 to R157, 03 R123, R124, R128: the loads issue the row or word that a read returns; the stores write the selected lanes of a
row, or a word, into the page that the state pages name, and keep every byte outside it. -/
def Obligations.EngineMemoryInstructionsLoadAndStore : Prop :=
  ∀ (s : State) (v : Fin 32) (r sb : Fin 16) (row : Fin 2048) (off : Fin 16384) (am : Fin 3) (im : Bool) (k : Fin 8),
    let p := s.vdmRow am sb row
    let w := s.sdmWord im sb off
    let e := w / 2 * 2
    IssuesM (.vld v am sb row k) s [rowKey p] (fun b => Plain 4 v (b.kReg k) (b.rowLane p)) ∧
    IssuesM (.sld r im sb off) s [wordKey w] (fun b => Scal 3 r (b.sdm w)) ∧
    (∀ kd : Fin 7, IssuesM (.kld kd im sb off) s [wordKey e, wordKey (e + 1)]
      (fun b => MaskSet 3 (kd.val + 1) (b.sdm (e + 1) ++ b.sdm e))) ∧
    ActsM (.sst r im sb off) s [wordKey w] (fun b u => StoresWord b u w (b.sReg r)) ∧
    ActsM (.kst k im sb off) s [wordKey e, wordKey (e + 1)] (fun b u => ∃ c,
      StoresWord b c e ((b.kReg k).extractLsb' 0 32) ∧ StoresWord c u (e + 1) ((b.kReg k).extractLsb' 32 32)) ∧
    ActsM (.vst v am sb row k) s [rowKey p] (fun b u =>
      (∃ mem wV, u = { b with mem, eng := { b.eng with wV } }) ∧
      (b.vState p = none → u.eng.wV = b.eng.wV ∧ if b.vPage1 p then u.mem = b.mem
        else RowStored b u p (b.kReg k) (b.vLane v) (fun n => b.load (vdmAddr p n) 2)) ∧
      ∀ i, b.vState p = some i →
        let cur := if b.eng.pV.testBit i then p + b.vRows else p
        let oth := if b.eng.pV.testBit i then p else p + b.vRows
        u.eng.wV = b.eng.wV ||| 2 ^ i ∧
          RowStored b u oth (b.kReg k) (b.vLane v) (fun n => b.load (vdmAddr (if b.eng.wV.testBit i then oth else cur) n) 2))

/-- 04 R160 to R162: VLUT interpolates between adjacent entries of the lane's table and sets LUT on a negative unsigned index; LUTB returns the
learned value of the load bin, blended with a valid neighbour, or the factory default with its confidence bit clear and LOWC set. -/
def Obligations.TableInstructionsInterpolate : Prop :=
  ∀ (s : State) (vd va : Fin 32) (sb : Fin 16) (k : Fin 8),
    (∀ (m : Fin 8) (sgn : Bool), IssuesM (.vlut vd va sb m sgn k) s
      ((List.range (2 ^ (m.val + 2) + 1)).map fun t => rowKey ((s.sReg sb).toNat % 2048 + t)) (fun b w => ∃ vals lut,
        w = { left := 6, acts := [.vec vd (b.kReg k) vals], flags := [0, 0, 0, lut], ssat := false, sdz := false } ∧
        ∀ n, n < 64 →
          let base := (b.sReg sb).toNat % 2048
          let u := (if sgn then b.vS va n + 32768 else b.vS va n).toNat
          let sh := if sgn then 14 - m.val else 13 - m.val
          let e0 := (b.rowLane ((base + u / 2 ^ sh) % 2048) n).toInt
          let e1 := (b.rowLane ((base + u / 2 ^ sh + 1) % 2048) n).toInt
          vals[n]? = some (BitVec.ofInt 16 (e0 + roundShift (((u % 2 ^ sh : Nat) : Int) * (e1 - e0)) sh)) ∧
            (lut.getLsbD n = true ↔ (b.kReg k).getLsbD n = true ∧ sgn = false ∧ b.vS va n < 0))) ∧
    (∀ kd : Fin 7, IssuesM (.lutb vd va sb kd k) s ((List.range 84).map fun t => rowKey ((s.sReg sb).toNat % 2048 + t)) (fun b w =>
      ∃ vals known lut lowc,
        w = { left := 7, acts := [.vec vd (b.kReg k) vals, .mask (kd.val + 1) (b.kReg k) known], flags := [0, 0, 0, lut, lowc],
              ssat := false, sdz := false } ∧
        ∀ n, n < 64 →
          let base := (b.sReg sb).toNat % 2048
          let band := (b.sReg sb).toNat / 65536 % 4
          let row (r : Nat) := b.rowLane ((base + r) % 2048) n
          let p := (b.vS va n).toNat
          let jc := p / 2048
          let valid (j : Nat) : Bool := j ≤ 15 && (row (64 + band)).getLsbD j
          let value (j : Nat) : Int := (row (16 * band + j)).toInt
          let blend (jn : Nat) (w : Int) : Int := if valid jn then value jc + roundShift (w * (value jn - value jc)) 11 else value jc
          let x : Int := if !valid jc then (row (68 + jc)).toInt
            else if p < 2048 * jc + 1024 then (if jc = 0 then value jc else blend (jc - 1) (2048 * jc + 1024 - p))
            else blend (jc + 1) (p - (2048 * jc + 1024))
          vals[n]? = some (BitVec.ofInt 16 x) ∧ known.getLsbD n = valid jc ∧
            (lut.getLsbD n = true ↔ (b.kReg k).getLsbD n = true ∧ b.vS va n < 0) ∧
            (lowc.getLsbD n = true ↔ (b.kReg k).getLsbD n = true ∧ valid jc = false)))

/-- 04 R158, R159 (Table 10): ranks, exact reductions over the selected lanes, rotation, spreading, gathering, and single lanes moved to and
from a scalar register. -/
def Obligations.CrossLaneInstructionsIssueTheirResults : Prop :=
  ∀ (s : State) (vd va vb : Fin 32) (sd sb : Fin 16) (j : Fin 64) (ke k : Fin 8),
    let sel (b : State) := (List.range 64).filter fun n => (b.kReg k).getLsbD n
    (∀ desc : Bool, IssuesM (.vrank vd va ke desc k) s [] (fun b => Plain 8 vd (b.kReg k) fun i =>
      if (b.kReg ke).getLsbD i then BitVec.ofNat 16 ((List.range 64).countP fun j => (b.kReg ke).getLsbD j &&
        decide ((if desc then b.vS va i < b.vS va j else b.vS va j < b.vS va i) ∨ (b.vS va j = b.vS va i ∧ j < i)))
      else 63)) ∧
    IssuesM (.vrsum sd va k) s [] (fun b => Scal 6 sd (BitVec.ofInt 32 ((sel b).map (b.vS va)).sum)) ∧
    IssuesM (.vrmax sd va k) s [] (fun b w => ∃ x : Int, Scal 6 sd (BitVec.ofInt 32 x) w ∧ (∀ n ∈ sel b, b.vS va n ≤ x) ∧
      ((∃ n ∈ sel b, x = b.vS va n) ∨ x = -32768)) ∧
    IssuesM (.vrmin sd va k) s [] (fun b w => ∃ x : Int, Scal 6 sd (BitVec.ofInt 32 x) w ∧ (∀ n ∈ sel b, x ≤ b.vS va n) ∧
      ((∃ n ∈ sel b, x = b.vS va n) ∨ x = 32767)) ∧
    IssuesM (.vrot vd va j k) s [] (fun b => Plain 3 vd (b.kReg k) fun n => b.vLane va ((n + j.val) % 64)) ∧
    IssuesM (.vbcast vd (.scalar sb) k) s [] (fun b => Plain 3 vd (b.kReg k) fun _ => (b.sReg sb).extractLsb' 0 16) ∧
    IssuesM (.vbcast vd (.lane va j) k) s [] (fun b => Plain 3 vd (b.kReg k) fun _ => b.vLane va j) ∧
    IssuesM (.vgath vd va vb k) s [] (fun b => Plain 3 vd (b.kReg k) fun n => b.vLane va ((b.vLane vb n).toNat % 64)) ∧
    IssuesM (.vext sd va j) s [] (fun b => Scal 2 sd ((b.vLane va j).signExtend 32)) ∧
    IssuesM (.vins vd sb j k) s [] (fun b w => ∃ m, Plain 2 vd m (fun _ => (b.sReg sb).extractLsb' 0 16) w ∧
      ∀ n, n < 64 → (m.getLsbD n = true ↔ (b.kReg k).getLsbD n = true ∧ n = j.val))

/-- 04 R163 to R166 (Tables 12 to 14): the SALU operations: result, latency 1 (2 for the products), SSAT where a saturating result does not fit;
immediates, the scalar reciprocal within its bound (which value is free, DESIGN CHOICE, log 2), the values latched at the engine start, the mask
operations and the copy of a lane flag. -/
def Obligations.ScalarAndMaskOperationsIssueTheirResults : Prop :=
  ∀ (s : State) (sd sa sb : Fin 16) (imm : BitVec 16) (kd : Fin 7) (ka kb : Fin 8),
    IssuesM (.smov sd sa) s [] (fun b => Scal 1 sd (b.sReg sa)) ∧
    IssuesM (.saddI sd sa sb) s [] (fun b => Scal 1 sd (BitVec.ofInt 32 (b.sS sa + b.sS sb))) ∧
    IssuesM (.ssubI sd sa sb) s [] (fun b => Scal 1 sd (BitVec.ofInt 32 (b.sS sa - b.sS sb))) ∧
    IssuesM (.saddQ sd sa sb) s [] (fun b => ScalSat 1 sd 32 (b.sS sa + b.sS sb)) ∧
    IssuesM (.ssubQ sd sa sb) s [] (fun b => ScalSat 1 sd 32 (b.sS sa - b.sS sb)) ∧
    IssuesM (.smulI sd sa sb) s [] (fun b => Scal 2 sd (BitVec.ofInt 32 (b.sS sa * b.sS sb))) ∧
    IssuesM (.smulQ sd sa sb) s [] (fun b => ScalSat 2 sd 32 (roundShift (b.sS sa * b.sS sb) 31)) ∧
    IssuesM (.sand sd sa sb) s [] (fun b => Scal 1 sd (b.sReg sa &&& b.sReg sb)) ∧
    IssuesM (.sor sd sa sb) s [] (fun b => Scal 1 sd (b.sReg sa ||| b.sReg sb)) ∧
    IssuesM (.sxor sd sa sb) s [] (fun b => Scal 1 sd (b.sReg sa ^^^ b.sReg sb)) ∧
    (∀ n : Fin 32, IssuesM (.sshl sd sa n) s [] (fun b => Scal 1 sd (BitVec.ofInt 32 (b.sS sa * 2 ^ n.val)))) ∧
    (∀ n : Fin 32, IssuesM (.sshra sd sa n) s [] (fun b => Scal 1 sd (BitVec.ofInt 32 (b.sS sa / 2 ^ n.val)))) ∧
    (∀ n : Fin 32, IssuesM (.sshrl sd sa n) s [] (fun b => Scal 1 sd (BitVec.ofNat 32 ((b.sReg sa).toNat / 2 ^ n.val)))) ∧
    IssuesM (.smin sd sa sb) s [] (fun b => Scal 1 sd (BitVec.ofInt 32 (min (b.sS sa) (b.sS sb)))) ∧
    IssuesM (.smax sd sa sb) s [] (fun b => Scal 1 sd (BitVec.ofInt 32 (max (b.sS sa) (b.sS sb)))) ∧
    IssuesM (.ssat16 sd sa) s [] (fun b => ScalSat 1 sd 16 (b.sS sa)) ∧
    IssuesM (.slil sd imm) s [] (fun b => Scal 1 sd (0#16 ++ imm)) ∧
    IssuesM (.slih sd imm) s [] (fun b => Scal 1 sd (imm ++ (b.sReg sd).extractLsb' 0 16)) ∧
    (∀ src : Fin 8, IssuesM (.sget sd src) s [] (fun b => Scal 1 sd (b.eng.sget[src.val]?.getD 0))) ∧
    (∀ l : Fin 32, ActsM (.srecip sd sa l) s [] (fun b u => ∃ w,
      u = { b with free := b.free + 1, eng := { b.eng with pend := b.eng.pend ++ [w] } } ∧
      (b.sReg sa = 0 → w = { left := 6, acts := [.scal sd 0x7FFFFFFF#32], flags := [], ssat := false, sdz := true }) ∧
      (b.sReg sa ≠ 0 → ∃ q : Int, ScalSat 6 sd 32 q w ∧ |q - (2 ^ (62 - l.val) : Rat) / b.sS sa| ≤ 4))) ∧
    IssuesM (.kmov kd ka) s [] (fun b => MaskSet 1 (kd.val + 1) (b.kReg ka)) ∧
    IssuesM (.kand kd ka kb) s [] (fun b => MaskSet 1 (kd.val + 1) (b.kReg ka &&& b.kReg kb)) ∧
    IssuesM (.kor kd ka kb) s [] (fun b => MaskSet 1 (kd.val + 1) (b.kReg ka ||| b.kReg kb)) ∧
    IssuesM (.kxor kd ka kb) s [] (fun b => MaskSet 1 (kd.val + 1) (b.kReg ka ^^^ b.kReg kb)) ∧
    IssuesM (.kandn kd ka kb) s [] (fun b => MaskSet 1 (kd.val + 1) (b.kReg ka &&& ~~~ b.kReg kb)) ∧
    IssuesM (.knot kd ka) s [] (fun b => MaskSet 1 (kd.val + 1) (~~~ b.kReg ka)) ∧
    (∀ f : Fin 5, IssuesM (.flgk kd f ka) s [] (fun b w =>
      w = { left := 1, acts := [.mask (kd.val + 1) (b.kReg ka) (b.laneFlag f)], flags := [], ssat := false, sdz := false }))

/-- 04 R147, R166, R168 to R173, 03 R115: a word with nothing in its M-slot, and END, only pass the word's cycle; FLGCLR clears the flags it
names in its lanes and FLGSUM follows; MWR stages one ladle entry, limited to the field's largest value with SAT; LDALL arms its groups;
RSST writes the selected lanes of a row below the slot's length. -/
def Obligations.FlagLadleAndSlotInstructionsAct : Prop :=
  ∀ (s : State) (k : Fin 8),
    wordM s [] = s ∧
    ActsM .mnop s [] (fun b u => u = b) ∧
    ActsM .endWord s [] (fun b u => u = b) ∧
    (∀ fm : Fin 128, ActsM (.flgclr fm k) s [] (fun b u =>
      (∃ regs, u = { b with regs }) ∧
      (∀ f, f < 5 → u.laneFlag f = if fm.val.testBit f then b.laneFlag f &&& ~~~ b.kReg k else b.laneFlag f) ∧
      u.get F.ENG_SFLG_SSAT = (if fm.val.testBit 5 then 0 else b.get F.ENG_SFLG_SSAT) ∧
      u.get F.ENG_SFLG_SDZ = (if fm.val.testBit 6 then 0 else b.get F.ENG_SFLG_SDZ) ∧
      ((∃ f, f < 5 ∧ fm.val.testBit f) → ∀ f, f < 5 → (u.fbit F.ENG_STAT_FLGSUM f = true ↔ u.laneFlag f ≠ 0)))) ∧
    (∀ (p : Fin 16) (tgt : MwrTarget) (fld : Fin 7), ActsM (.mwr p tgt fld k) s [] (fun b u =>
      let val (n : Nat) := (b.vLane (2 * p.val + 1) n).toNat * 65536 + (b.vLane (2 * p.val) n).toNat
      let top := if fld.val < 4 then 2 ^ 28 - 1 else 4095
      let e : LadleEntry := { tgt := match tgt with | .cell _ => 0 | .localPair => 1 | .aux => 2,
                              ch := match tgt with | .cell c => c | .localPair => 0 | .aux => 0, fld := fld,
                              vals := ((List.range 64).filter fun n => (b.kReg k).getLsbD n).map fun n => (n, min (val n) top) }
      ∃ sat : Word64, (∀ n, n < 64 → (sat.getLsbD n = true ↔ (b.kReg k).getLsbD n = true ∧ top < val n)) ∧
        u = { b with eng := { b.eng with
                ladle := if b.eng.ladle.length < 512 then b.eng.ladle ++ [e] else b.eng.ladle,
                pend := b.eng.pend ++ [{ left := 1, acts := [], flags := [sat], ssat := false, sdz := false }] } })) ∧
    (∀ g : BitVec 16, ActsM (.ldall g) s [] (fun b u => u = { b with eng := { b.eng with armed := b.eng.armed ||| g.toNat } })) ∧
    (∀ (v : Fin 32) (row : Fin 16), ActsM (.rsst v row k) s [] (fun b u => ∃ slot, u = { b with eng := { b.eng with slot } } ∧
      ∀ x, spGet 0 slot x = if row.val < b.get F.RING_DOMCFG_SLOTLEN + 1 ∧ 64 * row.val ≤ x ∧ x < 64 * row.val + 64 ∧
        (b.kReg k).getLsbD (x - 64 * row.val) = true then b.vLane v (x - 64 * row.val) else spGet 0 b.eng.slot x))

/-- 03 R111, R112, 04 R148, R150: a write-back issued with latency L lands in the L-th cycle and not before; when it lands, the selected lanes
of its register take their values, an accumulation adds to the accumulator as it then stands, and every other register keeps its value. -/
def Obligations.WriteBackLandsAfterItsLatency : Prop :=
  ∀ (s : State) (w : Wb), 1 ≤ w.left →
    (∀ n, n < w.left → State.cycles n { s with eng := { s.eng with pend := [w] } }
      = { s with eng := { s.eng with pend := [{ w with left := w.left - n }] } }) ∧
    State.cycles w.left { s with eng := { s.eng with pend := [w] } } = ({ s with eng := { s.eng with pend := [] } } : State).land w ∧
    (∀ r m vals lat, let u := s.land { left := lat, acts := [.vec r m vals], flags := [], ssat := false, sdz := false }
      (∀ n, n < 64 → u.vLane r n = if m.getLsbD n then vals.getD n 0 else s.vLane r n) ∧
      (∀ q n, q ≠ r → n < 64 → u.vLane q n = s.vLane q n) ∧ (∃ v, u = { s with eng := { s.eng with v } })) ∧
    (∀ r m adds lat, let u := s.land { left := lat, acts := [.accum r m adds], flags := [], ssat := false, sdz := false }
      (∀ n, n < 64 → u.aLane r n = if m.getLsbD n then
          BitVec.ofInt 40 (max (-(2 ^ 39)) (min (2 ^ 39 - 1) (s.aS r n + adds.getD n 0))) else s.aLane r n) ∧
      (∀ q n, q ≠ r → n < 64 → u.aLane q n = s.aLane q n) ∧ u.eng.v = s.eng.v ∧ u.eng.k = s.eng.k ∧ u.eng.sr = s.eng.sr) ∧
    (∀ k sel val lat, 1 ≤ k → let u := s.land { left := lat, acts := [.mask k sel val], flags := [], ssat := false, sdz := false }
      u.kReg k = (s.kReg k &&& ~~~ sel) ||| (val &&& sel) ∧ (∀ q, q ≠ k → u.kReg q = s.kReg q) ∧
        (∃ x, u = { s with eng := { s.eng with k := x } })) ∧
    (∀ r v lat, let u := s.land { left := lat, acts := [.scal r v], flags := [], ssat := false, sdz := false }
      u.sReg r = v ∧ (∀ q, q ≠ r → u.sReg q = s.sReg q) ∧ (∃ x, u = { s with eng := { s.eng with sr := x } }))

namespace Sys2Proof.Stmt
open Sys2Proof.Machine

/-- An access of `m` to the address `a` is served in its own tick: the map is open to the master, a window holds the address and the master
reaches it, its block's die is powered, no claim waits for the same resource, another master has not been served it in this tick, no
HOST command waits for this very claim, and the access is not one that SEALED or THERMAL refuses (02 R54, R55; 18 R641, R646). -/
def ServedNow (s : State) (m : Master) (w : Bool) (a : Nat) (v : Word) : Prop :=
  s.mapOpen m = true ∧ inWindow a = true ∧ reaches m a = true ∧ s.analogServes a = true ∧ s.holds m a = false ∧
    (∀ c ∈ s.bus.deferred, claimKey c.addr ≠ claimKey a) ∧ (s.servedBy (claimKey a) = none ∨ s.servedBy (claimKey a) = some m.code) ∧
    (∀ x ∈ s.host.accs, x.wait ≠ some { master := m, write := w, addr := a, value := v, tick := s.now }) ∧
    (w = true → m = .host → s.dev ≠ stSEALED ∧ s.dev ≠ stTHERMAL) ∧ (w = true → m = .debug → s.dev ≠ stSEALED)

/-- The write of `v` to `a` by `m`, when it is served at once, takes the state `b` (`s` with the resource noted as served) to one with
property `P`. -/
def Writes (i : Instr) (s : State) (m : Master) (a : Nat) (v : Word) (P : State → State → Prop) : Prop :=
  ServedNow s m true a v → Gives i s (P (s.served (claimKey a) m))

/-- The read of `a` by `m`, when it is served at once, gives the master a word `x` and leaves a state, with property `P`. -/
def Reads (i : Instr) (s : State) (m : Master) (a : Nat) (P : State → Word → State → Prop) : Prop :=
  ServedNow s m false a 0 → Gives i s (fun t => P (s.served (claimKey a) m) (spGet 0 t.bus.rdata m.code) t)

/-- Nothing but registers changed, and of those only the ones listed. -/
def OnlyRegs (b t : State) (l : List Nat) : Prop := (∃ regs, t = { b with regs }) ∧ ∀ a, a ∉ l → t.reg a = b.reg a

end Sys2Proof.Stmt

/-- 00 R9, R11, R15 to R17, 02 R55, 05 R205, 10 R383, 18 R643: the accesses. A write of a RW register leaves the word; a written 1 clears a W1C
bit that has not been set in the same tick; a read of an RC register returns it and clears it; a read of a low word captures the high
word for the same master; a written low word is held for its master; an address outside the map is recorded and reads 0; results
and Log memory are read whole; a deferred claim is served. -/
def Obligations.RegisterAccessesReadAndWrite : Prop :=
  ∀ (s : State) (m : Master) (v : Word),
    (∀ n : Fin 4, Writes (.registerWrite m (BitVec.ofNat 32 (R.SYS_SCRATCH n)) v) s m (R.SYS_SCRATCH n) v
      (fun b t => t = b.setReg (R.SYS_SCRATCH n) v)) ∧
    Writes (.registerWrite m (BitVec.ofNat 32 R.SYS_EVT) v) s m R.SYS_EVT v (fun b t =>
      t = b.setReg R.SYS_EVT (b.reg R.SYS_EVT &&& ~~~(v &&& 0x7F#32 &&& ~~~ b.fresh R.SYS_EVT))) ∧
    (s.fresh R.ENG_PEAKCYC = 0 → (∀ e ∈ s.bus.rescap ++ s.bus.caps, e.1 ≠ busKey m R.ENG_PEAKCYC) → Reads (.readClear m (BitVec.ofNat 32 R.ENG_PEAKCYC)) s m R.ENG_PEAKCYC (fun b x t =>
      x = b.reg R.ENG_PEAKCYC ∧ t.reg R.ENG_PEAKCYC = 0 ∧ ∀ a, a ≠ R.ENG_PEAKCYC → t.reg a = b.reg a)) ∧
    (∀ a ∈ [R.SEXT_B1_LO, R.SEXT_B2_LO, R.ENG_PCNT_LO, R.ENG_OVR_T_LO, R.LOG_TRIGT_LO],
      (∀ e ∈ s.bus.rescap ++ s.bus.caps, e.1 ≠ busKey m a ∧ e.1 ≠ busKey m (a + 4)) →
      Reads (.wideLowRead m (BitVec.ofNat 32 a)) s m a (fun b x t => x = b.reg a ∧
        ∀ regs, ({ t with regs } : State).capRead m (a + 4) = (b.reg (a + 4), { t with regs, bus := { t.bus with
          caps := spDel t.bus.caps (busKey m (a + 4)) } }))) ∧
    (∀ a ∈ [R.CHRONO_SET_LO, R.MOD_TREF_LO, R.OCL_LCMDP_LO], Writes (.wideLowWrite m (BitVec.ofNat 32 a) v) s m a v (fun b t =>
      spGet none t.bus.lows (busKey m a) = some v ∧ ∃ lows, t = { b with bus := { b.bus with lows } })) ∧
    (∀ (a : Word) (w : Bool), s.mapOpen m = true → inWindow a.toNat = false → s.reactNow Q.SYS_ADDRERR ≠ 0 →
      Gives (.unmappedAccess m a w v) s (fun t => t.on F.SYS_EVT_ADDRERR = true ∧ t.mem = s.mem ∧
        (w = false → spGet 0 t.bus.rdata m.code = 0) ∧ (t.src Q.SYS_ADDRERR).pend = true ∧
        ((s.cap B.SYS).valid = false → (t.cap B.SYS).valid = true ∧ (t.cap B.SYS).addr = a.toNat ∧ (t.cap B.SYS).master = m.code))) ∧
    (∀ n : Fin 4, Writes (.debugAccess (BitVec.ofNat 32 (R.SYS_SCRATCH n)) true v 4) s .debug (R.SYS_SCRATCH n) v
      (fun b t => t = b.setReg (R.SYS_SCRATCH n) v)) ∧
    (∀ n : Fin 256, (∀ e ∈ s.bus.rescap ++ s.bus.caps, e.1 ≠ busKey m (R.ADC_RES n 0)) →
      Reads (.resultWordRead m n) s m (R.ADC_RES n 0) (fun b x t => x = b.reg (R.ADC_RES n 0) ∧
        ∀ k ∈ [1, 2, 3], spGet 0 t.bus.rescap (busKey m (R.ADC_RES n 0 + 4 * k)) = b.reg (R.ADC_RES n 0 + 4 * k))) ∧
    (∀ o : Fin 0x80000, s.logState = logIDLE ∨ s.logState = logDONE →
      (∀ e ∈ s.bus.rescap ++ s.bus.caps, e.1 ≠ busKey m (0x18000000 + 4 * o.val)) →
      Reads (.logMemoryRead m (BitVec.ofNat 32 (0x18000000 + 4 * o.val))) s m (0x18000000 + 4 * o.val) (fun b x t =>
        x = BitVec.ofNat 32 (b.load (0x18000000 + 4 * o.val) 4) ∧ t.mem = b.mem ∧ t.regs = b.regs)) ∧
    (∀ (n : Fin 4) (tk : Nat), s.bus.held = [] → s.bus.deferred = [⟨m, true, R.SYS_SCRATCH n, v, tk⟩] →
      s.servedBy (R.SYS_SCRATCH n) = none → s.host.accs = [] →
      Gives .claimDeferredServe s (fun t => t.reg (R.SYS_SCRATCH n) = v ∧ t.bus.deferred = []))

/-- 15 R543, R546, R548: writes of the fault registers. An index is selected for its master alone; a source word takes IE and an allowed
REACT and clears PEND on a written 1; CAPCLR empties the capture; a refused value sets REJ and changes nothing else. -/
def Obligations.FaultRegistersSelectConfigureAndClear : Prop :=
  ∀ (s : State) (m : Master) (b : Fin 24) (v : Word),
    Writes (.fltIdxWrite m b v) s m (fltBase b + 8) v (fun c t =>
      (v.toNat % 128 < 0x46 → t.fltIdx m b = v.toNat % 128 ∧
        (∀ (m' : Master) (b' : Fin 24), (m', b') ≠ (m, b) → t.fltIdx m' b' = c.fltIdx m' b') ∧ t.faults.src = c.faults.src) ∧
      (0x46 ≤ v.toNat % 128 → t.rej b = true ∧ t.faults.idx = c.faults.idx)) ∧
    (∀ (i : Fin 0x40) (d : SrcDef), s.fltIdx m b = i.val → (srcDefs b)[i.val]? = some d →
      (∀ e ∈ s.recent, e.1 ≠ ⟨b, i⟩) →
      Writes (.sourceWordWrite m b v) s m (fltBase b + 12) v (fun c t =>
        let old := c.src ⟨b, i⟩
        let new := t.src ⟨b, i⟩
        let refused := v.toNat % 8 = 7 ∨ (d.fixed = true ∧ v.toNat % 8 ≠ old.react) ∨ (v.toNat % 8 = 3 ∧ hasLocal b = false)
        new.ie = v.getLsbD 30 ∧ new.pend = (old.pend && !v.getLsbD 31) ∧ new.rlvl = (if v.getLsbD 31 then 0 else old.rlvl) ∧
        (refused → new.react = old.react ∧ t.rej b = true) ∧ (¬ refused → new.react = v.toNat % 8 ∧ t.rej b = c.rej b) ∧
        (∀ q : Src, q.blk < 24 → q.idx < 64 → q ≠ ⟨b, i⟩ → t.src q = c.src q) ∧ t.faults.cap = c.faults.cap)) ∧
    ((∀ e ∈ s.recent, e.1.blk ≠ b) → Writes (.captureClear m b v) s m (fltBase b + 4) v (fun c t =>
      (v.getLsbD 0 = true → (t.cap b).valid = false ∧ ∀ b', b' ≠ b.val → t.cap b' = c.cap b') ∧ (v.getLsbD 0 = false → t = c) ∧
        t.faults.src = c.faults.src))

/-- 02 R39, R41, R71, R76, R78, R85, 03 R109, R117, R140, R676: writes of the time and engine settings. Each takes effect in the states and for
the values that its rule allows. -/
def Obligations.TimeAndEngineSettingsTakeEffect : Prop :=
  ∀ (s : State) (m : Master) (v : Word),
    (∀ lo : Word, s.on F.SEXT_CTRL_EN = false → spGet none s.bus.lows (busKey m R.CHRONO_SET_LO) = some lo →
      Writes (.chronoLoad m v) s m R.CHRONO_SET_HI v (fun _ t => t.chrono.ct = v ++ lo ∧ t.chrono.frac = 0 ∧
        t.on F.CHRONO_STAT_STEPPED = true ∧ t.reg64 R.CHRONO_NOW_LO = (v ++ lo).toNat)) ∧
    (s.on F.CHRONO_CTRL_SERVO = false → Writes (.chronoTrimWrite m v) s m R.CHRONO_TRIM v (fun _ t =>
      t.reg R.CHRONO_TRIM = BitVec.ofInt 32 (max (-34359738) (min 34359738 v.toInt)))) ∧
    (s.on F.CHRONO_CTRL_SERVO = true → Writes (.chronoTrimWrite m v) s m R.CHRONO_TRIM v (fun b t => t = b)) ∧
    (v.getLsbD 0 = true → s.on F.SEXT_CTRL_EN = false → s.dev = stCONFIG ∨ s.dev = stDEFAULT ∨ s.dev = stLINKS → s.sxMayStart = true →
      Writes (.sextEnable m v) s m R.SEXT_CTRL v (fun b t => t.on F.SEXT_CTRL_EN = true ∧ t.get F.SEXT_STAT_STATE = 1 ∧
        t.sext.begun = false ∧ t.sext.comm = false ∧
        t.sext.b1 = ctAdd t.sext.b0 (clampInt (b.regN R.SEXT_DMIN) (b.regN R.SEXT_DMAX) (b.dNom b.fNom)))) ∧
    (v.getLsbD 0 = false → s.on F.SEXT_CTRL_EN = true → s.dev = stCONFIG ∨ s.dev = stDEFAULT ∨ s.dev = stLINKS →
      Writes (.sextDisable m v) s m R.SEXT_CTRL v (fun _ t => t.on F.SEXT_CTRL_EN = false ∧ t.get F.SEXT_STAT_STATE = 0 ∧
        t.on F.SEXT_STAT_LOCK = false ∧ t.sext.begun = false ∧ t.sext.comm = false)) ∧
    (s.on F.SEXT_CTRL_EN = false → Writes (.sextConfigWrite m 2 v) s m R.SEXT_FNOM v (fun b t => t = b.setReg R.SEXT_FNOM v)) ∧
    (s.on F.SEXT_CTRL_EN = false → 0 < v.toNat % 2 ^ 11 → Writes (.sextConfigWrite m 0 v) s m R.SEXT_N v (fun b t =>
      t.get F.SEXT_N_N = v.toNat % 2 ^ 11 ∧
      t.regN R.SEXT_DMIN = (let x := v.toNat % 2 ^ 11 * b.get F.SEXT_FLIM_F_MAX
        if x = 0 then 0xFFFFFFFF else min 0xFFFFFFFF ((256 * ctSecond + x - 1) / x)))) ∧
    (s.on F.SEXT_CTRL_EN = false → 200 ≤ fldOf F.ENG_TIMING_T_LEAD v → fldOf F.ENG_TIMING_T_LEAD v ≤ 1000 →
      200 ≤ fldOf F.ENG_TIMING_T_START v → fldOf F.ENG_TIMING_T_START v ≤ 2000 →
      Writes (.engTimingWrite m v) s m R.ENG_TIMING v (fun _ t => t.reg R.ENG_TIMING = v)) ∧
    (s.on F.SEXT_CTRL_EN = true → Writes (.engTimingWrite m v) s m R.ENG_TIMING v (fun b t =>
      t.reg R.ENG_TIMING = b.reg R.ENG_TIMING)) ∧
    (s.get F.ENG_STAT_ESTATE = 0 → s.spageVOk v = true → Writes (.engSpageVWrite m v) s m R.ENG_SPAGE_V v (fun b t =>
      t.vBase = fldOf F.ENG_SPAGE_V_BASE v ∧ t.vRows = fldOf F.ENG_SPAGE_V_NROWS v ∧ t.eng.pV = 0 ∧ t.eng.wV = 0 ∧ t.mem = b.mem)) ∧
    (s.get F.ENG_STAT_ESTATE = 0 → spageSOk v = true → Writes (.engSpageSWrite m v) s m R.ENG_SPAGE_S v (fun b t =>
      t.sBase = fldOf F.ENG_SPAGE_S_BASE v ∧ t.sWords = fldOf F.ENG_SPAGE_S_NWORDS v ∧ t.eng.pS = 0 ∧ t.eng.wS = 0 ∧ t.mem = b.mem)) ∧
    (v.getLsbD 0 = true → Writes (.engineEnable m v) s m R.ENG_CTRL v (fun b t => t.on F.ENG_CTRL_EN = true ∧ OnlyRegs b t [R.ENG_CTRL])) ∧
    (v.getLsbD 0 = false → Writes (.engineDisable m v) s m R.ENG_CTRL v (fun b t => t.on F.ENG_CTRL_EN = false ∧
      OnlyRegs b t [R.ENG_CTRL]))

/-- 11 R409, R412, R413, R418, R424, R426, 12 R458, 13 R474, R476, R495, R501: writes of the trip, Hall, safety and gate-driver settings: an
accepted comparator setting leaves its latch; a latch clears only while its source is deasserted; a started test shows BUSY; masks
are taken; SOUT requests are taken; the SAFE key unlocks; a fault clears when its cause is gone. -/
def Obligations.TripAndSafetySettingsTakeEffect : Prop :=
  ∀ (s : State) (m : Master) (v : Word),
    (∀ n : Fin 24, fldOf (F.CMP_CFG_HYS n) v ≤ 9 → fldOf (F.CMP_CFG_CLRCH n) v ≤ 10 →
      (fldOf (F.CMP_CFG_SENSE n) v = 3 → 8 * (fldOf (F.CMP_CFG_HYS n) v + 1) * 1024 < 2500 * ((fldOf (F.CMP_CFG_HI n) v : Int) - fldOf (F.CMP_CFG_LO n) v)) →
      Writes (.cmpCfgWrite m n v) s m (R.CMP_CFG n) v (fun b t => t.reg (R.CMP_CFG n) = v ∧
        t.get F.CMP_LATCH_L = b.get F.CMP_LATCH_L ∧
        (b.get (F.CMP_CFG_SENSE n) = 0 → fldOf (F.CMP_CFG_SENSE n) v ≠ 0 → t.fbit F.CMP_OUT_O n = true))) ∧
    ((∀ n, n < 24 → v.getLsbD n = true → s.fbit F.CMP_OUT_O n = false ∧ s.clearable F.CMP_LATCH_L n = true) →
      Writes (.latchClear m v) s m R.CMP_LATCH v (fun b t => t.get F.CMP_LATCH_L = b.get F.CMP_LATCH_L &&& (2 ^ 24 - 1 - v.toNat % 2 ^ 24))) ∧
    (v.getLsbD 31 = true → (s.plainWrite R.CMP_TEST v).testRefused = false →
      Writes (.comparatorTest m v) s m R.CMP_TEST v (fun _ t => t.on F.CMP_TSTAT_BUSY = true ∧
        t.get F.CMP_TSTAT_CMPSEL = v.toNat % 32 ∧ t.cmp.test = some (v.toNat % 32))) ∧
    (v.toNat < 256 → (∀ n, n < 8 → v.getLsbD n = true → s.tinSource n = false ∧ s.clearable F.TRIP_TLATCH_L n = true) →
      Writes (.tripinLatchClear m v) s m R.TRIP_TLATCH v (fun b t => t.get F.TRIP_TLATCH_L = b.get F.TRIP_TLATCH_L &&& (255 - v.toNat))) ∧
    (∀ n : Fin 20, Writes (.tripMaskWrite m ⟨n.val, by omega⟩ v) s m (R.TRIP_MASK n) v
      (fun b t => t = b.setReg (R.TRIP_MASK n) v)) ∧
    (∀ a : Fin 3, s.on (F.HALL_CFG_EN a) = false → v.getLsbD 31 = true → 1 ≤ fldOf (F.HALL_CFG_WIN a) v → fldOf (F.HALL_CFG_WIN a) v ≤ 100 →
      fldOf (F.HALL_CFG_SPR a) v ≠ 0 →
      Writes (.hallEnable m a v) s m (R.HALL_CFG a) v (fun _ t => t.on (F.HALL_CFG_EN a) = true ∧ t.on (F.HALL_STAT_HOMED a) = false ∧
        t.get (F.HALL_STAT_ILLRUN a) = 0 ∧ t.get (F.HALL_STATE_S a) = 7 ∧ spGet none t.hall.code a = none)) ∧
    ((∀ n, n < 3 → v.getLsbD n = true → (hallSector (s.get (F.HALL_STATE_CODE n))).isSome = true ∧ s.clearable (F.HALL_STAT_HALLF n) 0 = true) →
      Writes (.hallClear m v) s m R.HALL_CLR v (fun b t => ∀ n, n < 3 →
        t.get (F.HALL_STAT_HALLF n) = if v.getLsbD n then 0 else b.get (F.HALL_STAT_HALLF n))) ∧
    Writes (.soutRequestWrite m v) s m R.SAFE_SOUTREQ v (fun b t => t.get F.SAFE_SOUTREQ_REQ = v.toNat % 16 ∧ OnlyRegs b t [R.SAFE_SOUTREQ]) ∧
    Writes (.safeKeyWrite m 0x5AFE#32) s m R.SAFE_KEY 0x5AFE#32 (fun _ t => t.on F.SAFE_STAT_UNLOCKED = true) ∧
    (v ≠ 0x5AFE#32 → Writes (.safeKeyWrite m v) s m R.SAFE_KEY v (fun b t => t.on F.SAFE_STAT_UNLOCKED = false ∧ t.reg R.SAFE_CRC = b.safeCrc)) ∧
    (∀ a : Fin 3, v.getLsbD 0 = true → s.axd.vmov = false → s.axd.vgdLow = false → s.clearable (F.AXD_CHSTAT_FAULT a) 0 = true →
      Writes (.auxFaultClear m a v) s m (R.AXD_FLTCLR a) v (fun _ t => t.on (F.AXD_CHSTAT_FAULT a) = false ∧ t.reg (R.AXD_SCINFO a) = 0))

/-- 06 R219 to R221, R226, R227, R232, 10 R376, R377, R386, R394, R402: writes of the modulation and converter settings: a channel starts or
stops, a shadow takes its value and its WR bit sets, groups are armed, the references are taken, the converter is enabled or
aborted, lists and requests start, a slice is retired, a filter starts. -/
def Obligations.ModulationAndConverterSettingsTakeEffect : Prop :=
  ∀ (s : State) (m : Master) (v : Word) (c : Fin 465),
    let k := chanOf c
    let r := ri k
    (v.getLsbD 0 = true → s.on (F.MOD_CFG_EN r) = false → s.cfgBad k v = false →
      Writes (.channelEnable m c v) s m (chBase k) v (fun b t => t.on (F.MOD_CFG_EN r) = true ∧
        t.chan k = { b.chan k with starting := true, off := true } ∧ ∀ j, j ≠ k → t.chan j = b.chan j)) ∧
    (v.getLsbD 0 = false → s.on (F.MOD_CFG_EN r) = true → s.cfgBad k v = false →
      Writes (.channelDisable m c v) s m (chBase k) v (fun b t => t.on (F.MOD_CFG_EN r) = false ∧
        t.chan k = { b.chan k with starting := false, off := true } ∧ ∀ j, j ≠ k → t.chan j = b.chan j)) ∧
    (s.cfgBad k v = false → Writes (.modCfgWrite m c v) s m (chBase k) v (fun _ t =>
      t.get (F.MOD_CFG_MODE r) = fldOf (F.MOD_CFG_MODE r) v ∧ t.get (F.MOD_CFG_SAFEH r) = fldOf (F.MOD_CFG_SAFEH r) v ∧
        t.get (F.MOD_CFG_SAFEL r) = fldOf (F.MOD_CFG_SAFEL r) v ∧ t.get (F.MOD_CFG_GRP r) = fldOf (F.MOD_CFG_GRP r) v)) ∧
    (∀ f : Fin 4, Writes (.shadowWrite m c ⟨f.val, by omega⟩ v) s m (chBase k + 4 + 4 * f.val) v (fun b t =>
      t.regN (chBase k + 4 + 4 * f.val) % 2 ^ 28 = v.toNat % 2 ^ 28 ∧ t.get (F.MOD_CHST_WR r) = b.get (F.MOD_CHST_WR r) ||| 2 ^ f.val)) ∧
    Writes (.groupLoadArm m v) s m R.MOD_GLOAD v (fun b t => t.get F.MOD_GARM_G = b.get F.MOD_GARM_G ||| v.toNat % 2 ^ 16) ∧
    (s.on F.SEXT_CTRL_EN = false → 1000 ≤ fldOf F.MOD_AREF_AREF v → fldOf F.MOD_AREF_AREF v ≤ 1000000 →
      Writes (.modRefWrite m 0 v) s m R.MOD_AREF v (fun b t => t.get F.MOD_AREF_AREF = fldOf F.MOD_AREF_AREF v ∧ OnlyRegs b t [R.MOD_AREF])) ∧
    (v.getLsbD 0 = true → s.on F.ADC_CTRL_EN = false → s.listsBad = false →
      Writes (.adcEnable m v) s m R.ADC_CTRL v (fun b t => t.on F.ADC_CTRL_EN = true ∧ OnlyRegs b t [R.ADC_CTRL])) ∧
    (v.getLsbD 0 = false → s.on F.ADC_CTRL_EN = true →
      Writes (.adcDisable m v) s m R.ADC_CTRL v (fun _ t => t.on F.ADC_CTRL_EN = false ∧ t.adc.lists = [] ∧ t.adc.convs = [] ∧
        t.adc.inj = [] ∧ t.get F.ADC_LBUSY_L = 0)) ∧
    (∀ n : Fin 16, s.on F.ADC_CTRL_EN = true → s.fbit F.ADC_LBUSY_L n = false →
      Writes (.listStartHost m (BitVec.ofNat 32 (2 ^ n.val))) s m R.ADC_LSTART (BitVec.ofNat 32 (2 ^ n.val)) (fun b t =>
        t.fbit F.ADC_LBUSY_L n = true ∧ ∃ l, t.adc.lists = b.adc.lists ++ [l] ∧ l.list = n.val ∧ l.entry = b.get (F.ADC_LIST_FIRST n) ∧
          l.last = b.get (F.ADC_LIST_FIRST n) + b.get (F.ADC_LIST_COUNT n) - 1)) ∧
    (∀ j : Fin 4, s.on F.ADC_CTRL_EN = true → s.on (F.ADC_INJ_EN j) = true → s.get (F.ADC_INJ_TRIG j) = 0 → s.injPhase j = 0 →
      Writes (.injectTriggerHost m (BitVec.ofNat 32 (2 ^ j.val))) s m R.ADC_INJGO (BitVec.ofNat 32 (2 ^ j.val)) (fun b t =>
        t.injPhase j = (if b.get (F.ADC_INJ_DELAY j) = 0 then 2 else 1) ∧
          (b.get (F.ADC_INJ_DELAY j) = 0 → t.fbit F.ADC_INJSTAT_PEND j = true))) ∧
    (∀ i : Fin 9, s.retired i = false → s.get F.ADC_SPARE_SPARE < 9 → s.get F.ADC_SPARE_SPARE ≠ i.val →
      s.retired (s.get F.ADC_SPARE_SPARE) = false →
      Writes (.sliceRetire m (BitVec.ofNat 32 (2 ^ i.val))) s m R.ADC_RETIRE (BitVec.ofNat 32 (2 ^ i.val)) (fun b t =>
        t = { b with adc := { b.adc with swapDue := true, retireWait := b.adc.retireWait ||| 2 ^ i.val } })) ∧
    (∀ n : Fin 16, v.getLsbD 31 = true → s.on (F.SDF_CFG_EN n) = false → 32 ≤ fldOf (F.SDF_CFG_OSR n) v → fldOf (F.SDF_CFG_OSR n) v ≤ 256 →
      Writes (.sdfEnable m n v) s m (R.SDF_CFG n) v (fun _ t => t.on (F.SDF_CFG_EN n) = true ∧
        t.get (F.SDF_CFG_OSR n) = fldOf (F.SDF_CFG_OSR n) v ∧ spGet 0 t.adc.sdfFirst n = 2))

/-- 05 R201, 07 R256, R279, R280, 08 R298, R310, 17 R620: writes of the link, lane, Log and key registers: a host command is issued to a READY lane, a
failed lane queries again, a lane is enabled or disabled, an eye measurement starts, a forced trigger waits for the deadline, and a
key slot is revoked while another programmed one stays. -/
def Obligations.LinkLogAndKeyRegistersTakeEffect : Prop :=
  ∀ (s : State) (m : Master) (v : Word),
    (∀ l : Fin 56, v.getLsbD 31 = true → fldOf F.OCL_LCMD_LANE v = l.val → fldOf F.OCL_LCMD_OPC v = 8 → s.on F.OCL_LCMDST_BUSY = false →
      s.ostate l = loREADY → (s.lane l).cmd = none → s.laneLocked l = false →
      Writes (.laneCommand m v) s m R.OCL_LCMD v (fun b t => t.on F.OCL_LCMDST_BUSY = true ∧ t.on F.OCL_LCMDST_FAILED = false ∧
        (t.lane l).cmd = some { opc := 8, seq := (b.lane l).seq, data := [], sends := 0, src := 1, due := true } ∧
        (t.lane l).seq = ((b.lane l).seq + 1) % 256)) ∧
    (∀ l : Fin 56, v.getLsbD 0 = true → s.ostate l = loFAIL →
      Writes (.laneRetry m l v) s m (R.OCL_LCTRL l) v (fun b t => t.ostate l = loQUERY ∧ t.get (F.OCL_LSTATE_REASON l) = 0 ∧
        ∀ j : Fin 56, j ≠ l → t.ostate j = b.ostate j)) ∧
    (∀ l : Fin 64, v.getLsbD 0 = true → s.on (F.LANE_CFG_EN l) = false → s.ls l = lsOFF → fldOf (F.LANE_CFG_RATE l) (s.wouldBe (R.LANE_CFG l) v) ≠ 3 →
      Writes (.laneEnable m l v) s m (R.LANE_CFG l) v (fun _ t => t.on (F.LANE_CFG_EN l) = true ∧ t.ls l = lsCDR)) ∧
    (∀ l : Fin 64, s.on (F.LANE_CFG_EN l) = true → (∀ i, i < 32 → i ≠ 0 → v.getLsbD i = (s.reg (R.LANE_CFG l)).getLsbD i) → v.getLsbD 0 = false →
      s.get (F.LANE_CFG_RATE l) ≠ 3 →
      Writes (.laneDisable m l v) s m (R.LANE_CFG l) v (fun _ t => t.on (F.LANE_CFG_EN l) = false ∧ t.ls l = lsOFF)) ∧
    (∀ l : Fin 64, v.getLsbD 31 = true → s.on (F.LANE_EYECTL_BUSY l) = false → lsHUNT ≤ s.ls l →
      Writes (.eyeStart m l v) s m (R.LANE_EYECTL l) v (fun _ t => t.on (F.LANE_EYECTL_BUSY l) = true ∧
        t.on (F.LANE_EYECTL_DONE l) = false ∧ t.reg (R.LANE_EYEERR l) = 0)) ∧
    (∀ hi : Bool, let a := if hi then R.OCL_EN_HI else R.OCL_EN_LO
      Writes (.oclLaneEnable m hi v) s m a v (fun b t => (if hi then t.get F.OCL_EN_HI_V = v.toNat % 2 ^ 24 else t.reg a = v) ∧ OnlyRegs b t [a]) ∧
      Writes (.oclLaneDisable m hi v) s m a v (fun b t => (if hi then t.get F.OCL_EN_HI_V = v.toNat % 2 ^ 24 else t.reg a = v) ∧ OnlyRegs b t [a])) ∧
    (v.getLsbD 3 = true → s.logState = logPRE → Writes (.logForce m v) s m R.LOG_CTRL v (fun _ t => t.log.force = true)) ∧
    (∀ ks : Fin 16, gateOpenCfg s.dev = true → s.on F.UPD_STAT_NOIMAGE = true →
      (∃ k, k < 4 ∧ s.fbit F.NVM_KEYS_PROG k = true ∧ s.fbit F.NVM_KEYS_REVOKED k = false ∧ ks.val.testBit k = false) →
      Writes (.keyRevoke m (BitVec.ofNat 32 (0x4B590000 + ks.val))) s m R.NVM_REVOKE (BitVec.ofNat 32 (0x4B590000 + ks.val)) (fun b t =>
        t.get F.NVM_KEYS_REVOKED = b.get F.NVM_KEYS_REVOKED ||| ks.val ∧ OnlyRegs b t [R.NVM_KEYS]))


namespace Sys2Proof.Stmt
open Sys2Proof.Machine

/-- The frame with header `h`, opcode `opc` and body words `body` is admitted on its port as the command `c` (16 R576 to R582): on QSPI in
flow 4, on Ethernet in the flow of its source. -/
def Frame (s : State) (h : HostHdr) (opc : Nat) (body : List Word) (c : HCmd) : Prop :=
  stCONFIG ≤ s.dev ∧ s.sys.offL = false ∧ s.portOn h.port = true ∧ frameBad h body = false ∧
    c = { key := ⟨c.key.flow, h.seq.toNat⟩, hseq := h.seq.toNat, opc, cls := h.cls.toNat, node := h.node.toNat,
          body := body.take (h.len / 4), src := c.src, port := h.port } ∧
    (h.port = .qspi → c.key.flow = 4 ∧ c.src = 0) ∧
    (h.port ≠ .qspi → c.key.flow < 4 ∧ c.src = h.src.toNat ∧ s.admitHost h opc = (some c.key.flow, false))

/-- Nothing else of hosts, the ring or the partner waits or runs, and the QSPI queue has room. -/
def HostQuiet (s : State) : Prop :=
  (∀ f, (s.flow f).held = [] ∧ (s.flow f).taken = [] ∧ (s.flow f).queries = []) ∧ s.host.ringCmds = [] ∧ s.host.ops = [] ∧
    s.host.accs = [] ∧ s.host.queue.length < 64 ∧ s.sys.move = none

/-- The command is valid, is for this device, carries the next number of its flow if it is no QUERY, and the journal takes it (R584, R586,
R588, R599). -/
def Accepted (s : State) (c : HCmd) : Prop :=
  s.badCmd c = none ∧ s.destOf c.node = .own ∧ stateAllows s.dev c.opc = true ∧
    (c.cls ≠ 0 → s.dev ≠ stSEALED ∧ s.dev ≠ stTHERMAL ∧ (s.active = true ∨ s.dev < stLINKS) ∧ s.canTake c = true ∧
      c.key.seq = s.regN (R.HOST_FLOW_N c.key.flow) ∧ s.regN (R.HOST_FLOW_D c.key.flow) = c.key.seq)

/-- The registers of the host port that taking in, recording and answering a command of flow `f` change. -/
def hostRegs (f : Nat) : List Nat :=
  [R.HOST_JPOS, R.HOST_JFREE, R.HOST_QSTAT, R.NVM_STAT, R.HOST_FLOW_N f, R.HOST_FLOW_D f]

/-- `t` is `s` after work of the host port alone for flow `f`: its registers, the journal and its writes, frames to the host. -/
def HostWork (f : Nat) (s t : State) : Prop :=
  (∃ regs fresh freshAt rcPrev jobs host tx,
    t = { s with regs, host, tx, bus := { s.bus with fresh, freshAt, rcPrev }, nvm := { s.nvm with jobs } }) ∧
  t.host.ops = s.host.ops ∧ t.host.accs = s.host.accs ∧ ∀ a, a ∉ hostRegs f → t.reg a = s.reg a

/-- The last frame sent from `x` to `u` is the response with word `w` to `c`, with data; a final one leaves the flow and is kept (R590,
R591). -/
def Answers (x u : State) (c : HCmd) (w : Nat) (data : List Word) : Prop :=
  let m := OutMsg.host c.port c.src 2 c.key.flow c.hseq c.opc c.cls (if c.cls = 1 then 1 else 0) x.nodeId (BitVec.ofNat 32 w :: data)
  HostWork c.key.flow x u ∧ (c.port ≠ .qspi → u.tx = x.tx ++ [m]) ∧
    (c.port = .qspi → u.host.queue = x.host.queue ++ [m] ∧ u.tx = x.tx) ∧
    (c.cls ≠ 0 → w % 256 ≠ 1 → (∀ r ∈ (u.flow c.key.flow).taken, r.cmd.key ≠ c.key) ∧
      ∃ l, (u.flow c.key.flow).finals = { seq := c.key.seq, word := BitVec.ofNat 32 w, data := data.take 4, unmirrored := c.cls == 1 } :: l)

/-- The command `i` brings the host command `c`, which is taken in and starts in the same tick: from the state `b` that taking it in leaves,
its effect leads to a state with property `P`, and its response has the word `w b` and the data `d b` (R590). -/
def Runs (i : Instr) (s : State) (c : HCmd) (w : State → Nat) (d : State → List Word) (P : State → State → Prop) : Prop :=
  ∃ b x u, HostWork c.key.flow s b ∧ b.tx = s.tx ∧ b.host.queue = s.host.queue ∧
    (c.cls ≠ 0 → b.regN (R.HOST_FLOW_N c.key.flow) = seqNext c.key.seq) ∧ P b x ∧ Answers x u c (w b) (d b) ∧ exec i s = .next (settle s u)

/-- A frame of a host with this opcode and class that nothing holds back, no partner being linked, runs as `Runs` says, for every command with
property `B`. -/
def Starts (mk : HostHdr → List Word → Instr) (opc cls : Nat) (s : State) (B : HCmd → Prop) (w : HCmd → State → Nat)
    (d : HCmd → State → List Word) (P : HCmd → State → State → Prop) : Prop :=
  ∀ (h : HostHdr) (body : List Word) (c : HCmd), Frame s h opc body c → Accepted s c → c.cls = cls → HostQuiet s → s.linked = false → B c →
    Runs (mk h body) s c (w c) (d c) (P c)

/-- DONE; ACCEPTED; FAILED for a reason of 16 Table 4. -/
def doneW : HCmd → State → Nat := fun _ _ => 2
def acceptW : HCmd → State → Nat := fun _ _ => 1
def failW (g : Nat) : HCmd → State → Nat := fun _ _ => 3 + 256 * g
def noData : HCmd → State → List Word := fun _ _ => []
/-- No effect beside the response. -/
def Same : HCmd → State → State → Prop := fun _ b x => x = b
/-- The command takes slot 0 with its counters (R605, R606). -/
def TakesSlot (aux : List Nat) (c : HCmd) (b x : State) : Prop :=
  x.host.ops = [(0, { cmd := c, aux, words := [] })] ∧ x.on (F.HOST_OP_STAT_BUSY 0) = true ∧ x.get (F.HOST_OP_STAT_OPC 0) = c.opc ∧
    x.get (F.HOST_OP_STAT_FLOW 0) = c.key.flow ∧ x.regN (R.HOST_OP_SEQ 0) = c.hseq ∧ x.mem = b.mem ∧ x.dev = b.dev
/-- The device is to move to `st` at the next boundary, for this command. -/
def AsksMove (st : Nat) (c : HCmd) (b x : State) : Prop := x = { b with sys := { b.sys with move := some ⟨st, [c.key]⟩ } }

end Sys2Proof.Stmt

/-- 16 R576, R581, R590, R603, R609: accesses and status. READ, WRITE and MODIFY of a register answer DONE with the word read, with none, and
with the old word; an address outside the map fails and nothing is accessed; STATUS answers its eleven words; FIX_READ answers words of
the named bank; EVENT_ACK ends the resending of an event it covers; a frame that breaks R581 on QSPI is counted. -/
def Obligations.HostReadsWritesAndStatusAnswer : Prop :=
  ∀ (s : State) (n : Fin 4),
    let a := R.SYS_SCRATCH n
    let free := (∀ c ∈ s.bus.deferred, claimKey c.addr ≠ claimKey a) ∧ (s.servedBy (claimKey a) = none ∨ s.servedBy (claimKey a) = some Master.host.code)
      ∧ ∀ e ∈ s.bus.rescap ++ s.bus.caps, e.1 ≠ busKey .host a
    let body (l : List Word) (c : HCmd) : Prop := c.body = BitVec.ofNat 32 a :: l ∧ free
    let stat (c : HCmd) (b : State) : List Word := [b.reg R.SYS_STATE, BitVec.ofNat 32 b.reactWord, BitVec.ofNat 32 b.irqSrc, b.reg R.SYS_RSTCAUSE,
      b.reg (R.HOST_FLOW_N c.key.flow), b.reg (R.HOST_FLOW_D c.key.flow), 0, b.reg R.HOST_JPOS, BitVec.ofNat 32 b.now,
      BitVec.ofNat 32 (b.now / 2 ^ 32), BitVec.ofNat 32 (b.flow c.key.flow).lastEvent]
    (∀ cls ∈ [0, 1], Starts .read 1 cls s (body [1]) doneW (fun _ b => [b.reg a]) (fun _ b x => ∃ bus, x = { b with bus })) ∧
    (∀ v, Starts .write 2 1 s (body [1, v]) doneW noData (fun _ b x => ∃ bus, x = ({ b with bus } : State).setReg a v)) ∧
    (∀ m v, Starts .modify 3 1 s (body [m, v]) doneW (fun _ b => [b.reg a])
      (fun _ b x => ∃ bus, x = ({ b with bus } : State).setReg a ((b.reg a &&& ~~~ m) ||| (v &&& m)))) ∧
    (Starts .read 1 1 s (fun c => inWindow (bw c.body 0) = false) (failW 6) noData Same) ∧
    (Starts .write 2 1 s (fun c => inWindow (bw c.body 0) = false) (failW 6) noData Same) ∧
    (Starts .modify 3 1 s (fun c => inWindow (bw c.body 0) = false) (failW 6) noData Same) ∧
    Starts .status 4 0 s (fun _ => True) doneW stat Same ∧
    (∀ k, Starts .fixRead 0x31 0 s (fun c => s.bankOf (bw c.body 0) = some k) doneW
      (fun c b => (List.range (bitsOf (bw c.body 1) 16 11 / 4)).map fun i => b.reg (R.RING_FIXBANK k (bw c.body 1 % 2048 / 4 + i))) Same) ∧
    Starts .fixRead 0x31 0 s (fun c => s.bankOf (bw c.body 0) = none) (failW 0x22) noData Same ∧
    (∀ m, Starts .eventAck 0x71 0 s (fun c => (s.flow c.key.flow).event = some m ∧ (s.flow c.key.flow).lastEvent = bw c.body 0) doneW noData
      (fun c b x => (x.flow c.key.flow).event = none ∧ ∃ host, x = { b with host })) ∧
    Starts (fun h l => .qspiWrframe h 4 l) 4 0 s (fun c => c.port = .qspi) doneW stat Same ∧
    (∀ (h : HostHdr) (opc : BitVec 16) (l : List Word), s.qspiOn = true → frameBad h l = true → 0 < s.reactNow Q.HOST_RXERR →
      s.reactNow Q.HOST_RXERR ≤ 3 → s.on F.HOST_STAT_RXERR = false → HostQuiet s → Gives (.qspiWrframe h opc l) s (fun t =>
        t.on F.HOST_STAT_RXERR = true ∧ (t.src Q.HOST_RXERR).pend = true))

/-- 05 R185, R191, R208, R209, R213: programs, Almanacs, swaps and modes. A load writes the words of its frame to the inactive bank and nothing
else, and marks it not verified; with LAST it goes on in a slot. An accepted swap waits for its boundary, or takes effect at once while
the Helm is stopped. A mode waits for the boundary, or is current at once. -/
def Obligations.HostProgramBankAndModeCommandsAct : Prop :=
  ∀ (s : State),
    let last (c : HCmd) : Bool := (bw c.body 0).testBit 31
    let prog (c : HCmd) (b x : State) : Prop :=
      let p := pmemAddr (1 - b.pBank) (bw c.body 0 % 8192)
      (∀ i, i < bw c.body 1 → x.load (p + 8 * i) 8 = bw c.body (2 + 2 * i) + 2 ^ 32 * bw c.body (3 + 2 * i)) ∧
        BytesKept b x p (8 * bw c.body 1) ∧ (bw c.body 1 ≠ 0 → x.on F.ALM_SWAP_VERP = false) ∧ x.dev = b.dev ∧ x.eng = b.eng
    let alm (c : HCmd) (b x : State) : Prop :=
      let p := almAddr (1 - b.aBank) (bw c.body 0 % 1024)
      (∀ i, i < 4 * bw c.body 1 → x.load (p + 4 * i) 4 = bw c.body (2 + i)) ∧ BytesKept b x p (16 * bw c.body 1) ∧
        (bw c.body 1 ≠ 0 → x.on F.ALM_SWAP_VERA = false) ∧ x.dev = b.dev ∧ x.eng = b.eng
    let sel (c : HCmd) : Nat := bw c.body 0 % 4
    let at_ (c : HCmd) : Nat := bw c.body 1 + 2 ^ 32 * bw c.body 2
    let moving := s.get F.ENG_STAT_ESTATE ≠ 0
    Starts .loadProgram 0x10 1 s (fun c => last c = false) doneW noData prog ∧
    Starts .loadProgram 0x10 1 s (fun c => last c = true) acceptW noData (fun c b x => prog c b x ∧
      x.host.ops = [(0, { cmd := c, aux := [], words := [] })]) ∧
    Starts .loadAlmanac 0x11 1 s (fun c => last c = false) doneW noData alm ∧
    Starts .loadAlmanac 0x11 1 s (fun c => last c = true) acceptW noData (fun c b x => alm c b x ∧
      x.almLen (1 - b.aBank) = bitsOf (bw c.body 0) 16 11 ∧ x.host.ops = [(0, { cmd := c, aux := [], words := [] })]) ∧
    (∀ g, Starts .swapBank 0x12 1 s (fun c => s.swapBad (last c) (sel c) (at_ c) = some g) (failW g) noData Same) ∧
    Starts .swapBank 0x12 1 s (fun c => s.swapBad (last c) (sel c) (at_ c) = none ∧ moving) acceptW noData (fun c b x =>
      x.on F.ALM_SWAP_PEND = true ∧ x.get F.ALM_SWAP_SEL = sel c ∧ x.on F.ALM_SWAP_ATP = last c ∧ x.eng.swapOwner = some c.key ∧
        (last c = true → x.reg64 R.ALM_SWAPP_LO = at_ c) ∧ x.pBank = b.pBank ∧ x.aBank = b.aBank ∧ x.mem = b.mem) ∧
    Starts .swapBank 0x12 1 s (fun c => s.swapBad (last c) (sel c) (at_ c) = none ∧ ¬ moving) doneW
      (fun _ b => [BitVec.ofNat 32 b.pcnt, BitVec.ofNat 32 (b.pcnt / 2 ^ 32)]) (fun c b x =>
      x.pBank = (if (sel c).testBit 0 then 1 - b.pBank else b.pBank) ∧ x.aBank = (if (sel c).testBit 1 then 1 - b.aBank else b.aBank) ∧
        x.on F.ALM_SWAP_PEND = false ∧ x.on F.ALM_STAT_SWAPPED = true ∧ x.mem = b.mem) ∧
    Starts .setMode 0x13 1 s (fun c => moving ∧ s.on F.ALM_MODE_PEND = false) acceptW noData (fun c b x =>
      x.get F.ALM_MODE_NEXT = bw c.body 0 ∧ x.on F.ALM_MODE_PEND = true ∧ x.get F.ALM_MODE_CUR = b.get F.ALM_MODE_CUR ∧
        x.eng.modeOwner = some c.key ∧ x.mem = b.mem) ∧
    Starts .setMode 0x13 1 s (fun c => ¬ moving ∧ s.modeDefined (bw c.body 0) = true) doneW noData (fun c b x =>
      x.get F.ALM_MODE_CUR = bw c.body 0 ∧ x.on F.ALM_MODE_PEND = false ∧ x.mem = b.mem ∧ x.eng = b.eng) ∧
    Starts .setMode 0x13 1 s (fun c => ¬ moving ∧ s.modeDefined (bw c.body 0) = false ∧ s.on F.ALM_STAT_MODEREJ = true) (failW 0x0C) noData Same

/-- 01 R31 to R36, R675, 09 R342, R343, 13 R494, 15 R553: moves of the device, fixes and the safety reset. ARM, RUN and RELEASE wait for the
next boundary where their state and conditions hold, else fail; BLOCK acts in its tick; SAFE_RESET clears what no demand holds and leaves
SAFE; FIX takes a bank and arms it. -/
def Obligations.HostMoveFixAndSafetyCommandsAct : Prop :=
  ∀ (s : State),
    Starts .arm 0x20 1 s (fun _ => s.dev = stLINKS ∧ s.linksReady = true) acceptW noData (AsksMove stARMED) ∧
    Starts .arm 0x20 1 s (fun _ => s.dev = stLINKS ∧ s.linksReady = false) (failW 0x2B) noData Same ∧
    Starts .arm 0x20 1 s (fun _ => s.dev ≠ stLINKS) (failW 1) noData Same ∧
    Starts .run 0x21 1 s (fun _ => s.dev = stARMED ∧ s.runAllowed = true) acceptW noData (AsksMove stRUN) ∧
    Starts .run 0x21 1 s (fun _ => s.dev = stARMED ∧ s.runAllowed = false) (failW 0x29) noData Same ∧
    Starts .run 0x21 1 s (fun _ => s.dev ≠ stARMED) (failW 1) noData Same ∧
    Starts .block 0x22 1 s (fun _ => s.dev = stARMED ∨ s.dev = stRUN ∨ s.dev = stDEGRADED) doneW noData (fun _ b x =>
      x.dev = stBLOCKED ∧ x.sys = { b.sys with cause := none } ∧ x.mem = b.mem ∧ (∀ a, a ≠ R.SYS_STATE → x.reg a = b.reg a)) ∧
    Starts .block 0x22 1 s (fun _ => s.dev ≠ stARMED ∧ s.dev ≠ stRUN ∧ s.dev ≠ stDEGRADED) (failW 1) noData Same ∧
    Starts .release 0x23 1 s (fun _ => s.dev = stBLOCKED ∧ s.activeSource = false) acceptW noData (AsksMove stARMED) ∧
    Starts .release 0x23 1 s (fun _ => s.dev = stBLOCKED ∧ s.activeSource = true) (failW 0x2A) noData Same ∧
    Starts .release 0x23 1 s (fun _ => s.dev ≠ stBLOCKED) (failW 1) noData Same ∧
    Starts .safeReset 0x60 1 s (fun _ => s.dev ≠ stSAFE ∧ s.safe.disc = 0 ∧ s.safetySrc = false) doneW noData (fun _ b x =>
      (∀ n, n < 4 → x.on (F.SAFE_SOUTSTAT_RBERR n) = false ∧ x.on (F.SAFE_SOUTSTAT_OC n) = false) ∧ x.dev = b.dev ∧
        ∀ a, a < 3 → b.demands &&& b.get (F.SAFE_CHCFG_STOMASK a) = 0 → b.safe.ss1Held.testBit a = false →
          x.on (F.SAFE_CHSTAT_WAITRST a) = false) ∧
    Starts .safeReset 0x60 1 s (fun _ => s.dev = stSAFE ∧ s.safe.disc = 0 ∧ s.demands = 0) doneW noData (fun _ b x =>
      x.dev = stBLOCKED ∧ x.sys.cause = none ∧ ∀ q ∈ allSrcs, (b.src q).rlvl = 5 → (x.src q).pend = false) ∧
    Starts .safeReset 0x60 1 s (fun _ => s.dev = stSAFE ∧ s.safe.disc = 0 ∧ s.demands ≠ 0) (failW 0x26) noData (fun _ b x =>
      x.dev = stSAFE ∧ x.faults = b.faults) ∧
    (∀ k, Starts .fixCmd 0x30 1 s (fun c => 320000 ≤ ctDiff (bw c.body 1 + 2 ^ 32 * bw c.body 2) s.now ∧ s.bankOf (bw c.body 0) = none ∧
        s.fixChoice = some k) acceptW noData (fun c b x =>
      x.fixBank k = { state := fxARMED, fixid := bw c.body 0, tfix := bw c.body 1 + 2 ^ 32 * bw c.body 2, t := b.now } ∧
        (∀ j, j ≠ k → x.fixBank j = b.fixBank j) ∧ x.mem = b.mem)) ∧
    Starts .fixCmd 0x30 1 s (fun c => ctDiff (bw c.body 1 + 2 ^ 32 * bw c.body 2) s.now < 320000) (failW 0x21) noData Same

/-- 05 R204, R205, 10 R396, 12 R467, 16 R595, R605, R606: stepped commands. LOG_ARM arms the Log with an empty buffer; LOG_READ, CAL_ADC, OFFDIAG
and JOURNAL_READ take a slot and go on in steps; the ones whose conditions do not hold fail and take none. -/
def Obligations.HostSteppedCommandsTakeASlot : Prop :=
  ∀ (s : State),
    let idle := s.logState = logIDLE ∨ s.logState = logDONE
    Starts .logArm 0x40 1 s (fun _ => idle ∧ s.armBad = false) doneW noData (fun _ b x => x.logState = logPRE ∧
      x.log = { b.log with next := 0, count := 0, pre := 0, post := 0, force := false } ∧ x.get F.LOG_FIRST_HELD = 0 ∧
        x.get F.LOG_STAT_TRIGSRC = 0 ∧ x.mem = b.mem) ∧
    Starts .logArm 0x40 1 s (fun _ => idle ∧ s.armBad = true) (failW 0x20) noData Same ∧
    Starts .logArm 0x40 1 s (fun _ => ¬ idle) (failW 1) noData Same ∧
    Starts .logRead 0x41 0 s (fun _ => idle) acceptW noData (TakesSlot [0]) ∧
    Starts .logRead 0x41 0 s (fun _ => ¬ idle) (failW 1) noData Same ∧
    Starts .calAdc 0x50 1 s (fun _ => s.spareOk = true) acceptW noData (fun c b x => TakesSlot [] c b x ∧ x.adc = { b.adc with forced := 9 } ∧
      x.regN (R.HOST_OP_TOTAL 0) = 9) ∧
    Starts .calAdc 0x50 1 s (fun _ => s.spareOk = false) (failW 0x23) noData Same ∧
    (∀ a : Fin 3, Starts .offdiag 0x52 1 s (fun c => s.get F.AXD_VMLIM_VMUV ≤ s.get F.AXD_VM_VM ∧ (bw c.body 0).testBit a = true ∧
        (∀ j < a.val, (bw c.body 0).testBit j = false) ∧ s.diagRefused a = false) acceptW noData (fun c b x =>
      TakesSlot [bw c.body 0 - 2 ^ a.val, a, 0, b.get F.AXD_VM_VM, 0xFF000000, 0xFF000000, 0xFF000000] c b x ∧
        x.on (F.AXD_CHSTAT_DIAG a) = true ∧ x.on F.AXD_DIAGSTAT_BUSY = true ∧ x.get F.AXD_DIAGSTAT_CH = a)) ∧
    Starts .offdiag 0x52 1 s (fun _ => s.get F.AXD_VM_VM < s.get F.AXD_VMLIM_VMUV) (failW 0x24) noData Same ∧
    Starts .journalRead 0x72 0 s (fun _ => True) acceptW noData (TakesSlot [0, 0, 0])

namespace Sys2Proof.Stmt
open Sys2Proof.Machine

/-- A PERSIST command that the frame brings is taken in and waits for its NVM write: its record is in the NVM journal, the write has started,
nothing but the host port has changed, and no response is sent yet (R586, R593). -/
def Records (e : (HostHdr → List Word → Instr) × Nat) (s : State) : Prop :=
  ∀ (h : HostHdr) (body : List Word) (c : HCmd), Frame s h e.2 body c → Accepted s c → c.cls = 2 → HostQuiet s → s.linked = false →
    Gives (e.1 h body) s fun t => HostWork c.key.flow s t ∧ t.tx = s.tx ∧ t.host.queue = s.host.queue ∧
      t.nvm.jobs = s.nvm.jobs ++ [.record (.cmd c.key) none] ∧ t.on F.NVM_STAT_BUSY = true ∧
      t.regN (R.HOST_FLOW_N c.key.flow) = seqNext c.key.seq ∧
      (∃ p, t.host.nvmJ = s.host.nvmJ ++ [⟨p, 1, c.key.flow, 2, 0, c.key.seq, c.opc, s.now, c.body⟩]) ∧
      ∃ r, (t.flow c.key.flow).taken = [r] ∧ r.cmd = c ∧ r.nvmWait = true ∧ r.started = false

/-- `r` is the secured PERSIST command of this device's own flows that starts next, with opcode `opc`; no slot is taken. -/
def StartsNext (s : State) (opc : Nat) (r : HRec) : Prop :=
  s.hostRuns = true ∧ s.nextRec s.waiting false [] = some r ∧ r.cmd.opc = opc ∧ r.cmd.cls = 2 ∧ r.cmd.key.flow < 5 ∧
    (∃ l l', (s.flow r.cmd.key.flow).taken = l ++ r :: l' ∧ ∀ q ∈ l ++ l', q.cmd.key ≠ r.cmd.key) ∧
    r.accepted = false ∧ r.unmirrored = false ∧ r.partner = false ∧ r.remote = false ∧ r.apply = false ∧
    r.cmd.hseq = r.cmd.key.seq ∧ r.cmd.key.seq < 2 ^ 32 ∧ s.host.queue.length < 64 ∧ s.host.ops = [] ∧ stateAllows s.dev opc = true

/-- COMMAND_START runs the command that starts next as `Runs` says, for every command with property `B`. -/
def Begins (opc : Nat) (s : State) (B : HCmd → Prop) (w : HCmd → State → Nat) (d : HCmd → State → List Word)
    (P : HCmd → State → State → Prop) : Prop :=
  ∀ r, StartsNext s opc r → B r.cmd → ∃ b x u, HostWork r.cmd.key.flow s b ∧ b.tx = s.tx ∧ b.host.queue = s.host.queue ∧
    P r.cmd b x ∧ Answers x u r.cmd (w r.cmd b) (d r.cmd b) ∧ exec .commandStart s = .next (settle s u)

end Sys2Proof.Stmt

/-- 16 R586, R592, R593: every command that may be PERSIST is recorded in the NVM journal, and only then acknowledged and executed. -/
def Obligations.PersistCommandsAreRecordedFirst : Prop :=
  ∀ (s : State), ∀ e ∈ [(Instr.cfgCommit, 0x51), (.reset, 0x70), (.updOpen, 0x80), (.updChunk, 0x81), (.updRelay, 0x83), (.updActivate, 0x84),
    (.updConfirm, 0x85), (.updAbort, 0x86), (.write, 2), (.modify, 3), (.loadProgram, 0x10), (.loadAlmanac, 0x11), (.swapBank, 0x12),
    (.setMode, 0x13), (.arm, 0x20), (.run, 0x21), (.block, 0x22), (.release, 0x23), (.fixCmd, 0x30), (.logArm, 0x40), (.calAdc, 0x50),
    (.offdiag, 0x52), (.safeReset, 0x60), (.proofSwap, 0x61)], Records e s

/-- 09 R367, 15 R559, R575, 17 R623 to R637, 16 R595: what the secured PERSIST commands do when they start. CFG_COMMIT stages words; RESET resets
the device with CMD as its source; UPD_OPEN opens a session; UPD_CHUNK stores its piece; UPD_RELAY and UPD_ACTIVATE go on in a slot;
UPD_CONFIRM waits in a trial; UPD_ABORT closes the session; PROOF_SWAP sets its period. UPD_STATUS answers the update registers. -/
def Obligations.UpdateConfigurationAndResetCommandsAct : Prop :=
  ∀ (s : State),
    let sess (x : State) := x.nvm.sess
    let digest (c : HCmd) := (c.body.drop 2).flatMap wordBytes
    let cnt (c : HCmd) : Nat := bitsOf (bw c.body 1) 16 11
    let addr (c : HCmd) (b : State) : Nat := 0x500000 * b.idleSlot + 4096 * cnt c + 512 * (bw c.body 1 % 8)
    let bit := (Config.freeValue s.free).getLsbD 0
    let seen := s.linked && !s.on F.TWIN_STAT_CFGMIS && s.on F.TWIN_MFIT_FIT && !s.twin.partnerRole && s.twin.synced
      && (stARMED ≤ s.twin.partnerState && s.twin.partnerState ≤ stSAFE) && s.twin.swapOwner.isNone
    Begins 0x51 s (fun c => s.on F.UPD_STAT_NOIMAGE = false ∧ (bw c.body 0).testBit 31 = false) doneW noData (fun c b x =>
      (∃ stage, x = { b with sys := { b.sys with stage } }) ∧
        ∀ i, i + 1 < c.body.length → spGet 0 x.sys.stage (bw c.body 0 % 2 ^ 17 / 4 + i) = c.body.getD (i + 1) 0) ∧
    Begins 0x51 s (fun _ => s.on F.UPD_STAT_NOIMAGE = true) (failW 0x4B) noData Same ∧
    (∀ r, StartsNext s 0x70 r → s.sys.rstAt ≠ some s.now → s.dev ≠ stSEALED → s.dev ≠ stTHERMAL → Gives .commandStart s (fun t =>
      t.dev = stBOOT ∧ t.get F.SYS_RSTCAUSE_SRC = 4 ∧ t.get F.SYS_RSTCAUSE_WARM = min (s.get F.SYS_RSTCAUSE_WARM + 1) 65535 ∧
        t.mem = s.mem ∧ t.chrono.ct = s.chrono.ct)) ∧
    Begins 0x80 s (fun _ => sess s = none ∧ s.on F.SYS_STATE_TRIAL = false) doneW (fun _ _ => [0]) (fun c b x =>
      sess x = some { session := bw c.body 0, digest := digest c, nch := bw c.body 1, pieces := 0, age := 0, relay := false } ∧
        x.slotState b.idleSlot = 1 ∧ x.nvm.mram = b.nvm.mram ∧ x.regN R.UPD_SESSION = bw c.body 0) ∧
    (∀ y, Begins 0x80 s (fun c => sess s = some y ∧ (y.session ≠ bw c.body 0 ∨ y.digest ≠ digest c)) (failW 0x41) noData Same) ∧
    (∀ y, Begins 0x81 s (fun c => c.body.length = 130 ∧ sess s = some y ∧ y.session = bw c.body 0 ∧ cnt c < y.nch ∧ s.hashPresent y s.idleSlot (cnt c) = true ∧
        s.pfail = false ∧ (y.setPieces (cnt c) (2 ^ (bw c.body 1 % 8))).has (cnt c) = false) doneW
      (fun c _ => [BitVec.ofNat 32 (y.setPieces (cnt c) (2 ^ (bw c.body 1 % 8))).count]) (fun c b x =>
        sess x = some (y.setPieces (cnt c) (2 ^ (bw c.body 1 % 8))) ∧
        ∀ a, memGet x.nvm.mram a = if addr c b ≤ a ∧ a < addr c b + (digest c).length then (digest c).getD (a - addr c b) 0 else memGet b.nvm.mram a)) ∧
    Begins 0x81 s (fun _ => sess s = none) (failW 0x40) noData Same ∧
    Begins 0x83 s (fun c => s.slotState (bitsOf (bw c.body 1) 28 1) ∈ [3, 5, 7] ∧ s.upd.relay = none ∧
        s.ringPort (if (bw c.body 1).testBit 31 then 1 else 0) = 3) acceptW noData (fun c b x =>
      x.host.ops.map (fun e => (e.1, e.2.cmd)) = [(0, c)] ∧ ∃ y, x.upd = { b.upd with relay := some y } ∧ y.session = bw c.body 0 ∧
        y.hops = bw c.body 1 % 512 ∧ y.owner = some c ∧ y.side = if (bw c.body 1).testBit 31 then .west else .east) ∧
    (∀ g, Begins 0x84 s (fun c => s.actBad c.body = some g) (failW g) noData Same) ∧
    Begins 0x84 s (fun c => s.actBad c.body = none) acceptW noData (TakesSlot []) ∧
    Begins 0x85 s (fun _ => s.on F.SYS_STATE_TRIAL = true) acceptW noData (fun c b x =>
      x = { b with upd := { b.upd with confirmers := b.upd.confirmers ++ [c.key], confirmIn := true } }) ∧
    Begins 0x85 s (fun _ => s.on F.SYS_STATE_TRIAL = false) doneW noData Same ∧
    Begins 0x86 s (fun c => (∃ y, sess s = some y ∧ (bw c.body 0 = 0 ∨ y.session = bw c.body 0)) ∧ s.upd.act = none ∧ s.host.ringCmds = [] ∧
        ∀ f, ∀ r ∈ (s.flow f).taken, r.cmd.opc ≠ 0x81) doneW noData (fun _ b x =>
      sess x = none ∧ x.slotState b.idleSlot = 0 ∧ x.nvm.mram = b.nvm.mram) ∧
    Begins 0x86 s (fun _ => sess s = none ∧ s.upd.act = none) (failW 0x40) noData Same ∧
    Begins 0x61 s (fun _ => True) (fun _ _ => if seen && bit then 1 else 0x2703) noData (fun c b x => if seen && bit then
      x.twin.swapP = some (b.pcnt + 4) ∧ x.twin.swapOwner = some c.key ∧ x.reg64 R.TWIN_SWAPP_LO = (b.pcnt + 4) % 2 ^ 64
      else x = { b with free := b.free + 1 }) ∧
    Starts .proofSwap 0x61 1 s (fun _ => True) (failW 0x27) noData (fun _ b x => x = { b with free := b.free + 1 }) ∧
    Starts .updStatus 0x82 0 s (fun c => bw c.body 0 = 0) doneW (fun _ b => [b.reg R.UPD_STAT, b.reg R.UPD_SLOT, b.reg R.UPD_SESSION,
      b.reg R.UPD_PROG, b.reg R.UPD_AGE, BitVec.ofNat 32 b.trialWord, b.reg R.UPD_OKRUN, b.shownVer 0, b.shownVer 1, b.reg R.UPD_RLY]) Same

/-- 16 R579, R587, R593, R595, R605, R609: the QSPI port, securing and steps. RDSTAT answers the queue's state; RDFRAME hands over the first frame
and drops it when read whole; an NVM write that completes secures its command; a start with nothing ready changes nothing; a step
of JOURNAL_READ ends it after the last record, and one of a verification answers what it found; the latest event is sent again. -/
def Obligations.HostPortStepAndEventCommandsAct : Prop :=
  ∀ (s : State),
    (s.qspiOn = true → Gives .qspiRdstat s (fun t => t = { s with tx := s.tx ++ [.qspiStat (BitVec.ofNat 32
      ((if s.host.queue = [] then 0 else 2 ^ 31) + s.regN R.HOST_QSTAT))] })) ∧
    (∀ m l, s.qspiOn = true → s.host.queue = m :: l → Gives (.qspiRdframe true) s (fun t =>
      t.tx = s.tx ++ [m] ∧ t.host.queue = l ∧ (l.length < 128 → t.get F.HOST_QSTAT_QUEUED = l.length) ∧ ∀ a, a ≠ R.HOST_QSTAT → t.reg a = s.reg a)) ∧
    Gives (.qspiRdframe false) s (fun t => t = s) ∧
    (s.startOne = none → Gives .commandStart s (fun t => t = s)) ∧
    (∀ (k : CmdKey) (l : List NvmJob) (r : HRec), s.nvm.jobs = .record (.cmd k) none :: l → k.flow < 5 → (s.flow k.flow).taken = [r] → r.cmd.key = k →
      s.twin.resync = 0 → Gives .nvmWriteComplete s (fun t => t.nvm.jobs = l ∧ (t.flow k.flow).taken = [{ r with nvmWait := false }] ∧
        t.regN R.NVM_WRCNT = min 0xFFFFFFFF (s.regN R.NVM_WRCNT + 1) ∧ (l = [] → t.on F.NVM_STAT_BUSY = false))) ∧
    (∀ (n : Fin 8) (o : OpSlot) (rd : List (BitVec 12)) (sto : Option (Fin 3)), s.hostRuns = true → s.host.ops = [(n.val, o)] →
      s.host.queue.length < 64 → o.cmd.key.flow < 5 →
      (o.cmd.opc = 0x72 → o.cmd.cls = 0 → s.recFrom (bw o.cmd.body 0) (o.aux.getD 1 0) = none → ∃ u,
        Answers (s.closeSlot n) u o.cmd 2 [BitVec.ofNat 32 (o.aux.getD 0 0)] ∧ exec (.operationStep n rd sto) s = .next (settle s u)) ∧
      (∀ r, o.cmd.opc = 0x10 → (s.flow o.cmd.key.flow).taken = [r] → r.cmd = o.cmd → r.apply = false → r.unmirrored = (o.cmd.cls == 1) →
        o.cmd.cls ≠ 0 → ∃ u x, x = s.verifyProg.2.closeSlot n ∧ exec (.operationStep n rd sto) s = .next (settle s u) ∧
          match s.verifyProg.1 with
          | none => Answers x u o.cmd 2 []
          | some (g, i) => Answers x u o.cmd (3 + 256 * g) [BitVec.ofNat 32 i])) ∧
    (∀ (f : Fin 5) (m : OutMsg), s.hostRuns = true → (s.flow f).event = some m → f.val ≠ 4 → (∀ d k fl q o c g i l, m ≠ .host .qspi d k fl q o c g i l) →
      Gives (.eventResend f) s (fun t => t = { s with tx := s.tx ++ [m] }))

namespace Sys2Proof.Stmt
open Sys2Proof.Machine

/-- The port takes the frame and it is valid (09 R314 to R318, R328). -/
def RingGot (s : State) (p : Side) (f : RingFrame) : Prop := s.ringTakes p f = true ∧ ringValid f = true

/-- The frame is taken and delivered here; reception and forwarding leave `b`. -/
def Came (s : State) (p : Side) (f : RingFrame) (b : State) : Prop := RingGot s p f ∧ s.ringRx p f = (true, b)

/-- A frame of this node. -/
def Own (s : State) (cls dst cspec : Nat) (bc : Bool) (ttl : Nat) (data : List Word64) : RingFrame :=
  { cls, src := s.nodeId, dst, bc, ttl, len := data.length, cspec, data, ok := true }

/-- A node may send on a port: it is UP, and the node is not silenced by a duplicate ID (R323). -/
def MaySend (s : State) (p : Side) : Prop := s.ringPort (sideNo p) = 3 ∧ s.ring.quiet = false

/-- The frame is on the wire or waits for its port. -/
def OnRing (t : State) (p : Side) (f : RingFrame) : Prop := .ring p f ∈ t.tx ∨ ∃ k, (p, k, f) ∈ t.ring.low

end Sys2Proof.Stmt

/-- 09 R315, R316, R318, R320: reception. TIME and HELLO frames and frames addressed to the node are delivered and not forwarded; another frame is
sent on with its TTL less 1 while the TTL is above 1, the opposite port is UP and the frame is not the node's own; of the copies of a
broadcast within 1 ms only the first is delivered; a frame that is not valid is counted and not delivered. -/
def Obligations.RingFramesAreForwardedAndDeliveredOnce : Prop :=
  ∀ (s : State) (p : Side) (f : RingFrame),
    let q := otherSide p
    let fwd : RingFrame := { f with ttl := f.ttl - 1 }
    let stays := f.cls = rcTIME ∨ isHello f = true ∨ s.consumes f = true
    (s.ringTakes p f = false → s.ringRx p f = (false, s)) ∧
    (s.ringTakes p f = true → ringValid f = false → (s.ringRx p f).1 = false ∧
      (s.ringRx p f).2.regN R.RING_CRCERR = min 0xFFFFFFFF (s.regN R.RING_CRCERR + 1)) ∧
    (RingGot s p f → stays → s.ringRx p f = (true, s)) ∧
    (RingGot s p f → ¬ stays → (s.ringRx p f).1 = (f.bc && f.src != s.nodeId && !s.isCopy f)) ∧
    (RingGot s p f → ¬ stays → f.ttl ≤ 1 ∨ f.src = s.nodeId ∨ s.ringPort (sideNo q) ≠ 3 → (s.ringRx p f).2.tx = s.tx ∧
      (s.ringRx p f).2.regs = s.regs ∧ (s.ringRx p f).2.ring.low = s.ring.low) ∧
    (RingGot s p f → ¬ stays → 1 < f.ttl → f.src ≠ s.nodeId → s.ringPort (sideNo q) = 3 → OnRing (s.ringRx p f).2 q fwd ∧
      (s.ringRx p f).2.regN R.RING_FWD = min 0xFFFFFFFF (s.regN R.RING_FWD + 1)) ∧
    (RingGot s p f → f.cls ≠ rcTIME → isHello f = false → f.bc = true → f.src ≠ s.nodeId → s.isCopy f = false →
      (s.ringRx p f).2.isCopy f = true)

/-- 02 R88, R89, 09 R322 to R325, R327, R328: time exchanges, beacons and port states. Each exchange stamps its frames; a response completes the
exchange of its TSEQ; beacons refresh and lose entries of the table and find duplicate IDs; HELLO frames move a port from LOOP to
INSERT and to UP, and its time limit to DOWN. -/
def Obligations.RingTimeBeaconAndPortEventsAct : Prop :=
  ∀ (s : State) (p : Side) (f : RingFrame) (sub : Fin 16),
    let xch (t : State) (p : Side) := match p with | .east => t.ring.xchgE | .west => t.ring.xchgW
    let tsq (t : State) (p : Side) := match p with | .east => t.ring.tseqE | .west => t.ring.tseqW
    let port (t : State) := t.ringPort (sideNo p)
    let own := hi32 (ringBlk f 0) = s.regN R.SYS_SERIAL
    let hello := isHello f = true ∧ bitsOf (lo32 (ringBlk f 0)) 24 8 = 0x10
    (s.ringRuns = true → Gives .syncExchangeStart s (fun t => xch t p = some (tsq s p, s.txStamp p) ∧ tsq t p = (tsq s p + 1) % 256 ∧
      (MaySend s p → .ring p (Own s 1 0 (tsq s p) true 1 [BitVec.ofNat 64 (s.txStamp p), 0]) ∈ t.tx))) ∧
    (s.ringRuns = false → Gives .syncExchangeStart s (fun t => t = s)) ∧
    (RingGot s p f → isTime f 0 = true → s.ring.quiet = false → Gives (.timeReqRx p f sub) s (fun t => t.tx.getLast? = some (.ring p
      (Own s 1 0 (2 ^ 14 + f.cspec % 256) true 1 [BitVec.ofNat 64 (s.rxStamp p sub), BitVec.ofNat 64 (s.txStamp p)])))) ∧
    (∀ t1, RingGot s p f → isTime f 1 = true → xch s p = some (f.cspec % 256, t1) → Gives (.timeRespRx p f sub) s (fun t =>
      let d := delayOf t1 (ringBlk f 0).toNat (ringBlk f 1).toNat (s.rxStamp p sub)
      let o := s.offsetOf t1 (ringBlk f 0).toNat (ringBlk f 1).toNat (s.rxStamp p sub)
      xch t p = none ∧ (match p with | .east => t.ring.dlyE | .west => t.ring.dlyW) = min (quantize (d * 5 / 16)).toNat 65535 ∧
        (s.tkDrives p = true → t.reg R.CHRONO_OFFSET = BitVec.ofInt 32 (quantize (o * 625 / 2))) ∧
        (s.tkDrives p = false → t.chrono = s.chrono))) ∧
    ((xch s p).isSome = true → s.tkDrives p = false → Gives (.exchangeTimeout p) s (fun t => xch t p = none ∧ t.regs = s.regs ∧ t.chrono = s.chrono)) ∧
    (xch s p = none → Gives (.exchangeTimeout p) s (fun t => t = s)) ∧
    Gives .beaconSend s (fun t => s.ringPort (sideNo p) = 3 → .ring p (Own s 0 0 0 true 511
      [blk (s.regN R.SYS_SERIAL) (2 ^ 24 * s.get F.RING_CFG_TKPRI + 2 ^ 23 * s.get F.RING_CFG_PAIR + 2 ^ 22 * b2n s.active),
       blk 0 (2 ^ 16 * s.ring.dlyE + s.ring.dlyW)]) ∈ t.tx) ∧
    (RingGot s p f → isBeacon f = true → f.src ≠ s.nodeId → Gives (.beaconRx p f) s (fun t => ∃ e, t.node f.src = some e ∧
      e.serial.toNat = hi32 (ringBlk f 0) ∧ e.tkpri = bitsOf (lo32 (ringBlk f 0)) 24 8 ∧ e.pair = (lo32 (ringBlk f 0)).testBit 23 ∧
        (p = .east → e.hopE = 512 - f.ttl) ∧ (p = .west → e.hopW = 512 - f.ttl))) ∧
    (RingGot s p f → isBeacon f = true → f.src = s.nodeId → ¬ own → Gives (.beaconRx p f) s (fun t => t.ring.quiet = true ∧
      t.on F.RING_STAT_DUPID = true)) ∧
    (∀ id : Fin 512, (s.node id).isSome = true → Gives (.beaconExpiry id) s (fun t => t.node id = none ∧ ∀ j, j ≠ id.val → t.node j = s.node j)) ∧
    (∀ id : Fin 512, s.node id = none → Gives (.beaconExpiry id) s (fun t => t = s)) ∧
    (port s ≠ 0 → s.portUp (sideNo p) = true → Gives (.ringHelloSend p) s (fun t => t.tx.getLast? = some (.ring p (Own s 0 0 (2 ^ 12) true 1
      [blk (s.regN R.SYS_SERIAL) (2 ^ 24 * 0x10 + s.nodeId), 0])))) ∧
    (port s = 0 ∨ s.portUp (sideNo p) = false → Gives (.ringHelloSend p) s (fun t => t = s)) ∧
    (RingGot s p f → hello → Gives (.ringHelloRx p f) s (fun t =>
      port t = (if port s = 1 ∧ own then 2 else if (port s = 2 ∨ port s = 4) ∧ ¬ own then 3 else port s) ∧ t.mem = s.mem ∧ t.tx = s.tx)) ∧
    (port s = 2 → s.on F.RING_STAT_BYPE = true → Gives (.insertTimeout p) s (fun t => port t = 4 ∧ t.mem = s.mem)) ∧
    (port s ≠ 2 ∨ s.on F.RING_STAT_BYPE = false → Gives (.insertTimeout p) s (fun t => t = s)) ∧
    (s.ringTakes p f = false → ∀ i ∈ [Instr.timeReqRx p f sub, .timeRespRx p f sub, .beaconRx p f, .ringHelloRx p f, .schedRx p f, .fixRx p f,
      .guarDataRx p f, .guarAckRx p f, .logExportRx p f, .logGapRequestRx p f], Gives i s (fun t => t = s))

/-- 09 R331 to R333, R338, R343, R344, 16 R611: SCHED, FIX, GUAR and Log frames. A SCHED frame of the domain is held for the commit; a FIX takes
a bank, which latches at its instant; a GUAR message in order is delivered and recorded, and acknowledged when secured; an ACK covers
what precedes it; a retransmission takes the other ring; fragments of records are collected and missing records sent again. -/
def Obligations.RingScheduleFixAndMessageFramesAct : Prop :=
  ∀ (s b : State) (p : Side) (f : RingFrame),
    let q := hi32 (ringBlk f 0)
    let o := lo32 (ringBlk f 0) % 512
    let msg := unpack64 (f.data.drop 1)
    let tfix := (ringBlk f 0).toNat
    let fixid := (ringBlk f 1).toNat % 65536
    let domain := s.on F.RING_DOMCFG_EN = true ∧ f.cspec % 256 = s.get F.RING_DOMCFG_DOMID
    let fresh := ∀ k, k < 4 → (s.fixBank k).state = fxFREE ∨ (s.fixBank k).fixid ≠ fixid
    (Came s p f b → f.cls = rcSCHED → domain → Gives (.schedRx p f) s (fun t =>
      t = { b with ring := { b.ring with slots := s.ring.slots ++ [(f, s.now)] } })) ∧
    (Came s p f b → f.cls = rcSCHED → ¬ domain → Gives (.schedRx p f) s (fun t => t = b)) ∧
    (∀ k, Came s p f b → f.cls = rcFIX → fresh → s.fixChoice = some k → Gives (.fixRx p f) s (fun t =>
      t.fixBank k = { state := if 0 ≤ ctDiff s.now tfix then fxLATE else fxARMED, fixid, tfix, t := s.now } ∧
        (∀ j, j ≠ k → t.fixBank j = s.fixBank j) ∧ (0 ≤ ctDiff s.now tfix → t.on F.RING_STAT_FIXLATE = true))) ∧
    (Came s p f b → f.cls = rcFIX → fresh → s.fixChoice = none → Gives (.fixRx p f) s (fun t => t.on F.RING_STAT_FIXOVF = true ∧
      t.ring.banks = s.ring.banks)) ∧
    (∀ k, k < 4 → (s.fixBank k).state ≠ fxFREE → (s.fixBank k).fixid = fixid → Came s p f b → f.cls = rcFIX → Gives (.fixRx p f) s (fun t => t = b)) ∧
    (∀ k : Fin 4, (s.fixBank k).state = fxARMED → Gives (.fixLatch k) s (fun t =>
      t.fixBank k = { s.fixBank k with state := if (s.get F.RING_FIXCFG_FIXSEL).testBit 6 then fxPENDING else fxLATCHED, t := s.now } ∧
        (∀ e ∈ s.fixWords, (s.get F.RING_FIXCFG_FIXSEL).testBit e.1 = true → t.regN (R.RING_FIXBANK k (e.2.1 / 4)) = e.2.2 % 2 ^ 32) ∧
        t.regN (R.RING_FIXBANK k 4) = s.now % 2 ^ 32)) ∧
    (∀ k : Fin 4, (s.fixBank k).state ≠ fxARMED → Gives (.fixLatch k) s (fun t => t = s)) ∧
    (Came s p f b → isGuar f 0 = true → s.pfail = false → s.linked = false → q = (s.grx o).next → (s.grx o).held = [] → bw msg 0 / 256 % 256 = 1 →
      Gives (.guarDataRx p f) s (fun t => (t.grx o).next = seqNext q ∧ (t.grx o).ackDue = some p ∧ t.tx = b.tx ∧
        t.nvm.jobs = s.nvm.jobs ++ [.record (.guarDeliver o q) none] ∧ ∃ r, t.host.ringCmds = s.host.ringCmds ++ [r] ∧
          r.cmd.key = ⟨1024 + o, q⟩ ∧ r.cmd.opc = bw msg 2 % 65536 ∧ r.cmd.body = (msg.drop 4).take (bw msg 0 / 65536 / 4) ∧ r.nvmWait = true)) ∧
    (Came s p f b → isGuar f 0 = true → s.pfail = false → seqBefore q (s.grx o).next = true → (s.grx o).waitN = [] → (s.grx o).waitJ = [] →
      MaySend s p → Gives (.guarDataRx p f) s (fun t => ∃ ttl, OnRing t p (Own s rcGUAR o (2 ^ 14 + 2 ^ 12) false ttl
        [blk (seqPrev (s.grx o).next) (s.identityOf s.nodeId)]))) ∧
    (Came s p f b → isGuar f 1 = true → Gives (.guarAckRx p f) s (fun t => t.ring.gtx.map (fun m => (m.dst, m.seq, m.payload)) =
      (s.ring.gtx.filter fun m => m.dst != o || seqBefore q m.seq).map (fun m => (m.dst, m.seq, m.payload)))) ∧
    (∀ (d : Fin 512) (n : Word) (m : GMsg) (r : Side), (s.ring.gtx.find? fun m => m.is d n.toNat && m.last.isSome) = some m → m.last = some r →
      s.active = true → ((s.idNode d).isSome = true → Gives (.guarRetransmit d n) s (fun t =>
          t.regN R.RING_GRETRY = min 0xFFFFFFFF (s.regN R.RING_GRETRY + 1) ∧ (∀ x ∈ t.ring.gtx, x.is d n.toNat = true → x.last = some (otherSide r)) ∧
          (MaySend s (otherSide r) → ∃ ttl, OnRing t (otherSide r) (Own s rcGUAR m.dst 0 false ttl (blk m.seq m.orig :: pack64 m.payload))))) ∧
        (s.idNode d = none → Gives (.guarRetransmit d n) s (fun t => t.on F.RING_STAT_GPAUSE = true))) ∧
    (∀ (x : Word64) (l : List Word64), f.data = x :: l → Came s p f b → isBulk f 2 = true → s.on F.HOST_LOGCFG_EN = true →
      spGet [] s.host.parts (x.toNat % 512 * 2 ^ 32 + hi32 x) = [] → x.toNat / 2 ^ 24 % 16 ≠ 1 → Gives (.logExportRx p f) s (fun t =>
        spGet [] t.host.parts (x.toNat % 512 * 2 ^ 32 + hi32 x) = [(x.toNat / 2 ^ 28 % 16, (unpack64 l).flatMap wordBytes)] ∧ t.tx = b.tx)) ∧
    (Came s p f b → isBulk f 2 = true → s.on F.HOST_LOGCFG_EN = false → Gives (.logExportRx p f) s (fun t => t = b)) ∧
    (∀ (n : Nat) (bytes : List Byte), Came s p f b → isBulk f 3 = true → s.host.exported.find? (·.1 == q) = some (n, bytes) → bytes ≠ [] →
      bytes.length ≤ 1024 → MaySend s (s.route f.src).1 → Gives (.logGapRequestRx p f) s (fun t => OnRing t (s.route f.src).1
        (Own s rcBULK f.src (2 * 2 ^ 12) false (s.route f.src).2 (blk n (2 ^ 24 + s.nodeId) :: pack64 (wordsOf bytes))))) ∧
    (Came s p f b → isBulk f 3 = true → s.host.exported.find? (·.1 == q) = none → Gives (.logGapRequestRx p f) s (fun t => t = b))

namespace Sys2Proof.Stmt
open Sys2Proof.Machine

/-- A frame of type `ty` arrives on the twin link and counts: the agent runs, the lanes of the port are UP, the frame is valid (08 R295, 09
R347). -/
def TwinGot (s : State) (f : LinkFrame) (ty : Nat) : Prop :=
  s.on F.TWIN_CFG_EN = true ∧ s.portUp 2 = true ∧ f.ok = true ∧ f.ftype = ty ∧ twinLenOk f = true ∧ f.data.length = f.len

/-- The twin link carries frames of this device. -/
def TwinUp (s : State) : Prop :=
  s.get (F.LANE_STAT_LSTATE 60) = 5 ∧ s.get (F.LANE_STAT_LSTATE 61) = 5 ∧ s.on F.TWIN_CFG_EN = true

/-- `t` is `s` with one twin frame of the next SEQ sent. -/
def TwinSent (s t : State) (ftype tspec : Nat) (data : List Word64) : Prop :=
  let f : LinkFrame := ⟨ftype, s.get F.OCL_CLAIM_CLAIM, s.twin.seq, data.length, tspec, data, true⟩
  t = { s with twin := { s.twin with seq := (s.twin.seq + 1) % 256 }, tx := s.tx ++ [.twin f] }

end Sys2Proof.Stmt

/-- 09 R348 to R351, R359, R361, R363, R364, R367: meeting the partner, heartbeats, roles and swaps. HELLO frames are sent until answered; a
heartbeat links, names the partner's role, state and claim, and deposes an ACTIVE device of a lower claim; LOST ends the link; the wait
in LINKS makes the device ACTIVE; YIELD and SWAP are noted by a STANDBY. -/
def Obligations.TwinRoleHeartbeatAndSwapEventsAct : Prop :=
  ∀ (s : State) (f : LinkFrame),
    let hello := [blk s.nodeId (s.regN R.SYS_SERIAL), blk s.cfgCrc.toNat (s.regN R.SYS_IMGVER)]
    let partner := hi32 (f.data.getD 0 0) % 512 = s.get F.TWIN_CFG_PARTNER
    let act := f.tspec.testBit 17
    (TwinUp s → s.twin.helloSeen = false → Gives .twinHelloSend s (fun t => TwinSent s t 1 0 hello)) ∧
    (s.on F.TWIN_CFG_EN = false ∨ s.twin.helloSeen = true → Gives .twinHelloSend s (fun t => t = s)) ∧
    (TwinGot s f 1 → partner → hi32 (f.data.getD 1 0) = s.cfgCrc.toNat → s.twin.helloSeen = false → TwinUp s → Gives (.twinHelloRx f) s (fun t =>
      TwinSent { s with free := s.free + 1, twin := { s.twin with helloSeen := true, partnerPrime := some ((Config.freeValue s.free).getLsbD 0) } } t 1 0 hello)) ∧
    (TwinGot s f 1 → partner → hi32 (f.data.getD 1 0) ≠ s.cfgCrc.toNat → Gives (.twinHelloRx f) s (fun t => t.on F.TWIN_STAT_CFGMIS = true)) ∧
    (TwinGot s f 1 → ¬ partner → Gives (.twinHelloRx f) s (fun t => t = s)) ∧
    (s.sx = sxOFF → TwinUp s → s.twin.helloSeen = true ∨ s.linked = true → Gives .hbStoppedSend s (fun t =>
      ∃ u, TwinSent s u 2 (2 ^ 17 * b2n s.active + 2 ^ 13 * s.dev + 2 ^ 12 * b2n s.twin.swapFailed)
        [BitVec.ofNat 64 s.sext.b1, BitVec.ofNat 64 s.now, BitVec.ofNat 64 s.twin.hbArr] ∧
      t = { u with twin := { u.twin with hbSent := (s.now :: s.twin.hbSent).take 16, swapFailed := false } })) ∧
    (s.sx ≠ sxOFF → Gives .hbStoppedSend s (fun t => t = s)) ∧
    (TwinGot s f 2 → Gives (.hbRx f) s (fun t => t.get F.TWIN_STAT_TSTATE = 2 ∧ t.get F.TWIN_CLAIMS_PARTNER = f.claim % 65536 ∧
      t.twin.partnerRole = act ∧ t.twin.partnerState = bitsOf f.tspec 13 4 ∧ t.twin.hbArr = s.now ∧ t.twin.hbAnchor = some (twinBlk f 0) ∧
      (act = true → s.active = false → t.get F.OCL_CLAIM_CLAIM = standbyClaim (f.claim % 65536)) ∧
      (act = true → s.active = true → claimHigher (f.claim % 65536) (s.get F.OCL_CLAIM_CLAIM) = true → t.twin.depose = true))) ∧
    (s.linked = true → Gives .twinLost s (fun t => t.get F.TWIN_STAT_TSTATE = 3 ∧ t.twin.helloSeen = false ∧ t.twin.synced = false ∧
      t.twin.unacked = [])) ∧
    (s.linked = false → Gives .twinLost s (fun t => t = s)) ∧
    (s.on F.TWIN_CFG_EN = true → s.active = false → s.dev = stLINKS → s.twin.hbSince = false → Gives .twinWaitExpiry s (fun t =>
      t.active = true ∧ t.on F.TWIN_STAT_ROLE = true ∧ t.twin.resync = 0)) ∧
    (s.on F.TWIN_CFG_EN = false ∨ s.active = true ∨ s.dev ≠ stLINKS ∨ s.twin.hbSince = true → Gives .twinWaitExpiry s (fun t => t = s)) ∧
    (TwinGot s f 11 → Gives (.yieldRx f) s (fun t => t.on F.TWIN_STAT_YIELDED = true ∧
      t.twin = if s.active then s.twin else { s.twin with yieldSeen := true })) ∧
    (TwinGot s f 12 → s.active = false → Gives (.swapRx f) s (fun t => t.twin.swapP = some (twinBlk f 0) ∧
      t.reg64 R.TWIN_SWAPP_LO = twinBlk f 0 ∧ t.mem = s.mem)) ∧
    (TwinGot s f 12 → s.active = true → Gives (.swapRx f) s (fun t => t = s)) ∧
    Gives (.ckackRx f) s (fun t => t = s)

/-- 09 R352 to R357, R364, R365: the mirror and checkpoints. MSTATE begins a mirror, rows and entries add to it, MEND completes one whose
anchor, frame count and CRC agree; the checkpoint of an open session is sent, and a received one is held while it is written. (09 R357, R358, 16 R593, R594) A new record
between the partners is kept, acknowledged and takes its place in its flow; one that is held already is only acknowledged again; a JACK
secures its record; a record that none covers is sent again; the frames of a resynchronisation bring a flow's numbers and responses. -/
def Obligations.TwinMirrorCheckpointAndJournalFramesAct : Prop :=
  ∀ (s : State) (f : LinkFrame),
    let m := s.twin.mirror
    let got (t : State) (m : MirrorIn) : Prop := t = { s with twin := { s.twin with mirror := m } }
    let n := lo32 (f.data.getD 0 0)
    let k := twinBlk f 0
    let jack (r : JRec) (s t : State) : Prop := TwinSent s t 8 0 [BitVec.ofNat 64 r.pos]
    let pos := twinBlk f 0 % 2 ^ 32
    let d0 := f.data.getD 0 0
    let d1 := f.data.getD 1 0
    let i := lo32 d1 % 512
    (TwinGot s f 3 → Gives (.mstateRx f) s (fun t => got t ⟨f.data, [], [], f.data, 1, false, false⟩)) ∧
    (TwinGot s f 4 → m.state ≠ [] → f.len = 1 + 16 * n → Gives (.mrowsRx f) s (fun t =>
      let rows := (List.range n).map fun i => (hi32 (f.data.getD 0 0) + i, (f.data.drop (1 + 16 * i)).take 16)
      got t { m with rows := m.rows ++ rows, words := m.words ++ f.data, frames := m.frames + 1 })) ∧
    (TwinGot s f 4 → m.state = [] → Gives (.mrowsRx f) s (fun t => t = s)) ∧
    (TwinGot s f 5 → m.state ≠ [] → f.len = 1 + 2 * k → Gives (.mmodRx f) s (fun t => 
      let mods := (List.range k).map fun i => (f.data.getD (1 + 2 * i) 0, f.data.getD (2 + 2 * i) 0)
      got t { m with mods := m.mods ++ mods, words := m.words ++ f.data, frames := m.frames + 1 })) ∧
    (TwinGot s f 5 → m.state = [] → Gives (.mmodRx f) s (fun t => t = s)) ∧
    (TwinGot s f 6 → m.state ≠ [] → Gives (.mendRx f) s (fun t => ∃ e : Bool, got t { m with ended := e } ∧ (e = true ↔
      f.data.getD 0 0 = m.state.getD 0 0 ∧ hi32 (f.data.getD 1 0) = m.frames ∧
        lo32 (f.data.getD 1 0) = (crc32 (m.words.flatMap blockBytes)).toNat))) ∧
    (TwinGot s f 6 → m.state = [] → Gives (.mendRx f) s (fun t => t = s)) ∧
    (∀ (j : Fin 3) (d : List Word64), s.active = true → s.linked = true → TwinUp s → s.checkpoint j = some d → Gives (.ckptSend j) s (fun t =>
      TwinSent s t 9 0 d)) ∧
    (∀ j : Fin 3, s.active = false ∨ s.linked = false ∨ s.checkpoint j = none → Gives (.ckptSend j) s (fun t => t = s)) ∧
    (TwinGot s f 9 → k < 3 → s.pfail = false → Gives (.ckptRx f) s (fun t => spGet [] t.twin.ckpts k = f.data ∧ t.twin.ckptT = s.now ∧
      (t.get F.TWIN_CKPT_HELD).testBit k = true ∧ (k ≠ 0 → t.nvm.jobs = s.nvm.jobs ++ [.ckpt k] ∧ t.nvm.sess = s.nvm.sess))) ∧
    (TwinGot s f 9 → 3 ≤ k ∨ s.pfail = true → Gives (.ckptRx f) s (fun t => t = s)) ∧
    (∀ r, TwinGot s f 7 → TwinUp s → recOf (unpack64 f.data) = some r → s.holdsRec r = true → s.twin.jackDue.contains r.pos = false →
      Gives (.jrnlRx f) s (jack r s)) ∧
    (∀ r, TwinGot s f 7 → TwinUp s → recOf (unpack64 f.data) = some r → s.holdsRec r = false → r.kind = 1 → r.cls = 1 → r.flow < 5 → r.flags = 0 →
      Gives (.jrnlRx f) s (fun t => t.host.ramJ = s.host.ramJ ++ [r] ∧ t.regN (R.HOST_FLOW_N r.flow) = seqNext r.seq ∧
        (∃ e, (t.flow r.flow).taken = (s.flow r.flow).taken ++ [e] ∧ e.cmd.key = ⟨r.flow, r.seq⟩ ∧ e.cmd.opc = r.opc ∧ e.cmd.body = r.body ∧ e.apply = true) ∧
        t.tx.getLast? = some (.twin ⟨8, s.get F.OCL_CLAIM_CLAIM, s.twin.seq, 1, 0, [BitVec.ofNat 64 r.pos], true⟩))) ∧
    (TwinGot s f 7 → recOf (unpack64 f.data) = none → Gives (.jrnlRx f) s (fun t => t = s)) ∧
    (∀ (p : Word) (e : Nat × JSec × List Word64), s.linked = true → TwinUp s → s.twin.unacked.find? (·.1 == p.toNat) = some e →
      Gives (.jrnlResend p) s (fun t => TwinSent s t 7 0 e.2.2)) ∧
    (∀ p : Word, s.linked = false ∨ s.twin.unacked.find? (·.1 == p.toNat) = none → Gives (.jrnlResend p) s (fun t => t = s)) ∧
    (∀ (k : CmdKey) (d : List Word64), TwinGot s f 8 → s.twin.unacked.find? (·.1 == pos) = some (pos, .cmd k, d) → k.flow < 5 →
      Gives (.jackRx f) s (fun t => t.twin.unacked = s.twin.unacked.filter (·.1 != pos) ∧ t.tx = s.tx ∧ t.regs = s.regs ∧
        (t.flow k.flow).taken = (s.flow k.flow).taken.map fun r => if r.cmd.key = k then { r with jackWait := false } else r)) ∧
    (TwinGot s f 8 → s.twin.unacked.find? (·.1 == pos) = none → Gives (.jackRx f) s (fun t => t = s)) ∧
    (TwinGot s f 13 → s.twin.resync = 2 → hi32 d1 / 2 ^ 31 = 0 → i < 5 → Gives (.jsyncRx f) s (fun t =>
      (t.flow i).finals = (s.flow i).finals ++ finalsOf (f.data.drop 2) ∧ t.regN (R.HOST_FLOW_N i) = hi32 d0 ∧ t.regN (R.HOST_FLOW_D i) = lo32 d0 ∧
        t.tx = s.tx)) ∧
    (TwinGot s f 13 → s.twin.resync = 2 → hi32 d1 / 2 ^ 31 = 1 → Gives (.jsyncRx f) s (fun t => (t.grx i).next = hi32 d0 ∧
      spGet 1 t.ring.gnext i = lo32 d0 ∧ t.tx = s.tx)) ∧
    (TwinGot s f 13 → s.twin.resync = 0 → Gives (.jsyncRx f) s (fun t => t = s))

namespace Sys2Proof.Stmt
open Sys2Proof.Machine

/-- The device has powered down for a cause of 14 Table 8, with the rail named. -/
def PoweredDown (t : State) (cause rail : Nat) : Prop :=
  t.dev = stOFF ∧ t.get F.PMU_LAST_CAUSE = cause ∧ t.get F.PMU_LAST_RAIL = rail ∧ t.pwr.rails = 0 ∧ t.pwr.loop = false

/-- A warm reset has been made with the source of bit `src`: the device is in BOOT (15 R559, Table 14). -/
def WarmReset (s t : State) (src : Nat) : Prop :=
  t.dev = stBOOT ∧ t.get F.SYS_RSTCAUSE_SRC = 2 ^ src ∧ t.get F.SYS_RSTCAUSE_WARM = min (s.get F.SYS_RSTCAUSE_WARM + 1) 65535 ∧ t.mem = s.mem

/-- The device is in a state from which a reset is made, and none has been made in this tick (15 R561, R562). -/
def Resettable (s : State) : Prop := stBOOT ≤ s.dev ∧ s.dev ≤ stSAFE ∧ s.sys.rstAt ≠ some s.now

end Sys2Proof.Stmt

/-- 14 R505 to R514: the supplies. VAUX brings the device up and the rails start in order; with all rails good and the PLL locked it enters
BOOT; a fault, a late rail or the loss of VAUX powers it down with its cause, and retries are counted; PFAIL and the gate supply
show in their status. -/
def Obligations.PowerSequenceFollowsTheSupplies : Prop :=
  ∀ (s : State) (straps : Fin 16) (r : Fin 4) (b : Bool),
    let up (w : State) (t : State) : Prop := t.dev = stPMU_UP ∧ t.pwr = { w.pwr with rails := 1, retry := false }
    let pmu := s.dev = stPMU_UP
    let flt (t : State) : Prop := t.get F.PMU_LAST_NFLT = min (s.get F.PMU_LAST_NFLT + 1) 3 ∧ t.pwr.retry = decide (s.get F.PMU_LAST_NFLT < 2) ∧
      t.pwr.off = decide (2 ≤ s.get F.PMU_LAST_NFLT)
    (s.dev = stOFF → s.pwr.off = false → s.pwr.retry = false → Gives .vauxValid s (up { s with pwr := { s.pwr with vauxOk := true } })) ∧
    (s.dev ≠ stOFF ∨ s.pwr.off = true ∨ s.pwr.retry = true → Gives .vauxValid s (fun t => t = { s with pwr := { s.pwr with vauxOk := true } })) ∧
    (pmu → s.on (pgBit s.pwr.rails) = true → s.pwr.rails < 5 → Gives .railStart s (fun t => t = { s with pwr := { s.pwr with rails := s.pwr.rails + 1 } })) ∧
    (pmu → 1 ≤ s.pwr.rails → s.pwr.rails ≤ 5 → Gives (.railPowerGood straps) s (fun t => t.on (pgBit s.pwr.rails) = true ∧ t.pwr = s.pwr ∧
      t.get F.SYS_STRAP_STRAP = if s.pwr.rails = 3 then straps.val else s.get F.SYS_STRAP_STRAP)) ∧
    (pmu → s.regN R.PMU_STAT % 32 = 31 → s.on F.CLK_STAT_LOCK = true → Gives .pmuUpComplete s (fun t => t.dev = stBOOT ∧
      t.get F.PMU_LAST_NFLT = 0 ∧ t.reg R.SYS_RSTCAUSE = 1 ∧ t.sys.porBoot = true ∧ t.pwr.fsw = s.get F.PMU_CFG_FSWSEL)) ∧
    (pmu → s.regN R.PMU_STAT % 32 ≠ 31 ∨ s.on F.CLK_STAT_LOCK = false → Gives .pmuUpComplete s (fun t => t = s)) ∧
    (pmu → s.pwr.rails ≤ 5 → Gives (.sequenceFault b) s (fun t => PoweredDown t (if b then 5 else 4) (if b then 0 else s.pwr.rails) ∧ flt t)) ∧
    (s.dev ≠ stOFF → s.on (pgBit (r + 1)) = true → Gives (.railFault r) s (fun t => PoweredDown t 3 (r + 1) ∧ flt t)) ∧
    (s.dev = stOFF → s.pwr.retry = true → s.pwr.vauxOk = true → Gives .pmuRetry s (up s)) ∧
    (s.dev ≠ stOFF ∨ s.pwr.retry = false → Gives .pmuRetry s (fun t => t = s)) ∧
    (s.dev ≠ stOFF → Gives .uvlo s (fun t => PoweredDown t 1 0 ∧ t.pwr.vauxOk = false)) ∧
    (s.dev ≠ stOFF → Gives .vauxOvervoltage s (fun t => PoweredDown t 2 0 ∧ t.pwr.vauxOk = false)) ∧
    Gives .vauxBelow5v s (fun t => t.dev = stOFF ∧ t.reg R.PMU_LAST = 0 ∧ t.reg R.THERM_SDREC = 0 ∧ t.pwr.vauxOk = false ∧ t.pwr.off = false) ∧
    (stPMU_UP < s.dev → Gives .pfailWarning s (fun t => t.on F.PMU_STAT_PFAIL = true ∧ t.on F.PMU_EVT_PFAIL = true ∧ t.mem = s.mem)) ∧
    (stPMU_UP < s.dev → Gives (.vgdWindowChange b) s (fun t => t.on F.PMU_STAT_VGDBAD = b ∧ t.on F.PMU_STAT_PGVGD = !b ∧
      (b = true → t.on F.PMU_EVT_VGDPG = true))) ∧
    Gives (.vgdCurrentLimit b) s (fun t => t.on F.PMU_STAT_VGDLIM = b ∧ ∀ a, a ≠ R.PMU_STAT → t.reg a = s.reg a) ∧
    Gives .vgdLockout s (fun t => t.axd.vgdLow = true ∧ ∀ a, a < 3 → t.on (F.AXD_CHSTAT_VGDUV a) = true) ∧
    Gives .vgdLockoutRelease s (fun t => t = { s with axd := { s.axd with vgdLow := false } })

/-- 14 R516 to R525: the clocks. A band search closes the loop in the band found; lock, unlock and the loss and return of the reference move the
status of the system PLL, which coasts within its limit; an LC PLL locks in its band and unlocks without coasting. -/
def Obligations.ClockEventsMoveThePlls : Prop :=
  ∀ (s : State) (band : Fin 16) (b : Bool),
    let lock := s.on F.CLK_STAT_LOCK
    let coast := s.on F.CLK_STAT_COAST
    let lc (b : Bool) : Fld := if b then F.CLK_STAT_LCBLOCK else F.CLK_STAT_LCALOCK
    let us (s : State) : Nat := min (ctDiff s.now s.pwr.coastAt / 3200).toNat (2 ^ 32 - 1)
    (s.dev ≠ stOFF → lock = false → coast = false → Gives (.pllBandSearchDone band) s (fun t => t.get F.CLK_BAND_SYS = band ∧
      t.get F.CLK_BAND_REFMODE = s.get F.CLK_CFG_REFMODE ∧ t.on F.CLK_STAT_REFOK = true ∧ t.pwr = { s.pwr with loop := true })) ∧
    (s.dev ≠ stOFF → s.pwr.loop = true → lock = false → Gives .pllLock s (fun t => t.on F.CLK_STAT_LOCK = true ∧ t.on F.CLK_STAT_COAST = false ∧
      t.on F.CLK_STAT_REFOK = true ∧ t.regN R.CLK_COASTT = (if coast then us s else s.regN R.CLK_COASTT))) ∧
    (s.pwr.loop = false ∨ lock = true → Gives .pllLock s (fun t => t = s)) ∧
    (lock = true → Gives .pllUnlock s (fun t => t.on F.CLK_STAT_LOCK = false ∧ t.on F.CLK_STAT_COAST = true ∧ t.on F.CLK_STAT_UNLOCK = true ∧
      t.pwr.coastAt = s.now ∧ t.pwr.loop = true)) ∧
    (lock = false → Gives .pllUnlock s (fun t => t = s)) ∧
    (s.dev ≠ stOFF → Gives .referenceLoss s (fun t => t.on F.CLK_STAT_REFOK = false ∧ t.on F.CLK_STAT_REFLOSS = true ∧ t.on F.CLK_STAT_LOCK = false ∧
      t.on F.CLK_STAT_COAST = (lock || coast) ∧ t.pwr.loop = false)) ∧
    (s.dev ≠ stOFF → Gives (.referenceReturn b) s (fun t => t.on F.CLK_STAT_REFOK = true ∧ (coast = false → t.pwr = s.pwr) ∧
      (coast = true → t.pwr.loop = b ∧ (b = false → t.on F.CLK_STAT_BANDLIM = true)))) ∧
    (coast = true → s.get F.CLK_COAST_COASTMAX ≠ 0 → Gives .pllCoastLimit s (fun t => t.on F.CLK_STAT_COASTLIM = true ∧ t.pwr = s.pwr)) ∧
    (coast = false ∨ s.get F.CLK_COAST_COASTMAX = 0 → Gives .pllCoastLimit s (fun t => t = s)) ∧
    (s.on (lc b) = true → coast = false → Gives (.lcPllUnlock b) s (fun t => t.on (lc b) = false ∧ t.on F.CLK_STAT_LCUNLK = true)) ∧
    (s.on (lc b) = false ∨ coast = true → Gives (.lcPllUnlock b) s (fun t => t = s)) ∧
    (s.dev ≠ stOFF → Gives (.lcPllLock b band) s (fun t => t.on (lc b) = true ∧
      t.get (if b then F.CLK_BAND_LCB else F.CLK_BAND_LCA) = band ∧ t.mem = s.mem))

/-- 14 R526 to R538, 15 R555 to R562, R566: temperatures and resets. A round shows its readings and moves the bands, and two hot rounds shut
a die down into THERMAL, which ends when cool; a thermistor shows its temperature; RST_N, its stuck rule and the watchdog reset; a
lockstep mismatch is recorded; BOOT clears the memories and leads to DEFAULT under STRAP1. -/
def Obligations.TemperatureResetAndBootEventsAct : Prop :=
  ∀ (s : State) (n : Fin 4) (r : Rat) (x : BitVec 16) (b : Bool),
    let ts := List.replicate 12 x
    let seen (t : State) : Prop := ∀ k, k < 12 → t.get (F.THERM_TS_READING k) = x.toNat
    let band (old : Nat) : Nat := if s.pwr.firstRound then bandOf x.toInt else nextBand old x.toInt
    let runs := stPMU_UP < s.dev ∧ s.pwr.badTs = 0
    (runs → -440 ≤ x.toInt → x.toInt < 1200 → Gives (.tempRoundEnd ts) s (fun t => seen t ∧ t.get F.THERM_VALID_VALID = 4095 ∧
      t.get F.THERM_BAND_LOGIC = band (s.get F.THERM_BAND_LOGIC) ∧ t.get F.THERM_BAND_ANA = band (s.get F.THERM_BAND_ANA) ∧
      t.pwr.firstRound = false ∧ t.sys.offL = s.sys.offL ∧ t.sys.offA = s.sys.offA)) ∧
    (∀ e, runs → 1200 ≤ x.toInt → x.toInt ≤ 1400 → s.pwr.hotL = some e → s.sys.offL = false → stBOOT ≤ s.dev → s.dev ≤ stSAFE →
      s.reactNow Q.THERM_BANDCHG ≤ 3 → s.reactNow Q.THERM_DIEDEG ≤ 3 → Gives (.tempRoundEnd ts) s (fun t => seen t ∧ t.dev = stTHERMAL ∧
        t.sys.offL = true ∧ t.on F.THERM_SDREC_LOGIC = true)) ∧
    (s.on (F.THERM_TXCFG_EN n) = false → Gives (.thermistorMeasure n r) s (fun t => t = s)) ∧
    (s.on (F.THERM_TXCFG_EN n) = true → Gives (.thermistorMeasure n r) s (fun t => match s.txTemp n r with
      | some c => t.getS (F.THERM_TX_READING n) = clampInt (-32768) 32767 (quantize (8 * c)) ∧
          (c < -55 ∨ 175 < c → t.fbit F.THERM_TXEVT_TXBAD n = true)
      | none => 1400 < t.getS (F.THERM_TX_READING n) ∧ t.fbit F.THERM_TXEVT_TXBAD n = true)) ∧
    (s.dev = stTHERMAL → s.coolEnough = true → s.sys.rstAt ≠ some s.now → Gives .thermalRestart s (fun t => WarmReset s t 5 ∧ t.sys.thermBoot = true)) ∧
    (s.dev ≠ stTHERMAL ∨ s.coolEnough = false → Gives .thermalRestart s (fun t => t = s)) ∧
    (Resettable s → s.on F.SYS_STRAP_RSTIGN = false → Gives .rstNAssert s (fun t => WarmReset s t 1 ∧ t.sys.resetHeld = true ∧
      t.on F.SYS_STRAP_RSTLVL = false)) ∧
    (s.on F.SYS_STRAP_RSTIGN = true → Gives .rstNAssert s (fun t => t = s)) ∧
    Gives .rstNRelease s (fun t => t.sys = { s.sys with resetHeld := false } ∧ t.on F.SYS_STRAP_RSTLVL = true ∧
      ∀ a, a ≠ R.SYS_STRAP → t.reg a = s.reg a) ∧
    (s.sys.resetHeld = true → s.fbit F.SYS_STRAP_STRAP 3 = false → Gives .rstNStuck s (fun t => t.sys.resetHeld = false ∧
      t.on F.SYS_STRAP_RSTIGN = true ∧ t.on F.SYS_EVT_RST_STUCK = true)) ∧
    (s.sys.resetHeld = false ∨ s.fbit F.SYS_STRAP_STRAP 3 = true → Gives .rstNStuck s (fun t => t = s)) ∧
    Gives .rstNIgnoreEnd s (fun t => t.on F.SYS_STRAP_RSTIGN = false ∧ t.on F.SYS_STRAP_RSTLVL = true ∧ ∀ a, a ≠ R.SYS_STRAP → t.reg a = s.reg a) ∧
    (Resettable s → Gives (.watchdogExpiry b) s (fun t => WarmReset s t 4)) ∧
    (s.dev = stSEALED ∨ s.dev = stTHERMAL → Gives (.watchdogExpiry b) s (fun t => t.dev = s.dev ∧ (t.get F.SYS_RSTCAUSE_IGN).testBit 4 = true)) ∧
    (stPMU_UP < s.dev → Gives .lockstepMismatch s (fun t => t.on F.SYS_EVT_LOCKSTEP = true ∧
      (s.on F.SYS_EVT_LOCKSTEP = false → s.reactNow Q.SYS_LOCKSTEP = 6 → t.dev = stSEALED))) ∧
    (s.booting = false → exec (.bootSequence true true none none) s = .next s) ∧
    (s.booting = true → s.sys.porBoot = true → s.on F.PMU_LAST_CAUSE = false → s.fbit F.SYS_STRAP_STRAP 1 = true → s.reactNow Q.SYS_CFGDEF ≤ 3 → s.reactNow Q.HOST_RESETFIN ≤ 3 →
      Gives (.bootSequence true true none none) s (fun t => t.dev = stDEFAULT ∧ t.mem = [] ∧ t.on F.SYS_CFGST_CFG_DEF = true ∧
        t.sys.copyInUse = none)) ∧
    (∀ l u, s.booting = true → s.sys.porBoot = true → s.on F.PMU_LAST_CAUSE = false → s.bootLoad.bootChoose = (l, u) →
      exec (.bootSequence true true none none) s =
        .next (if (settle s u).dev = stCONFIG then settle (settle s u) ((settle s u).config l none) else settle s u))

namespace Sys2Proof.Stmt
open Sys2Proof.Machine

/-- No claim of another master waits. -/
def NoClaims (s : State) : Prop := s.bus.deferred = [] ∧ s.bus.held = []

end Sys2Proof.Stmt

/-- 03 R113 to R118, R125, R126, R130, R133, R134, 05 R179, R180, 07 R286, 13 R503: the events of a period. The boundary takes the grid on and
counts p, or stops the Helm; the engine start begins the row; the last block completes it; the deadline flips the pages, pours the ladle
and records the cycles, or abandons the period and counts the overrun; a conversion start starts its list; the commit consumes the
samples and places the safety word. -/
def Obligations.PeriodEventsFollowTheHelm : Prop :=
  ∀ (s : State) (b : Bool),
    let es := s.get F.ENG_STAT_ESTATE
    let m := ({ s.gridNext with adc := { s.gridNext.adc with plaus := [] } }).modBoundary.oclBoundary.logBoundary.boundaryMove
    let blocks := (s.rowEntries (s.arow s.aBank s.curRow)).map fun e => (s.blockCost s.pBank e).1
    let row := s.arow s.aBank (s.get F.ENG_ROW_ROW)
    let list := (rowStart row b).2.1
    let due := s.sx ≠ sxOFF ∧ s.sext.begun = true ∧ s.sext.comm = true
    let cyc := if s.eng.blocks = [] then 0 else rowCycles s.eng.blocks - 2 + s.eng.waited
    (s.gridDue = false → Gives .periodBoundary s (fun t => t = s)) ∧
    (s.gridDue = true → m.helmMay = true → Gives .periodBoundary s (fun t => t.get F.ENG_STAT_ESTATE = 1 ∧
      t.pcnt = (if m.get F.ENG_STAT_ESTATE = 0 then 0 else (m.pcnt + 1) % 2 ^ 64) ∧ t.eng.doneBlks = 0 ∧ t.sext = m.sext)) ∧
    (s.gridDue = true → m.helmMay = false → Gives .periodBoundary s (fun t => t.get F.ENG_STAT_ESTATE = 0 ∧ t.pcnt = m.pcnt ∧ t.sext = m.sext)) ∧
    (s.gridDue = true → s.sext.begun = true → m.sext.b0 = s.sext.b1 ∧ m.sext.b1 = s.sext.b2 ∧ m.sext.comm = false ∧
      m.sext.k = if s.sext.k + 1 < s.sxN then s.sext.k + 1 else 0) ∧
    (es = 1 → blocks ≠ [] → Gives .engineStart s (fun t => t.get F.ENG_STAT_ESTATE = 2 ∧ t.eng.blocks = blocks ∧ t.eng.doneBlks = 0 ∧
      t.eng.sget = s.sgetValues ∧ t.eng.waited = 0 ∧ t.eng.slot = [] ∧ t.mem = s.mem)) ∧
    (es = 1 → blocks = [] → NoClaims s → Gives .engineStart s (fun t => t.get F.ENG_STAT_ESTATE = 3 ∧ t.mem = s.mem)) ∧
    (es ≠ 1 → Gives .engineStart s (fun t => t = s)) ∧
    (es = 2 → s.eng.doneBlks + 1 < s.eng.blocks.length → Gives .blockComplete s (fun t => t.get F.ENG_STAT_ESTATE = 0 ∨
      t.eng.doneBlks = s.eng.doneBlks + 1 ∧ t.get F.ENG_STAT_ESTATE = 2 ∧ t.eng.vOpen = none)) ∧
    (es = 2 → s.eng.doneBlks + 1 = s.eng.blocks.length → NoClaims s → Gives .blockComplete s (fun t => t.get F.ENG_STAT_ESTATE = 0 ∨
      t.eng.doneBlks = s.eng.doneBlks + 1 ∧ t.get F.ENG_STAT_ESTATE = 3)) ∧
    (es ≠ 2 → Gives .blockComplete s (fun t => t = s)) ∧
    ((¬ due) ∨ es = 4 → Gives .deadline s (fun t => t = s)) ∧
    (due → es = 2 ∨ es = 3 → s.rowDone = true → NoClaims s → Gives .deadline s (fun t => (t.get F.ENG_STAT_ESTATE = 4 ∨ t.get F.ENG_STAT_ESTATE = 0) ∧
      t.eng.pV = s.eng.pV ^^^ s.eng.wV ∧ t.eng.pS = s.eng.pS ^^^ s.eng.wS ∧ t.eng.wV = 0 ∧ t.eng.wS = 0 ∧ t.eng.ladle = [] ∧
      t.reg R.ENG_OVR_RUN = 0 ∧ t.regN R.ENG_LASTCYC = cyc % 2 ^ 32 ∧ t.regN R.ENG_STALL = s.eng.waited % 2 ^ 32 ∧ t.pcnt = s.pcnt)) ∧
    (due → es = 2 → s.rowDone = false → NoClaims s → Gives .deadline s (fun t => (t.get F.ENG_STAT_ESTATE = 4 ∨ t.get F.ENG_STAT_ESTATE = 0) ∧
      t.eng.pV = s.eng.pV ∧ t.eng.pS = s.eng.pS ∧ t.eng.wV = 0 ∧ t.eng.wS = 0 ∧ t.eng.ladle = [] ∧ t.on F.ENG_STAT_OVERRUN = true ∧
      t.regN R.ENG_OVR_CNT = min 0xFFFFFFFF (s.regN R.ENG_OVR_CNT + 1) ∧ t.regN R.ENG_OVR_RUN = min 0xFFFFFFFF (s.regN R.ENG_OVR_RUN + 1) ∧
      t.reg64 R.ENG_OVR_T_LO = s.now ∧ t.reg R.UPD_OKRUN = 0)) ∧
    ((rowStart row b).1 = false ∨ es = 0 → Gives (.almanacListStart b) s (fun t => t = s)) ∧
    ((rowStart row b).1 = true → es ≠ 0 → s.sext.b0 + 320 * (rowStart row b).2.2 < s.sext.b1 → s.on F.ADC_CTRL_EN = true →
      s.fbit F.ADC_LBUSY_L list = false → Gives (.almanacListStart b) s (fun t => t.fbit F.ADC_LBUSY_L list = true ∧
        ∃ r, t.adc = { s.adc with lists := s.adc.lists ++ [r] } ∧ r.list = list ∧ r.entry = s.get (F.ADC_LIST_FIRST list) ∧ r.ready = s.now)) ∧
    ((rowStart row b).1 = true → es ≠ 0 → s.sext.b1 ≤ s.sext.b0 + 320 * (rowStart row b).2.2 → Gives (.almanacListStart b) s (fun t =>
      t.on F.ALM_STAT_OFSLATE = true)) ∧
    (s.sx = sxOFF ∨ s.sext.begun = false → Gives .inboxCommit s (fun t => t = s)) ∧
    (s.sx ≠ sxOFF → s.sext.begun = true → s.on F.TWIN_CFG_EN = false → Gives .inboxCommit s (fun t =>
      (∀ l, l < 56 → s.pairBit R.OCL_EN_LO l = true → (t.lane l).samples = []) ∧
      (s.on F.SAFE_PLACE_EN = true → s.get F.SAFE_PLACE_SWORD < 0x4000 → s.inStateS (s.get F.SAFE_PLACE_SWORD) = false →
        t.load (sdmAddr (s.get F.SAFE_PLACE_SWORD)) 4 = s.safeWord)))

/-- 01 R31 to R36, 15 R553, R568: the moves that a period boundary makes, by what was asked for and by the bypasses seen. Nothing else moves the
device there. -/
def Obligations.BoundaryMovesFollowTheTable : Prop :=
  ∀ (s : State),
    let asked (st : Nat) := ∃ m, s.sys.move = some m ∧ m.target = st
    let clear := s.pendingAt 4 = none
    (s.dev = stLINKS → (s.on F.SYS_CTRL_AUTOARM = true ∨ asked stARMED) → s.linksReady = true → clear → s.boundaryMove.dev = stARMED ∧
      s.boundaryMove.sys.move = none ∧ s.boundaryMove.sys.cause = none) ∧
    (s.dev = stBLOCKED → asked stARMED → clear → s.boundaryMove.dev = stARMED ∧ s.boundaryMove.sys.cause = none) ∧
    (s.dev = stARMED → asked stRUN → s.boundaryMove.dev = stRUN ∧ s.boundaryMove.sys.move = none) ∧
    (s.dev = stRUN → s.bypassSeen = true → s.boundaryMove = s.setDev stDEGRADED) ∧
    (s.dev = stDEGRADED → s.bypassSeen = false → s.boundaryMove = s.setDev stRUN) ∧
    (s.dev ∉ [stLINKS, stBLOCKED, stARMED, stRUN, stDEGRADED] → s.boundaryMove = s) ∧
    (s.dev = stLINKS → s.linksReady = false → s.boundaryMove = s) ∧
    (s.dev = stBLOCKED ∨ s.dev = stARMED → s.sys.move = none → s.boundaryMove = s)

/-- 02 R43, R64, R80, R81, R84, 05 R198, R199, 06 R229: the Sextant's update commits the next boundary within its bounds and writes the record; a
grid point shows its index; the next edge of a local output plays; the capture agent captures a period once. -/
def Obligations.GridEdgeAndCaptureEventsAct : Prop :=
  ∀ (s : State) (c : Fin 465),
    let es := s.get F.ENG_STAT_ESTATE
    let x := s.chan (chanOf c)
    (s.sx ≠ sxOFF → s.sext.begun = true → s.sext.comm = false → s.regN R.SEXT_DMIN ≤ s.regN R.SEXT_DMAX → Gives .sextantUpdate s (fun t =>
      t.sext.comm = true ∧ t.sext.b0 = s.sext.b0 ∧ t.sext.b1 = s.sext.b1 ∧ t.sext.k = s.sext.k ∧ t.reg64 R.SEXT_B2_LO = t.sext.b2 ∧
        (∃ d : Int, t.sext.b2 = ctAdd s.sext.b1 d ∧ (s.regN R.SEXT_DMIN : Int) ≤ d ∧ d ≤ s.regN R.SEXT_DMAX) ∧
        t.load (sdmAddr 0x3FF0) 4 = s.sext.k % 2 ^ 32 ∧ t.load (sdmAddr 0x3FF6) 4 = s.sext.b1 % 2 ^ 32 ∧
        t.load (sdmAddr 0x3FF7) 4 = s.sext.b1 / 2 ^ 32 % 2 ^ 32)) ∧
    (s.sx = sxOFF ∨ s.sext.begun = false ∨ s.sext.comm = true → Gives .sextantUpdate s (fun t => t = s)) ∧
    (x.grid = [] → Gives (.gridPoint c) s (fun t => t = s)) ∧
    (∀ e l, x.grid = e :: l → Gives (.gridPoint c) s (fun t => t.regN (R.MOD_NIDX (ri (chanOf c))) = e.n % 2 ^ 32 ∧
      t.get (F.MOD_CHST_DPH (ri (chanOf c))) = e.n % 16 ∧ t.mem = s.mem ∧ (c.val < 448 → (t.chan (chanOf c)).grid = l))) ∧
    (s.mod.play = [] → Gives .localEdgeOutput s (fun t => t = s)) ∧
    (∀ k e l, s.mod.play = (k, e) :: l → Gives .localEdgeOutput s (fun t => t.mod.play = l ∧ t.mem = s.mem ∧
      (e.high = true → t.mod.sigH = putBit s.mod.sigH (if k < 456 then k - 448 else k - 456) e.level ∧ t.mod.sigL = s.mod.sigL) ∧
      (e.high = false → t.mod.sigL = putBit s.mod.sigL (if k < 456 then k - 448 else k - 456) e.level ∧ t.mod.sigH = s.mod.sigH))) ∧
    (s.log.captured = true ∨ s.log.open_.isSome = true ∨ es = 0 ∨ es = 1 → Gives .logCapture s (fun t => t = s)) ∧
    (es = 4 → s.log.captured = false → s.log.open_ = none → Gives .logCapture s (fun t => t.log.captured = true ∧ t.log.open_ = none ∧
      t.host.recNo = (s.host.recNo + 1) % 2 ^ 32 ∧ (s.logState = logIDLE ∨ s.logState = logDONE → t.mem = s.mem ∧ t.log.count = s.log.count) ∧
      (s.logState = logPRE → s.fired s.sigData = 0 → s.log.force = false → t.log.count = min (s.log.count + 1) s.nslot))) ∧
    (es = 2 ∨ es = 3 → s.log.captured = false → s.log.open_ = none → s.on F.LOG_CTRL_CAPPT = true → Gives .logCapture s (fun t =>
      t.log.open_ = some (if s.claimsHeld then [] else s.sigData) ∧ t.log.split = (s.claimsHeld || s.log.split) ∧ t.mem = s.mem)) ∧
    (es = 2 ∨ es = 3 → s.on F.LOG_CTRL_CAPPT = false → Gives .logCapture s (fun t => t = s))

namespace Sys2Proof.Stmt
open Sys2Proof.Machine

/-- A valid frame of a pod that the lane takes: block-locked, its link neither OFF nor DOWN (R250). -/
def Heard (s : State) (l : Nat) (f : LinkFrame) : Prop := s.laneLocked l = true ∧ loQUERY ≤ s.ostate l ∧ s.upValid f = true

/-- The lane is free to send: nothing on the wire, nothing waiting. -/
def LaneFree (s : State) (l : Nat) : Prop := s.laneBusy l = false ∧ s.laneLocked l = true ∧ s.oclSends = true ∧ (s.lane l).queue = []

/-- A capability passes (R257): a version of Table 13 that both sides can take, the channels, samples and frames asked for, the bypass where
it is required, and an accuracy class that is defined and allowed. -/
def CapPasses (s : State) (l cap : Nat) : Prop :=
  capVMAX cap ∈ [0x10, 0x11, 0x20] ∧ 0x10 ≤ s.get F.OCL_TCFG_VMAX ∧ s.get (F.OCL_LCFG_NCHREQ l) ≤ capNCH cap ∧
    s.get F.OCL_INMAP_S ≤ capNSMP cap ∧ s.get F.OCL_INMAP_F ≤ capNFRM cap ∧
    (capBYP cap = true ∨ s.on (F.OCL_LCFG_BYPREQ l) = false ∧ s.on (F.OCL_LCFG_LLBYP l) = false) ∧
    capTACC cap ≤ 4 ∧ capTACC cap ≤ s.get (F.OCL_LCFG_ACCMAX l)

/-- The outstanding command goes out again: at once on a free lane that it fits, else when it can (R280, R283). -/
def GoesAgain (s t : State) (l : Nat) (c : OclCmd) : Prop :=
  (LaneFree s l → s.fits l c.data.length = true → (t.lane l).cmd = some { c with due := false, sends := c.sends + 1 } ∧
      t.tx = s.tx ++ [.cell l { ftype := 3, claim := s.get F.OCL_CLAIM_CLAIM, seq := c.seq, len := c.data.length, tspec := c.opc, data := c.data, ok := true }]) ∧
    (s.laneBusy l = true → (t.lane l).cmd = some { c with due := true } ∧ t.tx = s.tx)

end Sys2Proof.Stmt

/-- 07 R250, R251, R253, R254, R256, R257, R280: the negotiation of a cell link. CAPQ is sent in QUERY, and 32 without an answer set NOCAP; a
capability that passes takes the highest common version and leads to CONFIG with its SETCFG, one that does not to FAIL with the reason;
SETCFG is sent at most 3 times; its ACK leads to TSYNC, or to FAIL; the ACK of another command ends it. -/
def Obligations.CellLinkNegotiationActs : Prop :=
  ∀ (s : State) (l : Fin 56) (f : LinkFrame),
    let cap := (f.data.headD 0).toNat
    let res := bitsOf cap 8 8
    let mine (c : OclCmd) : Prop := (s.lane l).cmd = some c ∧ f.tspec % 256 = c.seq ∧ cap % 256 = c.opc
    let crcOk (c : OclCmd) : Prop := cap / 2 ^ 32 = (crc32 (c.data.flatMap blockBytes)).toNat
    (s.ostate l ≠ loQUERY → Gives (.capqSend l) s (fun t => t = s)) ∧
    (s.ostate l = loQUERY → (s.lane l).capSends ≠ 32 → LaneFree s l → Gives (.capqSend l) s (fun t =>
      t.tx = s.tx ++ [.cell l { ftype := 3, claim := s.get F.OCL_CLAIM_CLAIM, seq := (s.lane l).seq, len := 1, tspec := 1, data := [BitVec.ofNat 64 (s.get F.OCL_TCFG_VMAX)], ok := true }] ∧
        (t.lane l).capSends = (s.lane l).capSends + 1 ∧ (t.lane l).seq = ((s.lane l).seq + 1) % 256 ∧ t.mem = s.mem)) ∧
    (s.ostate l = loQUERY → (s.lane l).capSends = 32 → Gives (.capqSend l) s (fun t => t.on (F.OCL_LSTAT_NOCAP l) = true ∧ (t.lane l).capSends = 33)) ∧
    ((∀ c, s.capReason l c = 0 ↔ CapPasses s l c) ∧ ∀ c, s.capReason l c ≤ 5) ∧
    (Heard s l f → f.ftype = 9 → f.tspec / 2 ^ 16 = 1 → s.ostate l = loQUERY → s.capReason l cap ≠ 0 → Gives (.statusCapRx l f) s (fun t =>
      t.ostate l = loFAIL ∧ t.get (F.OCL_LSTATE_REASON l) = s.capReason l cap ∧ t.reg64 (R.OCL_LCAP_LO l) = cap ∧ (t.lane l).cmd = none)) ∧
    (Heard s l f → f.ftype = 9 → f.tspec / 2 ^ 16 = 1 → s.ostate l = loQUERY → CapPasses s l cap → Gives (.statusCapRx l f) s (fun t =>
      t.ostate l = loCONFIG ∧ t.reg64 (R.OCL_LCAP_LO l) = cap ∧ (∃ c, (t.lane l).cmd = some c ∧ c.opc = 2 ∧ c.data = t.setcfgData l) ∧
        t.get (F.OCL_LSTATE_VER l) ∈ [0x10, 0x11, 0x20] ∧ t.get (F.OCL_LSTATE_VER l) ≤ min (s.get F.OCL_TCFG_VMAX) (capVMAX cap) ∧
        ∀ v ∈ [0x10, 0x11, 0x20], v ≤ min (s.get F.OCL_TCFG_VMAX) (capVMAX cap) → v ≤ t.get (F.OCL_LSTATE_VER l))) ∧
    (Heard s l f → f.ftype = 9 → f.tspec / 2 ^ 16 = 1 → s.ostate l ≠ loQUERY → Gives (.statusCapRx l f) s (fun t => (∀ a, a ≠ R.OCL_LSEQ l → t.reg a = s.reg a) ∧
      t.mem = s.mem ∧ t.tx = s.tx ∧ (t.lane l).rxSeq = some f.seq)) ∧
    (s.laneLocked l = true → loQUERY ≤ s.ostate l → s.upValid f = false → Gives (.statusCapRx l f) s (fun t =>
      t.on (F.OCL_LSTAT_CRCERR l) = true ∧ t.regN (R.OCL_LCRC l) = min 0xFFFFFFFF (s.regN (R.OCL_LCRC l) + 1) ∧ t.ocl = s.ocl)) ∧
    (s.laneLocked l = false ∨ s.ostate l < loQUERY → Gives (.statusCapRx l f) s (fun t => t = s) ∧ Gives (.statusAckRx l f) s (fun t => t = s)) ∧
    (∀ c, (s.lane l).cmd = some c → c.opc = 2 → c.due = false → c.sends < 3 → Gives (.setcfgResend l) s (fun t => GoesAgain s t l c)) ∧
    (∀ c, (s.lane l).cmd = some c → c.opc = 2 → c.due = false → 3 ≤ c.sends → Gives (.setcfgResend l) s (fun t =>
      t.ostate l = loFAIL ∧ t.get (F.OCL_LSTATE_REASON l) = 6 ∧ (t.lane l).cmd = none)) ∧
    ((s.lane l).cmd = none → Gives (.setcfgResend l) s (fun t => t = s)) ∧
    (∀ c, Heard s l f → f.ftype = 9 → f.tspec / 2 ^ 16 = 2 → mine c → c.opc = 2 → res = 0 → crcOk c → s.ostate l = loCONFIG →
      Gives (.statusAckRx l f) s (fun t => t.ostate l = loTSYNC ∧ (t.lane l).cmd = none ∧ (t.lane l).dAcc = [] ∧ (t.lane l).dRun = 0)) ∧
    (∀ c, Heard s l f → f.ftype = 9 → f.tspec / 2 ^ 16 = 2 → mine c → c.opc = 2 → ¬ (res = 0 ∧ crcOk c) →
      Gives (.statusAckRx l f) s (fun t => t.ostate l = loFAIL ∧ t.get (F.OCL_LSTATE_REASON l) = 6 ∧ (t.lane l).cmd = none)) ∧
    (∀ c, Heard s l f → f.ftype = 9 → f.tspec / 2 ^ 16 = 2 → mine c → c.opc ≠ 2 → Gives (.statusAckRx l f) s (fun t =>
      (c.src = 1 → t.on F.OCL_LCMDST_BUSY = false ∧ t.get F.OCL_LCMDST_RESULT = res ∧ t.regN R.OCL_LCMDDATA = cap / 2 ^ 32) ∧
        (res = 0 → c.opc = 3 → (t.lane l).commanded = true) ∧ (res = 0 → c.opc = 4 → (t.lane l).commanded = false) ∧
        t.ostate l = s.ostate l ∧
        (s.ostate l ≠ loREADY ∨ (s.lane l).cfg = s.setcfgData l ∧ (s.lane l).hostWait = none → (t.lane l).cmd = none))) ∧
    (∀ c, Heard s l f → f.ftype = 9 → f.tspec / 2 ^ 16 = 2 → (s.lane l).cmd = some c → (f.tspec % 256 ≠ c.seq ∨ cap % 256 ≠ c.opc) →
      Gives (.statusAckRx l f) s (fun t => (t.lane l).cmd = some c ∧ t.ostate l = s.ostate l ∧ t.tx = s.tx))

/-- 07 R262 to R266, R274, R280, R283, R286: what the pods report, and the timers. A PERIODIC shows its status and, answering the last TIME
frame, gives a delay, whose first value is the mean and of which eight in a row with TLOCK end TSYNC; a SAMPLE is held for the commit;
with the grid stopped the READY lanes get KEEP frames; a command is sent at most four times. -/
def Obligations.CellLinkReportsAndTimersAct : Prop :=
  ∀ (s : State) (l : Fin 56) (f : LinkFrame) (sub : Fin 16),
    let b1 := (f.data.getD 1 0).toNat
    let b2 := (f.data.getD 2 0).toNat
    let x := s.lane l
    let per := Heard s l f ∧ f.ftype = 9 ∧ f.tspec / 2 ^ 16 = 0
    let answers (t1 : Nat) : Prop := x.t1 = some t1 ∧ f.tspec % 256 = (x.tseq + 255) % 256
    let d2 (t1 : Nat) : Int := ctDiff (ctAdd (s.now + sub) (signedOf 16 (s.get (F.LANE_TSOFS_RX l)))) t1 - (b1 / 2 ^ 32 : Nat) + 2 * signedOf 16 (s.get (F.OCL_LASYM_ASYM l))
    (per → s.ostate l ≠ loTSYNC → x.t1 = none → Gives (.statusPeriodicRx l f sub) s (fun t =>
      t.regN (R.OCL_LPST l) = b2 % 2 ^ 32 ∧ t.regN (R.OCL_LPERR l) = b1 % 2 ^ 16 * 2 ^ 16 + b1 / 2 ^ 16 % 2 ^ 16 ∧
        t.on (F.OCL_LSTATE_TLOCK l) = b2.testBit 18 ∧ t.on (F.OCL_LSTATE_FOLLOW l) = (f.claim == s.get F.OCL_CLAIM_CLAIM) ∧
        (b2 / 2 ^ 32 ≠ 0 → t.regN (R.OCL_LFSTAMP l) = b2 / 2 ^ 32) ∧ t.ostate l = s.ostate l ∧ t.mem = s.mem ∧
        (t.lane l).dAcc = x.dAcc ∧ t.pairBit R.OCL_BYP_LO l = (bitsOf b2 16 2 != 0) ∧
        (bitsOf b2 20 4 ≠ 0 → t.on (F.OCL_LSTAT_HOLD l) = true) ∧ (b2.testBit 26 = true → t.on (F.OCL_LSTAT_CLASH l) = true))) ∧
    (per → ∀ t1, answers t1 → x.dAcc = [] → s.ostate l ≠ loTSYNC → Gives (.statusPeriodicRx l f sub) s (fun t =>
      (t.lane l).dAcc = [d2 t1] ∧ (t.lane l).dRun = x.dRun + 1 ∧ t.get (F.OCL_LDELAY_DDN l) = encS 24 (roundDiv (d2 t1) 2))) ∧
    (per → ∀ t1, answers t1 → x.dAcc ≠ [] → 2 * (s.get F.OCL_TCFG_DWIN : Int) < (d2 t1 - 2 * meanOf x.dAcc).natAbs →
      Gives (.statusPeriodicRx l f sub) s (fun t => t.on (F.OCL_LSTAT_DJUMP l) = true ∧ (t.lane l).dRun = 0 ∧
        (x.dRej.length < 3 → (t.lane l).dAcc = x.dAcc ∧ (t.lane l).dRej = x.dRej ++ [d2 t1]) ∧
        (3 ≤ x.dRej.length → (t.lane l).dAcc = x.dRej ++ [d2 t1] ∧ (t.lane l).dRej = []))) ∧
    (per → ∀ t1, answers t1 → x.dAcc = [] → s.ostate l = loTSYNC → 7 ≤ x.dRun → Gives (.statusPeriodicRx l f sub) s (fun t =>
      t.ostate l = if t.get (F.OCL_LRMAX_RMAX l) < s.get (F.OCL_LCFG_RMIN l) then loFAIL else if b2.testBit 18 then loREADY else loTSYNC)) ∧
    (s.active = true → s.ostate l = loREADY → 8 ≤ x.followRun → Gives (.foreignDetect l) s (fun t => t.on (F.OCL_LSTAT_FOREIGN l) = true ∧ t.mem = s.mem)) ∧
    (s.active = false ∨ s.ostate l ≠ loREADY ∨ x.followRun < 8 → Gives (.foreignDetect l) s (fun t => t = s)) ∧
    (Heard s l f → f.ftype = 8 → Gives (.sampleRx l f) s (fun t => ∃ sm, (t.lane l).samples = sm :: x.samples.filter (·.slot != f.tspec % 8) ∧
      sm.slot = f.tspec % 8 ∧ sm.stamp = (f.data.headD 0).toNat ∧ sm.vals.length = s.get F.OCL_INMAP_S ∧
      (∀ i, i < s.get F.OCL_INMAP_S → sm.vals.getD i 0 = BitVec.ofNat 16 ((f.data.getD (1 + i / 4) 0).toNat / 2 ^ (16 * (i % 4)))) ∧
      t.mem = s.mem ∧ t.tx = s.tx)) ∧
    (s.laneLocked l = false ∨ s.ostate l < loQUERY → Gives (.sampleRx l f) s (fun t => t = s) ∧ Gives (.statusPeriodicRx l f sub) s (fun t => t = s)) ∧
    (s.gridRuns = true ∨ s.oclSends = false → Gives .keepStoppedSend s (fun t => t = s)) ∧
    (s.gridRuns = false → s.ostate l = loREADY → LaneFree s l → Gives .keepStoppedSend s (fun t => ∃ ms g, t.tx = s.tx ++ ms ∧ OutMsg.cell l g ∈ ms ∧
      g.ftype = 4 ∧ g.len = 2 ∧ g.data = [0, 0] ∧ g.seq = x.seq ∧ t.mem = s.mem ∧ t.regs = s.regs)) ∧
    (∀ c, x.cmd = some c → c.opc ≠ 2 → c.due = false → c.sends < 4 → Gives (.cmdRetransmit l) s (fun t => GoesAgain s t l c)) ∧
    (∀ c, x.cmd = some c → c.opc ≠ 2 → c.due = false → 4 ≤ c.sends → s.ostate l ≠ loREADY → Gives (.cmdRetransmit l) s (fun t =>
      (t.lane l).cmd = none ∧ t.on (F.OCL_LSTAT_CMDFAIL l) = true ∧ (c.src = 1 → t.on F.OCL_LCMDST_BUSY = false ∧ t.on F.OCL_LCMDST_FAILED = true))) ∧
    (x.cmd = none → Gives (.cmdRetransmit l) s (fun t => t = s))

namespace Sys2Proof.Stmt
open Sys2Proof.Machine

/-- The pod's outputs are all at their blocked levels (R272, R278). -/
def Blocked (p : PodSt) : Prop := p.blocked = true ∧ p.playing = false ∧ ∀ o, o < 16 → p.outs.testBit o = p.blockLevel o

/-- The claim on the frame is the accepted one once it is sighted (R259, R260). -/
def Accepts (p : PodSt) (claim : Nat) (b : Bool) : Prop := (p.see claim b).cacc = claim

/-- What the program and the host configured and commanded in the pod is as before. -/
def PodSame (p q : PodSt) : Prop := q.cfg = p.cfg ∧ q.bypst = p.bypst ∧ q.outs = p.outs ∧ q.wins = p.wins ∧ q.sched = p.sched ∧ q.blocked = p.blocked

/-- The pod answers on the port that carried the command, first of what it sends, with this result and data (R281). -/
def PodAnswers (s t : State) (l : Nat) (b : Bool) (f : LinkFrame) (res : Nat) (val : Option Nat) : Prop :=
  ∃ g d ms, t.tx = s.tx ++ OutMsg.pod l b g :: ms ∧ g.ftype = 9 ∧ g.tspec = 2 ^ 17 + f.seq ∧ g.data = [d] ∧ g.seq = ((s.pod l).port b).seq ∧
    d.toNat % 2 ^ 16 = res * 2 ^ 8 + f.tspec ∧ ∀ v, val = some v → d.toNat / 2 ^ 32 = v

end Sys2Proof.Stmt

/-- 07 R250, R252, R258 to R260, R265, R267, R276, R277: the frames that a pod receives. One with its accepted claim is taken: the window waits
for its ANCHOR unless it is late, TRIP blocks at once, TIME is stamped and moves TLOCK. One with another claim changes nothing that the pod plays. -/
def Obligations.PodsTakeFramesOfTheirClaim : Prop :=
  ∀ (s : State) (l : Fin 56) (b : Bool) (f : LinkFrame) (sub : Fin 16) (pl : BitVec 56),
    let p := s.pod l
    let tsu := bitsOf p.cap.toNat 32 8
    let wlen (w : Nat) := if w = 0 then 64000 else w
    let keep := downValid f = true ∧ f.ftype = 4 ∧ p.on = true
    let time := downValid f = true ∧ f.ftype = 1 ∧ p.on = true
    let t2 := ctAdd (s.podNow p) sub
    let e := ctDiff (ctAdd (f.data.getD 0 0).toNat ((f.data.getD 1 0).toNat % 2 ^ 24 : Nat)) t2
    let bound := classBound5 (capTACC p.cap.toNat)
    let claim := pl.toNat / 2 ^ 40 % 2 ^ 16
    let trip := p.on = true ∧ pl.toNat % 2 ^ 40 = 0xA55A9669C3 ∧ claim ≠ 0
    (∀ w, p.edgeOf f = some w → p.on = true → Accepts p f.claim b → (32 * tsu : Nat) ≤ ctDiff w.anchor (s.podNow p) →
      Gives (.podEdgeFrameRx l b f) s (fun t => (t.pod l).wins = p.wins ++ [w] ∧ (t.pod l).wLen = wlen w.wlen ∧ (t.pod l).loss = false ∧ t.tx = s.tx ∧
        (f.tspec.testBit 17 = true → Blocked (t.pod l)) ∧ (f.tspec.testBit 17 = false → (t.pod l).outs = p.outs ∧ (t.pod l).play = p.play ∧ (t.pod l).blocked = p.blocked))) ∧
    (∀ w, p.edgeOf f = some w → p.on = true → Accepts p f.claim b → ctDiff w.anchor (s.podNow p) < (32 * tsu : Nat) →
      Gives (.podEdgeFrameRx l b f) s (fun t => (t.pod l).late = true ∧ PodSame p (t.pod l))) ∧
    (∀ w, p.edgeOf f = some w → p.on = true → ¬ Accepts p f.claim b → Gives (.podEdgeFrameRx l b f) s (fun t => PodSame p (t.pod l) ∧ t.tx = s.tx)) ∧
    (p.edgeOf f = none ∨ p.on = false → Gives (.podEdgeFrameRx l b f) s (fun t => t = s)) ∧
    (keep → Accepts p f.claim b → Gives (.podKeepRx l b f) s (fun t => (t.pod l).wLen = wlen ((f.data.getD 1 0).toNat / 2 ^ 40) ∧ (t.pod l).loss = false ∧
      (t.pod l).outs = p.outs ∧ ((f.data.getD 0 0).toNat = 0 → (t.pod l).wins = p.wins) ∧
      ((f.data.getD 0 0).toNat ≠ 0 → ∃ w, (t.pod l).wins = p.wins ++ [w] ∧ w.anchor = (f.data.getD 0 0).toNat ∧ w.edge = none))) ∧
    (keep → ¬ Accepts p f.claim b → Gives (.podKeepRx l b f) s (fun t => PodSame p (t.pod l) ∧ (t.pod l).wLen = p.wLen)) ∧
    (¬ keep → Gives (.podKeepRx l b f) s (fun t => t = s)) ∧
    (time → Gives (.podTimeRx l b f sub) s (fun t => ((t.pod l).port b).t2 = t2 ∧ ((t.pod l).port b).tseq = f.tspec % 256 ∧ ((t.pod l).port b).perr = e ∧ t.tx = s.tx)) ∧
    (time → ¬ Accepts p f.claim b → Gives (.podTimeRx l b f sub) s (fun t => (t.pod l).off = p.off ∧ (t.pod l).tlock = p.tlock ∧ PodSame p (t.pod l))) ∧
    (time → Accepts p f.claim b → Gives (.podTimeRx l b f sub) s (fun t => (t.pod l).loss = false ∧
      (2 * bound < 5 * e.natAbs → (t.pod l).tlock = false) ∧ (5 * e.natAbs ≤ bound → (t.pod l).tlock = (p.tlock || decide (3 ≤ p.tlockRun))) ∧
      (bound < 5 * e.natAbs → 5 * e.natAbs ≤ 2 * bound → (t.pod l).tlock = p.tlock ∧ (t.pod l).tlockRun = 0) ∧
      (2 * bound < 5 * e.natAbs → p.tlock = true → p.playing = true → Blocked (t.pod l) ∧ (t.pod l).tlockBlk = true))) ∧
    (¬ time → Gives (.podTimeRx l b f sub) s (fun t => t = s)) ∧
    (trip → claimHigher (p.see claim b).cacc claim = false → Gives (.podTripRx l b pl) s (fun t => Blocked (t.pod l) ∧ (t.pod l).tripped = true)) ∧
    (trip → claimHigher (p.see claim b).cacc claim = true → Gives (.podTripRx l b pl) s (fun t => PodSame p (t.pod l) ∧ (t.pod l).tripped = p.tripped)) ∧
    (¬ trip → Gives (.podTripRx l b pl) s (fun t => t = s))

/-- 07 R253, R255, R261, R279, R281: the commands a pod receives. CAPQ of any claim is answered; a command of another claim changes nothing; a
repeated one is answered again and not executed again; SETCFG, the bypass commands, RELEASE and FLTCLR act as Table 8 says. -/
def Obligations.PodsExecuteCommandsOnce : Prop :=
  ∀ (s : State) (l : Fin 56) (b : Bool) (f : LinkFrame),
    let p := s.pod l
    let cmd := downValid f = true ∧ f.ftype = 3 ∧ p.on = true
    let mine := cmd ∧ Accepts p f.claim b ∧ f.tspec ≠ 1
    let new := mine ∧ ∀ d, (p.port b).lastCmd ≠ some ((f.seq, f.tspec, f.claim), d)
    (¬ cmd → Gives (.podCmdRx l b f) s (fun t => t = s)) ∧
    (cmd → f.tspec = 1 → Gives (.podCmdRx l b f) s (fun t => PodSame p (t.pod l) ∧ ∃ g, t.tx = s.tx ++ [.pod l b g] ∧ g.ftype = 9 ∧ g.tspec = 2 ^ 16 ∧ g.data = [p.cap])) ∧
    (cmd → f.tspec ≠ 1 → ¬ Accepts p f.claim b → Gives (.podCmdRx l b f) s (fun t => PodSame p (t.pod l) ∧
      PodAnswers s t l b f (if f.tspec = 2 then (if p.cfg = f.data then 0 else 3) else 4) (some (if f.tspec = 2 then setcfgCrc f.data else 0)))) ∧
    (mine → ∀ d, (p.port b).lastCmd = some ((f.seq, f.tspec, f.claim), d) → Gives (.podCmdRx l b f) s (fun t => PodSame p (t.pod l) ∧
      ∃ g, t.tx = s.tx ++ [.pod l b g] ∧ g.data = [d] ∧ g.tspec = 2 ^ 17 + f.seq)) ∧
    (new → f.tspec = 2 → (p.see f.claim b).takes f.data = true → Gives (.podCmdRx l b f) s (fun t => (t.pod l).cfg = f.data ∧ (t.pod l).needCfg = false ∧
      PodAnswers s t l b f 0 (some (setcfgCrc f.data)))) ∧
    (new → f.tspec = 2 → (p.see f.claim b).takes f.data = false → Gives (.podCmdRx l b f) s (fun t => PodSame p (t.pod l) ∧ PodAnswers s t l b f 2 (some (setcfgCrc f.data)))) ∧
    (new → f.tspec = 3 ∨ f.tspec = 4 → capBYP p.cap.toNat = false → Gives (.podCmdRx l b f) s (fun t => PodSame p (t.pod l) ∧ PodAnswers s t l b f 1 (some 0))) ∧
    (new → f.tspec = 3 → capBYP p.cap.toNat = true → Gives (.podCmdRx l b f) s (fun t => PodAnswers s t l b f 0 (some 0) ∧
      (p.bypst ≠ 1 → (t.pod l).bypst = 2 ∧ (t.pod l).bypClose = true) ∧ (p.bypst = 1 → (t.pod l).bypst = 1))) ∧
    (new → f.tspec = 4 → capBYP p.cap.toNat = true → Gives (.podCmdRx l b f) s (fun t => PodAnswers s t l b f 0 (some 0) ∧
      (p.bypst ≠ 0 → (t.pod l).bypst = 2 ∧ (t.pod l).bypClose = false) ∧ (p.bypst = 0 → (t.pod l).bypst = 0))) ∧
    (new → f.tspec = 5 → Gives (.podCmdRx l b f) s (fun t => Blocked (t.pod l) ∧ (t.pod l).needCfg = true ∧ (t.pod l).wins = [] ∧ PodAnswers s t l b f 0 (some 0))) ∧
    (new → f.tspec = 6 ∨ f.tspec = 7 → Gives (.podCmdRx l b f) s (fun t => PodSame p (t.pod l) ∧
      PodAnswers s t l b f (if 0x11 ≤ p.ver then 0 else 1) (if f.tspec = 7 ∧ 0x11 ≤ p.ver then none else some 0))) ∧
    (new → f.tspec = 8 → Gives (.podCmdRx l b f) s (fun t => (t.pod l).desat = 0 ∧ (t.pod l).gdf = 0 ∧ (t.pod l).cfg = p.cfg ∧ (t.pod l).bypst = p.bypst ∧
      PodAnswers s t l b f 0 (some 0)))

/-- 07 R268 to R274, R277, R278: what a pod does on its own. At a window start it plays the records of its frame or replays, eight times at most;
a record turns one output, never on beside its complement; desaturation and a gate-driver fault hold their channel; link loss blocks; a
sample goes out on both ports; the bypass ends its move; power-up keeps only the bypass. -/
def Obligations.PodsPlayReplayAndHold : Prop :=
  ∀ (s : State) (l : Fin 56) (i : Fin 256) (c slot : Fin 8) (g : Bool) (vs : List (BitVec 16)) (temp : BitVec 16) (cap : Word64),
    let p := s.pod l
    let now := s.podNow p
    let none_ := ∀ w ∈ p.wins, 16 ≤ ctDiff w.anchor now
    let one (w : PodWin) : Prop := p.wins = [w] ∧ ctDiff w.anchor now < 16
    let plain := p.blocked = false ∧ p.chb = 0 ∧ p.ver < 0x20
    let reports (t : State) : Prop := ∃ ms u v, t.tx = s.tx ++ ms ++ [.pod l false u, .pod l true v] ∧ u.ftype = 9 ∧ v.ftype = 9
    let plays := p.on = true ∧ p.blocked = false ∧ p.playing = true
    let r := (p.play.getD i 0).toNat
    let o := 2 * (r / 2 ^ 24 % 8) + r / 2 ^ 27 % 2
    let comp := if o % 2 = 0 then o + 1 else o - 1
    let free := p.chb.testBit (o / 2) = false ∧ p.bypst = 0
    let sends := p.on = true ∧ p.cfg ≠ [] ∧ slot.val < p.frm
    (p.on = false → Gives (.podWindowStart l) s (fun t => t = s)) ∧
    (p.on = true → Gives (.podWindowStart l) s reports) ∧
    (p.on = true → none_ → p.blocked = false → p.hold < 8 → Gives (.podWindowStart l) s (fun t => (t.pod l).hold = p.hold + 1 ∧ (t.pod l).play = p.sched ∧
      (t.pod l).playing = true ∧ (t.pod l).wStart = ctAdd p.wStart p.wLen ∧ (t.pod l).outs = p.outs)) ∧
    (p.on = true → none_ → p.blocked = false → 8 ≤ p.hold → Gives (.podWindowStart l) s (fun t => Blocked (t.pod l))) ∧
    (∀ w sl recs, p.on = true → one w → w.edge = some (false, false, sl, recs) → plain → Gives (.podWindowStart l) s (fun t => (t.pod l).sched = recs ∧
      (t.pod l).play = recs ∧ (t.pod l).hold = 0 ∧ (t.pod l).wStart = w.anchor ∧ (t.pod l).wins = [] ∧ (t.pod l).outs = p.outs)) ∧
    (∀ w sl recs, p.on = true → one w → w.edge = some (true, false, sl, recs) → Gives (.podWindowStart l) s (fun t => Blocked (t.pod l) ∧ (t.pod l).hold = 0)) ∧
    (∀ w sl recs, p.on = true → one w → w.edge = some (false, false, sl, recs) → p.blocked = true → p.mayLeave = true → Gives (.podWindowStart l) s (fun t =>
      (t.pod l).blocked = false ∧ (t.pod l).tripped = false ∧ (t.pod l).play = recs)) ∧
    (∀ w sl recs, p.on = true → one w → w.edge = some (false, false, sl, recs) → p.blocked = true → p.mayLeave = false → Gives (.podWindowStart l) s (fun t =>
      (t.pod l).blocked = true ∧ (t.pod l).outs = p.outs)) ∧
    (¬ plays → Gives (.podEdgePlay l i) s (fun t => t = s)) ∧
    (plays → i.val < p.play.length → free → r.testBit 28 = false → Gives (.podEdgePlay l i) s (fun t => (t.pod l).outs.testBit o = false ∧
      (∀ k, k ≠ o → (t.pod l).outs.testBit k = p.outs.testBit k) ∧ (t.pod l).play = p.play.eraseIdx i)) ∧
    (plays → i.val < p.play.length → free → r.testBit 28 = true → p.outs.testBit comp = false → Gives (.podEdgePlay l i) s (fun t =>
      (t.pod l).outs.testBit o = true ∧ ∀ k, k ≠ o → (t.pod l).outs.testBit k = p.outs.testBit k)) ∧
    (plays → i.val < p.play.length → free → r.testBit 28 = true → p.outs.testBit comp = true → Gives (.podEdgePlay l i) s (fun t =>
      (t.pod l).outs.testBit comp = false ∧ (t.pod l).intlk = true ∧ (t.pod l).delayed = p.delayed ++ [(o, now + p.dtmin)] ∧
        ∀ k, k ≠ comp → (t.pod l).outs.testBit k = p.outs.testBit k)) ∧
    (p.on = true → Gives (.podDesat l c g) s (fun t => (t.pod l).chb.testBit c = true ∧ (g = true → (t.pod l).gdf = p.gdf ||| 2 ^ c.val ∧ (t.pod l).desat = p.desat) ∧
      (g = false → (t.pod l).desat = p.desat ||| 2 ^ c.val ∧ (t.pod l).gdf = p.gdf ∧ (t.pod l).outs.testBit (2 * c) = false ∧ (t.pod l).outs.testBit (2 * c + 1) = false) ∧
      (g = false → p.desat.testBit c = false → reports t))) ∧
    (p.on = false → Gives (.podDesat l c g) s (fun t => t = s) ∧ Gives (.podLinkLoss l) s (fun t => t = s)) ∧
    (p.on = true → Gives (.podLinkLoss l) s (fun t => Blocked (t.pod l) ∧ (t.pod l).loss = true ∧ (t.pod l).llost = true ∧ t.tx = s.tx)) ∧
    (¬ sends → Gives (.podSample l slot vs temp) s (fun t => t = s)) ∧
    (sends → Gives (.podSample l slot vs temp) s (fun t => (t.pod l).temp = temp ∧ ∃ u v ms, t.tx = s.tx ++ .pod l false u :: .pod l true v :: ms ∧
      u.ftype = 8 ∧ u.tspec = slot.val ∧ u.data.head? = some (BitVec.ofNat 64 now) ∧ u.data.length = 1 + (p.smp + 3) / 4 ∧ v.data = u.data ∧
      (p.loss = false → (t.pod l).bypst = p.bypst) ∧
      (p.loss = true → p.llbyp = true → capBYP p.cap.toNat = true → p.vbsrc < p.smp → (vs.getD p.vbsrc 0).toInt < p.vbyp → p.bypst ≠ 1 → (t.pod l).bypst = 2))) ∧
    (p.on = false ∨ p.bypst ≠ 2 → Gives (.podBypassComplete l g) s (fun t => t = s)) ∧
    (p.on = true → p.bypst = 2 → Gives (.podBypassComplete l g) s (fun t => (t.pod l).bypst = (if g then 3 else if p.bypClose then 1 else 0) ∧ reports t)) ∧
    Gives (.podPowerUp l cap) s (fun t => (t.pod l).on = true ∧ (t.pod l).cap = cap ∧ (t.pod l).blocked = true ∧ (t.pod l).needCfg = true ∧ (t.pod l).outs = 0 ∧
      (t.pod l).bypst = p.bypst ∧ (t.pod l).cfg = [] ∧ (t.pod l).cacc = 0 ∧ t.mem = s.mem ∧ t.regs = s.regs)

namespace Sys2Proof.Stmt
open Sys2Proof.Machine

/-- A failed hunt or polarity test: counted, flagged, back to CDR, the polarity toggled where AUTOPOL is 1 (08 Table 4, R303). -/
def HuntFailed (s t : State) (l : Nat) : Prop :=
  t.ls l = lsCDR ∧ t.on (F.LANE_STAT_HUNTFAIL l) = true ∧ t.regN (R.LANE_HUNTCNT l) = min 0xFFFFFFFF (s.regN (R.LANE_HUNTCNT l) + 1) ∧
    t.on (F.LANE_STAT_RXINV l) = (s.on (F.LANE_STAT_RXINV l) ^^ s.on (F.LANE_CFG_AUTOPOL l)) ∧ t.mem = s.mem

/-- The state of the lane in LANE_STAT and in LANE_UP (R298). -/
def LaneAt (t : State) (l st : Nat) : Prop := t.ls l = st ∧ t.pairBit R.LANE_UP_LO l = (st == lsUP)

/-- The bonded port's aligned bit (R306). -/
def State.aligned (s : State) (p : Nat) : Bool := (s.regN R.LANE_PORT).testBit p

end Sys2Proof.Stmt

/-- 08 R297 to R303, R306: a serial lane moves as Table 4 says and stays elsewhere. A lane that leaves UP counts and flags it, and the other lane
of its bonded port goes back to ALIGN. -/
def Obligations.LaneBringUpFollowsItsTable : Prop :=
  ∀ (s : State) (l : Fin 62) (h : Bool),
    let st := s.ls l
    let other := if l.val % 2 = 0 then l.val + 1 else l.val - 1
    let lost (t : State) : Prop := (st = lsUP → t.on (F.LANE_STAT_LOCKLOSS l) = true ∧
        t.regN (R.LANE_LOCKLOSS l) = min 0xFFFFFFFF (s.regN (R.LANE_LOCKLOSS l) + 1)) ∧
      (isBonded l = true → Stmt.State.aligned t (bondOf l) = false ∧ (s.ls other = lsUP → LaneAt t other lsALIGN)) ∧ t.mem = s.mem
    let host := 62 + b2n h
    (st = lsCDR → s.lcLocked l = true → Gives (.cdrLock l) s (fun t => LaneAt t l lsHUNT)) ∧
    (st ≠ lsCDR ∨ s.lcLocked l = false → Gives (.cdrLock l) s (fun t => t = s)) ∧
    (lsHUNT ≤ st → Gives (.cdrLoss l) s (fun t => LaneAt t l lsCDR ∧ lost t)) ∧
    (st < lsHUNT → Gives (.cdrLoss l) s (fun t => t = s)) ∧
    (st = lsHUNT → Gives (.huntLock l) s (fun t => LaneAt t l lsPOLTEST)) ∧
    (st ≠ lsHUNT → Gives (.huntLock l) s (fun t => t = s) ∧ Gives (.huntFail l) s (fun t => t = s)) ∧
    (st = lsHUNT → Gives (.huntFail l) s (fun t => HuntFailed s t l)) ∧
    (st = lsPOLTEST → s.ser.test.testBit l = false → Gives (.polarityConfirm l) s (fun t => LaneAt t l (if 56 ≤ l.val then lsALIGN else lsUP))) ∧
    (st ≠ lsPOLTEST ∨ s.ser.test.testBit l = true → Gives (.polarityConfirm l) s (fun t => t = s)) ∧
    (st = lsPOLTEST → s.on (F.LANE_CFG_AUTOPOL l) = true → Gives (.polarityInvert l) s (fun t => t.ls l = lsPOLTEST ∧
      t.on (F.LANE_STAT_RXINV l) = !s.on (F.LANE_STAT_RXINV l) ∧ t.on (F.LANE_STAT_POLINV l) = true)) ∧
    (st = lsPOLTEST → s.on (F.LANE_CFG_AUTOPOL l) = false → Gives (.polarityInvert l) s (fun t => HuntFailed s t l)) ∧
    (st = lsPOLTEST → Gives (.poltestTimeout l) s (fun t => HuntFailed s t l)) ∧
    (st ≠ lsPOLTEST → Gives (.polarityInvert l) s (fun t => t = s) ∧ Gives (.poltestTimeout l) s (fun t => t = s)) ∧
    (lsPOLTEST ≤ st → Gives (.blockLockLoss l) s (fun t => LaneAt t l lsHUNT ∧ lost t ∧
      t.regN (R.LANE_HDRERR l) = min 0xFFFFFFFF (s.regN (R.LANE_HDRERR l) + 16))) ∧
    (st < lsPOLTEST → Gives (.blockLockLoss l) s (fun t => t = s)) ∧
    (s.on (F.LANE_CFG_EN host) = true → Gives (.hostPcsUp h) s (fun t => LaneAt t host lsUP) ∧ Gives (.hostPcsDown h) s (fun t => LaneAt t host lsCDR)) ∧
    (s.on (F.LANE_CFG_EN host) = false → Gives (.hostPcsUp h) s (fun t => t = s) ∧ Gives (.hostPcsDown h) s (fun t => t = s))

/-- 08 R304 to R308, R310, R311: the bonded ports send their markers, and two equal marker slots in a row align a port; a wrong port or lane
number, or a skew beyond 2112 UI, keeps it in ALIGN with its flag; the equaliser goes one code toward its target; a measurement of the
eye ends with its count. -/
def Obligations.MarkersAlignPortsAndTheEqualiserSteps : Prop :=
  ∀ (s : State) (p : Fin 3) (m0 m1 : BitVec 56) (skew : BitVec 16) (l : Fin 62) (e : Fin 64) (n : Word),
    let a := 56 + 2 * p.val
    let x := s.bond p
    let on := lsALIGN ≤ s.ls a ∧ lsALIGN ≤ s.ls (a + 1) ∧ isMarker m0.toNat = true ∧ isMarker m1.toNat = true
    let lane (m : BitVec 56) := bitsOf m.toNat 49 1
    let wrong := bitsOf m0.toNat 50 2 ≠ s.expectPort p ∨ bitsOf m1.toNat 50 2 ≠ s.expectPort p ∨ lane m0 = lane m1
    let far := 2112 < skew.toInt.natAbs
    let equal := bitsOf m0.toNat 40 8 = bitsOf m1.toNat 40 8
    let same := x.skew = skew.toInt ∧ x.rev = (lane m0 == 1)
    let up (t : State) : Prop := LaneAt t a lsUP ∧ LaneAt t (a + 1) lsUP ∧ Stmt.State.aligned t p = true ∧ (t.regN R.LANE_PORT).testBit (4 + p) = (lane m0 == 1)
    let down (t : State) : Prop := t.ls a ≠ lsUP ∧ t.ls (a + 1) ≠ lsUP ∧ Stmt.State.aligned t p = false
    let c := s.get (F.LANE_STAT_EQCODE l)
    let target := if s.on (F.LANE_EQCTL_OVR l) then s.get (F.LANE_EQCTL_CODE l) else s.regN (R.LANE_EQPRE l) / 2 ^ (4 * s.get (F.LANE_STAT_BAND l)) % 16
    (s.ls a ≠ lsOFF → s.ls (a + 1) ≠ lsOFF → Gives (.alignMarkerSend p) s (fun t => t.tx = s.tx ++ [.marker p (markerP p 0 x.mcnt) (markerP p 1 x.mcnt)] ∧
      (t.bond p).mcnt = (x.mcnt + 1) % 256 ∧ t.mem = s.mem ∧ t.regs = s.regs)) ∧
    (s.ls a = lsOFF ∨ s.ls (a + 1) = lsOFF → Gives (.alignMarkerSend p) s (fun t => t = s)) ∧
    (¬ on → Gives (.alignMarkerRx p m0 m1 skew) s (fun t => t = s)) ∧
    (on → wrong → Gives (.alignMarkerRx p m0 m1 skew) s (fun t => down t ∧ t.on (F.LANE_STAT_PORTERR a) = true ∧ t.on (F.LANE_STAT_PORTERR (a + 1)) = true)) ∧
    (on → ¬ wrong → far → Gives (.alignMarkerRx p m0 m1 skew) s (fun t => down t ∧ t.on (F.LANE_STAT_SKEWERR a) = true ∧ t.on (F.LANE_STAT_SKEWERR (a + 1)) = true)) ∧
    (on → ¬ wrong → ¬ far → ¬ equal → Gives (.alignMarkerRx p m0 m1 skew) s down) ∧
    (on → ¬ wrong → ¬ far → equal → s.ls a = lsALIGN → s.ls (a + 1) = lsALIGN → x.run ≠ 0 → same → Gives (.alignMarkerRx p m0 m1 skew) s (fun t =>
      up t ∧ t.regN (skewReg p) = encS 16 skew.toInt)) ∧
    (on → ¬ wrong → ¬ far → equal → s.ls a = lsALIGN → s.ls (a + 1) = lsALIGN → ¬ (x.run ≠ 0 ∧ same) → Gives (.alignMarkerRx p m0 m1 skew) s (fun t =>
      t.ls a = lsALIGN ∧ t.ls (a + 1) = lsALIGN ∧ (t.bond p).run = 1 ∧ (t.bond p).skew = skew.toInt)) ∧
    (on → ¬ wrong → ¬ far → equal → s.ls a = lsUP → s.ls (a + 1) = lsUP → same → Gives (.alignMarkerRx p m0 m1 skew) s (fun t => t = s)) ∧
    (on → ¬ wrong → ¬ far → equal → s.ls a = lsUP → s.ls (a + 1) = lsUP → ¬ same → Gives (.alignMarkerRx p m0 m1 skew) s down) ∧
    (s.ls l ≤ lsHUNT → Gives (.eqStep l) s (fun t => t.get (F.LANE_STAT_EQCODE l) = target)) ∧
    (lsHUNT < s.ls l → Gives (.eqStep l) s (fun t => t.get (F.LANE_STAT_EQCODE l) = (if c < target then c + 1 else if target < c then c - 1 else c) ∧
      t.ls l = s.ls l ∧ (c ≠ target → s.on (F.LANE_EYECTL_BUSY l) = true → t.on (F.LANE_EYECTL_EQCHG l) = true))) ∧
    (s.on (F.LANE_EYECTL_BUSY e) = true → Gives (.eyeDone e n) s (fun t => t.reg (R.LANE_EYEERR e) = n ∧ t.on (F.LANE_EYECTL_BUSY e) = false ∧
      t.on (F.LANE_EYECTL_DONE e) = true ∧ t.mem = s.mem)) ∧
    (s.on (F.LANE_EYECTL_BUSY e) = false → Gives (.eyeDone e n) s (fun t => t = s))

namespace Sys2Proof.Stmt
open Sys2Proof.Machine

/-- The result of an input voltage in volts (R373). -/
def resultOf (mid : Bool) (v : Rat) : Int :=
  clampInt (-32768) 32767 (roundRat (if mid then 32768 * (v - 5 / 4) / (5 / 4) else 32768 * v / (5 / 2)))

/-- A conversion of entry `e` starts now: its slots in order, each on the slice that serves its position, with the stamp of its hold (R371). -/
def Converts (s t : State) (e : Nat) (inj : Option Nat) (retry : Bool) : Prop :=
  ∃ c, t.adc.convs = s.adc.convs ++ [c] ∧ c.entry = e ∧ c.inj = inj ∧ c.retry = retry ∧ c.hold = s.holdStamp ∧
    c.slots = (s.usedSlots e).map fun x => (slotPos x, s.sliceOf (slotPos x), s.bandA, x)

/-- List `n` is at the next entry of its run, or has ended after its last one (R379). -/
def ListGoesOn (t : State) (n : Nat) (r : ListRun) : Prop :=
  (r.entry < r.last → ∃ x, t.listRun n = some x ∧ x.entry = r.entry + 1 ∧ x.conv = false ∧ x.retry = false) ∧
    (r.last ≤ r.entry → t.listRun n = none ∧ t.fbit F.ADC_LBUSY_L n = false)

end Sys2Proof.Stmt

/-- 10 R371, R373, R375, R377 to R380, R384, R388, R389, R394: an entry of a list starts when its positions are free, or is skipped where one is not
served; a conversion that ends writes its result word, its stamp and its destinations outside the protected pages, and the list goes on. -/
def Obligations.EntriesConvertAndPlaceTheirResults : Prop :=
  ∀ (s : State) (n : Fin 16) (e : Fin 128) (v : Rat) (vs : List Rat) (b : Bool),
    let ofs := if b then s.get F.ADC_IDLESTART_BOFS else s.get F.ADC_IDLESTART_AOFS
    let list := if b then s.get F.ADC_IDLESTART_BLIST else s.get F.ADC_IDLESTART_ALIST
    let idle := (if b then s.on F.ADC_IDLESTART_BEN else s.on F.ADC_IDLESTART_AEN) = true ∧ s.get F.ENG_STAT_ESTATE = 0 ∧ s.sx ≠ sxOFF ∧ s.sext.begun = true
    let held (r : ListRun) := (s.entryPos r.entry).any fun p => s.posInj p || s.posPend p || s.adc.swapPos == some p
    (¬ idle → Gives (.idleListStart b) s (fun t => t = s)) ∧
    (idle → s.sext.b1 ≤ s.sext.b0 + 320 * ofs → Gives (.idleListStart b) s (fun t => t.on F.ALM_STAT_OFSLATE = true ∧ t.adc = s.adc)) ∧
    (idle → s.sext.b0 + 320 * ofs < s.sext.b1 → s.on F.ADC_CTRL_EN = true → s.fbit F.ADC_LBUSY_L list = false → Gives (.idleListStart b) s (fun t =>
      t.fbit F.ADC_LBUSY_L list = true ∧ ∃ r, t.adc = { s.adc with lists := s.adc.lists ++ [r] } ∧ r.list = list ∧ r.entry = s.get (F.ADC_LIST_FIRST list) ∧
        r.last = s.get (F.ADC_LIST_FIRST list) + s.get (F.ADC_LIST_COUNT list) - 1 ∧ r.ready = s.now)) ∧
    (idle → s.sext.b0 + 320 * ofs < s.sext.b1 → s.on F.ADC_CTRL_EN = true → s.fbit F.ADC_LBUSY_L list = true → Gives (.idleListStart b) s (fun t =>
      t.on F.ADC_STAT_LSTBUSY = true ∧ t.adc = s.adc)) ∧
    (s.listRun n = none → Gives (.entryStart n) s (fun t => t = s) ∧ Gives (.entryRestart n) s (fun t => t = s)) ∧
    (∀ r, s.listRun n = some r → r.conv = false → r.retry = false → s.unserved r.entry = false → s.mayStart r = true → Gives (.entryStart n) s (fun t =>
      Converts s t r.entry none false ∧ t.listRun n = some { r with conv := true } ∧ t.mem = s.mem ∧ t.regs = s.regs)) ∧
    (∀ r, s.listRun n = some r → r.conv = false → r.retry = false → s.unserved r.entry = false → s.mayStart r = false → Gives (.entryStart n) s (fun t => t = s)) ∧
    (∀ r, s.listRun n = some r → r.conv = false → r.retry = false → s.unserved r.entry = true → Gives (.entryStart n) s (fun t =>
      t.on F.ADC_STAT_POSDN = true ∧ t.adc.convs = s.adc.convs ∧ ListGoesOn t n r)) ∧
    (∀ r, s.listRun n = some r → r.conv = false → r.retry = true → s.unserved r.entry = false → held r = false → Gives (.entryRestart n) s (fun t =>
      Converts s t r.entry none true ∧ t.listRun n = some { r with conv := true, reserved := false } ∧ t.mem = s.mem)) ∧
    (∀ r, s.listRun n = some r → r.conv = false → r.retry = true → s.unserved r.entry = false → held r = true → Gives (.entryRestart n) s (fun t => t = s)) ∧
    (∀ r, s.listRun n = some r → r.conv = true → Gives (.entryStart n) s (fun t => t = s) ∧ Gives (.entryRestart n) s (fun t => t = s)) ∧
    (s.adc.convs.find? (·.entry == e.val) = none → Gives (.conversionResult e vs) s (fun t => t = s)) ∧
    (∀ c x r, s.adc.convs.find? (·.entry == e.val) = some c → c.slots = [x] → c.inj = none → s.listRun c.list = some r →
      let k := s.entRidx e
      let m := slotMid x.2.2.2
      let y := resultOf m v
      let clip := (adcResult m v).2
      Gives (.conversionResult e [v]) s (fun t => t.adc.convs = s.adc.convs.erase c ∧ ListGoesOn t r.list r ∧
        t.regN (R.ADC_RES k 0) = (2 ^ 24 * x.2.1 + 2 ^ 22 * x.2.2.1 + 2 ^ 20 * b2n c.retry + 2 ^ 19 * b2n clip + encS 16 y) % 2 ^ 32 ∧
        t.reg64 (R.ADC_RES k 1) = c.hold % 2 ^ 64 ∧ t.regN (R.ADC_RES k 3) = 0 ∧ (clip = true → t.on F.ADC_STAT_CLIP = true) ∧
        (s.entVen e = true → s.inStateV (s.entVrow e) = false → t.load (vdmAddr (s.entVrow e) (s.entLane e)) 2 = encS 16 y) ∧
        (s.entSen e = true → s.inStateS (s.entSword e) = false → t.load (sdmAddr (s.entSword e)) 4 = 2 ^ 17 * encS 15 (s.tofs c.hold) + encS 16 y) ∧
        (s.entVen e = false → s.entSen e = false → t.mem = s.mem) ∧
        (s.entVen e = true → s.inStateV (s.entVrow e) = true → s.entSen e = false → t.mem = s.mem ∧ t.on F.ADC_STAT_DSTREJ = true)))

/-- 10 R386 to R388, R390 to R394, R396: an injected conversion waits out its delay, takes its positions from the lists and starts; a swap falls due,
opens its window on a free position and gives the position to the spare; a calibration within its limits is taken, two failures in a
row retire the slice. -/
def Obligations.InjectionsPreemptAndSlicesRotate : Prop :=
  ∀ (s : State) (j : Fin 4) (ofs gain : Word),
    let e := s.get (F.ADC_INJ_ENTRY j)
    let pos := s.entryPos e
    let busy := pos.any fun p => s.posInj p || s.adc.swapPos == some p
    let hit (c : ConvRun) : Bool := c.inj.isNone && c.slots.any fun x => pos.contains x.1
    let due := (s.on F.ADC_CTRL_ROTEN = true ∨ s.adc.forced ≠ 0) ∧ s.spareOk = true ∧ s.adc.calDone = true ∧ s.adc.swapPos = none
    let p := s.swapTarget
    let opens := s.adc.swapDue = true ∧ s.adc.swapPos = none ∧ s.posBusy p = false ∧ s.posPend p = false ∧ s.quietOk = true
    let i := s.get F.ADC_SPARE_SPARE
    let at_ := 0x14003000 + 0x20 * i + 8 * s.bandA
    let near := (ofs.toInt - factoryOfs i s.bandA).natAbs ≤ 16 * s.get F.ADC_CALLIM_OFSMAX ∧
      ((gain.toNat : Int) - factoryGain i s.bandA).natAbs * 1000000 ≤ s.get F.ADC_CALLIM_GAINMAX * factoryGain i s.bandA
    let fails : Nat := spGet 0 s.adc.calFails i
    (s.injPhase j = 1 → Gives (.injectPending j) s (fun t => t.injPhase j = 2 ∧ t.fbit F.ADC_INJSTAT_PEND j = true ∧ t.mem = s.mem)) ∧
    (s.injPhase j ≠ 1 → Gives (.injectPending j) s (fun t => t = s)) ∧
    (s.injPhase j = 2 → Gives (.injectClaim j) s (fun t => t.injPhase j = 3 ∧ t.adc.convs = s.adc.convs.filter (fun c => !hit c) ∧
      t.regN R.ADC_PREEMPT = min 0xFFFFFFFF (s.regN R.ADC_PREEMPT + ((s.adc.convs.filter hit).map fun c => c.slots.length).sum) ∧
      (∀ c ∈ s.adc.convs, hit c = true → ∀ r, s.listRun c.list = some r → ∃ r', t.listRun c.list = some r' ∧ r'.entry = r.entry ∧ r'.conv = false ∧ r'.retry = true ∧ r'.reserved = true))) ∧
    (s.injPhase j ≠ 2 → Gives (.injectClaim j) s (fun t => t = s)) ∧
    (s.injPhase j = 3 → s.unserved e = false → busy = false → Gives (.injectStart j) s (fun t => Converts s t e (some j.val) false ∧ t.injPhase j = 4 ∧
      t.fbit F.ADC_INJSTAT_PEND j = false ∧ t.fbit F.ADC_INJSTAT_CONV j = true ∧ t.mem = s.mem)) ∧
    (s.injPhase j = 3 → s.unserved e = false → busy = true → Gives (.injectStart j) s (fun t => t = s)) ∧
    (s.injPhase j = 3 → s.unserved e = true → Gives (.injectStart j) s (fun t => t.injPhase j = 0 ∧ t.on F.ADC_STAT_POSDN = true ∧ t.adc.convs = s.adc.convs)) ∧
    (s.injPhase j ≠ 3 → Gives (.injectStart j) s (fun t => t = s)) ∧
    (due → Gives .swapDue s (fun t => t = { s with adc := { s.adc with swapDue := true } })) ∧
    (¬ due → Gives .swapDue s (fun t => t = s)) ∧
    (opens → Gives .swapStart s (fun t => t.adc = { s.adc with swapDue := false, swapPos := some p } ∧ t.on F.ADC_STAT_SWAPWIN = true ∧ t.reg R.ADC_MAP = s.reg R.ADC_MAP)) ∧
    (¬ opens → Gives .swapStart s (fun t => t = s)) ∧
    (s.adc.swapPos = none → Gives .swapWindowEnd s (fun t => t = s)) ∧
    (∀ q, q < 8 → s.adc.swapPos = some q → Gives .swapWindowEnd s (fun t => t.sliceOf q = i ∧ t.get F.ADC_SPARE_SPARE = s.sliceOf q ∧
      (∀ k, k < 8 → k ≠ q → t.sliceOf k = s.sliceOf k) ∧ t.regN R.ADC_SWAPCNT = min 0xFFFFFFFF (s.regN R.ADC_SWAPCNT + 1) ∧ t.on F.ADC_STAT_SWAPWIN = false ∧
      t.get F.ADC_SPARE_Q = (if q = s.get F.ADC_SPARE_Q then (q + 1) % 8 else s.get F.ADC_SPARE_Q) ∧ t.adc.swapPos = none ∧ t.adc.calDone = false ∧
      (s.adc.retireWait.testBit (s.sliceOf q) = false → t.on F.ADC_STAT_CALBUSY = true) ∧ (s.sliceOf q < 9 → s.adc.retireWait.testBit (s.sliceOf q) = true → t.retired (s.sliceOf q) = true))) ∧
    (s.on F.ADC_STAT_CALBUSY = false → Gives (.calibrationDone ofs gain) s (fun t => t = s)) ∧
    (s.on F.ADC_STAT_CALBUSY = true → near → Gives (.calibrationDone ofs gain) s (fun t => t.reg at_ = ofs ∧ t.reg (at_ + 4) = gain ∧ t.on F.ADC_STAT_CALBUSY = false ∧
      t.adc.calDone = true ∧ t.adc.forced = s.adc.forced - 1 ∧ spGet 0 t.adc.calFails i = 0 ∧ t.mem = s.mem)) ∧
    (s.on F.ADC_STAT_CALBUSY = true → ¬ near → Gives (.calibrationDone ofs gain) s (fun t => t.reg at_ = s.reg at_ ∧ t.reg (at_ + 4) = s.reg (at_ + 4) ∧
      t.on F.ADC_STAT_CALFAIL = true ∧ spGet 0 t.adc.calFails i = fails + 1 ∧ (1 ≤ fails → i < 9 → t.retired i = true)))

/-- 10 R399 to R404: a run of a filter gives its rounded and saturated result with its stamp; the first two after a start or a stuck run are not
valid; a valid one is compared with the limits and, under mode 2, placed. -/
def Obligations.SigmaDeltaFiltersFormResults : Prop :=
  ∀ (s : State) (n : Fin 16) (sum : Fin 16777217),
    let osr := s.get (F.SDF_CFG_OSR n)
    let full := osr ^ 3
    let y := clampInt (-32768) 32767 (roundDiv ((2 * (min sum.val full : Nat) - full : Int) * 32768) full)
    let due : Nat := spGet 0 s.adc.sdfFirst n
    let stuck := s.adc.stuck.testBit n
    let lim := s.regN (R.SDF_LIM n)
    (s.on (F.SDF_CFG_EN n) = false → Gives (.sdfResult n sum) s (fun t => t = s) ∧ Gives (.sdfStuck n) s (fun t => t = s)) ∧
    (s.on (F.SDF_CFG_EN n) = true → Gives (.sdfResult n sum) s (fun t => t.get (F.SDF_RES_R n) = encS 16 y ∧
      t.on (F.SDF_RES_VALID n) = (due == 0 && !stuck) ∧ t.on (F.SDF_RES_CLIP n) = (sdfResult (min sum full) osr).2 ∧
      t.reg64 (R.SDF_RSTAMP_LO n) = ctAdd s.now (-(24 * (osr - 1) * s.sdcDiv (s.get (F.SDF_CFG_CLKSEL n)) : Nat)) ∧
      (stuck = false → spGet 0 t.adc.sdfFirst n = due - 1) ∧ (stuck = true → spGet 0 t.adc.sdfFirst n = due))) ∧
    (s.on (F.SDF_CFG_EN n) = true → due = 0 → stuck = false → y < signedOf 16 lim ∨ signedOf 16 (lim / 2 ^ 16) < y →
      Gives (.sdfResult n sum) s (fun t => t.fbit F.SDF_LIMIT_F n = true)) ∧
    (s.on (F.SDF_CFG_EN n) = true → due = 0 → stuck = false → s.get (F.SDF_PLACE_MODE n) = 2 → s.on (F.SDF_PLACE_VEN n) = true →
      s.inStateV (s.get (F.SDF_PLACE_VROW n)) = false → Gives (.sdfResult n sum) s (fun t => t.load (vdmAddr (s.get (F.SDF_PLACE_VROW n)) (s.get (F.SDF_PLACE_LANE n))) 2 = encS 16 y)) ∧
    (s.on (F.SDF_CFG_EN n) = true → due ≠ 0 ∨ stuck = true ∨ s.get (F.SDF_PLACE_MODE n) ≠ 2 → Gives (.sdfResult n sum) s (fun t => t.mem = s.mem)) ∧
    (s.on (F.SDF_CFG_EN n) = true → due = 0 → stuck = false → s.get (F.SDF_PLACE_MODE n) ≠ 2 → Gives (.sdfResult n sum) s (fun t => t.adc.sdfHeld.testBit n = true)) ∧
    (s.on (F.SDF_CFG_EN n) = true → s.get (F.SDF_CFG_STK n) ≠ 0 → Gives (.sdfStuck n) s (fun t => t.adc.stuck.testBit n = true ∧ t.fbit F.SDF_STUCK_F n = true ∧ t.mem = s.mem)) ∧
    (s.get (F.SDF_CFG_STK n) = 0 → Gives (.sdfStuck n) s (fun t => t = s)) ∧
    (stuck = true → Gives (.sdfStuckEnd n) s (fun t => t.adc.stuck.testBit n = false ∧ spGet 0 t.adc.sdfFirst n = 2 ∧ t.mem = s.mem ∧ t.regs = s.regs)) ∧
    (stuck = false → Gives (.sdfStuckEnd n) s (fun t => t = s))

/-- 11 R407, R410, R411, R418, R420, R421, R423, R424: a comparator's output follows its stages, and latches, stamps and counts where it asserts,
but not under test; a deassertion clears no latch; a test is judged against what its forcing must show; a trip input latches at its trip level. -/
def Obligations.ComparatorsAndTripInputsLatch : Prop :=
  ∀ (s : State) (n : Fin 24) (m : Fin 8) (hi lo level : Bool),
    let sense := s.get (F.CMP_CFG_SENSE n)
    let out (h l : Bool) : Bool := if sense = 0 then true else if sense = 1 then h else if sense = 2 then l else h || l
    let h := s.cmp.hi.testBit n
    let l := s.cmp.lo.testBit n
    let latched := s.fbit F.CMP_LATCH_L n
    let source (v : Bool) : Bool := !s.on (F.TRIP_TINC_EN m) || (v == s.on (F.TRIP_TINC_TPOL m))
    let was := source (s.cmp.pins.testBit m)
    let tlatched := s.fbit F.TRIP_TLATCH_L m
    let use1 (k : Nat) := s.get (F.CMP_CFG_SENSE k) = 1 ∨ s.get (F.CMP_CFG_SENSE k) = 3
    let use2 (k : Nat) := s.get (F.CMP_CFG_SENSE k) = 2 ∨ s.get (F.CMP_CFG_SENSE k) = 3
    Gives (.comparatorAssert n hi lo) s (fun t => t.cmp.hi.testBit n = (h || hi) ∧ t.cmp.lo.testBit n = (l || lo) ∧ t.fbit F.CMP_OUT_O n = out (h || hi) (l || lo) ∧ t.mem = s.mem) ∧
    (out (h || hi) (l || lo) = true → out h l = false → latched = false → s.cmp.test ≠ some n.val → Gives (.comparatorAssert n hi lo) s (fun t =>
      t.fbit F.CMP_LATCH_L n = true ∧ t.reg64 (R.CMP_STAMP_LO n) = s.now % 2 ^ 64 ∧ t.regN R.CMP_SETCNT = min 0xFFFFFFFF (s.regN R.CMP_SETCNT + 1))) ∧
    (out (h || hi) (l || lo) = false ∨ out h l = true ∨ s.cmp.test = some n.val → Gives (.comparatorAssert n hi lo) s (fun t =>
      t.reg R.CMP_LATCH = s.reg R.CMP_LATCH ∧ t.regN R.CMP_SETCNT = s.regN R.CMP_SETCNT ∧ t.faults = s.faults)) ∧
    Gives (.comparatorDeassert n hi lo) s (fun t => t.cmp.hi.testBit n = (h && !hi) ∧ t.cmp.lo.testBit n = (l && !lo) ∧ t.fbit F.CMP_OUT_O n = out (h && !hi) (l && !lo) ∧
      (latched = true → t.fbit F.CMP_LATCH_L n = true) ∧ t.mem = s.mem) ∧
    (∀ k, s.cmp.test = some k → s.cmp.settling = false → Gives (.testSample hi lo) s (fun t => t.get F.CMP_TSTAT_RESULT = s.testResult k hi lo ∧
      t.on F.CMP_TSTAT_OHI = hi ∧ t.on F.CMP_TSTAT_OLO = lo ∧ t.cmp.settling = true ∧ t.cmp.test = some k ∧ (s.testResult k hi lo = 2 → t.on F.CMP_STAT_STFAIL = true) ∧
      t.reg R.CMP_LATCH = s.reg R.CMP_LATCH)) ∧
    (∀ k, s.cmp.tie = 0 → s.testResult k hi lo = if (use1 k → hi = !s.cmp.preHi) ∧ (use2 k → lo = !s.cmp.preLo) then 1 else 2) ∧
    (s.cmp.test = none ∨ s.cmp.settling = true → Gives (.testSample hi lo) s (fun t => t = s)) ∧
    (s.cmp.test = some n.val → Gives (.testSettleEnd hi lo) s (fun t => t.cmp.test = none ∧ t.on F.CMP_TSTAT_BUSY = false ∧ t.cmp.hi.testBit n = hi ∧
      t.cmp.lo.testBit n = lo ∧ t.fbit F.CMP_OUT_O n = out hi lo ∧ (out hi lo = true → t.fbit F.CMP_LATCH_L n = true) ∧ (out hi lo = false → t.reg R.CMP_LATCH = s.reg R.CMP_LATCH))) ∧
    (s.cmp.test = none → Gives (.testSettleEnd hi lo) s (fun t => t = s)) ∧
    Gives (.tripinChange m level) s (fun t => t.cmp.pins.testBit m = level ∧ t.fbit F.TRIP_TIN_I m = source level ∧ t.cmp.hi = s.cmp.hi ∧ t.cmp.lo = s.cmp.lo ∧ t.mem = s.mem) ∧
    (source level = true → was = false → tlatched = false → Gives (.tripinChange m level) s (fun t => t.fbit F.TRIP_TLATCH_L m = true ∧
      t.reg64 (R.TRIP_TSTAMP_LO m) = s.now % 2 ^ 64)) ∧
    (source level = false ∨ was = true ∨ tlatched = true → Gives (.tripinChange m level) s (fun t => t.reg R.TRIP_TLATCH = s.reg R.TRIP_TLATCH ∧ t.faults = s.faults))

namespace Sys2Proof.Stmt
open Sys2Proof.Machine

/-- A detection on the legs of a channel sets its flag and FAULT; the first one names its legs and its tick, one in a later tick adds its
legs to LEGSM (12 R455, R457). -/
def Detected (s t : State) (a legs : Nat) (f : Nat → Fld) : Prop :=
  t.on (f a) = true ∧ t.on (F.AXD_CHSTAT_FAULT a) = true ∧ t.mem = s.mem ∧
    (s.get (F.AXD_SCINFO_LEGS a) = 0 → t.get (F.AXD_SCINFO_LEGS a) = legs ∧ t.reg64 (R.AXD_SCSTAMP_LO a) = s.now % 2 ^ 64) ∧
    (s.get (F.AXD_SCINFO_LEGS a) ≠ 0 → s.reg64 (R.AXD_SCSTAMP_LO a) ≠ s.now → t.get (F.AXD_SCINFO_LEGS a) = s.get (F.AXD_SCINFO_LEGS a) ∧
      t.get (F.AXD_SCINFO_LEGSM a) = s.get (F.AXD_SCINFO_LEGSM a) ||| legs ∧ t.reg64 (R.AXD_SCSTAMP_LO a) = s.reg64 (R.AXD_SCSTAMP_LO a))

/-- A move of the Hall position by `d` to a sector (13 R475, R477, R478). -/
def HallMoves (s t : State) (a sec : Nat) (d : Int) : Prop :=
  t.reg (R.HALL_POS a) = s.reg (R.HALL_POS a) + BitVec.ofInt 32 d ∧ t.get (F.HALL_STATE_S a) = sec ∧ t.hallS a = some sec ∧
    t.get (F.HALL_STAT_ILLRUN a) = 0 ∧ t.reg64 (R.HALL_TSTAMP_LO a) = s.now % 2 ^ 64 ∧ (spGet 0 t.hall.moves a : Int) = spGet 0 s.hall.moves a + d ∧
    t.reg (R.HALL_ILLCNT a) = s.reg (R.HALL_ILLCNT a)

end Sys2Proof.Stmt

/-- 12 R439, R440, R447 to R449, R452 to R455, R457, R459, R461, R462, R464, R465: the events of the auxiliary stages. The hold of the gates ends; an input
takes its level; a low bootstrap voltage of a high side that is on holds it off; detections fault their channel; a conversion of VM acts
on its thresholds; the brake limit cuts the chopper until the next window. -/
def Obligations.AuxiliaryStageEventsAct : Prop :=
  ∀ (s : State) (a : Fin 3) (i : Fin 6) (level : Bool) (v2 v1 v0 : Byte) (legs : Fin 8) (l : Fin 3) (v : Fin 4096),
    let k := 3 * a.val + l.val
    let vl := if l.val = 0 then v0.toNat else if l.val = 1 then v1.toNat else v2.toNat
    let moved : State := { s with axd := { s.axd with pins := putBit s.axd.pins (6 * a + i) level } }
    let cut := s.on F.AXD_BRKCFG_EN = true ∧ s.on F.AXD_VM_BRK = true
    let ov := s.get F.AXD_VMLIM_OVSD
    Gives (.gateHoldEnd a) s (fun t => t = { s with axd := { s.axd with hold := putBit s.axd.hold a false } }) ∧
    (s.on (F.AXD_CHCFG_SRC a) = false ∨ i.val % 2 = 1 ∨ s.auxIn a i = true ∨ moved.auxIn a i = false → Gives (.auxInputChange a i level) s (fun t => t = moved)) ∧
    (s.on (F.AXD_CHCFG_SRC a) = true → i.val = 2 * l.val → s.auxIn a i = false → moved.auxIn a i = true → s.axd.hOff.testBit k = true →
      Gives (.auxInputChange a i level) s (fun t => t.axd.pins = moved.axd.pins ∧ t.mem = s.mem ∧ t.axd.hOff.testBit k = decide (s.vbs k < 80))) ∧
    Gives (.vbsMeasure a v2 v1 v0) s (fun t => t.regN (R.AXD_VBS a) = 65536 * v2.toNat + 256 * v1.toNat + v0.toNat ∧ t.mem = s.mem ∧
      (s.axd.gates.testBit (2 * k) = true → vl < 75 → t.axd.hOff.testBit k = true ∧ t.on (F.AXD_CHSTAT_BSUV a) = true) ∧
      (s.axd.gates.testBit (2 * k) = false ∨ 75 ≤ vl → t.axd.hOff.testBit k = s.axd.hOff.testBit k)) ∧
    (s.get (F.AXD_PROT_OCTHR a) = 0 ∨ legs.val = 0 → Gives (.overcurrentDetect a legs) s (fun t => t = s)) ∧
    (s.get (F.AXD_PROT_OCTHR a) ≠ 0 → legs.val ≠ 0 → Gives (.overcurrentDetect a legs) s (fun t => Detected s t a legs F.AXD_CHSTAT_OC ∧ t.axd = s.axd)) ∧
    (s.get (F.AXD_PROT_SLTHR a) = 0 ∨ legs.val = 0 → Gives (.slopeDetect a legs) s (fun t => t = s)) ∧
    (s.get (F.AXD_PROT_SLTHR a) ≠ 0 → legs.val ≠ 0 → Gives (.slopeDetect a legs) s (fun t => Detected s t a legs F.AXD_CHSTAT_SC ∧ t.axd.soft.testBit a = true)) ∧
    Gives (.softTurnoffEnd a) s (fun t => t = { s with axd := { s.axd with soft := putBit s.axd.soft a false } }) ∧
    Gives (.vmConversion v) s (fun t => t.get F.AXD_VM_VM = v.val ∧ t.mem = s.mem ∧ (v.val < s.get F.AXD_VMLIM_VMUV → t.on F.AXD_GSTAT_VMUV = true) ∧
      (ov < v.val → t.axd.vmov = true ∧ ∀ c, c < 3 → t.on (F.AXD_CHSTAT_VMOV c) = true ∧ t.on (F.AXD_CHSTAT_FAULT c) = true) ∧
      (v.val ≤ ov → v.val < s.get F.AXD_VMCFG_BRKOFF → t.axd.vmov = false) ∧ (v.val ≤ ov → s.get F.AXD_VMCFG_BRKOFF ≤ v.val → t.axd.vmov = s.axd.vmov) ∧
      (s.get F.AXD_VMCFG_BRKON < v.val → s.on F.AXD_BRKCFG_EN = true → t.axd.brkReq = true) ∧
      (v.val ≤ s.get F.AXD_VMCFG_BRKON → t.axd.brkReq = (s.axd.brkReq && decide (s.get F.AXD_VMCFG_BRKOFF ≤ v.val)))) ∧
    (cut → Gives .brakeLimit s (fun t => t.axd = { s.axd with brkCut := true } ∧ t.on F.AXD_GSTAT_BRKLIM = true)) ∧
    (¬ cut → Gives .brakeLimit s (fun t => t = s)) ∧
    Gives .brakeWindowEnd s (fun t => t = { s with axd := { s.axd with brkCut := false } })

/-- 13 R473 to R480, R491: a change of the Hall code moves the position by one step, or is illegal, and the third illegal one in a row is a fault; a
home edge captures the position, sets it once, and shows and corrects a slip; a speed window gives the count of moves and checks SS1. -/
def Obligations.HallChangesCountPositionAndSpeed : Prop :=
  ∀ (s : State) (a : Fin 3) (code : Fin 8) (level : Bool),
    let sec := s.hallS a
    let new := hallSector code
    let near := ∀ p, s.hallCode a = some p → twoLines p code = false
    let on := s.on (F.HALL_CFG_EN a) = true
    let illegal := new = none ∨ ¬ near ∨ ∃ x f, new = some f ∧ sec = some x ∧ f ≠ x ∧ f ≠ (x + 1) % 6 ∧ f ≠ (x + 5) % 6
    let p := s.reg (R.HALL_POS a)
    let edge := s.on (F.HALL_CFG_HEN a) = true ∧ level ≠ s.on (F.HALL_CFG_HPOL a)
    let sets := s.on (F.HALL_CFG_SETPOS a) = true ∧ s.on (F.HALL_STAT_HOMED a) = false
    let slip := homeSlip p (s.reg (R.HALL_HOMEPOS a)) (s.get (F.HALL_CFG_SPR a))
    let cap (t : State) : Prop := t.reg (R.HALL_HOMECAP a) = p ∧ t.reg64 (R.HALL_HSTAMP_LO a) = s.now % 2 ^ 64
    let n : Int := spGet 0 s.hall.moves a
    let ss1 := s.on (F.SAFE_CHSTAT_SS1 a) = true
    let j := s.get (F.SAFE_CHSTAT_J a) + 1
    let env : Int := ((spGet 0 s.safe.v0 a : Nat) : Int) + s.get (F.SAFE_SS1_MARG a) - s.get (F.SAFE_SS1_DEC a) * j
    let still : Int := s.get (F.SAFE_SS1_STILL a)
    let runs := on ∧ fitsS 16 n = true ∧ ss1 ∧ s.on (F.HALL_STAT_HALLF a) = false
    (∀ c, c < 8 → hallSector c = [none, some 0, some 2, some 1, some 4, some 5, some 3, none].getD c none) ∧
    Gives (.hallChange a code) s (fun t => t.get (F.HALL_STATE_CODE a) = code.val ∧ t.hallCode a = some code.val ∧ t.mem = s.mem) ∧
    (¬ on → Gives (.hallChange a code) s (fun t => t.reg (R.HALL_POS a) = p ∧ t.hallS a = sec ∧ t.faults = s.faults)) ∧
    (on → near → ∀ x f, sec = some x → x < 6 → new = some f → f = (x + 1) % 6 → Gives (.hallChange a code) s (fun t => HallMoves s t a f 1)) ∧
    (on → near → ∀ x f, sec = some x → x < 6 → new = some f → f = (x + 5) % 6 → Gives (.hallChange a code) s (fun t => HallMoves s t a f (-1))) ∧
    (on → near → ∀ f, sec = none → new = some f → Gives (.hallChange a code) s (fun t => t.hallS a = some f ∧ t.get (F.HALL_STATE_S a) = f ∧ t.reg (R.HALL_POS a) = p)) ∧
    (on → near → ∀ f, sec = some f → new = some f → Gives (.hallChange a code) s (fun t => t.hallS a = some f ∧ t.reg (R.HALL_POS a) = p ∧ t.faults = s.faults)) ∧
    (on → illegal → Gives (.hallChange a code) s (fun t => t.on (F.HALL_STAT_ILLEGAL a) = true ∧ t.reg (R.HALL_POS a) = p ∧ t.hallS a = sec ∧
      t.regN (R.HALL_ILLCNT a) = min 0xFFFFFFFF (s.regN (R.HALL_ILLCNT a) + 1) ∧ t.get (F.HALL_STAT_ILLRUN a) = min 2 (s.get (F.HALL_STAT_ILLRUN a) + 1) ∧
      (2 ≤ s.get (F.HALL_STAT_ILLRUN a) → t.on (F.HALL_STAT_HALLF a) = true ∧ t.on (F.SAFE_CHSTAT_SS1 a) = false))) ∧
    (¬ edge → Gives (.homeEdge a level) s (fun t => t.regs = s.regs ∧ t.hall.home.testBit a = level)) ∧
    (edge → Gives (.homeEdge a level) s (fun t => cap t ∧ t.hall.home.testBit a = level ∧ t.mem = s.mem)) ∧
    (edge → sets → Gives (.homeEdge a level) s (fun t => cap t ∧ t.reg (R.HALL_POS a) = s.reg (R.HALL_HOMEPOS a) ∧ t.on (F.HALL_STAT_HOMED a) = true)) ∧
    (edge → ¬ sets → slip = 0 → Gives (.homeEdge a level) s (fun t => t.reg (R.HALL_POS a) = p ∧ t.faults = s.faults)) ∧
    (edge → ¬ sets → slip ≠ 0 → Gives (.homeEdge a level) s (fun t => t.on (F.HALL_STAT_SLIP a) = true ∧
      t.reg (R.HALL_POS a) = if s.on (F.HALL_CFG_AUTOHOME a) then p - BitVec.ofInt 32 slip else p)) ∧
    (¬ on → Gives (.speedWindowEnd a) s (fun t => t = s)) ∧
    (on → fitsS 16 n = true → Gives (.speedWindowEnd a) s (fun t => t.get (F.HALL_SPEED_V a) = encS 16 n ∧ (spGet 0 t.hall.moves a : Int) = 0 ∧ t.mem = s.mem)) ∧
    (on → fitsS 16 n = true → ¬ ss1 → Gives (.speedWindowEnd a) s (fun t => t.safe = s.safe ∧ t.faults = s.faults)) ∧
    (runs → max env still < n.natAbs → Gives (.speedWindowEnd a) s (fun t => t.on (F.SAFE_CHSTAT_SS1 a) = false ∧ t.fbit F.SAFE_EVT_SS1ENV a = true ∧ t.safe.ss1Held.testBit a = true)) ∧
    (runs → n.natAbs ≤ still → Gives (.speedWindowEnd a) s (fun t => t.on (F.SAFE_CHSTAT_SS1 a) = false ∧ t.safe.ss1Held.testBit a = true ∧ t.faults = s.faults)) ∧
    (runs → still < n.natAbs → n.natAbs ≤ env → j = s.get (F.SAFE_SS1_MAXW a) → Gives (.speedWindowEnd a) s (fun t => t.on (F.SAFE_CHSTAT_SS1 a) = false ∧ t.fbit F.SAFE_EVT_SS1TO a = true)) ∧
    (runs → still < n.natAbs → n.natAbs ≤ env → j ≠ s.get (F.SAFE_SS1_MAXW a) → Gives (.speedWindowEnd a) s (fun t => t.on (F.SAFE_CHSTAT_SS1 a) = true ∧
      t.get (F.SAFE_CHSTAT_J a) = j % 256 ∧ (t.get (F.SAFE_CHSTAT_E a) : Int) = min env 0xFFFF ∧ t.faults = s.faults))

/-- 13 R485, R486, R496 to R502: the safety inputs take their levels, and a disagreement of DISC strobes in a row latches; off-pulses start on outputs
that are on, and a wrong readback or an overcurrent latches; a periodic test starts, is deferred under STO, and a failed one raises its
source, as do a CRC that does not match and the loss of the safety oscillator. -/
def Obligations.SafetyInputsOutputsAndTestsAct : Prop :=
  ∀ (s : State) (n : Fin 4) (a : Fin 3) (b level rb opened : Bool),
    let pulsing := s.safe.pulse.testBit n
    let on := s.on (F.SAFE_SOUTSTAT_ON n)
    let err (t : State) : Prop := t.on (F.SAFE_SOUTSTAT_RBERR n) = true ∧ t.fbit F.SAFE_EVT_RBERR n = true
    let show_ := s.setB (F.SAFE_SOUTSTAT_RB n) rb
    let cnt : Nat := spGet 0 s.safe.cnt n
    let busy := s.on (F.SAFE_CHSTAT_STO a) = true ∨ s.axd.soft.testBit a = true
    let en := s.on (F.SAFE_CHCFG_EN a) = true
    let bad := s.on F.SAFE_STAT_UNLOCKED = false ∧ s.safe.crcDone = true ∧ s.safeCrc ≠ s.reg R.SAFE_CRC
    let pends (q : Src) (t : State) : Prop := s.reactNow q ≠ 0 → (t.src q).pend = true
    Gives (.sinChange n b level) s (fun t => (if b then t.safe.sinB else t.safe.sinA).testBit n = level ∧ (if b then t.safe.sinA else t.safe.sinB) = (if b then s.safe.sinA else s.safe.sinB) ∧
      t.regs = s.regs ∧ t.mem = s.mem ∧ ∀ m, m < 4 → m ≠ n.val → (if b then t.safe.sinB else t.safe.sinA).testBit m = (if b then s.safe.sinB else s.safe.sinA).testBit m) ∧
    (s.sinDisagree n = true → Gives .discrepancyStrobe s (fun t => spGet 0 t.safe.cnt n = cnt + 1 ∧
      (cnt + 1 = s.get (F.SAFE_SINCFG_DISC n) → t.safe.disc.testBit n = true) ∧ (cnt + 1 ≠ s.get (F.SAFE_SINCFG_DISC n) → t.safe.disc.testBit n = s.safe.disc.testBit n) ∧
      (cnt + 1 = s.get (F.SAFE_SINCFG_DISC n) → s.safe.disc.testBit n = false → t.fbit F.SAFE_EVT_DISC n = true))) ∧
    (s.sinDisagree n = false → Gives .discrepancyStrobe s (fun t => spGet 0 t.safe.cnt n = 0 ∧ t.safe.disc.testBit n = s.safe.disc.testBit n)) ∧
    (on = true → Gives (.soutPulseStart n) s (fun t => t = { s with safe := { s.safe with pulse := s.safe.pulse ||| 2 ^ n.val } })) ∧
    (on = false → Gives (.soutPulseStart n) s (fun t => t = s)) ∧
    (pulsing = false → Gives (.soutPulseEnd n rb) s (fun t => t = show_)) ∧
    (pulsing = true → Gives (.soutPulseEnd n rb) s (fun t => t.safe.pulse.testBit n = false ∧ t.on (F.SAFE_SOUTSTAT_RB n) = rb ∧ (rb = true → err t) ∧ (rb = false → t.faults = s.faults))) ∧
    (pulsing = false → rb ≠ on → Gives (.soutReadbackChange n rb) s (fun t => t.on (F.SAFE_SOUTSTAT_RB n) = rb ∧ err t)) ∧
    (pulsing = true ∨ rb = on → Gives (.soutReadbackChange n rb) s (fun t => t = show_)) ∧
    Gives (.soutOvercurrent n) s (fun t => t.on (F.SAFE_SOUTSTAT_OC n) = true ∧ t.fbit F.SAFE_EVT_SOUTOC n = true ∧ t.mem = s.mem) ∧
    (¬ en → Gives (.stoPeriodicTest a) s (fun t => t = s)) ∧
    (en → busy → Gives (.stoPeriodicTest a) s (fun t => t = { s with safe := { s.safe with deferred := s.safe.deferred ||| 2 ^ a.val } })) ∧
    (en → ¬ busy → s.on (F.AXD_CHSTAT_GSW a) = true → Gives (.stoPeriodicTest a) s (fun t => t.on (F.SAFE_CHSTAT_TEST a) = true ∧ t.faults = s.faults ∧ t.safe = s.safe)) ∧
    (s.on (F.SAFE_CHSTAT_TEST a) = false → Gives (.stoTestEnd a opened) s (fun t => t = s)) ∧
    (s.on (F.SAFE_CHSTAT_TEST a) = true → Gives (.stoTestEnd a opened) s (fun t => t.on (F.SAFE_CHSTAT_TEST a) = false ∧ (opened = true → t.faults = s.faults ∧ t.dev = s.dev) ∧
      (opened = false → pends Q.SAFE_STOTEST t))) ∧
    (bad → Gives .safeCrcCheck s (pends Q.SAFE_CFGCRC)) ∧ (¬ bad → Gives .safeCrcCheck s (fun t => t = s)) ∧ Gives .safeOscFail s (pends Q.SAFE_SLCLK)

/-- 17 R624, R626, R629 to R631: sessions age and expire; the origin of a relay sends each chunk as four quarters; a node that accepts relays opens a
session with the first quarter and stores it; a chunk it has is acknowledged; RACK OK counts a chunk once; a chunk without RACK is sent
8 times at most, then the relay stalls. -/
def Obligations.SessionsAgeAndRelaysPassChunks : Prop :=
  ∀ (s b : State) (p : Side) (f : RingFrame) (k : Fin 2048),
    let w := lo32 (f.data.getD 0 0)
    let id := hi32 (f.data.getD 0 0)
    let c := w / 2 ^ 21
    let first := b.nvm.sess = none ∧ c = 0 ∧ bitsOf w 19 2 = 0
    let may := b.on F.UPD_CFG_RLYACC = true ∧ b.on F.SYS_STATE_TRIAL = false ∧ b.pfail = false
    let chunk := Came s p f b ∧ isBulk f 0 = true ∧ f.len = 129
    let ack := Came s p f b ∧ isBulk f 1 = true ∧ f.len = 1
    let quarter (u : State) (r : Relay) (c q hops : Nat) : RingFrame := Own u rcBULK 0 0 true 1
      (blk r.session (2 ^ 21 * c + 2 ^ 19 * q + 2 ^ 10 * hops + r.origin) :: pack64 (leWords (u.imgBytes r.slot (4096 * c + 1024 * q) 1024)))
    let mine (r : Relay) : Prop := b.upd.relay = some r ∧ r.session = id ∧ w.testBit 20 = false ∧ (r.sent.any (·.chunk == c)) = true
    (s.nvm.sess = none → Gives .updAgeMinute s (fun t => t = s)) ∧
    (∀ x, s.nvm.sess = some x → x.age + 1 < s.get F.UPD_CFG_EXPIRY * 1440 → Gives .updAgeMinute s (fun t => t.nvm.sess = some { x with age := x.age + 1 } ∧
      t.regN R.UPD_AGE = (x.age + 1) % 2 ^ 32 ∧ t.mem = s.mem ∧ t.nvm.mram = s.nvm.mram)) ∧
    (∀ x, s.nvm.sess = some x → s.get F.UPD_CFG_EXPIRY * 1440 ≤ x.age + 1 → Gives .updAgeMinute s (fun t => t.nvm.sess = none ∧ t.slotState s.idleSlot = 0 ∧
      t.on F.UPD_STAT_SESSEXP = true ∧ t.get F.UPD_STAT_SSTATE = 0)) ∧
    (∀ r, s.upd.relay = some r → r.owner.isSome = true → r.next < r.nch → Gives .relayChunkSend s (fun t => t.upd.relay = some { r with next := r.next + 1, sent := r.sent ++ [⟨r.next, 1, r.hops⟩] } ∧
      (MaySend s r.side → ∀ q, q < 4 → OnRing t r.side (quarter s r r.next q r.hops)))) ∧
    (∀ r, s.upd.relay = some r → r.owner = none ∨ r.nch ≤ r.next → Gives .relayChunkSend s (fun t => t = s)) ∧
    (s.upd.relay = none → Gives .relayChunkSend s (fun t => t = s) ∧ Gives (.relayResend k) s (fun t => t = s)) ∧
    (chunk → ¬ may → Gives (.rchunkRx p f) s (fun t => t = b)) ∧
    (chunk → (∀ x, b.nvm.sess = some x → x.session ≠ id) → ¬ first → Gives (.rchunkRx p f) s (fun t => t = b)) ∧
    (chunk → may → first → Gives (.rchunkRx p f) s (fun t => (∃ x, t.nvm.sess = some x ∧ x.session = id ∧ x.relay = true ∧ x.pieces = 3 ∧ x.nch = 0) ∧
      t.slotState b.idleSlot = 1 ∧ ∀ i, i < 1024 → memGet t.nvm.mram (chunkAddr b.idleSlot 0 + i) = ((unpack64 f.data.tail).flatMap wordBytes).getD i 0)) ∧
    (chunk → may → ∀ x, b.nvm.sess = some x → x.session = id → x.has c = true → bitsOf w 10 9 ≤ 1 → Gives (.rchunkRx p f) s (fun t => t.nvm = b.nvm ∧
      (MaySend b p → OnRing t p (Own b rcBULK 0 (2 ^ 12) true 1 [blk id (2 ^ 21 * c + b.nodeId)])))) ∧
    (ack → b.upd.relay = none → Gives (.rackRx p f) s (fun t => t = b)) ∧
    (ack → ∀ r, mine r → r.acked + 1 ≠ r.nch → Gives (.rackRx p f) s (fun t => t.upd.relay = some { r with sent := r.sent.filter (·.chunk != c), acked := r.acked + 1 })) ∧
    (ack → ∀ r, mine r → r.acked + 1 = r.nch → Gives (.rackRx p f) s (fun t => t.upd.relay = none ∧ t.on F.UPD_RLY_BUSY = false)) ∧
    (ack → ∀ r, b.upd.relay = some r → r.session ≠ id ∨ w.testBit 20 = true ∨ (r.sent.any (·.chunk == c)) = false → Gives (.rackRx p f) s (fun t => t = b)) ∧
    (∀ r e, s.upd.relay = some r → r.sent.find? (·.chunk == k.val) = some e → e.sends < 8 → Gives (.relayResend k) s (fun t =>
      (∃ r' e', t.upd.relay = some r' ∧ r'.sent.find? (·.chunk == k.val) = some e' ∧ e'.sends = e.sends + 1 ∧ r'.acked = r.acked) ∧
      (MaySend s r.side → ∀ q, q < 4 → OnRing t r.side (quarter s r k q e.hops)))) ∧
    (∀ r e, s.upd.relay = some r → r.sent.find? (·.chunk == k.val) = some e → 8 ≤ e.sends → Gives (.relayResend k) s (fun t => t.upd.relay = none ∧ t.on F.UPD_STAT_RLYSTALL = true)) ∧
    (∀ r, s.upd.relay = some r → r.sent.find? (·.chunk == k.val) = none → Gives (.relayResend k) s (fun t => t = s))

/-- 14 R512, 17 R619, R632 to R636: the instant of an activation resets the device into its new slot, or it is cancelled in SEALED and THERMAL and waits
under PFAIL; a trial whose conditions hold is confirmed, and one whose window ends without them falls back with a reset; a key copy that
disagrees is flagged. -/
def Obligations.ActivationTrialAndKeyEventsAct : Prop :=
  ∀ (s : State) (i : Fin 5),
    let run := s.get F.UPD_SLOT_RUN
    let trial := s.on F.SYS_STATE_TRIAL = true
    let met := trial ∧ s.upd.testsOk = true ∧ s.trialLinks = true ∧ 1000 ≤ s.regN R.UPD_OKRUN ∧ (s.on F.UPD_CFG_AUTOCONF = true ∨ s.upd.confirmIn = true)
    let confirmed (t : State) : Prop := t.slotState run = 5 ∧ (s.slotState (1 - run) = 5 → s.slotState run ≠ 5 → t.slotState (1 - run) = 7) ∧
      t.on F.SYS_STATE_TRIAL = false ∧ t.on F.UPD_STAT_TRIAL = false ∧ t.on F.UPD_STAT_CONFIRMED = true ∧ t.upd.confirmers = [] ∧ t.mem = s.mem
    (s.upd.act = none → Gives .activationReset s (fun t => t = s)) ∧
    (∀ a, s.upd.act = some a → Resettable s → s.pfail = false → Gives .activationReset s (fun t => WarmReset s t 2 ∧ t.nvm.boot.act = some a.slot ∧ t.nvm.mram = s.nvm.mram)) ∧
    (∀ a, s.upd.act = some a → s.dev = stSEALED ∨ s.dev = stTHERMAL → Gives .activationReset s (fun t => t.upd.act = none ∧ t.on F.UPD_STAT_ACTCAN = true ∧ t.nvm.boot = s.nvm.boot)) ∧
    (∀ a, s.upd.act = some a → s.dev ≠ stSEALED → s.dev ≠ stTHERMAL → s.pfail = true → Gives .activationReset s (fun t => t.upd.act = some a ∧ t.on F.NVM_STAT_PFREJ = true ∧ t.nvm.boot = s.nvm.boot)) ∧
    (¬ met → Gives .trialConfirm s (fun t => t = s)) ∧
    (met → s.pfail = false → Gives .trialConfirm s confirmed ∧ Gives .trialWindowEnd s confirmed) ∧
    (met → s.pfail = true → Gives .trialConfirm s (fun t => t.upd.confWait = true ∧ t.on F.NVM_STAT_PFREJ = true ∧ t.nvm.boot = s.nvm.boot)) ∧
    (¬ trial → Gives .trialWindowEnd s (fun t => t = s)) ∧
    (trial → ¬ met → Resettable s → s.pfail = false → Gives .trialWindowEnd s (fun t => WarmReset s t 2 ∧ t.slotState run = 6 ∧ t.nvm.boot.fell = true)) ∧
    (trial → ¬ met → Resettable s → s.pfail = true → Gives .trialWindowEnd s (fun t => WarmReset s t 2 ∧ t.nvm.boot = s.nvm.boot)) ∧
    Gives (.otpCheck none) s (fun t => t = s) ∧
    Gives (.otpCheck (some i)) s (fun t => t.on F.NVM_STAT_KEYINT = true ∧ (s.on F.NVM_STAT_KEYINT = false → s.reactNow Q.NVM_KEYINT ≠ 0 → (t.src Q.NVM_KEYINT).pend = true)) ∧
    (s.upd.confWait = false → s.host.late = [] → Gives .pfailClear s (fun t => t = s.set F.PMU_STAT_PFAIL 0)) ∧
    (s.upd.confWait = true → Gives .pfailClear s (fun t => t.on F.PMU_STAT_PFAIL = false ∧ t.slotState run = 5 ∧ t.on F.SYS_STATE_TRIAL = false ∧ t.on F.UPD_STAT_CONFIRMED = true ∧ t.host.late = []))

namespace Sys2Proof.Stmt
open Sys2Proof.Machine

/-- What no command of the families below changes: memory, the queue, time, the Sextant, the supplies, and the engine's registers and pages. -/
def Still (s t : State) : Prop :=
  t.mem = s.mem ∧ t.pending = s.pending ∧ t.chrono = s.chrono ∧ t.sext = s.sext ∧ t.pwr = s.pwr ∧ t.eng.v = s.eng.v ∧ t.eng.a = s.eng.a ∧
    t.eng.k = s.eng.k ∧ t.eng.sr = s.eng.sr ∧ t.eng.pV = s.eng.pV ∧ t.eng.pS = s.eng.pS

/-- The registers that the reaction to a raised source may write: those of hosts, update and NVM, and the status of the device, the engine, its
banks and modes, the ring and the twin (15 Table 6). -/
def MayReact (a : Nat) : Prop :=
  0x16000000 ≤ a ∨ a ∈ [R.SYS_STATE, R.RING_STAT, R.RING_GQ, R.ENG_STAT, R.TWIN_STAT, R.ALM_SWAP, R.ALM_MODE, R.ALM_STAT]

/-- Every register outside the windows `[lo, hi)` keeps its word, but for those a reaction may write. -/
def RegsKeptBut (s t : State) (lo hi : Nat) : Prop := ∀ a, ¬ MayReact a → a < lo ∨ hi ≤ a → t.reg a = s.reg a

end Sys2Proof.Stmt

/-- One step takes the command at the front of the queue: it is that command's effect on the state with the rest of the queue. On an empty queue
a common tick passes (the model's choice, DESIGN CHOICE, log 52). No command stops the block: every command in every state has a next state, and so has
every step. -/
def Obligations.StepTakesTheCommandAtTheFront : Prop :=
  (∀ (c : Instr) (rest : List Instr) (s : State), step { s with pending := c :: rest } = exec c { s with pending := rest }) ∧
    (∀ s : State, s.pending = [] → step s = .next (settle s s.tick)) ∧
    (∀ (c : Instr) (s : State), ∃ t, exec c s = .next (settle s t)) ∧ ∀ s : State, ∃ t, step s = .next t

/-- 02 R39: at a common tick the device adds 16 plus the signed trim to the count with its 32 fraction bits, and CT64 is the integer part; the
registers show it. With no access waiting, nothing else touches time or memory in a tick. -/
def Obligations.TickAddsSixteenPlusTheTrim : Prop :=
  ∀ (s : State), s.pending = [] → s.bus.deferred = [] → s.bus.held = [] → s.host.accs = [] → s.sys.sextDue = false →
      s.chrono.frac < 2 ^ 32 →
    ∃ t, step s = .next (settle s t) ∧
      ((t.chrono.ct.toNat * 2 ^ 32 + t.chrono.frac : Nat) : Int) =
        ((s.chrono.ct.toNat * 2 ^ 32 + s.chrono.frac : Nat) + 16 * 2 ^ 32 + (s.reg R.CHRONO_TRIM).toInt) % 2 ^ 96 ∧
      t.chrono.frac < 2 ^ 32 ∧ t.reg64 R.CHRONO_NOW_LO = t.chrono.ct.toNat ∧ t.mem = s.mem

/-- 12 R438, R440, R441, R443: after every step from every state, no leg of an auxiliary stage has both gates on, and a channel whose gates are held
off (supply open or in its hold, soft turn-off, a fault, the gate-supply lockout, a diagnosis) has none on. -/
def Obligations.EveryStepLeavesTheGatesSafe : Prop :=
  ∀ s t : State, step s = .next t → t.noShootThrough ∧ t.heldGatesOff

/-- 15 R563, Tables 9 and 14, and the register tables: after power-on the device is in BOOT, every register holds the reset value of its table,
memory is clear, nothing is under way, and the gates are safe and off. Memory that reads 0 before a write (DESIGN CHOICE, log 4) and
the values of the registers whose tables give none (DESIGN CHOICE, log 5) are the model's. -/
def Obligations.ResetLeavesTheTableValues : Prop :=
  let z := State.reset
  z.dev = stBOOT ∧ (∀ a, z.reg a = regReset a) ∧ z.pending = [] ∧ z.mem = [] ∧ Memory.wf z.mem = true ∧ Memory.wf z.nvm.mram = true ∧
    z.reg R.SYS_ID = 0x0B645601#32 ∧ z.reg R.UPD_CFG = 0xC11E0258#32 ∧ z.reg R.CHRONO_TRIM = 0#32 ∧ z.get F.ENG_STAT_ESTATE = 0 ∧ z.get F.SEXT_STAT_STATE = 0 ∧
    (∀ l, l < 56 → z.ostate l = loOFF) ∧ (∀ l, l < 64 → z.get (F.LANE_STAT_LSTATE l) = 0) ∧ (∀ q ∈ allSrcs, (z.src q).pend = false) ∧ z.irqSrc = 0 ∧
    (∀ f, f < 5 → (z.flow f).taken = []) ∧ z.host.ops = [] ∧ z.adc.convs = [] ∧ z.ring.cur = [] ∧ z.nvm.sess = none ∧
    z.noShootThrough ∧ z.heldGatesOff ∧ ∀ k, k < 9 → ∀ b, z.gateOn k b = false

/-- What follows from a command in its tick (`settle`) leaves memory, the queue, time, the Sextant, the supplies, the engine's registers, the
converters, the Hall decoders, the comparators, the serial lanes, the pods and the registers of the converters and Hall decoders as the
command left them: statements about those read the state after the step. -/
def Obligations.SettlingKeepsWhatCommandsLeave : Prop :=
  ∀ s t : State, Still t (settle s t) ∧ (settle s t).adc = t.adc ∧ (settle s t).hall = t.hall ∧ (settle s t).cmp = t.cmp ∧ (settle s t).ser = t.ser ∧
    (settle s t).pods = t.pods ∧ (settle s t).upd = t.upd ∧ (settle s t).free = t.free ∧
    ∀ a, (0x10040000 ≤ a ∧ a < 0x10100000) ∨ (0x14000000 ≤ a ∧ a < 0x14030000) ∨ (0x15010000 ≤ a ∧ a < 0x15020000) → (settle s t).reg a = t.reg a

/-- Memory: a load of bytes just stored gives their value, every other byte is as before, and the stores, single writes and clears keep the
canonical form (addresses rising, no listed byte that reads 0 anyway). -/
def Obligations.MemoryReadsBackAndStaysCanonical : Prop :=
  (∀ (s : State) (a n v : Nat), (s.store a n v).load a n = v % 256 ^ n) ∧
  (∀ (s : State) (a n v b : Nat), b < a ∨ a + n ≤ b → memGet (s.store a n v).mem b = memGet s.mem b) ∧
  (∀ (s : State) (a n v : Nat), Memory.wf s.mem = true → Memory.wf (s.store a n v).mem = true) ∧
  (∀ (m : List Host.Cell) (a b : Nat) (x : Byte), memGet (memPut m a x) b = if b = a then x else memGet m b) ∧
  (∀ (m : List Host.Cell) (a : Nat) (x : Byte), Memory.wf m = true → Memory.wf (memPut m a x) = true) ∧
  (∀ (m : List Host.Cell) (lo hi : Nat), Memory.wf m = true → Memory.wf (memClear m lo hi) = true ∧
    ∀ b, memGet (memClear m lo hi) b = if lo ≤ b ∧ b < hi then 0 else memGet m b) ∧
  (∀ m u : List Host.Cell, Memory.wf m = true → Memory.wf u = true → (∀ a, memGet m a = memGet u a) → m = u)

/-- 00 R5, R6: saturation gives the nearest end of the range outside it, the value itself inside; rounding gives a nearest integer, and of two
equally near ones the one of larger magnitude. -/
def Obligations.SaturationAndRoundingAreExact : Prop :=
  (∀ (w : Nat) (x : Int), 0 < w → (satS w x).toInt = if x < -(2 ^ (w - 1)) then -(2 ^ (w - 1)) else if 2 ^ (w - 1) - 1 < x then 2 ^ (w - 1) - 1 else x) ∧
  (∀ x : Rat, |x - roundRat x| ≤ 1 / 2 ∧ ∀ n : Int, |x - n| ≤ |x - roundRat x| → n = roundRat x ∨ n.natAbs < (roundRat x).natAbs) ∧
  (∀ (n : Int) (d : Nat), 0 < d → roundDiv n d = roundRat ((n : Rat) / d)) ∧ ∀ (n : Int) (k : Nat), roundShift n k = roundRat ((n : Rat) / 2 ^ k)

/-- 03 R123, R125, R126: a read of a logical state row gives page P, also after writes of the Crucible to that row in the same period. At the
deadline of a period whose blocks are all complete P becomes P xor W for every row and W is cleared; at that of an abandoned period W is
cleared and no P changes. -/
def Obligations.StatePagesReadAndFlip : Prop :=
  ∀ (s : State),
    let es := s.get F.ENG_STAT_ESTATE
    let due := s.sx ≠ sxOFF ∧ s.sext.begun = true ∧ s.sext.comm = true ∧ s.bus.deferred = [] ∧ s.bus.held = []
    (∀ row i n, s.vState row = some i → s.vBase + 2 * s.vRows ≤ 2048 → n < 64 →
      s.rowLane row n = BitVec.ofNat 16 (s.load (vdmAddr (row + if s.eng.pV.testBit i then s.vRows else 0) n) 2) ∧
        ∀ (mask : Word64) (vals : List (BitVec 16)), (s.crucV row mask vals).rowLane row n = s.rowLane row n) ∧
    (due → es = 2 ∨ es = 3 → s.rowDone = true → Gives .deadline s (fun t => (∀ r, t.eng.pV.testBit r = (s.eng.pV.testBit r ^^ s.eng.wV.testBit r)) ∧
      (∀ r, t.eng.pS.testBit r = (s.eng.pS.testBit r ^^ s.eng.wS.testBit r)) ∧ t.eng.wV = 0 ∧ t.eng.wS = 0)) ∧
    (due → es = 2 → s.rowDone = false → Gives .deadline s (fun t => t.eng.pV = s.eng.pV ∧ t.eng.pS = s.eng.pS ∧ t.eng.wV = 0 ∧ t.eng.wS = 0))

/-- 15 R547: a block requests an interrupt while one of its sources pends, is enabled and has an RLVL of IRQ (2) or higher; FLT_STAT and SYS_IRQSRC
show it. (R544, R549) A raise of a source whose reaction is not NONE makes it pend with the highest reaction applied, the first in a block
fills the capture, and another source, memory and time are as before; a reaction of NONE changes nothing. -/
def Obligations.RaisesPendAndInterruptRequestsFollow : Prop :=
  ∀ (s : State) (b : Fin 24),
    (s.irqOf b = true ↔ ∃ q ∈ srcsOf b, (s.src q).pend = true ∧ (s.src q).ie = true ∧ 2 ≤ (s.src q).rlvl) ∧
    (s.fltStat b).testBit 31 = s.irqOf b ∧ s.irqSrc.testBit b = s.irqOf b ∧ s.irqSrc < 2 ^ 24 ∧
    ∀ (q : Src) (a : Acc), let r := s.reactNow q
    (r = 0 → s.raise q a = s) ∧
    (r ≠ 0 → (s.raise q a).src q = { s.src q with pend := true, rlvl := max (s.src q).rlvl r } ∧ Still s (s.raise q a) ∧
      ((s.cap q.blk).valid = false → ((s.raise q a).cap q.blk).valid = true ∧ ((s.raise q a).cap q.blk).addr = a.addr) ∧
      ((s.cap q.blk).valid = true → ((s.raise q a).cap q.blk).valid = true) ∧
      ∀ p : Src, p ∈ allSrcs → q ∈ allSrcs → r ≤ 3 → p ≠ q → (s.raise q a).src p = s.src p)

/-- Frames of the lane commands and of the link commands of the device's side: they write their own registers and blocks and leave the rest,
but for what the reaction to a source they raise does. A command of a pod changes that pod, what it sends and, where a value is free, the count
of free values, and nothing else. -/
def Obligations.LaneLinkAndPodCommandsLeaveTheRest : Prop :=
  ∀ (s : State) (l : Fin 62) (o : Fin 56) (h : Bool) (p : Fin 3) (m0 m1 : BitVec 56) (skew : BitVec 16) (e : Fin 64) (n : Word) (f : LinkFrame) (sub : Fin 16)
    (b g : Bool) (pl : BitVec 56) (c slot : Fin 8) (vs : List (BitVec 16)) (temp : BitVec 16) (i : Fin 256) (cap : Word64),
    (∀ i ∈ [Instr.cdrLock l, .cdrLoss l, .huntLock l, .huntFail l, .polarityConfirm l, .polarityInvert l, .poltestTimeout l, .blockLockLoss l,
        .hostPcsUp h, .hostPcsDown h, .alignMarkerSend p, .alignMarkerRx p m0 m1 skew, .eqStep l, .eyeDone e n], Gives i s (fun t => Still s t ∧
      RegsKeptBut s t 0x13000000 0x13020000 ∧ t.ocl = s.ocl ∧ t.pods = s.pods ∧ t.adc = s.adc ∧ t.mod = s.mod ∧ t.axd = s.axd ∧ t.safe = s.safe ∧
      t.hall = s.hall ∧ t.cmp = s.cmp ∧ t.upd = s.upd ∧ t.log = s.log ∧ t.free = s.free)) ∧
    (∀ i ∈ [Instr.capqSend o, .statusCapRx o f, .setcfgResend o, .statusAckRx o f, .statusPeriodicRx o f sub, .foreignDetect o, .sampleRx o f,
        .keepStoppedSend, .cmdRetransmit o], Gives i s (fun t => Still s t ∧ RegsKeptBut s t 0x13100000 0x13110000 ∧ t.ser = s.ser ∧ t.pods = s.pods ∧
      t.adc = s.adc ∧ t.mod = s.mod ∧ t.axd = s.axd ∧ t.safe = s.safe ∧ t.hall = s.hall ∧ t.cmp = s.cmp ∧ t.upd = s.upd ∧ t.log = s.log ∧ t.free = s.free)) ∧
    ∀ x ∈ [Instr.podEdgeFrameRx o b f, .podWindowStart o, .podTripRx o b pl, .podTimeRx o b f sub, .podCmdRx o b f, .podDesat o c g, .podLinkLoss o,
        .podSample o slot vs temp, .podEdgePlay o i, .podKeepRx o b f, .podBypassComplete o g, .podPowerUp o cap],
      Gives x s (fun t => (∃ pods tx free, t = { s with pods, tx, free }) ∧ ∀ m, m ≠ o.val → t.pod m = s.pod m)

/-- Frames of the converter, comparator, stage, Hall and safety events: each writes its own blocks, and a conversion stores to its destinations
alone. -/
def Obligations.AnalogEventsLeaveTheRest : Prop :=
  ∀ (s : State) (n : Fin 16) (e : Fin 128) (vs : List Rat) (b : Bool) (j : Fin 4) (ofs gain : Word) (k : Fin 24) (hi lo level : Bool) (m : Fin 8)
    (a : Fin 3) (i : Fin 6) (v2 v1 v0 : Byte) (legs : Fin 8) (v : Fin 4096) (code : Fin 8) (rb : Bool),
    (∀ x ∈ [Instr.idleListStart b, .entryStart n, .entryRestart n, .injectPending j, .injectClaim j, .injectStart j, .swapDue, .swapStart, .swapWindowEnd,
        .calibrationDone ofs gain, .sdfStuck n, .sdfStuckEnd n], Gives x s (fun t => Still s t ∧ RegsKeptBut s t 0x14000000 0x14020000 ∧ t.ocl = s.ocl ∧
      t.ser = s.ser ∧ t.pods = s.pods ∧ t.mod = s.mod ∧ t.axd = s.axd ∧ t.safe = s.safe ∧ t.hall = s.hall ∧ t.cmp = s.cmp ∧ t.upd = s.upd ∧ t.free = s.free)) ∧
    Gives (.conversionResult e vs) s (fun t => RegsKeptBut s t 0x14000000 0x14020000 ∧ t.pods = s.pods ∧ t.chrono = s.chrono ∧ ∀ x,
      (∀ q, q < 8 → (s.entVen e = true → x < vdmAddr (s.entVrow e) (s.entLane e + q) ∨ vdmAddr (s.entVrow e) (s.entLane e + q) + 2 ≤ x) ∧
        (s.entSen e = true → x < sdmAddr (s.entSword e + q) ∨ sdmAddr (s.entSword e + q) + 4 ≤ x)) →
      s.entRidx e + 8 ≤ 256 → (∀ c ∈ s.adc.convs, c.slots.length ≤ 8) → memGet t.mem x = memGet s.mem x) ∧
    (∀ x ∈ [Instr.comparatorAssert k hi lo, .comparatorDeassert k hi lo, .testSample hi lo, .testSettleEnd hi lo, .tripinChange m level],
      Gives x s (fun t => Still s t ∧ RegsKeptBut s t 0x14000000 0x14040000 ∧ t.ocl = s.ocl ∧ t.ser = s.ser ∧ t.pods = s.pods ∧ t.mod = s.mod ∧
        t.axd = s.axd ∧ t.safe = s.safe ∧ t.hall = s.hall ∧ t.upd = s.upd ∧ t.free = s.free)) ∧
    (∀ x ∈ [Instr.gateHoldEnd a, .auxInputChange a i level, .vbsMeasure a v2 v1 v0, .overcurrentDetect a legs, .slopeDetect a legs, .softTurnoffEnd a,
        .vmConversion v, .brakeLimit, .brakeWindowEnd, .hallChange a code, .homeEdge a level, .speedWindowEnd a, .sinChange j b level, .discrepancyStrobe,
        .soutPulseStart j, .soutPulseEnd j rb, .soutReadbackChange j rb, .soutOvercurrent j, .stoPeriodicTest a, .stoTestEnd a rb, .safeCrcCheck, .safeOscFail],
      Gives x s (fun t => Still s t ∧ RegsKeptBut s t 0x15000000 0x15030000 ∧ t.ocl = s.ocl ∧ t.ser = s.ser ∧ t.pods = s.pods ∧ t.mod = s.mod ∧
        t.adc = s.adc ∧ t.cmp = s.cmp ∧ t.upd = s.upd))
end

