-- ==== Sys2Proof/Laws/State.lean ====
section
/-! SUPPORT. Laws/State.lean: what each named update of the state leaves alone, field by field, so that no proof unfolds a record. -/
namespace Sys2Proof.Machine

@[simp] theorem setReg_pending (s : State) (a : Nat) (v : Word) : (s.setReg a v).pending = s.pending := rfl
@[simp] theorem setReg_mem (s : State) (a : Nat) (v : Word) : (s.setReg a v).mem = s.mem := rfl
@[simp] theorem setReg_faults (s : State) (a : Nat) (v : Word) : (s.setReg a v).faults = s.faults := rfl
@[simp] theorem setReg_bus (s : State) (a : Nat) (v : Word) : (s.setReg a v).bus = s.bus := rfl
@[simp] theorem setReg_sys (s : State) (a : Nat) (v : Word) : (s.setReg a v).sys = s.sys := rfl
@[simp] theorem setReg_chrono (s : State) (a : Nat) (v : Word) : (s.setReg a v).chrono = s.chrono := rfl
@[simp] theorem setReg_sext (s : State) (a : Nat) (v : Word) : (s.setReg a v).sext = s.sext := rfl
@[simp] theorem setReg_cmp (s : State) (a : Nat) (v : Word) : (s.setReg a v).cmp = s.cmp := rfl
@[simp] theorem setReg_hall (s : State) (a : Nat) (v : Word) : (s.setReg a v).hall = s.hall := rfl
@[simp] theorem setReg_safe (s : State) (a : Nat) (v : Word) : (s.setReg a v).safe = s.safe := rfl
@[simp] theorem setReg_axd (s : State) (a : Nat) (v : Word) : (s.setReg a v).axd = s.axd := rfl
@[simp] theorem setReg_mod (s : State) (a : Nat) (v : Word) : (s.setReg a v).mod = s.mod := rfl
@[simp] theorem setReg_adc (s : State) (a : Nat) (v : Word) : (s.setReg a v).adc = s.adc := rfl
@[simp] theorem setReg_eng (s : State) (a : Nat) (v : Word) : (s.setReg a v).eng = s.eng := rfl
@[simp] theorem setReg_log (s : State) (a : Nat) (v : Word) : (s.setReg a v).log = s.log := rfl
@[simp] theorem setReg_ser (s : State) (a : Nat) (v : Word) : (s.setReg a v).ser = s.ser := rfl
@[simp] theorem setReg_ocl (s : State) (a : Nat) (v : Word) : (s.setReg a v).ocl = s.ocl := rfl
@[simp] theorem setReg_pods (s : State) (a : Nat) (v : Word) : (s.setReg a v).pods = s.pods := rfl
@[simp] theorem setReg_ring (s : State) (a : Nat) (v : Word) : (s.setReg a v).ring = s.ring := rfl
@[simp] theorem setReg_twin (s : State) (a : Nat) (v : Word) : (s.setReg a v).twin = s.twin := rfl
@[simp] theorem setReg_nvm (s : State) (a : Nat) (v : Word) : (s.setReg a v).nvm = s.nvm := rfl
@[simp] theorem setReg_upd (s : State) (a : Nat) (v : Word) : (s.setReg a v).upd = s.upd := rfl
@[simp] theorem setReg_pwr (s : State) (a : Nat) (v : Word) : (s.setReg a v).pwr = s.pwr := rfl
@[simp] theorem setReg_host (s : State) (a : Nat) (v : Word) : (s.setReg a v).host = s.host := rfl
@[simp] theorem setReg_tx (s : State) (a : Nat) (v : Word) : (s.setReg a v).tx = s.tx := rfl
@[simp] theorem setReg_free (s : State) (a : Nat) (v : Word) : (s.setReg a v).free = s.free := rfl

@[simp] theorem setRegN_pending (s : State) (a n : Nat) : (s.setRegN a n).pending = s.pending := rfl
@[simp] theorem setRegN_mem (s : State) (a n : Nat) : (s.setRegN a n).mem = s.mem := rfl
@[simp] theorem setRegN_faults (s : State) (a n : Nat) : (s.setRegN a n).faults = s.faults := rfl
@[simp] theorem setRegN_bus (s : State) (a n : Nat) : (s.setRegN a n).bus = s.bus := rfl
@[simp] theorem setRegN_sys (s : State) (a n : Nat) : (s.setRegN a n).sys = s.sys := rfl
@[simp] theorem setRegN_chrono (s : State) (a n : Nat) : (s.setRegN a n).chrono = s.chrono := rfl
@[simp] theorem setRegN_sext (s : State) (a n : Nat) : (s.setRegN a n).sext = s.sext := rfl
@[simp] theorem setRegN_cmp (s : State) (a n : Nat) : (s.setRegN a n).cmp = s.cmp := rfl
@[simp] theorem setRegN_hall (s : State) (a n : Nat) : (s.setRegN a n).hall = s.hall := rfl
@[simp] theorem setRegN_safe (s : State) (a n : Nat) : (s.setRegN a n).safe = s.safe := rfl
@[simp] theorem setRegN_axd (s : State) (a n : Nat) : (s.setRegN a n).axd = s.axd := rfl
@[simp] theorem setRegN_mod (s : State) (a n : Nat) : (s.setRegN a n).mod = s.mod := rfl
@[simp] theorem setRegN_adc (s : State) (a n : Nat) : (s.setRegN a n).adc = s.adc := rfl
@[simp] theorem setRegN_eng (s : State) (a n : Nat) : (s.setRegN a n).eng = s.eng := rfl
@[simp] theorem setRegN_log (s : State) (a n : Nat) : (s.setRegN a n).log = s.log := rfl
@[simp] theorem setRegN_ser (s : State) (a n : Nat) : (s.setRegN a n).ser = s.ser := rfl
@[simp] theorem setRegN_ocl (s : State) (a n : Nat) : (s.setRegN a n).ocl = s.ocl := rfl
@[simp] theorem setRegN_pods (s : State) (a n : Nat) : (s.setRegN a n).pods = s.pods := rfl
@[simp] theorem setRegN_ring (s : State) (a n : Nat) : (s.setRegN a n).ring = s.ring := rfl
@[simp] theorem setRegN_twin (s : State) (a n : Nat) : (s.setRegN a n).twin = s.twin := rfl
@[simp] theorem setRegN_nvm (s : State) (a n : Nat) : (s.setRegN a n).nvm = s.nvm := rfl
@[simp] theorem setRegN_upd (s : State) (a n : Nat) : (s.setRegN a n).upd = s.upd := rfl
@[simp] theorem setRegN_pwr (s : State) (a n : Nat) : (s.setRegN a n).pwr = s.pwr := rfl
@[simp] theorem setRegN_host (s : State) (a n : Nat) : (s.setRegN a n).host = s.host := rfl
@[simp] theorem setRegN_tx (s : State) (a n : Nat) : (s.setRegN a n).tx = s.tx := rfl
@[simp] theorem setRegN_free (s : State) (a n : Nat) : (s.setRegN a n).free = s.free := rfl

@[simp] theorem setReg64_pending (s : State) (a n : Nat) : (s.setReg64 a n).pending = s.pending := rfl
@[simp] theorem setReg64_mem (s : State) (a n : Nat) : (s.setReg64 a n).mem = s.mem := rfl
@[simp] theorem setReg64_faults (s : State) (a n : Nat) : (s.setReg64 a n).faults = s.faults := rfl
@[simp] theorem setReg64_bus (s : State) (a n : Nat) : (s.setReg64 a n).bus = s.bus := rfl
@[simp] theorem setReg64_sys (s : State) (a n : Nat) : (s.setReg64 a n).sys = s.sys := rfl
@[simp] theorem setReg64_chrono (s : State) (a n : Nat) : (s.setReg64 a n).chrono = s.chrono := rfl
@[simp] theorem setReg64_sext (s : State) (a n : Nat) : (s.setReg64 a n).sext = s.sext := rfl
@[simp] theorem setReg64_cmp (s : State) (a n : Nat) : (s.setReg64 a n).cmp = s.cmp := rfl
@[simp] theorem setReg64_hall (s : State) (a n : Nat) : (s.setReg64 a n).hall = s.hall := rfl
@[simp] theorem setReg64_safe (s : State) (a n : Nat) : (s.setReg64 a n).safe = s.safe := rfl
@[simp] theorem setReg64_axd (s : State) (a n : Nat) : (s.setReg64 a n).axd = s.axd := rfl
@[simp] theorem setReg64_mod (s : State) (a n : Nat) : (s.setReg64 a n).mod = s.mod := rfl
@[simp] theorem setReg64_adc (s : State) (a n : Nat) : (s.setReg64 a n).adc = s.adc := rfl
@[simp] theorem setReg64_eng (s : State) (a n : Nat) : (s.setReg64 a n).eng = s.eng := rfl
@[simp] theorem setReg64_log (s : State) (a n : Nat) : (s.setReg64 a n).log = s.log := rfl
@[simp] theorem setReg64_ser (s : State) (a n : Nat) : (s.setReg64 a n).ser = s.ser := rfl
@[simp] theorem setReg64_ocl (s : State) (a n : Nat) : (s.setReg64 a n).ocl = s.ocl := rfl
@[simp] theorem setReg64_pods (s : State) (a n : Nat) : (s.setReg64 a n).pods = s.pods := rfl
@[simp] theorem setReg64_ring (s : State) (a n : Nat) : (s.setReg64 a n).ring = s.ring := rfl
@[simp] theorem setReg64_twin (s : State) (a n : Nat) : (s.setReg64 a n).twin = s.twin := rfl
@[simp] theorem setReg64_nvm (s : State) (a n : Nat) : (s.setReg64 a n).nvm = s.nvm := rfl
@[simp] theorem setReg64_upd (s : State) (a n : Nat) : (s.setReg64 a n).upd = s.upd := rfl
@[simp] theorem setReg64_pwr (s : State) (a n : Nat) : (s.setReg64 a n).pwr = s.pwr := rfl
@[simp] theorem setReg64_host (s : State) (a n : Nat) : (s.setReg64 a n).host = s.host := rfl
@[simp] theorem setReg64_tx (s : State) (a n : Nat) : (s.setReg64 a n).tx = s.tx := rfl
@[simp] theorem setReg64_free (s : State) (a n : Nat) : (s.setReg64 a n).free = s.free := rfl

@[simp] theorem set_pending (s : State) (f : Fld) (n : Nat) : (s.set f n).pending = s.pending := rfl
@[simp] theorem set_mem (s : State) (f : Fld) (n : Nat) : (s.set f n).mem = s.mem := rfl
@[simp] theorem set_faults (s : State) (f : Fld) (n : Nat) : (s.set f n).faults = s.faults := rfl
@[simp] theorem set_bus (s : State) (f : Fld) (n : Nat) : (s.set f n).bus = s.bus := rfl
@[simp] theorem set_sys (s : State) (f : Fld) (n : Nat) : (s.set f n).sys = s.sys := rfl
@[simp] theorem set_chrono (s : State) (f : Fld) (n : Nat) : (s.set f n).chrono = s.chrono := rfl
@[simp] theorem set_sext (s : State) (f : Fld) (n : Nat) : (s.set f n).sext = s.sext := rfl
@[simp] theorem set_cmp (s : State) (f : Fld) (n : Nat) : (s.set f n).cmp = s.cmp := rfl
@[simp] theorem set_hall (s : State) (f : Fld) (n : Nat) : (s.set f n).hall = s.hall := rfl
@[simp] theorem set_safe (s : State) (f : Fld) (n : Nat) : (s.set f n).safe = s.safe := rfl
@[simp] theorem set_axd (s : State) (f : Fld) (n : Nat) : (s.set f n).axd = s.axd := rfl
@[simp] theorem set_mod (s : State) (f : Fld) (n : Nat) : (s.set f n).mod = s.mod := rfl
@[simp] theorem set_adc (s : State) (f : Fld) (n : Nat) : (s.set f n).adc = s.adc := rfl
@[simp] theorem set_eng (s : State) (f : Fld) (n : Nat) : (s.set f n).eng = s.eng := rfl
@[simp] theorem set_log (s : State) (f : Fld) (n : Nat) : (s.set f n).log = s.log := rfl
@[simp] theorem set_ser (s : State) (f : Fld) (n : Nat) : (s.set f n).ser = s.ser := rfl
@[simp] theorem set_ocl (s : State) (f : Fld) (n : Nat) : (s.set f n).ocl = s.ocl := rfl
@[simp] theorem set_pods (s : State) (f : Fld) (n : Nat) : (s.set f n).pods = s.pods := rfl
@[simp] theorem set_ring (s : State) (f : Fld) (n : Nat) : (s.set f n).ring = s.ring := rfl
@[simp] theorem set_twin (s : State) (f : Fld) (n : Nat) : (s.set f n).twin = s.twin := rfl
@[simp] theorem set_nvm (s : State) (f : Fld) (n : Nat) : (s.set f n).nvm = s.nvm := rfl
@[simp] theorem set_upd (s : State) (f : Fld) (n : Nat) : (s.set f n).upd = s.upd := rfl
@[simp] theorem set_pwr (s : State) (f : Fld) (n : Nat) : (s.set f n).pwr = s.pwr := rfl
@[simp] theorem set_host (s : State) (f : Fld) (n : Nat) : (s.set f n).host = s.host := rfl
@[simp] theorem set_tx (s : State) (f : Fld) (n : Nat) : (s.set f n).tx = s.tx := rfl
@[simp] theorem set_free (s : State) (f : Fld) (n : Nat) : (s.set f n).free = s.free := rfl

@[simp] theorem setB_pending (s : State) (f : Fld) (b : Bool) : (s.setB f b).pending = s.pending := rfl
@[simp] theorem setB_mem (s : State) (f : Fld) (b : Bool) : (s.setB f b).mem = s.mem := rfl
@[simp] theorem setB_faults (s : State) (f : Fld) (b : Bool) : (s.setB f b).faults = s.faults := rfl
@[simp] theorem setB_bus (s : State) (f : Fld) (b : Bool) : (s.setB f b).bus = s.bus := rfl
@[simp] theorem setB_sys (s : State) (f : Fld) (b : Bool) : (s.setB f b).sys = s.sys := rfl
@[simp] theorem setB_chrono (s : State) (f : Fld) (b : Bool) : (s.setB f b).chrono = s.chrono := rfl
@[simp] theorem setB_sext (s : State) (f : Fld) (b : Bool) : (s.setB f b).sext = s.sext := rfl
@[simp] theorem setB_cmp (s : State) (f : Fld) (b : Bool) : (s.setB f b).cmp = s.cmp := rfl
@[simp] theorem setB_hall (s : State) (f : Fld) (b : Bool) : (s.setB f b).hall = s.hall := rfl
@[simp] theorem setB_safe (s : State) (f : Fld) (b : Bool) : (s.setB f b).safe = s.safe := rfl
@[simp] theorem setB_axd (s : State) (f : Fld) (b : Bool) : (s.setB f b).axd = s.axd := rfl
@[simp] theorem setB_mod (s : State) (f : Fld) (b : Bool) : (s.setB f b).mod = s.mod := rfl
@[simp] theorem setB_adc (s : State) (f : Fld) (b : Bool) : (s.setB f b).adc = s.adc := rfl
@[simp] theorem setB_eng (s : State) (f : Fld) (b : Bool) : (s.setB f b).eng = s.eng := rfl
@[simp] theorem setB_log (s : State) (f : Fld) (b : Bool) : (s.setB f b).log = s.log := rfl
@[simp] theorem setB_ser (s : State) (f : Fld) (b : Bool) : (s.setB f b).ser = s.ser := rfl
@[simp] theorem setB_ocl (s : State) (f : Fld) (b : Bool) : (s.setB f b).ocl = s.ocl := rfl
@[simp] theorem setB_pods (s : State) (f : Fld) (b : Bool) : (s.setB f b).pods = s.pods := rfl
@[simp] theorem setB_ring (s : State) (f : Fld) (b : Bool) : (s.setB f b).ring = s.ring := rfl
@[simp] theorem setB_twin (s : State) (f : Fld) (b : Bool) : (s.setB f b).twin = s.twin := rfl
@[simp] theorem setB_nvm (s : State) (f : Fld) (b : Bool) : (s.setB f b).nvm = s.nvm := rfl
@[simp] theorem setB_upd (s : State) (f : Fld) (b : Bool) : (s.setB f b).upd = s.upd := rfl
@[simp] theorem setB_pwr (s : State) (f : Fld) (b : Bool) : (s.setB f b).pwr = s.pwr := rfl
@[simp] theorem setB_host (s : State) (f : Fld) (b : Bool) : (s.setB f b).host = s.host := rfl
@[simp] theorem setB_tx (s : State) (f : Fld) (b : Bool) : (s.setB f b).tx = s.tx := rfl
@[simp] theorem setB_free (s : State) (f : Fld) (b : Bool) : (s.setB f b).free = s.free := rfl

@[simp] theorem count_pending (s : State) (a k : Nat) : (s.count a k).pending = s.pending := rfl
@[simp] theorem count_mem (s : State) (a k : Nat) : (s.count a k).mem = s.mem := rfl
@[simp] theorem count_faults (s : State) (a k : Nat) : (s.count a k).faults = s.faults := rfl
@[simp] theorem count_bus (s : State) (a k : Nat) : (s.count a k).bus = s.bus := rfl
@[simp] theorem count_sys (s : State) (a k : Nat) : (s.count a k).sys = s.sys := rfl
@[simp] theorem count_chrono (s : State) (a k : Nat) : (s.count a k).chrono = s.chrono := rfl
@[simp] theorem count_sext (s : State) (a k : Nat) : (s.count a k).sext = s.sext := rfl
@[simp] theorem count_cmp (s : State) (a k : Nat) : (s.count a k).cmp = s.cmp := rfl
@[simp] theorem count_hall (s : State) (a k : Nat) : (s.count a k).hall = s.hall := rfl
@[simp] theorem count_safe (s : State) (a k : Nat) : (s.count a k).safe = s.safe := rfl
@[simp] theorem count_axd (s : State) (a k : Nat) : (s.count a k).axd = s.axd := rfl
@[simp] theorem count_mod (s : State) (a k : Nat) : (s.count a k).mod = s.mod := rfl
@[simp] theorem count_adc (s : State) (a k : Nat) : (s.count a k).adc = s.adc := rfl
@[simp] theorem count_eng (s : State) (a k : Nat) : (s.count a k).eng = s.eng := rfl
@[simp] theorem count_log (s : State) (a k : Nat) : (s.count a k).log = s.log := rfl
@[simp] theorem count_ser (s : State) (a k : Nat) : (s.count a k).ser = s.ser := rfl
@[simp] theorem count_ocl (s : State) (a k : Nat) : (s.count a k).ocl = s.ocl := rfl
@[simp] theorem count_pods (s : State) (a k : Nat) : (s.count a k).pods = s.pods := rfl
@[simp] theorem count_ring (s : State) (a k : Nat) : (s.count a k).ring = s.ring := rfl
@[simp] theorem count_twin (s : State) (a k : Nat) : (s.count a k).twin = s.twin := rfl
@[simp] theorem count_nvm (s : State) (a k : Nat) : (s.count a k).nvm = s.nvm := rfl
@[simp] theorem count_upd (s : State) (a k : Nat) : (s.count a k).upd = s.upd := rfl
@[simp] theorem count_pwr (s : State) (a k : Nat) : (s.count a k).pwr = s.pwr := rfl
@[simp] theorem count_host (s : State) (a k : Nat) : (s.count a k).host = s.host := rfl
@[simp] theorem count_tx (s : State) (a k : Nat) : (s.count a k).tx = s.tx := rfl
@[simp] theorem count_free (s : State) (a k : Nat) : (s.count a k).free = s.free := rfl

@[simp] theorem mark_pending (s : State) (a : Nat) (m : Word) : (s.mark a m).pending = s.pending := by unfold State.mark; split <;> rfl
@[simp] theorem mark_regs (s : State) (a : Nat) (m : Word) : (s.mark a m).regs = s.regs := by unfold State.mark; split <;> rfl
@[simp] theorem mark_mem (s : State) (a : Nat) (m : Word) : (s.mark a m).mem = s.mem := by unfold State.mark; split <;> rfl
@[simp] theorem mark_faults (s : State) (a : Nat) (m : Word) : (s.mark a m).faults = s.faults := by unfold State.mark; split <;> rfl
@[simp] theorem mark_sys (s : State) (a : Nat) (m : Word) : (s.mark a m).sys = s.sys := by unfold State.mark; split <;> rfl
@[simp] theorem mark_chrono (s : State) (a : Nat) (m : Word) : (s.mark a m).chrono = s.chrono := by unfold State.mark; split <;> rfl
@[simp] theorem mark_sext (s : State) (a : Nat) (m : Word) : (s.mark a m).sext = s.sext := by unfold State.mark; split <;> rfl
@[simp] theorem mark_cmp (s : State) (a : Nat) (m : Word) : (s.mark a m).cmp = s.cmp := by unfold State.mark; split <;> rfl
@[simp] theorem mark_hall (s : State) (a : Nat) (m : Word) : (s.mark a m).hall = s.hall := by unfold State.mark; split <;> rfl
@[simp] theorem mark_safe (s : State) (a : Nat) (m : Word) : (s.mark a m).safe = s.safe := by unfold State.mark; split <;> rfl
@[simp] theorem mark_axd (s : State) (a : Nat) (m : Word) : (s.mark a m).axd = s.axd := by unfold State.mark; split <;> rfl
@[simp] theorem mark_mod (s : State) (a : Nat) (m : Word) : (s.mark a m).mod = s.mod := by unfold State.mark; split <;> rfl
@[simp] theorem mark_adc (s : State) (a : Nat) (m : Word) : (s.mark a m).adc = s.adc := by unfold State.mark; split <;> rfl
@[simp] theorem mark_eng (s : State) (a : Nat) (m : Word) : (s.mark a m).eng = s.eng := by unfold State.mark; split <;> rfl
@[simp] theorem mark_log (s : State) (a : Nat) (m : Word) : (s.mark a m).log = s.log := by unfold State.mark; split <;> rfl
@[simp] theorem mark_ser (s : State) (a : Nat) (m : Word) : (s.mark a m).ser = s.ser := by unfold State.mark; split <;> rfl
@[simp] theorem mark_ocl (s : State) (a : Nat) (m : Word) : (s.mark a m).ocl = s.ocl := by unfold State.mark; split <;> rfl
@[simp] theorem mark_pods (s : State) (a : Nat) (m : Word) : (s.mark a m).pods = s.pods := by unfold State.mark; split <;> rfl
@[simp] theorem mark_ring (s : State) (a : Nat) (m : Word) : (s.mark a m).ring = s.ring := by unfold State.mark; split <;> rfl
@[simp] theorem mark_twin (s : State) (a : Nat) (m : Word) : (s.mark a m).twin = s.twin := by unfold State.mark; split <;> rfl
@[simp] theorem mark_nvm (s : State) (a : Nat) (m : Word) : (s.mark a m).nvm = s.nvm := by unfold State.mark; split <;> rfl
@[simp] theorem mark_upd (s : State) (a : Nat) (m : Word) : (s.mark a m).upd = s.upd := by unfold State.mark; split <;> rfl
@[simp] theorem mark_pwr (s : State) (a : Nat) (m : Word) : (s.mark a m).pwr = s.pwr := by unfold State.mark; split <;> rfl
@[simp] theorem mark_host (s : State) (a : Nat) (m : Word) : (s.mark a m).host = s.host := by unfold State.mark; split <;> rfl
@[simp] theorem mark_tx (s : State) (a : Nat) (m : Word) : (s.mark a m).tx = s.tx := by unfold State.mark; split <;> rfl
@[simp] theorem mark_free (s : State) (a : Nat) (m : Word) : (s.mark a m).free = s.free := by unfold State.mark; split <;> rfl

@[simp] theorem flag_pending (s : State) (f : Fld) : (s.flag f).pending = s.pending := by simp [State.flag]
@[simp] theorem flag_mem (s : State) (f : Fld) : (s.flag f).mem = s.mem := by simp [State.flag]
@[simp] theorem flag_faults (s : State) (f : Fld) : (s.flag f).faults = s.faults := by simp [State.flag]
@[simp] theorem flag_sys (s : State) (f : Fld) : (s.flag f).sys = s.sys := by simp [State.flag]
@[simp] theorem flag_chrono (s : State) (f : Fld) : (s.flag f).chrono = s.chrono := by simp [State.flag]
@[simp] theorem flag_sext (s : State) (f : Fld) : (s.flag f).sext = s.sext := by simp [State.flag]
@[simp] theorem flag_cmp (s : State) (f : Fld) : (s.flag f).cmp = s.cmp := by simp [State.flag]
@[simp] theorem flag_hall (s : State) (f : Fld) : (s.flag f).hall = s.hall := by simp [State.flag]
@[simp] theorem flag_safe (s : State) (f : Fld) : (s.flag f).safe = s.safe := by simp [State.flag]
@[simp] theorem flag_axd (s : State) (f : Fld) : (s.flag f).axd = s.axd := by simp [State.flag]
@[simp] theorem flag_mod (s : State) (f : Fld) : (s.flag f).mod = s.mod := by simp [State.flag]
@[simp] theorem flag_adc (s : State) (f : Fld) : (s.flag f).adc = s.adc := by simp [State.flag]
@[simp] theorem flag_eng (s : State) (f : Fld) : (s.flag f).eng = s.eng := by simp [State.flag]
@[simp] theorem flag_log (s : State) (f : Fld) : (s.flag f).log = s.log := by simp [State.flag]
@[simp] theorem flag_ser (s : State) (f : Fld) : (s.flag f).ser = s.ser := by simp [State.flag]
@[simp] theorem flag_ocl (s : State) (f : Fld) : (s.flag f).ocl = s.ocl := by simp [State.flag]
@[simp] theorem flag_pods (s : State) (f : Fld) : (s.flag f).pods = s.pods := by simp [State.flag]
@[simp] theorem flag_ring (s : State) (f : Fld) : (s.flag f).ring = s.ring := by simp [State.flag]
@[simp] theorem flag_twin (s : State) (f : Fld) : (s.flag f).twin = s.twin := by simp [State.flag]
@[simp] theorem flag_nvm (s : State) (f : Fld) : (s.flag f).nvm = s.nvm := by simp [State.flag]
@[simp] theorem flag_upd (s : State) (f : Fld) : (s.flag f).upd = s.upd := by simp [State.flag]
@[simp] theorem flag_pwr (s : State) (f : Fld) : (s.flag f).pwr = s.pwr := by simp [State.flag]
@[simp] theorem flag_host (s : State) (f : Fld) : (s.flag f).host = s.host := by simp [State.flag]
@[simp] theorem flag_tx (s : State) (f : Fld) : (s.flag f).tx = s.tx := by simp [State.flag]
@[simp] theorem flag_free (s : State) (f : Fld) : (s.flag f).free = s.free := by simp [State.flag]

@[simp] theorem orFld_pending (s : State) (f : Fld) (n : Nat) : (s.orFld f n).pending = s.pending := by simp [State.orFld]
@[simp] theorem orFld_mem (s : State) (f : Fld) (n : Nat) : (s.orFld f n).mem = s.mem := by simp [State.orFld]
@[simp] theorem orFld_faults (s : State) (f : Fld) (n : Nat) : (s.orFld f n).faults = s.faults := by simp [State.orFld]
@[simp] theorem orFld_sys (s : State) (f : Fld) (n : Nat) : (s.orFld f n).sys = s.sys := by simp [State.orFld]
@[simp] theorem orFld_chrono (s : State) (f : Fld) (n : Nat) : (s.orFld f n).chrono = s.chrono := by simp [State.orFld]
@[simp] theorem orFld_sext (s : State) (f : Fld) (n : Nat) : (s.orFld f n).sext = s.sext := by simp [State.orFld]
@[simp] theorem orFld_cmp (s : State) (f : Fld) (n : Nat) : (s.orFld f n).cmp = s.cmp := by simp [State.orFld]
@[simp] theorem orFld_hall (s : State) (f : Fld) (n : Nat) : (s.orFld f n).hall = s.hall := by simp [State.orFld]
@[simp] theorem orFld_safe (s : State) (f : Fld) (n : Nat) : (s.orFld f n).safe = s.safe := by simp [State.orFld]
@[simp] theorem orFld_axd (s : State) (f : Fld) (n : Nat) : (s.orFld f n).axd = s.axd := by simp [State.orFld]
@[simp] theorem orFld_mod (s : State) (f : Fld) (n : Nat) : (s.orFld f n).mod = s.mod := by simp [State.orFld]
@[simp] theorem orFld_adc (s : State) (f : Fld) (n : Nat) : (s.orFld f n).adc = s.adc := by simp [State.orFld]
@[simp] theorem orFld_eng (s : State) (f : Fld) (n : Nat) : (s.orFld f n).eng = s.eng := by simp [State.orFld]
@[simp] theorem orFld_log (s : State) (f : Fld) (n : Nat) : (s.orFld f n).log = s.log := by simp [State.orFld]
@[simp] theorem orFld_ser (s : State) (f : Fld) (n : Nat) : (s.orFld f n).ser = s.ser := by simp [State.orFld]
@[simp] theorem orFld_ocl (s : State) (f : Fld) (n : Nat) : (s.orFld f n).ocl = s.ocl := by simp [State.orFld]
@[simp] theorem orFld_pods (s : State) (f : Fld) (n : Nat) : (s.orFld f n).pods = s.pods := by simp [State.orFld]
@[simp] theorem orFld_ring (s : State) (f : Fld) (n : Nat) : (s.orFld f n).ring = s.ring := by simp [State.orFld]
@[simp] theorem orFld_twin (s : State) (f : Fld) (n : Nat) : (s.orFld f n).twin = s.twin := by simp [State.orFld]
@[simp] theorem orFld_nvm (s : State) (f : Fld) (n : Nat) : (s.orFld f n).nvm = s.nvm := by simp [State.orFld]
@[simp] theorem orFld_upd (s : State) (f : Fld) (n : Nat) : (s.orFld f n).upd = s.upd := by simp [State.orFld]
@[simp] theorem orFld_pwr (s : State) (f : Fld) (n : Nat) : (s.orFld f n).pwr = s.pwr := by simp [State.orFld]
@[simp] theorem orFld_host (s : State) (f : Fld) (n : Nat) : (s.orFld f n).host = s.host := by simp [State.orFld]
@[simp] theorem orFld_tx (s : State) (f : Fld) (n : Nat) : (s.orFld f n).tx = s.tx := by simp [State.orFld]
@[simp] theorem orFld_free (s : State) (f : Fld) (n : Nat) : (s.orFld f n).free = s.free := by simp [State.orFld]

@[simp] theorem setFbit_pending (s : State) (f : Fld) (i : Nat) (b : Bool) : (s.setFbit f i b).pending = s.pending := by unfold State.setFbit; split <;> simp
@[simp] theorem setFbit_mem (s : State) (f : Fld) (i : Nat) (b : Bool) : (s.setFbit f i b).mem = s.mem := by unfold State.setFbit; split <;> simp
@[simp] theorem setFbit_faults (s : State) (f : Fld) (i : Nat) (b : Bool) : (s.setFbit f i b).faults = s.faults := by unfold State.setFbit; split <;> simp
@[simp] theorem setFbit_sys (s : State) (f : Fld) (i : Nat) (b : Bool) : (s.setFbit f i b).sys = s.sys := by unfold State.setFbit; split <;> simp
@[simp] theorem setFbit_chrono (s : State) (f : Fld) (i : Nat) (b : Bool) : (s.setFbit f i b).chrono = s.chrono := by unfold State.setFbit; split <;> simp
@[simp] theorem setFbit_sext (s : State) (f : Fld) (i : Nat) (b : Bool) : (s.setFbit f i b).sext = s.sext := by unfold State.setFbit; split <;> simp
@[simp] theorem setFbit_cmp (s : State) (f : Fld) (i : Nat) (b : Bool) : (s.setFbit f i b).cmp = s.cmp := by unfold State.setFbit; split <;> simp
@[simp] theorem setFbit_hall (s : State) (f : Fld) (i : Nat) (b : Bool) : (s.setFbit f i b).hall = s.hall := by unfold State.setFbit; split <;> simp
@[simp] theorem setFbit_safe (s : State) (f : Fld) (i : Nat) (b : Bool) : (s.setFbit f i b).safe = s.safe := by unfold State.setFbit; split <;> simp
@[simp] theorem setFbit_axd (s : State) (f : Fld) (i : Nat) (b : Bool) : (s.setFbit f i b).axd = s.axd := by unfold State.setFbit; split <;> simp
@[simp] theorem setFbit_mod (s : State) (f : Fld) (i : Nat) (b : Bool) : (s.setFbit f i b).mod = s.mod := by unfold State.setFbit; split <;> simp
@[simp] theorem setFbit_adc (s : State) (f : Fld) (i : Nat) (b : Bool) : (s.setFbit f i b).adc = s.adc := by unfold State.setFbit; split <;> simp
@[simp] theorem setFbit_eng (s : State) (f : Fld) (i : Nat) (b : Bool) : (s.setFbit f i b).eng = s.eng := by unfold State.setFbit; split <;> simp
@[simp] theorem setFbit_log (s : State) (f : Fld) (i : Nat) (b : Bool) : (s.setFbit f i b).log = s.log := by unfold State.setFbit; split <;> simp
@[simp] theorem setFbit_ser (s : State) (f : Fld) (i : Nat) (b : Bool) : (s.setFbit f i b).ser = s.ser := by unfold State.setFbit; split <;> simp
@[simp] theorem setFbit_ocl (s : State) (f : Fld) (i : Nat) (b : Bool) : (s.setFbit f i b).ocl = s.ocl := by unfold State.setFbit; split <;> simp
@[simp] theorem setFbit_pods (s : State) (f : Fld) (i : Nat) (b : Bool) : (s.setFbit f i b).pods = s.pods := by unfold State.setFbit; split <;> simp
@[simp] theorem setFbit_ring (s : State) (f : Fld) (i : Nat) (b : Bool) : (s.setFbit f i b).ring = s.ring := by unfold State.setFbit; split <;> simp
@[simp] theorem setFbit_twin (s : State) (f : Fld) (i : Nat) (b : Bool) : (s.setFbit f i b).twin = s.twin := by unfold State.setFbit; split <;> simp
@[simp] theorem setFbit_nvm (s : State) (f : Fld) (i : Nat) (b : Bool) : (s.setFbit f i b).nvm = s.nvm := by unfold State.setFbit; split <;> simp
@[simp] theorem setFbit_upd (s : State) (f : Fld) (i : Nat) (b : Bool) : (s.setFbit f i b).upd = s.upd := by unfold State.setFbit; split <;> simp
@[simp] theorem setFbit_pwr (s : State) (f : Fld) (i : Nat) (b : Bool) : (s.setFbit f i b).pwr = s.pwr := by unfold State.setFbit; split <;> simp
@[simp] theorem setFbit_host (s : State) (f : Fld) (i : Nat) (b : Bool) : (s.setFbit f i b).host = s.host := by unfold State.setFbit; split <;> simp
@[simp] theorem setFbit_tx (s : State) (f : Fld) (i : Nat) (b : Bool) : (s.setFbit f i b).tx = s.tx := by unfold State.setFbit; split <;> simp
@[simp] theorem setFbit_free (s : State) (f : Fld) (i : Nat) (b : Bool) : (s.setFbit f i b).free = s.free := by unfold State.setFbit; split <;> simp

@[simp] theorem plainWrite_pending (s : State) (a : Nat) (v : Word) : (s.plainWrite a v).pending = s.pending := by unfold State.plainWrite; split <;> simp
@[simp] theorem plainWrite_mem (s : State) (a : Nat) (v : Word) : (s.plainWrite a v).mem = s.mem := by unfold State.plainWrite; split <;> simp
@[simp] theorem plainWrite_faults (s : State) (a : Nat) (v : Word) : (s.plainWrite a v).faults = s.faults := by unfold State.plainWrite; split <;> simp
@[simp] theorem plainWrite_bus (s : State) (a : Nat) (v : Word) : (s.plainWrite a v).bus = s.bus := by unfold State.plainWrite; split <;> simp
@[simp] theorem plainWrite_sys (s : State) (a : Nat) (v : Word) : (s.plainWrite a v).sys = s.sys := by unfold State.plainWrite; split <;> simp
@[simp] theorem plainWrite_chrono (s : State) (a : Nat) (v : Word) : (s.plainWrite a v).chrono = s.chrono := by unfold State.plainWrite; split <;> simp
@[simp] theorem plainWrite_sext (s : State) (a : Nat) (v : Word) : (s.plainWrite a v).sext = s.sext := by unfold State.plainWrite; split <;> simp
@[simp] theorem plainWrite_cmp (s : State) (a : Nat) (v : Word) : (s.plainWrite a v).cmp = s.cmp := by unfold State.plainWrite; split <;> simp
@[simp] theorem plainWrite_hall (s : State) (a : Nat) (v : Word) : (s.plainWrite a v).hall = s.hall := by unfold State.plainWrite; split <;> simp
@[simp] theorem plainWrite_safe (s : State) (a : Nat) (v : Word) : (s.plainWrite a v).safe = s.safe := by unfold State.plainWrite; split <;> simp
@[simp] theorem plainWrite_axd (s : State) (a : Nat) (v : Word) : (s.plainWrite a v).axd = s.axd := by unfold State.plainWrite; split <;> simp
@[simp] theorem plainWrite_mod (s : State) (a : Nat) (v : Word) : (s.plainWrite a v).mod = s.mod := by unfold State.plainWrite; split <;> simp
@[simp] theorem plainWrite_adc (s : State) (a : Nat) (v : Word) : (s.plainWrite a v).adc = s.adc := by unfold State.plainWrite; split <;> simp
@[simp] theorem plainWrite_eng (s : State) (a : Nat) (v : Word) : (s.plainWrite a v).eng = s.eng := by unfold State.plainWrite; split <;> simp
@[simp] theorem plainWrite_log (s : State) (a : Nat) (v : Word) : (s.plainWrite a v).log = s.log := by unfold State.plainWrite; split <;> simp
@[simp] theorem plainWrite_ser (s : State) (a : Nat) (v : Word) : (s.plainWrite a v).ser = s.ser := by unfold State.plainWrite; split <;> simp
@[simp] theorem plainWrite_ocl (s : State) (a : Nat) (v : Word) : (s.plainWrite a v).ocl = s.ocl := by unfold State.plainWrite; split <;> simp
@[simp] theorem plainWrite_pods (s : State) (a : Nat) (v : Word) : (s.plainWrite a v).pods = s.pods := by unfold State.plainWrite; split <;> simp
@[simp] theorem plainWrite_ring (s : State) (a : Nat) (v : Word) : (s.plainWrite a v).ring = s.ring := by unfold State.plainWrite; split <;> simp
@[simp] theorem plainWrite_twin (s : State) (a : Nat) (v : Word) : (s.plainWrite a v).twin = s.twin := by unfold State.plainWrite; split <;> simp
@[simp] theorem plainWrite_nvm (s : State) (a : Nat) (v : Word) : (s.plainWrite a v).nvm = s.nvm := by unfold State.plainWrite; split <;> simp
@[simp] theorem plainWrite_upd (s : State) (a : Nat) (v : Word) : (s.plainWrite a v).upd = s.upd := by unfold State.plainWrite; split <;> simp
@[simp] theorem plainWrite_pwr (s : State) (a : Nat) (v : Word) : (s.plainWrite a v).pwr = s.pwr := by unfold State.plainWrite; split <;> simp
@[simp] theorem plainWrite_host (s : State) (a : Nat) (v : Word) : (s.plainWrite a v).host = s.host := by unfold State.plainWrite; split <;> simp
@[simp] theorem plainWrite_tx (s : State) (a : Nat) (v : Word) : (s.plainWrite a v).tx = s.tx := by unfold State.plainWrite; split <;> simp
@[simp] theorem plainWrite_free (s : State) (a : Nat) (v : Word) : (s.plainWrite a v).free = s.free := by unfold State.plainWrite; split <;> simp

@[simp] theorem store_pending (s : State) (a n v : Nat) : (s.store a n v).pending = s.pending := rfl
@[simp] theorem store_regs (s : State) (a n v : Nat) : (s.store a n v).regs = s.regs := rfl
@[simp] theorem store_faults (s : State) (a n v : Nat) : (s.store a n v).faults = s.faults := rfl
@[simp] theorem store_bus (s : State) (a n v : Nat) : (s.store a n v).bus = s.bus := rfl
@[simp] theorem store_sys (s : State) (a n v : Nat) : (s.store a n v).sys = s.sys := rfl
@[simp] theorem store_chrono (s : State) (a n v : Nat) : (s.store a n v).chrono = s.chrono := rfl
@[simp] theorem store_sext (s : State) (a n v : Nat) : (s.store a n v).sext = s.sext := rfl
@[simp] theorem store_cmp (s : State) (a n v : Nat) : (s.store a n v).cmp = s.cmp := rfl
@[simp] theorem store_hall (s : State) (a n v : Nat) : (s.store a n v).hall = s.hall := rfl
@[simp] theorem store_safe (s : State) (a n v : Nat) : (s.store a n v).safe = s.safe := rfl
@[simp] theorem store_axd (s : State) (a n v : Nat) : (s.store a n v).axd = s.axd := rfl
@[simp] theorem store_mod (s : State) (a n v : Nat) : (s.store a n v).mod = s.mod := rfl
@[simp] theorem store_adc (s : State) (a n v : Nat) : (s.store a n v).adc = s.adc := rfl
@[simp] theorem store_eng (s : State) (a n v : Nat) : (s.store a n v).eng = s.eng := rfl
@[simp] theorem store_log (s : State) (a n v : Nat) : (s.store a n v).log = s.log := rfl
@[simp] theorem store_ser (s : State) (a n v : Nat) : (s.store a n v).ser = s.ser := rfl
@[simp] theorem store_ocl (s : State) (a n v : Nat) : (s.store a n v).ocl = s.ocl := rfl
@[simp] theorem store_pods (s : State) (a n v : Nat) : (s.store a n v).pods = s.pods := rfl
@[simp] theorem store_ring (s : State) (a n v : Nat) : (s.store a n v).ring = s.ring := rfl
@[simp] theorem store_twin (s : State) (a n v : Nat) : (s.store a n v).twin = s.twin := rfl
@[simp] theorem store_nvm (s : State) (a n v : Nat) : (s.store a n v).nvm = s.nvm := rfl
@[simp] theorem store_upd (s : State) (a n v : Nat) : (s.store a n v).upd = s.upd := rfl
@[simp] theorem store_pwr (s : State) (a n v : Nat) : (s.store a n v).pwr = s.pwr := rfl
@[simp] theorem store_host (s : State) (a n v : Nat) : (s.store a n v).host = s.host := rfl
@[simp] theorem store_tx (s : State) (a n v : Nat) : (s.store a n v).tx = s.tx := rfl
@[simp] theorem store_free (s : State) (a n v : Nat) : (s.store a n v).free = s.free := rfl

@[simp] theorem send_pending (s : State) (m : OutMsg) : (s.send m).pending = s.pending := rfl
@[simp] theorem send_regs (s : State) (m : OutMsg) : (s.send m).regs = s.regs := rfl
@[simp] theorem send_mem (s : State) (m : OutMsg) : (s.send m).mem = s.mem := rfl
@[simp] theorem send_faults (s : State) (m : OutMsg) : (s.send m).faults = s.faults := rfl
@[simp] theorem send_bus (s : State) (m : OutMsg) : (s.send m).bus = s.bus := rfl
@[simp] theorem send_sys (s : State) (m : OutMsg) : (s.send m).sys = s.sys := rfl
@[simp] theorem send_chrono (s : State) (m : OutMsg) : (s.send m).chrono = s.chrono := rfl
@[simp] theorem send_sext (s : State) (m : OutMsg) : (s.send m).sext = s.sext := rfl
@[simp] theorem send_cmp (s : State) (m : OutMsg) : (s.send m).cmp = s.cmp := rfl
@[simp] theorem send_hall (s : State) (m : OutMsg) : (s.send m).hall = s.hall := rfl
@[simp] theorem send_safe (s : State) (m : OutMsg) : (s.send m).safe = s.safe := rfl
@[simp] theorem send_axd (s : State) (m : OutMsg) : (s.send m).axd = s.axd := rfl
@[simp] theorem send_mod (s : State) (m : OutMsg) : (s.send m).mod = s.mod := rfl
@[simp] theorem send_adc (s : State) (m : OutMsg) : (s.send m).adc = s.adc := rfl
@[simp] theorem send_eng (s : State) (m : OutMsg) : (s.send m).eng = s.eng := rfl
@[simp] theorem send_log (s : State) (m : OutMsg) : (s.send m).log = s.log := rfl
@[simp] theorem send_ser (s : State) (m : OutMsg) : (s.send m).ser = s.ser := rfl
@[simp] theorem send_ocl (s : State) (m : OutMsg) : (s.send m).ocl = s.ocl := rfl
@[simp] theorem send_pods (s : State) (m : OutMsg) : (s.send m).pods = s.pods := rfl
@[simp] theorem send_ring (s : State) (m : OutMsg) : (s.send m).ring = s.ring := rfl
@[simp] theorem send_twin (s : State) (m : OutMsg) : (s.send m).twin = s.twin := rfl
@[simp] theorem send_nvm (s : State) (m : OutMsg) : (s.send m).nvm = s.nvm := rfl
@[simp] theorem send_upd (s : State) (m : OutMsg) : (s.send m).upd = s.upd := rfl
@[simp] theorem send_pwr (s : State) (m : OutMsg) : (s.send m).pwr = s.pwr := rfl
@[simp] theorem send_host (s : State) (m : OutMsg) : (s.send m).host = s.host := rfl
@[simp] theorem send_free (s : State) (m : OutMsg) : (s.send m).free = s.free := rfl

@[simp] theorem sendAll_pending (s : State) (l : List OutMsg) : (s.sendAll l).pending = s.pending := rfl
@[simp] theorem sendAll_regs (s : State) (l : List OutMsg) : (s.sendAll l).regs = s.regs := rfl
@[simp] theorem sendAll_mem (s : State) (l : List OutMsg) : (s.sendAll l).mem = s.mem := rfl
@[simp] theorem sendAll_faults (s : State) (l : List OutMsg) : (s.sendAll l).faults = s.faults := rfl
@[simp] theorem sendAll_bus (s : State) (l : List OutMsg) : (s.sendAll l).bus = s.bus := rfl
@[simp] theorem sendAll_sys (s : State) (l : List OutMsg) : (s.sendAll l).sys = s.sys := rfl
@[simp] theorem sendAll_chrono (s : State) (l : List OutMsg) : (s.sendAll l).chrono = s.chrono := rfl
@[simp] theorem sendAll_sext (s : State) (l : List OutMsg) : (s.sendAll l).sext = s.sext := rfl
@[simp] theorem sendAll_cmp (s : State) (l : List OutMsg) : (s.sendAll l).cmp = s.cmp := rfl
@[simp] theorem sendAll_hall (s : State) (l : List OutMsg) : (s.sendAll l).hall = s.hall := rfl
@[simp] theorem sendAll_safe (s : State) (l : List OutMsg) : (s.sendAll l).safe = s.safe := rfl
@[simp] theorem sendAll_axd (s : State) (l : List OutMsg) : (s.sendAll l).axd = s.axd := rfl
@[simp] theorem sendAll_mod (s : State) (l : List OutMsg) : (s.sendAll l).mod = s.mod := rfl
@[simp] theorem sendAll_adc (s : State) (l : List OutMsg) : (s.sendAll l).adc = s.adc := rfl
@[simp] theorem sendAll_eng (s : State) (l : List OutMsg) : (s.sendAll l).eng = s.eng := rfl
@[simp] theorem sendAll_log (s : State) (l : List OutMsg) : (s.sendAll l).log = s.log := rfl
@[simp] theorem sendAll_ser (s : State) (l : List OutMsg) : (s.sendAll l).ser = s.ser := rfl
@[simp] theorem sendAll_ocl (s : State) (l : List OutMsg) : (s.sendAll l).ocl = s.ocl := rfl
@[simp] theorem sendAll_pods (s : State) (l : List OutMsg) : (s.sendAll l).pods = s.pods := rfl
@[simp] theorem sendAll_ring (s : State) (l : List OutMsg) : (s.sendAll l).ring = s.ring := rfl
@[simp] theorem sendAll_twin (s : State) (l : List OutMsg) : (s.sendAll l).twin = s.twin := rfl
@[simp] theorem sendAll_nvm (s : State) (l : List OutMsg) : (s.sendAll l).nvm = s.nvm := rfl
@[simp] theorem sendAll_upd (s : State) (l : List OutMsg) : (s.sendAll l).upd = s.upd := rfl
@[simp] theorem sendAll_pwr (s : State) (l : List OutMsg) : (s.sendAll l).pwr = s.pwr := rfl
@[simp] theorem sendAll_host (s : State) (l : List OutMsg) : (s.sendAll l).host = s.host := rfl
@[simp] theorem sendAll_free (s : State) (l : List OutMsg) : (s.sendAll l).free = s.free := rfl

@[simp] theorem setV_pending (s : State) (r n : Nat) (v : BitVec 16) : (s.setV r n v).pending = s.pending := rfl
@[simp] theorem setV_regs (s : State) (r n : Nat) (v : BitVec 16) : (s.setV r n v).regs = s.regs := rfl
@[simp] theorem setV_mem (s : State) (r n : Nat) (v : BitVec 16) : (s.setV r n v).mem = s.mem := rfl
@[simp] theorem setV_faults (s : State) (r n : Nat) (v : BitVec 16) : (s.setV r n v).faults = s.faults := rfl
@[simp] theorem setV_bus (s : State) (r n : Nat) (v : BitVec 16) : (s.setV r n v).bus = s.bus := rfl
@[simp] theorem setV_sys (s : State) (r n : Nat) (v : BitVec 16) : (s.setV r n v).sys = s.sys := rfl
@[simp] theorem setV_chrono (s : State) (r n : Nat) (v : BitVec 16) : (s.setV r n v).chrono = s.chrono := rfl
@[simp] theorem setV_sext (s : State) (r n : Nat) (v : BitVec 16) : (s.setV r n v).sext = s.sext := rfl
@[simp] theorem setV_cmp (s : State) (r n : Nat) (v : BitVec 16) : (s.setV r n v).cmp = s.cmp := rfl
@[simp] theorem setV_hall (s : State) (r n : Nat) (v : BitVec 16) : (s.setV r n v).hall = s.hall := rfl
@[simp] theorem setV_safe (s : State) (r n : Nat) (v : BitVec 16) : (s.setV r n v).safe = s.safe := rfl
@[simp] theorem setV_axd (s : State) (r n : Nat) (v : BitVec 16) : (s.setV r n v).axd = s.axd := rfl
@[simp] theorem setV_mod (s : State) (r n : Nat) (v : BitVec 16) : (s.setV r n v).mod = s.mod := rfl
@[simp] theorem setV_adc (s : State) (r n : Nat) (v : BitVec 16) : (s.setV r n v).adc = s.adc := rfl
@[simp] theorem setV_log (s : State) (r n : Nat) (v : BitVec 16) : (s.setV r n v).log = s.log := rfl
@[simp] theorem setV_ser (s : State) (r n : Nat) (v : BitVec 16) : (s.setV r n v).ser = s.ser := rfl
@[simp] theorem setV_ocl (s : State) (r n : Nat) (v : BitVec 16) : (s.setV r n v).ocl = s.ocl := rfl
@[simp] theorem setV_pods (s : State) (r n : Nat) (v : BitVec 16) : (s.setV r n v).pods = s.pods := rfl
@[simp] theorem setV_ring (s : State) (r n : Nat) (v : BitVec 16) : (s.setV r n v).ring = s.ring := rfl
@[simp] theorem setV_twin (s : State) (r n : Nat) (v : BitVec 16) : (s.setV r n v).twin = s.twin := rfl
@[simp] theorem setV_nvm (s : State) (r n : Nat) (v : BitVec 16) : (s.setV r n v).nvm = s.nvm := rfl
@[simp] theorem setV_upd (s : State) (r n : Nat) (v : BitVec 16) : (s.setV r n v).upd = s.upd := rfl
@[simp] theorem setV_pwr (s : State) (r n : Nat) (v : BitVec 16) : (s.setV r n v).pwr = s.pwr := rfl
@[simp] theorem setV_host (s : State) (r n : Nat) (v : BitVec 16) : (s.setV r n v).host = s.host := rfl
@[simp] theorem setV_tx (s : State) (r n : Nat) (v : BitVec 16) : (s.setV r n v).tx = s.tx := rfl
@[simp] theorem setV_free (s : State) (r n : Nat) (v : BitVec 16) : (s.setV r n v).free = s.free := rfl

@[simp] theorem setA_pending (s : State) (r n : Nat) (v : BitVec 40) : (s.setA r n v).pending = s.pending := rfl
@[simp] theorem setA_regs (s : State) (r n : Nat) (v : BitVec 40) : (s.setA r n v).regs = s.regs := rfl
@[simp] theorem setA_mem (s : State) (r n : Nat) (v : BitVec 40) : (s.setA r n v).mem = s.mem := rfl
@[simp] theorem setA_faults (s : State) (r n : Nat) (v : BitVec 40) : (s.setA r n v).faults = s.faults := rfl
@[simp] theorem setA_bus (s : State) (r n : Nat) (v : BitVec 40) : (s.setA r n v).bus = s.bus := rfl
@[simp] theorem setA_sys (s : State) (r n : Nat) (v : BitVec 40) : (s.setA r n v).sys = s.sys := rfl
@[simp] theorem setA_chrono (s : State) (r n : Nat) (v : BitVec 40) : (s.setA r n v).chrono = s.chrono := rfl
@[simp] theorem setA_sext (s : State) (r n : Nat) (v : BitVec 40) : (s.setA r n v).sext = s.sext := rfl
@[simp] theorem setA_cmp (s : State) (r n : Nat) (v : BitVec 40) : (s.setA r n v).cmp = s.cmp := rfl
@[simp] theorem setA_hall (s : State) (r n : Nat) (v : BitVec 40) : (s.setA r n v).hall = s.hall := rfl
@[simp] theorem setA_safe (s : State) (r n : Nat) (v : BitVec 40) : (s.setA r n v).safe = s.safe := rfl
@[simp] theorem setA_axd (s : State) (r n : Nat) (v : BitVec 40) : (s.setA r n v).axd = s.axd := rfl
@[simp] theorem setA_mod (s : State) (r n : Nat) (v : BitVec 40) : (s.setA r n v).mod = s.mod := rfl
@[simp] theorem setA_adc (s : State) (r n : Nat) (v : BitVec 40) : (s.setA r n v).adc = s.adc := rfl
@[simp] theorem setA_log (s : State) (r n : Nat) (v : BitVec 40) : (s.setA r n v).log = s.log := rfl
@[simp] theorem setA_ser (s : State) (r n : Nat) (v : BitVec 40) : (s.setA r n v).ser = s.ser := rfl
@[simp] theorem setA_ocl (s : State) (r n : Nat) (v : BitVec 40) : (s.setA r n v).ocl = s.ocl := rfl
@[simp] theorem setA_pods (s : State) (r n : Nat) (v : BitVec 40) : (s.setA r n v).pods = s.pods := rfl
@[simp] theorem setA_ring (s : State) (r n : Nat) (v : BitVec 40) : (s.setA r n v).ring = s.ring := rfl
@[simp] theorem setA_twin (s : State) (r n : Nat) (v : BitVec 40) : (s.setA r n v).twin = s.twin := rfl
@[simp] theorem setA_nvm (s : State) (r n : Nat) (v : BitVec 40) : (s.setA r n v).nvm = s.nvm := rfl
@[simp] theorem setA_upd (s : State) (r n : Nat) (v : BitVec 40) : (s.setA r n v).upd = s.upd := rfl
@[simp] theorem setA_pwr (s : State) (r n : Nat) (v : BitVec 40) : (s.setA r n v).pwr = s.pwr := rfl
@[simp] theorem setA_host (s : State) (r n : Nat) (v : BitVec 40) : (s.setA r n v).host = s.host := rfl
@[simp] theorem setA_tx (s : State) (r n : Nat) (v : BitVec 40) : (s.setA r n v).tx = s.tx := rfl
@[simp] theorem setA_free (s : State) (r n : Nat) (v : BitVec 40) : (s.setA r n v).free = s.free := rfl

@[simp] theorem setS_pending (s : State) (r : Nat) (v : Word) : (s.setS r v).pending = s.pending := rfl
@[simp] theorem setS_regs (s : State) (r : Nat) (v : Word) : (s.setS r v).regs = s.regs := rfl
@[simp] theorem setS_mem (s : State) (r : Nat) (v : Word) : (s.setS r v).mem = s.mem := rfl
@[simp] theorem setS_faults (s : State) (r : Nat) (v : Word) : (s.setS r v).faults = s.faults := rfl
@[simp] theorem setS_bus (s : State) (r : Nat) (v : Word) : (s.setS r v).bus = s.bus := rfl
@[simp] theorem setS_sys (s : State) (r : Nat) (v : Word) : (s.setS r v).sys = s.sys := rfl
@[simp] theorem setS_chrono (s : State) (r : Nat) (v : Word) : (s.setS r v).chrono = s.chrono := rfl
@[simp] theorem setS_sext (s : State) (r : Nat) (v : Word) : (s.setS r v).sext = s.sext := rfl
@[simp] theorem setS_cmp (s : State) (r : Nat) (v : Word) : (s.setS r v).cmp = s.cmp := rfl
@[simp] theorem setS_hall (s : State) (r : Nat) (v : Word) : (s.setS r v).hall = s.hall := rfl
@[simp] theorem setS_safe (s : State) (r : Nat) (v : Word) : (s.setS r v).safe = s.safe := rfl
@[simp] theorem setS_axd (s : State) (r : Nat) (v : Word) : (s.setS r v).axd = s.axd := rfl
@[simp] theorem setS_mod (s : State) (r : Nat) (v : Word) : (s.setS r v).mod = s.mod := rfl
@[simp] theorem setS_adc (s : State) (r : Nat) (v : Word) : (s.setS r v).adc = s.adc := rfl
@[simp] theorem setS_log (s : State) (r : Nat) (v : Word) : (s.setS r v).log = s.log := rfl
@[simp] theorem setS_ser (s : State) (r : Nat) (v : Word) : (s.setS r v).ser = s.ser := rfl
@[simp] theorem setS_ocl (s : State) (r : Nat) (v : Word) : (s.setS r v).ocl = s.ocl := rfl
@[simp] theorem setS_pods (s : State) (r : Nat) (v : Word) : (s.setS r v).pods = s.pods := rfl
@[simp] theorem setS_ring (s : State) (r : Nat) (v : Word) : (s.setS r v).ring = s.ring := rfl
@[simp] theorem setS_twin (s : State) (r : Nat) (v : Word) : (s.setS r v).twin = s.twin := rfl
@[simp] theorem setS_nvm (s : State) (r : Nat) (v : Word) : (s.setS r v).nvm = s.nvm := rfl
@[simp] theorem setS_upd (s : State) (r : Nat) (v : Word) : (s.setS r v).upd = s.upd := rfl
@[simp] theorem setS_pwr (s : State) (r : Nat) (v : Word) : (s.setS r v).pwr = s.pwr := rfl
@[simp] theorem setS_host (s : State) (r : Nat) (v : Word) : (s.setS r v).host = s.host := rfl
@[simp] theorem setS_tx (s : State) (r : Nat) (v : Word) : (s.setS r v).tx = s.tx := rfl
@[simp] theorem setS_free (s : State) (r : Nat) (v : Word) : (s.setS r v).free = s.free := rfl

@[simp] theorem setK_pending (s : State) (r : Nat) (v : Word64) : (s.setK r v).pending = s.pending := by unfold State.setK; split <;> rfl
@[simp] theorem setK_regs (s : State) (r : Nat) (v : Word64) : (s.setK r v).regs = s.regs := by unfold State.setK; split <;> rfl
@[simp] theorem setK_mem (s : State) (r : Nat) (v : Word64) : (s.setK r v).mem = s.mem := by unfold State.setK; split <;> rfl
@[simp] theorem setK_faults (s : State) (r : Nat) (v : Word64) : (s.setK r v).faults = s.faults := by unfold State.setK; split <;> rfl
@[simp] theorem setK_bus (s : State) (r : Nat) (v : Word64) : (s.setK r v).bus = s.bus := by unfold State.setK; split <;> rfl
@[simp] theorem setK_sys (s : State) (r : Nat) (v : Word64) : (s.setK r v).sys = s.sys := by unfold State.setK; split <;> rfl
@[simp] theorem setK_chrono (s : State) (r : Nat) (v : Word64) : (s.setK r v).chrono = s.chrono := by unfold State.setK; split <;> rfl
@[simp] theorem setK_sext (s : State) (r : Nat) (v : Word64) : (s.setK r v).sext = s.sext := by unfold State.setK; split <;> rfl
@[simp] theorem setK_cmp (s : State) (r : Nat) (v : Word64) : (s.setK r v).cmp = s.cmp := by unfold State.setK; split <;> rfl
@[simp] theorem setK_hall (s : State) (r : Nat) (v : Word64) : (s.setK r v).hall = s.hall := by unfold State.setK; split <;> rfl
@[simp] theorem setK_safe (s : State) (r : Nat) (v : Word64) : (s.setK r v).safe = s.safe := by unfold State.setK; split <;> rfl
@[simp] theorem setK_axd (s : State) (r : Nat) (v : Word64) : (s.setK r v).axd = s.axd := by unfold State.setK; split <;> rfl
@[simp] theorem setK_mod (s : State) (r : Nat) (v : Word64) : (s.setK r v).mod = s.mod := by unfold State.setK; split <;> rfl
@[simp] theorem setK_adc (s : State) (r : Nat) (v : Word64) : (s.setK r v).adc = s.adc := by unfold State.setK; split <;> rfl
@[simp] theorem setK_log (s : State) (r : Nat) (v : Word64) : (s.setK r v).log = s.log := by unfold State.setK; split <;> rfl
@[simp] theorem setK_ser (s : State) (r : Nat) (v : Word64) : (s.setK r v).ser = s.ser := by unfold State.setK; split <;> rfl
@[simp] theorem setK_ocl (s : State) (r : Nat) (v : Word64) : (s.setK r v).ocl = s.ocl := by unfold State.setK; split <;> rfl
@[simp] theorem setK_pods (s : State) (r : Nat) (v : Word64) : (s.setK r v).pods = s.pods := by unfold State.setK; split <;> rfl
@[simp] theorem setK_ring (s : State) (r : Nat) (v : Word64) : (s.setK r v).ring = s.ring := by unfold State.setK; split <;> rfl
@[simp] theorem setK_twin (s : State) (r : Nat) (v : Word64) : (s.setK r v).twin = s.twin := by unfold State.setK; split <;> rfl
@[simp] theorem setK_nvm (s : State) (r : Nat) (v : Word64) : (s.setK r v).nvm = s.nvm := by unfold State.setK; split <;> rfl
@[simp] theorem setK_upd (s : State) (r : Nat) (v : Word64) : (s.setK r v).upd = s.upd := by unfold State.setK; split <;> rfl
@[simp] theorem setK_pwr (s : State) (r : Nat) (v : Word64) : (s.setK r v).pwr = s.pwr := by unfold State.setK; split <;> rfl
@[simp] theorem setK_host (s : State) (r : Nat) (v : Word64) : (s.setK r v).host = s.host := by unfold State.setK; split <;> rfl
@[simp] theorem setK_tx (s : State) (r : Nat) (v : Word64) : (s.setK r v).tx = s.tx := by unfold State.setK; split <;> rfl
@[simp] theorem setK_free (s : State) (r : Nat) (v : Word64) : (s.setK r v).free = s.free := by unfold State.setK; split <;> rfl

@[simp] theorem push_pending (s : State) (w : Wb) : (s.push w).pending = s.pending := rfl
@[simp] theorem push_regs (s : State) (w : Wb) : (s.push w).regs = s.regs := rfl
@[simp] theorem push_mem (s : State) (w : Wb) : (s.push w).mem = s.mem := rfl
@[simp] theorem push_faults (s : State) (w : Wb) : (s.push w).faults = s.faults := rfl
@[simp] theorem push_bus (s : State) (w : Wb) : (s.push w).bus = s.bus := rfl
@[simp] theorem push_sys (s : State) (w : Wb) : (s.push w).sys = s.sys := rfl
@[simp] theorem push_chrono (s : State) (w : Wb) : (s.push w).chrono = s.chrono := rfl
@[simp] theorem push_sext (s : State) (w : Wb) : (s.push w).sext = s.sext := rfl
@[simp] theorem push_cmp (s : State) (w : Wb) : (s.push w).cmp = s.cmp := rfl
@[simp] theorem push_hall (s : State) (w : Wb) : (s.push w).hall = s.hall := rfl
@[simp] theorem push_safe (s : State) (w : Wb) : (s.push w).safe = s.safe := rfl
@[simp] theorem push_axd (s : State) (w : Wb) : (s.push w).axd = s.axd := rfl
@[simp] theorem push_mod (s : State) (w : Wb) : (s.push w).mod = s.mod := rfl
@[simp] theorem push_adc (s : State) (w : Wb) : (s.push w).adc = s.adc := rfl
@[simp] theorem push_log (s : State) (w : Wb) : (s.push w).log = s.log := rfl
@[simp] theorem push_ser (s : State) (w : Wb) : (s.push w).ser = s.ser := rfl
@[simp] theorem push_ocl (s : State) (w : Wb) : (s.push w).ocl = s.ocl := rfl
@[simp] theorem push_pods (s : State) (w : Wb) : (s.push w).pods = s.pods := rfl
@[simp] theorem push_ring (s : State) (w : Wb) : (s.push w).ring = s.ring := rfl
@[simp] theorem push_twin (s : State) (w : Wb) : (s.push w).twin = s.twin := rfl
@[simp] theorem push_nvm (s : State) (w : Wb) : (s.push w).nvm = s.nvm := rfl
@[simp] theorem push_upd (s : State) (w : Wb) : (s.push w).upd = s.upd := rfl
@[simp] theorem push_pwr (s : State) (w : Wb) : (s.push w).pwr = s.pwr := rfl
@[simp] theorem push_host (s : State) (w : Wb) : (s.push w).host = s.host := rfl
@[simp] theorem push_tx (s : State) (w : Wb) : (s.push w).tx = s.tx := rfl
@[simp] theorem push_free (s : State) (w : Wb) : (s.push w).free = s.free := rfl

@[simp] theorem setSrc_pending (s : State) (q : Src) (w : SrcWord) : (s.setSrc q w).pending = s.pending := rfl
@[simp] theorem setSrc_regs (s : State) (q : Src) (w : SrcWord) : (s.setSrc q w).regs = s.regs := rfl
@[simp] theorem setSrc_mem (s : State) (q : Src) (w : SrcWord) : (s.setSrc q w).mem = s.mem := rfl
@[simp] theorem setSrc_bus (s : State) (q : Src) (w : SrcWord) : (s.setSrc q w).bus = s.bus := rfl
@[simp] theorem setSrc_sys (s : State) (q : Src) (w : SrcWord) : (s.setSrc q w).sys = s.sys := rfl
@[simp] theorem setSrc_chrono (s : State) (q : Src) (w : SrcWord) : (s.setSrc q w).chrono = s.chrono := rfl
@[simp] theorem setSrc_sext (s : State) (q : Src) (w : SrcWord) : (s.setSrc q w).sext = s.sext := rfl
@[simp] theorem setSrc_cmp (s : State) (q : Src) (w : SrcWord) : (s.setSrc q w).cmp = s.cmp := rfl
@[simp] theorem setSrc_hall (s : State) (q : Src) (w : SrcWord) : (s.setSrc q w).hall = s.hall := rfl
@[simp] theorem setSrc_safe (s : State) (q : Src) (w : SrcWord) : (s.setSrc q w).safe = s.safe := rfl
@[simp] theorem setSrc_axd (s : State) (q : Src) (w : SrcWord) : (s.setSrc q w).axd = s.axd := rfl
@[simp] theorem setSrc_mod (s : State) (q : Src) (w : SrcWord) : (s.setSrc q w).mod = s.mod := rfl
@[simp] theorem setSrc_adc (s : State) (q : Src) (w : SrcWord) : (s.setSrc q w).adc = s.adc := rfl
@[simp] theorem setSrc_eng (s : State) (q : Src) (w : SrcWord) : (s.setSrc q w).eng = s.eng := rfl
@[simp] theorem setSrc_log (s : State) (q : Src) (w : SrcWord) : (s.setSrc q w).log = s.log := rfl
@[simp] theorem setSrc_ser (s : State) (q : Src) (w : SrcWord) : (s.setSrc q w).ser = s.ser := rfl
@[simp] theorem setSrc_ocl (s : State) (q : Src) (w : SrcWord) : (s.setSrc q w).ocl = s.ocl := rfl
@[simp] theorem setSrc_pods (s : State) (q : Src) (w : SrcWord) : (s.setSrc q w).pods = s.pods := rfl
@[simp] theorem setSrc_ring (s : State) (q : Src) (w : SrcWord) : (s.setSrc q w).ring = s.ring := rfl
@[simp] theorem setSrc_twin (s : State) (q : Src) (w : SrcWord) : (s.setSrc q w).twin = s.twin := rfl
@[simp] theorem setSrc_nvm (s : State) (q : Src) (w : SrcWord) : (s.setSrc q w).nvm = s.nvm := rfl
@[simp] theorem setSrc_upd (s : State) (q : Src) (w : SrcWord) : (s.setSrc q w).upd = s.upd := rfl
@[simp] theorem setSrc_pwr (s : State) (q : Src) (w : SrcWord) : (s.setSrc q w).pwr = s.pwr := rfl
@[simp] theorem setSrc_host (s : State) (q : Src) (w : SrcWord) : (s.setSrc q w).host = s.host := rfl
@[simp] theorem setSrc_tx (s : State) (q : Src) (w : SrcWord) : (s.setSrc q w).tx = s.tx := rfl
@[simp] theorem setSrc_free (s : State) (q : Src) (w : SrcWord) : (s.setSrc q w).free = s.free := rfl

@[simp] theorem setCap_pending (s : State) (b : Nat) (c : Capture) : (s.setCap b c).pending = s.pending := rfl
@[simp] theorem setCap_regs (s : State) (b : Nat) (c : Capture) : (s.setCap b c).regs = s.regs := rfl
@[simp] theorem setCap_mem (s : State) (b : Nat) (c : Capture) : (s.setCap b c).mem = s.mem := rfl
@[simp] theorem setCap_bus (s : State) (b : Nat) (c : Capture) : (s.setCap b c).bus = s.bus := rfl
@[simp] theorem setCap_sys (s : State) (b : Nat) (c : Capture) : (s.setCap b c).sys = s.sys := rfl
@[simp] theorem setCap_chrono (s : State) (b : Nat) (c : Capture) : (s.setCap b c).chrono = s.chrono := rfl
@[simp] theorem setCap_sext (s : State) (b : Nat) (c : Capture) : (s.setCap b c).sext = s.sext := rfl
@[simp] theorem setCap_cmp (s : State) (b : Nat) (c : Capture) : (s.setCap b c).cmp = s.cmp := rfl
@[simp] theorem setCap_hall (s : State) (b : Nat) (c : Capture) : (s.setCap b c).hall = s.hall := rfl
@[simp] theorem setCap_safe (s : State) (b : Nat) (c : Capture) : (s.setCap b c).safe = s.safe := rfl
@[simp] theorem setCap_axd (s : State) (b : Nat) (c : Capture) : (s.setCap b c).axd = s.axd := rfl
@[simp] theorem setCap_mod (s : State) (b : Nat) (c : Capture) : (s.setCap b c).mod = s.mod := rfl
@[simp] theorem setCap_adc (s : State) (b : Nat) (c : Capture) : (s.setCap b c).adc = s.adc := rfl
@[simp] theorem setCap_eng (s : State) (b : Nat) (c : Capture) : (s.setCap b c).eng = s.eng := rfl
@[simp] theorem setCap_log (s : State) (b : Nat) (c : Capture) : (s.setCap b c).log = s.log := rfl
@[simp] theorem setCap_ser (s : State) (b : Nat) (c : Capture) : (s.setCap b c).ser = s.ser := rfl
@[simp] theorem setCap_ocl (s : State) (b : Nat) (c : Capture) : (s.setCap b c).ocl = s.ocl := rfl
@[simp] theorem setCap_pods (s : State) (b : Nat) (c : Capture) : (s.setCap b c).pods = s.pods := rfl
@[simp] theorem setCap_ring (s : State) (b : Nat) (c : Capture) : (s.setCap b c).ring = s.ring := rfl
@[simp] theorem setCap_twin (s : State) (b : Nat) (c : Capture) : (s.setCap b c).twin = s.twin := rfl
@[simp] theorem setCap_nvm (s : State) (b : Nat) (c : Capture) : (s.setCap b c).nvm = s.nvm := rfl
@[simp] theorem setCap_upd (s : State) (b : Nat) (c : Capture) : (s.setCap b c).upd = s.upd := rfl
@[simp] theorem setCap_pwr (s : State) (b : Nat) (c : Capture) : (s.setCap b c).pwr = s.pwr := rfl
@[simp] theorem setCap_host (s : State) (b : Nat) (c : Capture) : (s.setCap b c).host = s.host := rfl
@[simp] theorem setCap_tx (s : State) (b : Nat) (c : Capture) : (s.setCap b c).tx = s.tx := rfl
@[simp] theorem setCap_free (s : State) (b : Nat) (c : Capture) : (s.setCap b c).free = s.free := rfl

@[simp] theorem setChan_pending (s : State) (c : Nat) (x : ChSt) : (s.setChan c x).pending = s.pending := rfl
@[simp] theorem setChan_regs (s : State) (c : Nat) (x : ChSt) : (s.setChan c x).regs = s.regs := rfl
@[simp] theorem setChan_mem (s : State) (c : Nat) (x : ChSt) : (s.setChan c x).mem = s.mem := rfl
@[simp] theorem setChan_faults (s : State) (c : Nat) (x : ChSt) : (s.setChan c x).faults = s.faults := rfl
@[simp] theorem setChan_bus (s : State) (c : Nat) (x : ChSt) : (s.setChan c x).bus = s.bus := rfl
@[simp] theorem setChan_sys (s : State) (c : Nat) (x : ChSt) : (s.setChan c x).sys = s.sys := rfl
@[simp] theorem setChan_chrono (s : State) (c : Nat) (x : ChSt) : (s.setChan c x).chrono = s.chrono := rfl
@[simp] theorem setChan_sext (s : State) (c : Nat) (x : ChSt) : (s.setChan c x).sext = s.sext := rfl
@[simp] theorem setChan_cmp (s : State) (c : Nat) (x : ChSt) : (s.setChan c x).cmp = s.cmp := rfl
@[simp] theorem setChan_hall (s : State) (c : Nat) (x : ChSt) : (s.setChan c x).hall = s.hall := rfl
@[simp] theorem setChan_safe (s : State) (c : Nat) (x : ChSt) : (s.setChan c x).safe = s.safe := rfl
@[simp] theorem setChan_axd (s : State) (c : Nat) (x : ChSt) : (s.setChan c x).axd = s.axd := rfl
@[simp] theorem setChan_adc (s : State) (c : Nat) (x : ChSt) : (s.setChan c x).adc = s.adc := rfl
@[simp] theorem setChan_eng (s : State) (c : Nat) (x : ChSt) : (s.setChan c x).eng = s.eng := rfl
@[simp] theorem setChan_log (s : State) (c : Nat) (x : ChSt) : (s.setChan c x).log = s.log := rfl
@[simp] theorem setChan_ser (s : State) (c : Nat) (x : ChSt) : (s.setChan c x).ser = s.ser := rfl
@[simp] theorem setChan_ocl (s : State) (c : Nat) (x : ChSt) : (s.setChan c x).ocl = s.ocl := rfl
@[simp] theorem setChan_pods (s : State) (c : Nat) (x : ChSt) : (s.setChan c x).pods = s.pods := rfl
@[simp] theorem setChan_ring (s : State) (c : Nat) (x : ChSt) : (s.setChan c x).ring = s.ring := rfl
@[simp] theorem setChan_twin (s : State) (c : Nat) (x : ChSt) : (s.setChan c x).twin = s.twin := rfl
@[simp] theorem setChan_nvm (s : State) (c : Nat) (x : ChSt) : (s.setChan c x).nvm = s.nvm := rfl
@[simp] theorem setChan_upd (s : State) (c : Nat) (x : ChSt) : (s.setChan c x).upd = s.upd := rfl
@[simp] theorem setChan_pwr (s : State) (c : Nat) (x : ChSt) : (s.setChan c x).pwr = s.pwr := rfl
@[simp] theorem setChan_host (s : State) (c : Nat) (x : ChSt) : (s.setChan c x).host = s.host := rfl
@[simp] theorem setChan_tx (s : State) (c : Nat) (x : ChSt) : (s.setChan c x).tx = s.tx := rfl
@[simp] theorem setChan_free (s : State) (c : Nat) (x : ChSt) : (s.setChan c x).free = s.free := rfl

@[simp] theorem served_pending (s : State) (k : Nat) (m : Master) : (s.served k m).pending = s.pending := by unfold State.served; split <;> rfl
@[simp] theorem served_regs (s : State) (k : Nat) (m : Master) : (s.served k m).regs = s.regs := by unfold State.served; split <;> rfl
@[simp] theorem served_mem (s : State) (k : Nat) (m : Master) : (s.served k m).mem = s.mem := by unfold State.served; split <;> rfl
@[simp] theorem served_faults (s : State) (k : Nat) (m : Master) : (s.served k m).faults = s.faults := by unfold State.served; split <;> rfl
@[simp] theorem served_sys (s : State) (k : Nat) (m : Master) : (s.served k m).sys = s.sys := by unfold State.served; split <;> rfl
@[simp] theorem served_chrono (s : State) (k : Nat) (m : Master) : (s.served k m).chrono = s.chrono := by unfold State.served; split <;> rfl
@[simp] theorem served_sext (s : State) (k : Nat) (m : Master) : (s.served k m).sext = s.sext := by unfold State.served; split <;> rfl
@[simp] theorem served_cmp (s : State) (k : Nat) (m : Master) : (s.served k m).cmp = s.cmp := by unfold State.served; split <;> rfl
@[simp] theorem served_hall (s : State) (k : Nat) (m : Master) : (s.served k m).hall = s.hall := by unfold State.served; split <;> rfl
@[simp] theorem served_safe (s : State) (k : Nat) (m : Master) : (s.served k m).safe = s.safe := by unfold State.served; split <;> rfl
@[simp] theorem served_axd (s : State) (k : Nat) (m : Master) : (s.served k m).axd = s.axd := by unfold State.served; split <;> rfl
@[simp] theorem served_mod (s : State) (k : Nat) (m : Master) : (s.served k m).mod = s.mod := by unfold State.served; split <;> rfl
@[simp] theorem served_adc (s : State) (k : Nat) (m : Master) : (s.served k m).adc = s.adc := by unfold State.served; split <;> rfl
@[simp] theorem served_eng (s : State) (k : Nat) (m : Master) : (s.served k m).eng = s.eng := by unfold State.served; split <;> rfl
@[simp] theorem served_log (s : State) (k : Nat) (m : Master) : (s.served k m).log = s.log := by unfold State.served; split <;> rfl
@[simp] theorem served_ser (s : State) (k : Nat) (m : Master) : (s.served k m).ser = s.ser := by unfold State.served; split <;> rfl
@[simp] theorem served_ocl (s : State) (k : Nat) (m : Master) : (s.served k m).ocl = s.ocl := by unfold State.served; split <;> rfl
@[simp] theorem served_pods (s : State) (k : Nat) (m : Master) : (s.served k m).pods = s.pods := by unfold State.served; split <;> rfl
@[simp] theorem served_ring (s : State) (k : Nat) (m : Master) : (s.served k m).ring = s.ring := by unfold State.served; split <;> rfl
@[simp] theorem served_twin (s : State) (k : Nat) (m : Master) : (s.served k m).twin = s.twin := by unfold State.served; split <;> rfl
@[simp] theorem served_nvm (s : State) (k : Nat) (m : Master) : (s.served k m).nvm = s.nvm := by unfold State.served; split <;> rfl
@[simp] theorem served_upd (s : State) (k : Nat) (m : Master) : (s.served k m).upd = s.upd := by unfold State.served; split <;> rfl
@[simp] theorem served_pwr (s : State) (k : Nat) (m : Master) : (s.served k m).pwr = s.pwr := by unfold State.served; split <;> rfl
@[simp] theorem served_host (s : State) (k : Nat) (m : Master) : (s.served k m).host = s.host := by unfold State.served; split <;> rfl
@[simp] theorem served_tx (s : State) (k : Nat) (m : Master) : (s.served k m).tx = s.tx := by unfold State.served; split <;> rfl
@[simp] theorem served_free (s : State) (k : Nat) (m : Master) : (s.served k m).free = s.free := by unfold State.served; split <;> rfl

end Sys2Proof.Machine
end

