-- ==== Sys2Proof/Laws/Registers.lean ====
section
/-! SUPPORT. Laws/Registers.lean: reads after writes of the tables by number, of registers and of fields. -/
namespace Sys2Proof.Machine

/-! ### Tables by number -/

theorem spGet_spIns {α : Type} (d : α) (m : List (Nat × α)) (k k' : Nat) (v : α) :
    spGet d (spIns m k v) k' = if k' = k then v else spGet d m k' := by
  induction m with
  | nil => simp [spIns, spGet]
  | cons e r ih =>
    obtain ⟨a, x⟩ := e
    simp only [spIns]
    by_cases h1 : k = a
    · subst h1; by_cases h : k' = k <;> simp [spGet, h]
    · rw [if_neg h1]
      by_cases h2 : k < a
      · rw [if_pos h2]; simp only [spGet]
      · rw [if_neg h2]
        simp only [spGet, ih]
        by_cases h : k' = a
        · subst h; simp [Ne.symm h1]
        · simp [h]

theorem spGet_spDel {α : Type} (d : α) (m : List (Nat × α)) (k k' : Nat) :
    spGet d (spDel m k) k' = if k' = k then d else spGet d m k' := by
  induction m with
  | nil => simp [spDel, spGet]
  | cons e r ih =>
    obtain ⟨a, x⟩ := e
    simp only [spDel] at ih ⊢
    rw [List.filter_cons]
    by_cases h1 : a = k
    · subst h1
      simp only [bne_self_eq_false, Bool.false_eq_true, if_false, ih, spGet]
      by_cases h : k' = a <;> simp [h]
    · have : (a != k) = true := by simpa using h1
      simp only [this, if_true, spGet, ih]
      by_cases h : k' = a
      · subst h; simp [h1]
      · simp [h]

/-- A table reads at a key what was put there, and at any other key what it read before. -/
theorem spGet_spPut {α : Type} [DecidableEq α] (d : α) (m : List (Nat × α)) (k k' : Nat) (v : α) :
    spGet d (spPut d m k v) k' = if k' = k then v else spGet d m k' := by
  unfold spPut
  by_cases h : v = d
  · rw [if_pos h, spGet_spDel, h]
  · rw [if_neg h, spGet_spIns]

/-- Putting at a key leaves reads of another key alone, whatever default they name. -/
theorem spGet_spPut_ne {α : Type} [DecidableEq α] (d d' : α) (m : List (Nat × α)) {k k' : Nat} (h : k' ≠ k) (v : α) :
    spGet d' (spPut d m k v) k' = spGet d' m k' := by
  unfold spPut
  by_cases hv : v = d
  · rw [if_pos hv, spGet_spDel, if_neg h]
  · rw [if_neg hv, spGet_spIns, if_neg h]

/-! ### Registers -/

@[simp] theorem reg_setReg_self (s : State) (a : Nat) (v : Word) : (s.setReg a v).reg a = v := by
  simp [State.reg, State.setReg, spGet_spPut]

theorem reg_setReg_ne (s : State) {a b : Nat} (h : b ≠ a) (v : Word) : (s.setReg a v).reg b = s.reg b :=
  spGet_spPut_ne _ _ _ h _

/-- A register reads what it was set to, any other what it read before. -/
theorem reg_setReg (s : State) (a b : Nat) (v : Word) : (s.setReg a v).reg b = if b = a then v else s.reg b := by
  by_cases h : b = a
  · subst h; simp
  · rw [reg_setReg_ne s h, if_neg h]

@[simp] theorem reg_setRegN_self (s : State) (a n : Nat) : (s.setRegN a n).reg a = BitVec.ofNat 32 n := reg_setReg_self ..

theorem reg_setRegN_ne (s : State) {a b : Nat} (h : b ≠ a) (n : Nat) : (s.setRegN a n).reg b = s.reg b := reg_setReg_ne s h _

theorem reg_set_ne (s : State) (f : Fld) {b : Nat} (h : b ≠ f.addr) (n : Nat) : (s.set f n).reg b = s.reg b := reg_setReg_ne s h _

/-- Reading a register looks at the register file alone. -/
theorem reg_congr {s t : State} (h : s.regs = t.regs) (a : Nat) : s.reg a = t.reg a := by simp [State.reg, h]

theorem get_congr {s t : State} (h : s.regs = t.regs) (f : Fld) : s.get f = t.get f := by simp [State.get, State.reg, h]

@[simp] theorem mark_reg (s : State) (a b : Nat) (m : Word) : (s.mark a m).reg b = s.reg b := reg_congr (by simp) b
@[simp] theorem mark_get (s : State) (a : Nat) (m : Word) (f : Fld) : (s.mark a m).get f = s.get f := get_congr (by simp) f
@[simp] theorem served_reg (s : State) (k : Nat) (m : Master) (b : Nat) : (s.served k m).reg b = s.reg b := reg_congr (by simp) b
@[simp] theorem served_get (s : State) (k : Nat) (m : Master) (f : Fld) : (s.served k m).get f = s.get f := get_congr (by simp) f

theorem reg_flag_ne (s : State) (f : Fld) {b : Nat} (h : b ≠ f.addr) : (s.flag f).reg b = s.reg b := by
  rw [State.flag, reg_set_ne _ _ h, mark_reg]

/-! ### Fields -/

theorem maskW_testBit (lo w i : Nat) : (maskW lo w).getLsbD i = (decide (i < 32) && (decide (lo ≤ i) && decide (i < lo + w))) := by
  simp only [maskW, BitVec.getLsbD_ofNat]
  by_cases hi : i < 32 <;> simp only [hi, decide_true, decide_false, Bool.true_and, Bool.false_and]
  rw [Nat.mul_comm, Nat.testBit_two_pow_mul]
  by_cases h : lo ≤ i
  · simp [h, Nat.testBit_two_pow_sub_one]; omega
  · simp [h]

theorem withFld_testBit (f : Fld) (v : Word) (n i : Nat) :
    (withFld f v n).getLsbD i = (decide (i < 32) && if f.lo ≤ i ∧ i < f.lo + f.width then n.testBit (i - f.lo) else v.getLsbD i) := by
  simp only [withFld, BitVec.getLsbD_or, BitVec.getLsbD_and, BitVec.getLsbD_not, maskW_testBit, BitVec.getLsbD_ofNat]
  by_cases hi : i < 32
  · simp only [hi, decide_true, Bool.true_and]
    rw [Nat.mul_comm, Nat.testBit_two_pow_mul, Nat.testBit_mod_two_pow]
    by_cases h1 : f.lo ≤ i
    · by_cases h2 : i < f.lo + f.width
      · have : i - f.lo < f.width := by omega
        simp [h1, h2, this]
      · have : ¬ i - f.lo < f.width := by omega
        simp [h1, h2, this]
    · simp [h1]
  · simp [hi]

theorem fldOf_testBit (f : Fld) (v : Word) (i : Nat) : (fldOf f v).testBit i = (decide (i < f.width) && v.getLsbD (f.lo + i)) := by
  simp only [fldOf, Nat.testBit_mod_two_pow, Nat.testBit_div_two_pow, BitVec.getLsbD]
  rw [Nat.add_comm]

/-- A field reads what it was set to. -/
theorem fldOf_withFld_self (f : Fld) (v : Word) (n : Nat) (h : f.lo + f.width ≤ 32) : fldOf f (withFld f v n) = n % 2 ^ f.width := by
  apply Nat.eq_of_testBit_eq; intro i
  rw [fldOf_testBit, withFld_testBit, Nat.testBit_mod_two_pow]
  by_cases hi : i < f.width
  · have h1 : f.lo + i < 32 := by omega
    simp [hi, h1]
  · simp [hi]

/-- A field is unchanged when a field with no bit in common is set. -/
theorem fldOf_withFld_disjoint (f g : Fld) (v : Word) (n : Nat) (h : g.lo + g.width ≤ f.lo ∨ f.lo + f.width ≤ g.lo) :
    fldOf g (withFld f v n) = fldOf g v := by
  apply Nat.eq_of_testBit_eq; intro i
  rw [fldOf_testBit, fldOf_testBit, withFld_testBit]
  by_cases hi : i < g.width
  · have : ¬ (f.lo ≤ g.lo + i ∧ g.lo + i < f.lo + f.width) := by omega
    simp only [this, if_false, hi, decide_true, Bool.true_and]
    by_cases h32 : g.lo + i < 32
    · simp [h32]
    · simp [h32, BitVec.getLsbD_of_ge v _ (Nat.le_of_not_lt h32)]
  · simp [hi]

theorem get_set_self (s : State) (f : Fld) (n : Nat) (h : f.lo + f.width ≤ 32) : (s.set f n).get f = n % 2 ^ f.width := by
  simp [State.get, State.set, fldOf_withFld_self f _ n h]

theorem get_set_disjoint (s : State) (f g : Fld) (n : Nat) (h : g.addr ≠ f.addr ∨ g.lo + g.width ≤ f.lo ∨ f.lo + f.width ≤ g.lo) :
    (s.set f n).get g = s.get g := by
  simp only [State.get, State.set, reg_setReg]
  by_cases ha : g.addr = f.addr
  · rw [if_pos ha, ha, fldOf_withFld_disjoint f g _ n (by rcases h with h | h; exact absurd ha h; exact h)]
  · rw [if_neg ha]

/-- A register that no field set names keeps its value. -/
theorem get_setReg_ne (s : State) (a : Nat) (v : Word) (g : Fld) (h : g.addr ≠ a) : (s.setReg a v).get g = s.get g := by
  simp [State.get, reg_setReg_ne s h]

theorem get_setReg_self (s : State) (v : Word) (g : Fld) : (s.setReg g.addr v).get g = fldOf g v := by simp [State.get]

theorem get_flag_self (s : State) (f : Fld) (h : f.lo + f.width ≤ 32) (hw : 0 < f.width) : (s.flag f).get f = 1 := by
  rw [State.flag, get_set_self _ _ _ h, Nat.mod_eq_of_lt (Nat.one_lt_two_pow (by omega))]

theorem get_flag_disjoint (s : State) (f g : Fld) (h : g.addr ≠ f.addr ∨ g.lo + g.width ≤ f.lo ∨ f.lo + f.width ≤ g.lo) :
    (s.flag f).get g = s.get g := by rw [State.flag, get_set_disjoint _ _ _ _ h, mark_get]

/-! ### Writes by access codes (R9, R11, R14) -/

/-- A write of a register by its access codes leaves the value that `writtenBy` states. -/
theorem plainWrite_reg (s : State) (a : Nat) (v : Word) {row : RegRow} (h : regRowAt a = some row) :
    (s.plainWrite a v).reg a = writtenBy { row with w1c := row.w1c &&& ~~~ s.fresh a } (s.reg a) v := by
  simp [State.plainWrite, State.wouldBe, h]

theorem plainWrite_reg_ne (s : State) {a b : Nat} (v : Word) (h : b ≠ a) : (s.plainWrite a v).reg b = s.reg b := by
  unfold State.plainWrite; split
  · exact reg_setReg_ne s h _
  · rfl

theorem plainWrite_get_ne (s : State) {a : Nat} (v : Word) (g : Fld) (h : g.addr ≠ a) : (s.plainWrite a v).get g = s.get g := by
  simp [State.get, plainWrite_reg_ne s v h]

/-- A field all of whose bits are RW reads what was written. -/
theorem plainWrite_get (s : State) (g : Fld) (v : Word) {row : RegRow} (h : regRowAt g.addr = some row)
    (hrw : ∀ i, g.lo ≤ i → i < g.lo + g.width → row.rw.getLsbD i = true) : (s.plainWrite g.addr v).get g = fldOf g v := by
  simp only [State.get, plainWrite_reg s g.addr v h]
  apply Nat.eq_of_testBit_eq; intro i
  rw [fldOf_testBit, fldOf_testBit]
  by_cases hi : i < g.width
  · have := hrw (g.lo + i) (by omega) (by omega)
    by_cases h32 : g.lo + i < 32
    · simp [writtenBy, this, hi]
    · simp [BitVec.getLsbD_of_ge _ _ (Nat.le_of_not_lt h32)]
  · simp [hi]

end Sys2Proof.Machine
end

