-- ==== Sys2Proof/Laws/Raise.lean ====
section
/-! SUPPORT. Laws/Raise.lean: what finishing a command, moving the device and raising a fault source leave alone. -/
namespace Sys2Proof.Machine

/-- The registers that a raise, with the moves it makes and the commands it finishes, may write: the HOST, UPD and NVM blocks, and the
status registers of the device, the engine, its banks and modes, the ring and the twin. -/
def Moved (a : Nat) : Prop :=
  0x16000000 ≤ a ∨ a = R.SYS_STATE ∨ a = R.RING_STAT ∨ a = R.RING_GQ ∨ a = R.ENG_STAT ∨ a = R.TWIN_STAT ∨ a = R.ALM_SWAP ∨ a = R.ALM_MODE ∨
    a = R.ALM_STAT

/-- What a move of the device leaves alone: registers that are not `Moved`, the memories, time, the engine's registers and state pages, and the state of every
block but the device, the engine's pipeline, the ring, the twin, the NVM and the host. A raise changes the fault registers beside. -/
structure Kept (s t : State) : Prop where
  reg : ∀ a, ¬ Moved a → t.reg a = s.reg a
  pending : t.pending = s.pending
  mem : t.mem = s.mem
  faults : t.faults = s.faults
  chrono : t.chrono = s.chrono
  sext : t.sext = s.sext
  cmp : t.cmp = s.cmp
  hall : t.hall = s.hall
  safe : t.safe = s.safe
  axd : t.axd = s.axd
  mod : t.mod = s.mod
  adc : t.adc = s.adc
  log : t.log = s.log
  ser : t.ser = s.ser
  ocl : t.ocl = s.ocl
  pods : t.pods = s.pods
  upd : t.upd = s.upd
  pwr : t.pwr = s.pwr
  free : t.free = s.free
  v : t.eng.v = s.eng.v
  a : t.eng.a = s.eng.a
  k : t.eng.k = s.eng.k
  sr : t.eng.sr = s.eng.sr
  pV : t.eng.pV = s.eng.pV
  pS : t.eng.pS = s.eng.pS
  sget : t.eng.sget = s.eng.sget

namespace Kept

theorem refl (s : State) : Kept s s := by constructor <;> simp

theorem trans {s t u : State} (h : Kept s t) (k : Kept t u) : Kept s u := by
  constructor
  · intro a ha; rw [k.reg a ha, h.reg a ha]
  · rw [k.pending, h.pending]
  · rw [k.mem, h.mem]
  · rw [k.faults, h.faults]
  · rw [k.chrono, h.chrono]
  · rw [k.sext, h.sext]
  · rw [k.cmp, h.cmp]
  · rw [k.hall, h.hall]
  · rw [k.safe, h.safe]
  · rw [k.axd, h.axd]
  · rw [k.mod, h.mod]
  · rw [k.adc, h.adc]
  · rw [k.log, h.log]
  · rw [k.ser, h.ser]
  · rw [k.ocl, h.ocl]
  · rw [k.pods, h.pods]
  · rw [k.upd, h.upd]
  · rw [k.pwr, h.pwr]
  · rw [k.free, h.free]
  · rw [k.v, h.v]
  · rw [k.a, h.a]
  · rw [k.k, h.k]
  · rw [k.sr, h.sr]
  · rw [k.pV, h.pV]
  · rw [k.pS, h.pS]
  · rw [k.sget, h.sget]

/-- A fold of steps that keep keeps. -/
theorem fold {α : Type} {f : State → α → State} (h : ∀ s x, Kept s (f s x)) (l : List α) (s : State) : Kept s (l.foldl f s) := by
  induction l generalizing s with
  | nil => exact refl s
  | cons x l ih => exact (h s x).trans (ih (f s x))

theorem ite {s t u : State} {c : Prop} [Decidable c] (h : Kept s t) (k : Kept s u) : Kept s (if c then t else u) := by split <;> assumption

/-- A write of a register that may move. -/
theorem setReg {a : Nat} (h : Moved a) (s : State) (v : Word) : Kept s (s.setReg a v) := by
  constructor <;> try simp
  intro b hb; exact reg_setReg_ne s (by rintro rfl; exact hb h) v

theorem set {f : Fld} (h : Moved f.addr) (s : State) (n : Nat) : Kept s (s.set f n) := setReg h s _

theorem setB {f : Fld} (h : Moved f.addr) (s : State) (b : Bool) : Kept s (s.setB f b) := set h s _

theorem mark (s : State) (a : Nat) (m : Word) : Kept s (s.mark a m) := by constructor <;> simp

theorem flag {f : Fld} (h : Moved f.addr) (s : State) : Kept s (s.flag f) := (mark s _ _).trans (set h _ _)

/-- An update of the parts that are not listed. -/
theorem host (s : State) (x : HostSt) : Kept s { s with host := x } := by constructor <;> simp [State.reg]
theorem twin (s : State) (x : TwinSt) : Kept s { s with twin := x } := by constructor <;> simp [State.reg]
theorem ring (s : State) (x : RingSt) : Kept s { s with ring := x } := by constructor <;> simp [State.reg]
theorem nvm (s : State) (x : NvmSt) : Kept s { s with nvm := x } := by constructor <;> simp [State.reg]
theorem sys (s : State) (x : SysSt) : Kept s { s with sys := x } := by constructor <;> simp [State.reg]
theorem tx (s : State) (x : List OutMsg) : Kept s { s with tx := x } := by constructor <;> simp [State.reg]
theorem eng (s : State) (x : EngSt) (h1 : x.v = s.eng.v) (h2 : x.a = s.eng.a) (h3 : x.k = s.eng.k) (h4 : x.sr = s.eng.sr) (h5 : x.pV = s.eng.pV)
    (h6 : x.pS = s.eng.pS) (h7 : x.sget = s.eng.sget) : Kept s { s with eng := x } := by constructor <;> simp [State.reg, *]

end Kept

/-! ### The registers that may move -/

theorem moved_SYS_STATE : Moved R.SYS_STATE := by simp [Moved]
theorem moved_RING_STAT : Moved R.RING_STAT := by simp [Moved]
theorem moved_RING_GQ : Moved R.RING_GQ := by simp [Moved]
theorem moved_ENG_STAT : Moved R.ENG_STAT := by simp [Moved]
theorem moved_TWIN_STAT : Moved R.TWIN_STAT := by simp [Moved]
theorem moved_ALM_SWAP : Moved R.ALM_SWAP := by simp [Moved]
theorem moved_ALM_MODE : Moved R.ALM_MODE := by simp [Moved]
theorem moved_ALM_STAT : Moved R.ALM_STAT := by simp [Moved]

/-- An address of the HOST block or beyond may move. -/
theorem moved_host {a : Nat} (h : 0x16000000 ≤ a) : Moved a := Or.inl h

/-! ### Finishing a command -/

theorem setQueue_kept (s : State) (q : List OutMsg) : Kept s (s.setQueue q) := by
  unfold State.setQueue
  exact ((Kept.host s _).trans (Kept.set (moved_host (by decide)) _ _)).trans (Kept.set (moved_host (by decide)) _ _)

theorem toHost_kept (s : State) (m : OutMsg) : Kept s (s.toHost m) := by
  unfold State.toHost
  split
  · exact Kept.ite (setQueue_kept _ _) (Kept.flag (moved_host (by decide)) _)
  · exact Kept.tx s _

theorem respond_kept (s : State) (c : HCmd) (w f : Nat) (d : List Word) : Kept s (s.respond c w f d) := toHost_kept _ _

theorem nvmStart_kept (s : State) (j : NvmJob) : Kept s (s.nvmStart j) := by
  unfold State.nvmStart; exact (Kept.nvm s _).trans (Kept.flag (moved_host (by decide)) _)

theorem guarCount_kept (s : State) : Kept s s.guarCount := by
  unfold State.guarCount
  exact (Kept.set moved_RING_GQ _ _).trans (Kept.set moved_RING_GQ _ _)

theorem freeGuar_kept (s : State) : Kept s s.freeGuar := by
  unfold State.freeGuar; exact (Kept.host s _).trans (Kept.setReg (moved_host (by decide)) _ _)

theorem twinSend_kept (s : State) (f t : Nat) (d : List Word64) : Kept s (s.twinSend f t d) := by
  unfold State.twinSend; split
  · exact (Kept.twin s _).trans (Kept.tx _ _)
  · exact Kept.refl s

theorem nvmRecord_kept (s : State) (r : JRec) (sec : JSec) (j : Option Nat) : Kept s (s.nvmRecord r sec j) := by
  unfold State.nvmRecord; split
  · exact Kept.host s _
  · exact ((Kept.host s _).trans (Kept.setReg (moved_host (by decide)) _ _)).trans (nvmStart_kept _ _)

/-- The record of a journal entry, before its JRNL frame. -/
theorem journal_record_kept (s : State) (nvm : Bool) (r : JRec) (sec : JSec) :
    Kept s (if nvm then s.nvmRecord r sec none else { s with host := { s.host with ramJ := s.host.ramJ ++ [r] } }) :=
  Kept.ite (nvmRecord_kept _ _ _ _) (Kept.host s _)

theorem journal_kept (s : State) (nvm : Bool) (sec : JSec) (kind flow cls flags seq opc : Nat) (body : List Word) :
    Kept s (s.journal nvm sec kind flow cls flags seq opc body) := by
  unfold State.journal
  refine Kept.ite ?_ ?_
  · exact ((Kept.setReg (moved_host (by decide)) s _).trans (journal_record_kept _ nvm _ sec)).trans ((Kept.twin _ _).trans (twinSend_kept _ _ _ _))
  · exact (Kept.setReg (moved_host (by decide)) s _).trans (journal_record_kept _ nvm _ sec)

theorem guarSend_kept (s : State) (dst : Nat) (p : List Word) : Kept s (s.guarSend dst p) := by
  unfold State.guarSend
  exact ((Kept.ring s _).trans (journal_kept ..)).trans (guarCount_kept _)

theorem setFlow_kept (s : State) (f : Nat) (v : FlowSt) : Kept s (s.setFlow f v) := Kept.host s _

theorem updateD_kept (s : State) (f : Nat) : Kept s (s.updateD f) := Kept.setReg (moved_host (by simp only [R.HOST_FLOW_D]; omega)) _ _

theorem freeSlot_kept (s : State) (k : CmdKey) (o : Nat) : Kept s (s.freeSlot k o) := by
  unfold State.freeSlot; split
  · exact (Kept.host s _).trans (Kept.set (moved_host (by simp only [F.HOST_OP_STAT_BUSY]; omega)) _ _)
  · exact Kept.refl s

theorem finalRec_kept (s : State) (f : Nat) (c : HCmd) (w : List Word) : Kept s (s.finalRec f c w) := by
  unfold State.finalRec; exact Kept.ite (journal_kept ..) (Kept.refl s)

theorem freeJournal_kept (s : State) (f : Nat) : Kept s (s.freeJournal f) := by
  unfold State.freeJournal; exact (Kept.host s _).trans (Kept.setReg (moved_host (by decide)) _ _)

theorem finishOwn_kept (s : State) (k : CmdKey) (w : Nat) (d : List Word) : Kept s (s.finishOwn k w d) := by
  unfold State.finishOwn
  extract_lets fl
  split
  · exact Kept.refl s
  · rename_i r _
    extract_lets fin s1 s2 s3 s4
    have h3 : Kept s s3 := (((setFlow_kept s _ _).trans (updateD_kept _ _)).trans (freeSlot_kept _ _ _)).trans (finalRec_kept _ _ _ _)
    exact (h3.trans (Kept.ite (Kept.refl _) (respond_kept _ _ _ _ _))).trans (freeJournal_kept _ _)

theorem finishRing_kept (s : State) (r : HRec) (w : Nat) (d : List Word) : Kept s (s.finishRing r w d) := by
  unfold State.finishRing
  extract_lets ws s1
  have h : Kept s s1 := (finalRec_kept s _ _ _).trans (freeGuar_kept _)
  split
  · exact h
  · exact h.trans (guarSend_kept _ _ _)

theorem finishPartner_kept (s : State) (k : CmdKey) (r : HRec) (w : Nat) (d : List Word) : Kept s (s.finishPartner k r w d) := by
  unfold State.finishPartner
  extract_lets s1
  have h : Kept s s1 := journal_kept ..
  split
  · exact h.trans (finishOwn_kept _ _ _ _)
  · split
    · exact h.trans ((Kept.host _ _).trans (finishRing_kept _ _ _ _))
    · exact h

/-- The final response of a command. -/
theorem finish_kept (s : State) (k : CmdKey) (r : Nat) (d : List Word) (ok : Bool) : Kept s (s.finish k r d ok) := by
  unfold State.finish
  extract_lets w
  split
  · exact finishOwn_kept _ _ _ _
  · split
    · exact Kept.refl s
    · extract_lets s1
      have h : Kept s s1 := (Kept.host s _).trans (freeSlot_kept _ _ _)
      split
      · exact h.trans (finishPartner_kept _ _ _ _ _)
      · exact h.trans (finishRing_kept _ _ _ _)

theorem done_kept (s : State) (k : CmdKey) (d : List Word) : Kept s (s.done k d) := finish_kept ..
theorem failed_kept (s : State) (k : CmdKey) (r : Nat) : Kept s (s.failed k r) := finish_kept ..
theorem doneOpt_kept (s : State) (k : Option CmdKey) (d : List Word) : Kept s (s.doneOpt k d) := by
  unfold State.doneOpt; split
  · exact done_kept ..
  · exact Kept.refl s

/-! ### Moves of the device -/

theorem setDev_kept (s : State) (d : Nat) : Kept s (s.setDev d) := Kept.set moved_SYS_STATE _ _

theorem cancelMove_kept (s : State) : Kept s s.cancelMove := by
  unfold State.cancelMove; split
  · exact Kept.refl s
  · exact (Kept.sys s _).trans (Kept.fold (fun _ _ => failed_kept ..) _ _)

theorem modeStopped_kept (s : State) (m : Nat) (k : Option CmdKey) : Kept s (s.modeStopped m k) := by
  unfold State.modeStopped
  exact (((Kept.set moved_ALM_MODE s 0).trans (Kept.set moved_ALM_MODE _ _)).trans
    (Kept.set moved_ALM_MODE _ _)).trans (doneOpt_kept _ _ _)

theorem exchangeBanks_kept (s : State) : Kept s s.exchangeBanks := by
  unfold State.exchangeBanks
  extract_lets sel one
  have hone : ∀ i bank ver s, Moved bank.addr → Moved ver.addr → Kept s (one i bank ver s) := by
    intro i bank ver s hb hv
    dsimp only [one]
    split
    · refine Kept.trans ?_ (Kept.setB hv _ _)
      refine Kept.trans ?_ (Kept.set hb _ _)
      exact Kept.eng s _ rfl rfl rfl rfl rfl rfl rfl
    · exact Kept.refl s
  have h1 := (hone 0 F.ENG_STAT_PBANK F.ALM_SWAP_VERP s moved_ENG_STAT moved_ALM_SWAP).trans
    (hone 1 F.ENG_STAT_ABANK F.ALM_SWAP_VERA _ moved_ENG_STAT moved_ALM_SWAP)
  refine Kept.trans h1 ?_
  refine Kept.trans ?_ (doneOpt_kept _ _ _)
  refine Kept.trans ?_ (Kept.flag moved_ALM_STAT _)
  refine Kept.trans ?_ (Kept.set moved_ALM_SWAP _ _)
  refine Kept.trans ?_ (Kept.set moved_ALM_SWAP _ _)
  refine Kept.trans ?_ (Kept.set moved_ALM_SWAP _ _)
  exact Kept.eng _ _ rfl rfl rfl rfl rfl rfl rfl

/-- What waits for a boundary when the Helm stops. -/
theorem settleStopped_kept (s : State) : Kept s s.settleStopped := by
  have h1 : ∀ t : State, Kept t (match t.eng.modeNext with
      | some m => ({ t with eng := { t.eng with modeNext := none, modeTaken := none, entryDue := false } } : State).modeStopped m t.eng.modeTaken
      | none => ({ t with eng := { t.eng with modeNext := none, modeTaken := none, entryDue := false } } : State).doneOpt t.eng.modeTaken []) := by
    intro t; split
    · exact Kept.trans (by exact Kept.eng t _ rfl rfl rfl rfl rfl rfl rfl) (modeStopped_kept _ _ _)
    · exact Kept.trans (by exact Kept.eng t _ rfl rfl rfl rfl rfl rfl rfl) (doneOpt_kept _ _ _)
  have h0 : Kept s (if s.on F.ALM_SWAP_PEND then s.exchangeBanks else s) := Kept.ite (exchangeBanks_kept s) (Kept.refl s)
  unfold State.settleStopped
  refine Kept.ite ?_ ?_
  · exact (h0.trans (h1 _)).trans (Kept.trans (by exact Kept.eng _ _ rfl rfl rfl rfl rfl rfl rfl) (modeStopped_kept _ _ _))
  · exact h0.trans (h1 _)

theorem helmStop_kept (s : State) : Kept s s.helmStop := by
  unfold State.helmStop; split
  · exact Kept.refl s
  · refine Kept.trans (Kept.trans ?_ (Kept.set moved_ENG_STAT _ _)) (settleStopped_kept _)
    exact Kept.eng s _ rfl rfl rfl rfl rfl rfl rfl

theorem yield_kept (s : State) (c : Nat) : Kept s (s.yield c) := by
  unfold State.yield; split
  · exact (twinSend_kept s _ _ _).trans (Kept.flag moved_TWIN_STAT _)
  · exact Kept.refl s

theorem stopDeep_kept (s : State) : Kept s s.stopDeep := by
  unfold State.stopDeep
  exact ((helmStop_kept s).trans (Kept.set moved_RING_STAT _ _)).trans
    (Kept.set moved_RING_STAT _ _)

/-- A stopping cause that acts. -/
theorem enterStop_kept (s : State) (t : Nat) (c : Option Src) : Kept s (s.enterStop t c) := by
  unfold State.enterStop
  refine Kept.ite ?_ (Kept.refl s)
  have h : ∀ x, Kept s ({ s.cancelMove.setDev t with sys := x } : State) := fun x =>
    ((cancelMove_kept s).trans (setDev_kept _ _)).trans (Kept.sys _ _)
  refine Kept.ite ?_ (Kept.ite ?_ ?_)
  · exact ((h _).trans (yield_kept _ _)).trans (stopDeep_kept _)
  · exact (h _).trans (stopDeep_kept _)
  · exact h _

/-! ### Raises -/

/-- A raise of `q` before its reaction: the source pends with its highest reaction, and the block's capture takes it. -/
def State.noted (s : State) (q : Src) (a : Acc) : State :=
  let n := ((s.noteRaise q a).setSrc q { s.src q with pend := true, rlvl := max (s.src q).rlvl (s.reactNow q) })
  n.setCap q.blk ((n.cap q.blk).take q.idx a n.now)

/-- The fault registers after a raise of `q`: BLOCK_LOCAL holds what it names beside. -/
def State.raisedFaults (s : State) (q : Src) (a : Acc) : FaultSt :=
  (if 3 ≤ s.reactNow q then (s.noted q a).holdLocal q a else s.noted q a).faults

theorem holdLocal_eq (s : State) (q : Src) (a : Acc) : s.holdLocal q a = { s with faults := (s.holdLocal q a).faults } := by
  unfold State.holdLocal; split
  · dsimp only; split <;> rfl
  · rfl

theorem applyReact_kept (s : State) (q : Src) (a : Acc) (r : Nat) :
    Kept { s with faults := (if 3 ≤ r then s.holdLocal q a else s).faults } (s.applyReact q a r) := by
  have h : (if 3 ≤ r then s.holdLocal q a else s) = { s with faults := (if 3 ≤ r then s.holdLocal q a else s).faults } := by
    split
    · exact holdLocal_eq s q a
    · rfl
  unfold State.applyReact
  dsimp only
  rw [h]
  exact Kept.ite (enterStop_kept _ _ _) (Kept.ite (enterStop_kept _ _ _) (Kept.ite (enterStop_kept _ _ _) (Kept.refl _)))

/-- A raise of a source whose reaction is NONE does nothing. -/
theorem raise_none (s : State) (q : Src) (a : Acc) (h : s.reactNow q = 0) : s.raise q a = s := by simp [State.raise, h]

/-- A raise of any other source changes the fault registers as `raisedFaults` says, and beyond them only what a move of the device changes. -/
theorem raise_kept (s : State) (q : Src) (a : Acc) (h : s.reactNow q ≠ 0) : Kept { s with faults := s.raisedFaults q a } (s.raise q a) := by
  unfold State.raise
  dsimp only
  rw [if_neg h]
  exact applyReact_kept (s.noted q a) q a (s.reactNow q)

/-- A register that a raise does not move reads as before. -/
theorem raise_reg (s : State) (q : Src) (x : Acc) {a : Nat} (h : ¬ Moved a) : (s.raise q x).reg a = s.reg a := by
  by_cases hr : s.reactNow q = 0
  · rw [raise_none s q x hr]
  · rw [(raise_kept s q x hr).reg a h]; rfl

theorem raise_get (s : State) (q : Src) (x : Acc) {f : Fld} (h : ¬ Moved f.addr) : (s.raise q x).get f = s.get f := by
  simp [State.get, raise_reg s q x h]

/-- Every part of the state that `Kept` names, the fault registers apart, is unchanged by a raise. -/
theorem raise_but_faults (s : State) (q : Src) (a : Acc) : ∃ f, Kept { s with faults := f } (s.raise q a) := by
  by_cases hr : s.reactNow q = 0
  · exact ⟨s.faults, by rw [raise_none s q a hr]; exact Kept.refl s⟩
  · exact ⟨_, raise_kept s q a hr⟩

theorem holdLocal_src (s : State) (q : Src) (a : Acc) : (s.holdLocal q a).faults.src = s.faults.src := by
  unfold State.holdLocal; split
  · dsimp only; split <;> rfl
  · rfl

theorem holdLocal_cap (s : State) (q : Src) (a : Acc) : (s.holdLocal q a).faults.cap = s.faults.cap := by
  unfold State.holdLocal; split
  · dsimp only; split <;> rfl
  · rfl

/-- After a raise that is not NONE the source pends, with the highest reaction applied to it (R544). -/
theorem raise_src_self (s : State) (q : Src) (a : Acc) (h : s.reactNow q ≠ 0) :
    (s.raise q a).src q = { s.src q with pend := true, rlvl := max (s.src q).rlvl (s.reactNow q) } := by
  unfold State.src
  rw [(raise_kept s q a h).faults]
  simp only [State.raisedFaults]
  have : ∀ c : State, (if 3 ≤ s.reactNow q then c.holdLocal q a else c).faults.src = c.faults.src := by
    intro c; split
    · exact holdLocal_src c q a
    · rfl
  rw [this]
  simp [State.noted, State.setCap, State.setSrc, spGet_spPut, State.noteRaise, State.src]

/-- A flag that has a source, set and raised, reads 1. -/
theorem faultNew_get (s : State) (f : Fld) (q : Src) (a : Acc) (h : f.lo + f.width ≤ 32) (hw : 0 < f.width) (hm : ¬ Moved f.addr)
    (h0 : s.get f = 0) : (s.faultNew f q a).get f = 1 := by
  have : s.on f = false := by simp [State.on, h0]
  simp [State.faultNew, this, raise_get _ _ _ hm, get_flag_self s f h hw]

end Sys2Proof.Machine
end

