-- ==== Sys2Proof/Laws/Access.lean ====
section
/-! SUPPORT. Laws/Access.lean: what an access that is served in its own tick does (02 R54, R55; 18 R641). -/
namespace Sys2Proof.Machine

/-- An access that nothing defers, holds or refuses is served. -/
theorem access_served (s : State) (m : Master) (w : Bool) (a : Nat) (v : Word) (hOpen : s.mapOpen m = true) (hWin : inWindow a = true)
    (hReach : reaches m a = true) (hHold : s.holds m a = false) (hDef : ∀ c ∈ s.bus.deferred, claimKey c.addr ≠ claimKey a)
    (hBy : s.servedBy (claimKey a) = none ∨ s.servedBy (claimKey a) = some m.code)
    (hHost : w = true → m = .host → s.dev ≠ stSEALED ∧ s.dev ≠ stTHERMAL) (hDbg : w = true → m = .debug → s.dev ≠ stSEALED) :
    s.access m w a v = (s.served (claimKey a) m).serveBy State.readAt State.writeAt ⟨m, w, a, v, s.now⟩ := by
  have h3 : (w && ((m == .host && (s.dev == stSEALED || s.dev == stTHERMAL)) || (m == .debug && s.dev == stSEALED))) = false := by
    cases w
    · rfl
    · cases m <;> simp_all
  have h4 : (s.bus.deferred.any (claimKey ·.addr == claimKey a) || (s.servedBy (claimKey a)).any (· != m.code)) = false := by
    rw [Bool.or_eq_false_iff]
    refine ⟨?_, ?_⟩
    · rw [List.any_eq_false]; intro c hc; simpa using hDef c hc
    · rcases hBy with h | h <;> simp [h]
  have h5 : s.claim ⟨m, w, a, v, s.now⟩ = s.serve ⟨m, w, a, v, s.now⟩ := by
    unfold State.claim; simp only [hHold, h4, Bool.false_eq_true, if_false]
  unfold State.access
  simp only [hOpen, hWin, hReach, h3, h5, Bool.not_true, Bool.and_false, Bool.or_self, Bool.false_eq_true, if_false]
  rfl

/-- A claim that no READ, WRITE or MODIFY command waits for answers none. -/
theorem answered_eq (s : State) (c : Claim) (v : Word) (h : ∀ x ∈ s.host.accs, x.wait ≠ some c) : s.answered c v = s := by
  unfold State.answered
  have : ∀ l : List HostAcc, (∀ x ∈ l, x.wait ≠ some c) →
      l.map (fun x => if x.wait = some c then { x with i := x.i + 1, vals := x.vals ++ [v], wait := none } else x) = l := by
    intro l hl
    conv_rhs => rw [← List.map_id l]
    exact List.map_congr_left fun x hx => by simp [hl x hx]
  simp only [this _ h]

theorem modifies_eq (s : State) (c : Claim) (old : Word) (f : State → Master → Nat → Word → State)
    (h : ∀ x ∈ s.host.accs, x.wait ≠ some c) : s.modifies c old f = s := by
  unfold State.modifies
  have : (s.host.accs.filter fun x => decide (x.wait = some c) && x.cmd.opc == 3) = [] := by
    rw [List.filter_eq_nil_iff]; intro x hx; simp [h x hx]
  rw [this]; rfl

/-- A write of a register outside the engine memories and the Log memory, that is no 64-bit quantity, goes to its block. -/
theorem writeAt_block (s : State) (m : Master) (a : Nat) (v : Word) (h4 : a / 4 * 4 = a) (hV : isVdm a = false) (hS : isSdm a = false)
    (hL : isLogMem a = false) (hA : s.analogServes a = true) (hW : isWideWrite a = false) (hW' : isWideWrite (a - 4) = false) :
    s.writeAt m a v = s.blockWrite m a v := by
  unfold State.writeAt State.wideWrite
  simp [h4, hV, hS, hL, hA, hW, hW']

end Sys2Proof.Machine
end

