-- ==== Sys2Proof/Laws/Engine.lean ====
section
/-! SUPPORT. Laws/Engine.lean: what the engine's shared operations do: lane masks, values by lane, saturation, and the write-backs. -/
namespace Sys2Proof.Machine

/-- The sum of distinct powers of two below `2 ^ n` that `lanesWhere` forms, bit by bit. -/
theorem sumBits_testBit (f : Nat → Bool) (n i : Nat) :
    ((List.range n).foldl (fun m j => if f j then m + 2 ^ j else m) 0).testBit i = (decide (i < n) && f i) ∧
      (List.range n).foldl (fun m j => if f j then m + 2 ^ j else m) 0 < 2 ^ n := by
  induction n with
  | zero => simp
  | succ n ih =>
    obtain ⟨hb, hlt⟩ := ih
    rw [List.range_succ, List.foldl_append]
    simp only [List.foldl_cons, List.foldl_nil]
    generalize hx : (List.range n).foldl (fun m j => if f j then m + 2 ^ j else m) 0 = x at hb hlt
    by_cases hn : f n
    · simp only [hn, if_true]
      have hadd : x + 2 ^ n = 2 ^ n + x := Nat.add_comm ..
      refine ⟨?_, by rw [Nat.pow_succ]; omega⟩
      rw [hadd]
      by_cases hi : i = n
      · subst hi; rw [Nat.testBit_two_pow_add_eq, Nat.testBit_lt_two_pow hlt]; simp [hn]
      · by_cases hin : i < n
        · rw [Nat.testBit_two_pow_add_gt hin, hb]; simp [hin]; omega
        · have hgt : n < i := by omega
          have : 2 ^ n + x < 2 ^ i := lt_of_lt_of_le (by rw [Nat.pow_succ]; omega : 2 ^ n + x < 2 ^ (n + 1)) (Nat.pow_le_pow_right (by omega) hgt)
          rw [Nat.testBit_lt_two_pow this]; simp; omega
    · simp only [hn]
      refine ⟨?_, by simp; rw [Nat.pow_succ]; omega⟩
      simp only [Bool.false_eq_true, if_false]
      rw [hb]
      by_cases hi : i = n
      · subst hi; simp [hn]
      · have : (decide (i < n)) = decide (i < n + 1) := by simp; omega
        rw [this]

/-- Bit `n` of the mask of the lanes for which `f` holds. -/
@[simp] theorem lanesWhere_getLsbD (f : Nat → Bool) (n : Nat) : (lanesWhere f).getLsbD n = (decide (n < 64) && f n) := by
  obtain ⟨hb, _⟩ := sumBits_testBit f 64 n
  simp only [lanesWhere, BitVec.getLsbD_ofNat, hb]
  by_cases h : n < 64 <;> simp [h]

/-- A mask selects the lanes of its bits. -/
theorem inMask_eq (m : Word64) (n : Nat) : inMask m n = m.getLsbD n := rfl

/-- The value of a lane in a list of one value for every lane. -/
@[simp] theorem perLane_get {α : Type} (f : Nat → α) {n : Nat} (h : n < 64) : (perLane f)[n]? = some (f n) := by
  simp [perLane, h]

@[simp] theorem perLane_getD {α : Type} (f : Nat → α) (d : α) {n : Nat} (h : n < 64) : (perLane f).getD n d = f n := by
  simp [List.getD, h]

/-- Saturation as a minimum and a maximum (R5). -/
theorem clampInt_eq (lo hi x : Int) (h : lo ≤ hi) : clampInt lo hi x = max lo (min hi x) := by
  unfold clampInt; split <;> [skip; split] <;> omega

theorem sat16_eq (x : Int) : sat16 x = BitVec.ofInt 16 (max (-32768) (min 32767 x)) := by
  simp only [sat16, satS, minS, maxS]; rw [clampInt_eq _ _ _ (by norm_num)]; norm_num

theorem fitsS16_iff (x : Int) : fitsS 16 x = true ↔ -32768 ≤ x ∧ x ≤ 32767 := by
  rw [fitsS, Bool.and_eq_true, decide_eq_true_iff, decide_eq_true_iff]; norm_num [minS, maxS]

end Sys2Proof.Machine
end

