-- ==== Sys2Proof/Laws/Memory.lean ====
section
/-! SUPPORT. Laws/Memory.lean: the memory keeps its canonical form, and its reads after writes. -/
namespace Sys2Proof.Machine

/-! ### The canonical form of a table -/

theorem spWf_mono {α : Type} [DecidableEq α] {d : Nat → α} {m : List (Nat × α)} {lo lo' : Nat} (h : lo' ≤ lo) (w : spWf d lo m = true) :
    spWf d lo' m = true := by
  cases m with
  | nil => rfl
  | cons e r => simp only [spWf, Bool.and_eq_true, decide_eq_true_eq] at w ⊢; exact ⟨⟨by omega, w.1.2⟩, w.2⟩

/-- Keeping some entries keeps the form. -/
theorem spWf_filter {α : Type} [DecidableEq α] {d : Nat → α} {m : List (Nat × α)} {lo : Nat} (p : Nat × α → Bool) (w : spWf d lo m = true) :
    spWf d lo (m.filter p) = true := by
  induction m generalizing lo with
  | nil => rfl
  | cons e r ih =>
    simp only [spWf, Bool.and_eq_true, decide_eq_true_eq] at w
    rw [List.filter_cons]
    by_cases h : p e = true
    · simp only [h, if_true, spWf, Bool.and_eq_true, decide_eq_true_eq]; exact ⟨w.1, ih w.2⟩
    · simp only [h, if_false, Bool.false_eq_true]; exact spWf_mono (by omega) (ih w.2)

theorem spWf_spIns {α : Type} [DecidableEq α] {d : Nat → α} {m : List (Nat × α)} {lo k : Nat} {v : α} (hk : lo ≤ k) (hv : v ≠ d k)
    (w : spWf d lo m = true) : spWf d lo (spIns m k v) = true := by
  induction m generalizing lo with
  | nil => simp [spIns, spWf, hk, hv]
  | cons e r ih =>
    obtain ⟨k', v'⟩ := e
    simp only [spWf, Bool.and_eq_true, decide_eq_true_eq] at w
    simp only [spIns]
    by_cases h1 : k = k'
    · subst h1; simp [spWf, hk, hv, w.2]
    · rw [if_neg h1]
      by_cases h2 : k < k'
      · rw [if_pos h2]; simp [spWf, hk, hv, w.1.2, w.2, show k + 1 ≤ k' by omega]
      · rw [if_neg h2]
        simp only [spWf, Bool.and_eq_true, decide_eq_true_eq]
        exact ⟨w.1, ih (by omega) w.2⟩

theorem spWf_spPut {α : Type} [DecidableEq α] {d : α} {m : List (Nat × α)} {lo k : Nat} {v : α} (hk : lo ≤ k)
    (w : spWf (fun _ => d) lo m = true) : spWf (fun _ => d) lo (spPut d m k v) = true := by
  unfold spPut
  by_cases h : v = d
  · rw [if_pos h]; exact spWf_filter _ w
  · rw [if_neg h]; exact spWf_spIns hk h w

/-! ### The memory -/

/-- Every write of a byte keeps the canonical form. -/
theorem memPut_wf {m : List Host.Cell} (a : Nat) (b : Byte) (w : Memory.wf m = true) : Memory.wf (memPut m a b) = true :=
  spWf_spPut (Nat.zero_le _) w

/-- Every write of several bytes keeps the canonical form. -/
theorem memWrite_wf {m : List Host.Cell} (a n v : Nat) (w : Memory.wf m = true) : Memory.wf (memWrite m a n v) = true := by
  induction n generalizing m a v with
  | zero => exact w
  | succ n ih => exact ih _ _ (memPut_wf a _ w)

/-- Clearing a range keeps the canonical form. -/
theorem memClear_wf {m : List Host.Cell} (lo hi : Nat) (w : Memory.wf m = true) : Memory.wf (memClear m lo hi) = true := spWf_filter _ w

/-- The memory after reset is in canonical form. -/
theorem reset_mem_wf : Memory.wf State.reset.mem = true := rfl

/-- A byte reads what was written there, and elsewhere what it read before. -/
theorem memGet_memPut (m : List Host.Cell) (a b : Nat) (x : Byte) : memGet (memPut m a x) b = if b = a then x else memGet m b := spGet_spPut ..

/-- Writing several bytes leaves every other byte. -/
theorem memGet_memWrite_ne (m : List Host.Cell) (a n v : Nat) {b : Nat} (h : b < a ∨ a + n ≤ b) : memGet (memWrite m a n v) b = memGet m b := by
  induction n generalizing m a v with
  | zero => rfl
  | succ n ih =>
    simp only [memWrite]
    rw [ih _ _ _ (by omega), memGet_memPut, if_neg (by omega)]

/-- Reading looks at its own bytes alone. -/
theorem memRead_congr {m m' : List Host.Cell} {a n : Nat} (h : ∀ b, a ≤ b → b < a + n → memGet m b = memGet m' b) : memRead m a n = memRead m' a n := by
  induction n generalizing a with
  | zero => rfl
  | succ n ih => simp only [memRead]; rw [h a (by omega) (by omega), ih fun b h1 h2 => h b (by omega) (by omega)]

theorem memRead_memWrite_ne (m : List Host.Cell) (a n v : Nat) {b k : Nat} (h : b + k ≤ a ∨ a + n ≤ b) :
    memRead (memWrite m a n v) b k = memRead m b k :=
  memRead_congr fun c h1 h2 => memGet_memWrite_ne m a n v (by omega)

end Sys2Proof.Machine
end

