-- ==== Sys2Proof/Tests/Slice0.lean ====
section
/-! SUPPORT. Tests/Slice0.lean: a term for each check of WellFormed that the check refuses; for each statement of
Certificates/Slice0/Obligations.lean a state and operands that meet the hypotheses of its clauses (`wit_…`), at the ends of their ranges;
and examples of the spec (`test_…`). The states are those after reset, moved to a device state, with single fields set. -/
namespace Sys2Proof.Tests
set_option Elab.async false
open Sys2Proof Sys2Proof.Machine Sys2Proof.Stmt

/-- After reset, in device state `d`: 2 BOOT, 3 CONFIG, 4 DEFAULT, 5 LINKS, 6 ARMED, 7 RUN, 8 DEGRADED, 9 BLOCKED, 10 SAFE, 11 SEALED, 12 THERMAL. -/
def st (d : Nat) : State := State.reset.setDev d
def s5 : State := st 5
def s7 : State := st 7

/-- A value of a field at its place in the register. -/
def fv (f : Fld) (n : Nat) : Word := BitVec.ofNat 32 (n * 2 ^ f.lo)

/-- The access of `m` to `a` is served in its tick, whatever it writes, in a state in which nothing waits for a resource. -/
def isServed (s : State) (m : Master) (a : Nat) : Bool :=
  s.mapOpen m && inWindow a && reaches m a && s.analogServes a && !s.holds m a && s.bus.deferred.isEmpty && s.bus.served.isEmpty
    && s.host.accs.isEmpty && decide (s.dev ≠ stSEALED) && decide (s.dev ≠ stTHERMAL)

theorem served_of (s : State) (m : Master) (w : Bool) (a : Nat) (v : Word) (h : isServed s m a = true) : ServedNow s m w a v := by
  simp only [isServed, Bool.and_eq_true, Bool.not_eq_true', List.isEmpty_iff, decide_eq_true_eq] at h
  obtain ⟨⟨⟨⟨⟨⟨⟨⟨⟨h1, h2⟩, h3⟩, h4⟩, h5⟩, h6⟩, h7⟩, h8⟩, h9⟩, h10⟩ := h
  refine ⟨h1, h2, h3, h4, h5, by simp [h6], Or.inl ?_, by simp [h8], fun _ _ => ⟨h9, h10⟩, fun _ _ => h9⟩
  simp [State.servedBy, h7]
/-- RUN, with 0, 5, −5 and −32768 in lanes 0 to 3 of V1. -/
def sV : State := s7.land { left := 1, acts := [.vec 1 (BitVec.allOnes 64) [0, 5, -5, -32768]], flags := [], ssat := false, sdz := false }

theorem wit_CompareAndFunctionInstructionsIssueTheirResults :
    sV.vS 1 0 = 0 ∧ sV.vS 1 1 ≠ 0 ∧ 0 ≤ sV.vS 1 0 ∧ sV.vS 1 3 < 0 ∧ (sV.kReg 0).getLsbD 0 = true := by
  and_intros <;> decide +kernel

/-- RUN, with state rows 100 to 104 and 105 to 109, state words 200 to 203 and 204 to 207, and page 1 current in the first of each. -/
def sPg : State :=
  let s := (((s7.set F.ENG_SPAGE_V_BASE 100).set F.ENG_SPAGE_V_NROWS 5).set F.ENG_SPAGE_S_BASE 200).set F.ENG_SPAGE_S_NWORDS 4
  { s with eng := { s.eng with pV := 1, wV := 2, pS := 1 } }

theorem wit_EngineMemoryInstructionsLoadAndStore :
    (sPg.vState 99 = none ∧ sPg.vPage1 99 = false) ∧ (sPg.vState 105 = none ∧ sPg.vPage1 105 = true ∧ sPg.vPage1 109 = true) ∧
    (sPg.vState 100 = some 0 ∧ sPg.vState 104 = some 4) ∧ (sPg.sState 0x3FEF = none ∧ sPg.sPage1 0x3FEF = false) ∧
    (sPg.sState 204 = none ∧ sPg.sPage1 207 = true) ∧ (sPg.sState 200 = some 0 ∧ sPg.sState 203 = some 3) ∧ sPg.sState 0x3FF0 = none := by
  and_intros <;> decide +kernel

theorem wit_TableInstructionsInterpolate :
    sV.vS 1 3 < 0 ∧ ((sV.vLane 1 0).toNat < 1024 ∧ 2048 * ((sV.vLane 1 3).toNat / 2048) + 1024 > (sV.vLane 1 3).toNat) := by
  and_intros <;> decide +kernel

theorem wit_CrossLaneInstructionsIssueTheirResults :
    (0 ∈ (List.range 64).filter fun n => (sV.kReg 0).getLsbD n) ∧ (63 ∈ (List.range 64).filter fun n => (sV.kReg 0).getLsbD n) ∧
    ((List.range 64).filter fun n => (sV.kReg 1).getLsbD n) = [] := by
  and_intros <;> decide +kernel

theorem wit_ScalarAndMaskOperationsIssueTheirResults :
    s7.sReg 0 = 0 ∧ (s7.land { left := 1, acts := [.scal 15 0x80000000#32], flags := [], ssat := false, sdz := false }).sReg 15 ≠ 0 := by
  and_intros <;> decide +kernel

theorem wit_FlagLadleAndSlotInstructionsAct :
    (∃ f, f < 5 ∧ (127 : Fin 128).val.testBit f) ∧ (∃ f, f < 5 ∧ (16 : Fin 128).val.testBit f) ∧ s7.get F.RING_DOMCFG_SLOTLEN = 0 ∧ s7.eng.ladle.length < 512 := by
  refine ⟨⟨0, by decide⟩, ⟨4, by decide⟩, ?_, ?_⟩ <;> decide +kernel

theorem wit_WriteBackLandsAfterItsLatency :
    let w : Wb := { left := 1, acts := [.scal 3 7], flags := [], ssat := false, sdz := false }
    1 ≤ w.left ∧ 0 < w.left ∧ (3 : Nat) ≠ 4 ∧ (63 : Nat) < 64 := by decide
theorem wit_RegisterAccessesReadAndWrite :
    (∀ n ∈ [0, 3], isServed s5 .host (R.SYS_SCRATCH n)) ∧ isServed s5 .host R.SYS_EVT ∧
    (s5.fresh R.ENG_PEAKCYC = 0 ∧ (∀ e ∈ s5.bus.rescap ++ s5.bus.caps, e.1 ≠ busKey .host R.ENG_PEAKCYC) ∧ isServed s5 .host R.ENG_PEAKCYC) ∧
    (∀ a ∈ [R.SEXT_B1_LO, R.SEXT_B2_LO, R.ENG_PCNT_LO, R.ENG_OVR_T_LO, R.LOG_TRIGT_LO],
      (∀ e ∈ s5.bus.rescap ++ s5.bus.caps, e.1 ≠ busKey .host a ∧ e.1 ≠ busKey .host (a + 4)) ∧ isServed s5 .host a) ∧
    (∀ a ∈ [R.CHRONO_SET_LO, R.MOD_TREF_LO, R.OCL_LCMDP_LO], isServed s5 .host a) ∧
    (s5.mapOpen .host = true ∧ inWindow (0#32).toNat = false ∧ inWindow (0xFFFFFFFC#32).toNat = false ∧ s5.reactNow Q.SYS_ADDRERR ≠ 0) ∧
    isServed (s5.set F.SYS_STRAP_STRAP 4) .debug (R.SYS_SCRATCH 0) ∧
    (∀ n ∈ [0, 255], (∀ e ∈ s5.bus.rescap ++ s5.bus.caps, e.1 ≠ busKey .host (R.ADC_RES n 0)) ∧ isServed s5 .host (R.ADC_RES n 0)) ∧
    (∀ o ∈ [0, 0x7FFFF], (s5.logState = logIDLE ∨ s5.logState = logDONE) ∧
      (∀ e ∈ s5.bus.rescap ++ s5.bus.caps, e.1 ≠ busKey .host (0x18000000 + 4 * o)) ∧ isServed s5 .host (0x18000000 + 4 * o)) ∧
    (s5.bus.held = [] ∧ s5.servedBy (R.SYS_SCRATCH 3) = none ∧ s5.host.accs = []) := by
  and_intros <;> decide +kernel

theorem wit_FaultRegistersSelectConfigureAndClear :
    (∀ b ∈ [0, 23], isServed s5 .host (fltBase b + 8)) ∧
    (∀ b ∈ [0, 23], s5.fltIdx .host b = 0 ∧ ((srcDefs b)[0]?).isSome = true ∧ (∀ e ∈ s5.recent, e.1 ≠ ⟨b, 0⟩) ∧ isServed s5 .host (fltBase b + 12)) ∧
    (∀ b ∈ [0, 23], (∀ e ∈ s5.recent, e.1.blk ≠ b) ∧ isServed s5 .host (fltBase b + 4)) := by
  and_intros <;> decide +kernel
/-- LINKS, with the low word of a load of CT64 held for the host port. -/
def sSet : State := { s5 with bus := { s5.bus with lows := [(busKey .host R.CHRONO_SET_LO, some 0xFFFFFFFF#32)] } }

theorem wit_TimeAndEngineSettingsTakeEffect :
    (sSet.on F.SEXT_CTRL_EN = false ∧ spGet none sSet.bus.lows (busKey .host R.CHRONO_SET_LO) = some 0xFFFFFFFF#32 ∧ isServed sSet .host R.CHRONO_SET_HI) ∧
    ((s5.set F.CHRONO_CTRL_SERVO 0).on F.CHRONO_CTRL_SERVO = false ∧ isServed (s5.set F.CHRONO_CTRL_SERVO 0) .host R.CHRONO_TRIM) ∧
    ((s5.set F.CHRONO_CTRL_SERVO 1).on F.CHRONO_CTRL_SERVO = true ∧ isServed (s5.set F.CHRONO_CTRL_SERVO 1) .host R.CHRONO_TRIM) ∧
    (∀ d ∈ [3, 4, 5], (st d).on F.SEXT_CTRL_EN = false ∧ ((st d).dev = stCONFIG ∨ (st d).dev = stDEFAULT ∨ (st d).dev = stLINKS) ∧
      (st d).sxMayStart = true ∧ isServed (st d) .host R.SEXT_CTRL) ∧
    (∀ d ∈ [3, 4, 5], ((st d).set F.SEXT_CTRL_EN 1).on F.SEXT_CTRL_EN = true ∧ isServed ((st d).set F.SEXT_CTRL_EN 1) .host R.SEXT_CTRL) ∧
    (s5.on F.SEXT_CTRL_EN = false ∧ isServed s5 .host R.SEXT_FNOM) ∧ (0 < (1#32).toNat % 2 ^ 11 ∧ 0 < (2047#32).toNat % 2 ^ 11 ∧ isServed s5 .host R.SEXT_N) ∧
    (∀ p ∈ [(200, 200), (1000, 2000)], fldOf F.ENG_TIMING_T_LEAD (fv F.ENG_TIMING_T_LEAD p.1 + fv F.ENG_TIMING_T_START p.2) = p.1 ∧
      fldOf F.ENG_TIMING_T_START (fv F.ENG_TIMING_T_LEAD p.1 + fv F.ENG_TIMING_T_START p.2) = p.2 ∧ isServed s5 .host R.ENG_TIMING) ∧
    isServed (s5.set F.SEXT_CTRL_EN 1) .host R.ENG_TIMING ∧
    (s5.get F.ENG_STAT_ESTATE = 0 ∧ s5.spageVOk (fv F.ENG_SPAGE_V_BASE 1792 + fv F.ENG_SPAGE_V_NROWS 128) = true ∧
      s5.spageVOk (fv F.ENG_SPAGE_V_BASE 0 + fv F.ENG_SPAGE_V_NROWS 128) = true ∧ isServed s5 .host R.ENG_SPAGE_V) ∧
    (spageSOk (fv F.ENG_SPAGE_S_BASE (0x3FF0 - 2048) + fv F.ENG_SPAGE_S_NWORDS 1024) = true ∧ spageSOk 0 = true ∧ isServed s5 .host R.ENG_SPAGE_S) ∧
    isServed s5 .host R.ENG_CTRL := by
  and_intros <;> decide +kernel

/-- LINKS, with every latch of a comparator and a trip input set and their sources, but that of comparator 4, deasserted; the Hall faults and
the channel faults set. -/
def sLat : State :=
  let s := (List.range 8).foldl (fun (s : State) n => (s.set (F.TRIP_TINC_EN n) 1).set (F.TRIP_TINC_TPOL n) 1) ((s5.set F.CMP_LATCH_L 0xFFFFFF).set F.CMP_OUT_O 0x10)
  let s := (List.range 3).foldl (fun (s : State) n => ((s.set (F.HALL_STAT_HALLF n) 1).set (F.HALL_STATE_CODE n) 5).set (F.AXD_CHSTAT_FAULT n) 1) s
  s.set F.TRIP_TLATCH_L 255

/-- A comparator setting with every field at the end of its range that the rule allows. -/
def cmpTop (n : Nat) : Word := fv (F.CMP_CFG_HYS n) 9 + fv (F.CMP_CFG_CLRCH n) 10 + fv (F.CMP_CFG_SENSE n) 3 + fv (F.CMP_CFG_HI n) 1000 + fv (F.CMP_CFG_LO n) 900

theorem wit_TripAndSafetySettingsTakeEffect :
    (∀ n ∈ [0, 23], fldOf (F.CMP_CFG_HYS n) (cmpTop n) = 9 ∧ fldOf (F.CMP_CFG_CLRCH n) (cmpTop n) = 10 ∧ fldOf (F.CMP_CFG_SENSE n) (cmpTop n) = 3 ∧
      8 * (fldOf (F.CMP_CFG_HYS n) (cmpTop n) + 1) * 1024 < 2500 * ((fldOf (F.CMP_CFG_HI n) (cmpTop n) : Int) - fldOf (F.CMP_CFG_LO n) (cmpTop n)) ∧
      s5.get (F.CMP_CFG_SENSE n) = 0 ∧ isServed s5 .host (R.CMP_CFG n)) ∧
    ((∀ n, n < 24 → (0xFFFFEF#32).getLsbD n = true → sLat.fbit F.CMP_OUT_O n = false ∧ sLat.clearable F.CMP_LATCH_L n = true) ∧ isServed sLat .host R.CMP_LATCH) ∧
    ((fv F.CMP_TEST_SWAP 1 + 0x80000017#32).getLsbD 31 = true ∧
      ((s5.set (F.CMP_CFG_SENSE 23) 1).plainWrite R.CMP_TEST (fv F.CMP_TEST_SWAP 1 + 0x80000017#32)).testRefused = false ∧ isServed (s5.set (F.CMP_CFG_SENSE 23) 1) .host R.CMP_TEST) ∧
    ((∀ n, n < 8 → (255#32).getLsbD n = true → sLat.tinSource n = false ∧ sLat.clearable F.TRIP_TLATCH_L n = true) ∧ isServed sLat .host R.TRIP_TLATCH) ∧
    (∀ n ∈ [0, 19], isServed s5 .host (R.TRIP_MASK n)) ∧
    (∀ a ∈ [0, 2], ∀ w ∈ [1, 100], s5.on (F.HALL_CFG_EN a) = false ∧ (0x80000000#32 + fv (F.HALL_CFG_WIN a) w + fv (F.HALL_CFG_SPR a) 1).getLsbD 31 = true ∧
      fldOf (F.HALL_CFG_WIN a) (0x80000000#32 + fv (F.HALL_CFG_WIN a) w + fv (F.HALL_CFG_SPR a) 1) = w ∧
      fldOf (F.HALL_CFG_SPR a) (0x80000000#32 + fv (F.HALL_CFG_WIN a) w + fv (F.HALL_CFG_SPR a) 1) ≠ 0 ∧ isServed s5 .host (R.HALL_CFG a)) ∧
    ((∀ n, n < 3 → (7#32).getLsbD n = true → (hallSector (sLat.get (F.HALL_STATE_CODE n))).isSome = true ∧ sLat.clearable (F.HALL_STAT_HALLF n) 0 = true) ∧ isServed sLat .host R.HALL_CLR) ∧
    isServed s5 .host R.SAFE_SOUTREQ ∧ (isServed s5 .host R.SAFE_KEY ∧ (0#32) ≠ 0x5AFE#32) ∧
    (∀ a ∈ [0, 2], sLat.axd.vmov = false ∧ sLat.axd.vgdLow = false ∧ sLat.clearable (F.AXD_CHSTAT_FAULT a) 0 = true ∧ isServed sLat .host (R.AXD_FLTCLR a)) := by
  and_intros <;> decide +kernel

/-- A channel setting that enables it. -/
def chanOn (r : Nat) : Word := 1 + fv (F.MOD_CFG_MODE r) 2 + fv (F.MOD_CFG_GRP r) 15

/-- LINKS, with the converters enabled, no list configured, and injected request 3 enabled for the host. -/
def sAdc : State := (s5.set F.ADC_CTRL_EN 1).set (F.ADC_INJ_EN 3) 1
def sAdcOff : State := (List.range 16).foldl (fun (s : State) n => s.set (F.ADC_LIST_COUNT n) 0) s5

theorem wit_ModulationAndConverterSettingsTakeEffect :
    (∀ c ∈ [0, 447, 448, 455, 456, 464], s5.on (F.MOD_CFG_EN (ri (chanOf (Fin.ofNat 465 c)))) = false ∧ s5.cfgBad (chanOf (Fin.ofNat 465 c)) (chanOn (ri (chanOf (Fin.ofNat 465 c)))) = false ∧
      (chanOn (ri (chanOf (Fin.ofNat 465 c)))).getLsbD 0 = true ∧ isServed s5 .host (chBase (chanOf (Fin.ofNat 465 c))) ∧ isServed s5 .host (chBase (chanOf (Fin.ofNat 465 c)) + 16)) ∧
    (∀ c ∈ [0, 464], (s5.set (F.MOD_CFG_EN (ri (chanOf (Fin.ofNat 465 c)))) 1).on (F.MOD_CFG_EN (ri (chanOf (Fin.ofNat 465 c)))) = true ∧
      (s5.set (F.MOD_CFG_EN (ri (chanOf (Fin.ofNat 465 c)))) 1).cfgBad (chanOf (Fin.ofNat 465 c)) ((s5.reg (R.MOD_CFG (ri (chanOf (Fin.ofNat 465 c)))) >>> 1) <<< 1) = false) ∧
    isServed s5 .host R.MOD_GLOAD ∧
    (∀ a ∈ [1000, 1000000], s5.on F.SEXT_CTRL_EN = false ∧ fldOf F.MOD_AREF_AREF (fv F.MOD_AREF_AREF a) = a ∧ isServed s5 .host R.MOD_AREF) ∧
    (sAdcOff.on F.ADC_CTRL_EN = false ∧ sAdcOff.listsBad = false ∧ isServed sAdcOff .host R.ADC_CTRL) ∧ (sAdc.on F.ADC_CTRL_EN = true ∧ isServed sAdc .host R.ADC_CTRL) ∧
    (∀ n ∈ [0, 15], sAdc.fbit F.ADC_LBUSY_L n = false ∧ isServed sAdc .host R.ADC_LSTART) ∧
    (sAdc.on (F.ADC_INJ_EN 3) = true ∧ sAdc.get (F.ADC_INJ_TRIG 3) = 0 ∧ sAdc.injPhase 3 = 0 ∧ isServed sAdc .host R.ADC_INJGO) ∧
    (∀ i ∈ [0, 7], s5.retired i = false ∧ s5.get F.ADC_SPARE_SPARE = 8 ∧ s5.retired 8 = false ∧ isServed s5 .host R.ADC_RETIRE) ∧
    (∀ n ∈ [0, 15], ∀ o ∈ [32, 256], s5.on (F.SDF_CFG_EN n) = false ∧ fldOf (F.SDF_CFG_OSR n) (0x80000000#32 + fv (F.SDF_CFG_OSR n) o) = o ∧ isServed s5 .host (R.SDF_CFG n)) := by
  and_intros <;> decide +kernel

/-- LINKS, with lane `l` READY on a link that is not up. -/
def sRdy (l : Nat) : State := s5.set (F.OCL_LSTATE_STATE l) loREADY
def sFail (l : Nat) : State := s5.set (F.OCL_LSTATE_STATE l) loFAIL
def sLn (l : Nat) : State := (s5.set (F.LANE_CFG_EN l) 1).set (F.LANE_STAT_LSTATE l) lsHUNT
def sKey (d : Nat) : State := ((st d).set F.UPD_STAT_NOIMAGE 1).set F.NVM_KEYS_PROG 15

theorem wit_LinkLogAndKeyRegistersTakeEffect :
    (∀ l ∈ [0, 55], fldOf F.OCL_LCMD_LANE (0x80000000#32 + fv F.OCL_LCMD_LANE l + fv F.OCL_LCMD_OPC 8) = l ∧ fldOf F.OCL_LCMD_OPC (0x80000000#32 + fv F.OCL_LCMD_LANE l + fv F.OCL_LCMD_OPC 8) = 8 ∧
      (sRdy l).on F.OCL_LCMDST_BUSY = false ∧ (sRdy l).ostate l = loREADY ∧ ((sRdy l).lane l).cmd = none ∧ (sRdy l).laneLocked l = false ∧ isServed (sRdy l) .host R.OCL_LCMD) ∧
    (∀ l ∈ [0, 55], (sFail l).ostate l = loFAIL ∧ isServed (sFail l) .host (R.OCL_LCTRL l)) ∧
    (∀ l ∈ [0, 63], s5.on (F.LANE_CFG_EN l) = false ∧ s5.ls l = lsOFF ∧ fldOf (F.LANE_CFG_RATE l) (s5.wouldBe (R.LANE_CFG l) 1) ≠ 3 ∧ isServed s5 .host (R.LANE_CFG l)) ∧
    (∀ l ∈ [0, 63], (sLn l).on (F.LANE_CFG_EN l) = true ∧ (sLn l).get (F.LANE_CFG_RATE l) ≠ 3 ∧ (∀ i, i < 32 → i ≠ 0 → ((sLn l).reg (R.LANE_CFG l) &&& 0xFFFFFFFE#32).getLsbD i = ((sLn l).reg (R.LANE_CFG l)).getLsbD i) ∧
      isServed (sLn l) .host (R.LANE_CFG l)) ∧
    (∀ l ∈ [0, 63], (sLn l).on (F.LANE_EYECTL_BUSY l) = false ∧ lsHUNT ≤ (sLn l).ls l ∧ isServed (sLn l) .host (R.LANE_EYECTL l)) ∧
    isServed s5 .host R.OCL_EN_LO ∧ isServed s5 .host R.OCL_EN_HI ∧ ((s5.set F.LOG_STAT_STATE logPRE).logState = logPRE ∧ isServed (s5.set F.LOG_STAT_STATE logPRE) .host R.LOG_CTRL) ∧
    (∀ d ∈ [3, 4], gateOpenCfg (sKey d).dev = true ∧ (sKey d).on F.UPD_STAT_NOIMAGE = true ∧ (sKey d).fbit F.NVM_KEYS_PROG 3 = true ∧ (sKey d).fbit F.NVM_KEYS_REVOKED 3 = false ∧
      (7 : Nat).testBit 3 = false ∧ isServed (sKey d) .host R.NVM_REVOKE) := by
  and_intros <;> decide +kernel
/-! ### Hosts: a command on the QSPI port, in flow 4, that is taken in and started in its tick -/

/-- Device state `d`, this device ACTIVE, the QSPI port enabled, the next number of flow 4 at 7 and none of it unfinished. -/
def hb (d : Nat) : State :=
  { State.reset with regs := [(R.SYS_STATE, BitVec.ofNat 32 (16 + d)), (R.HOST_FLOW_N 4, 7#32), (R.HOST_FLOW_D 4, 7#32)] }

def hdr (n cls : Nat) : HostHdr :=
  { port := .qspi, etype := 0, dst := 0, src := 0, ver := 1, kind := 1, len := 4 * n, avail := 20 + 4 * n, crcOk := true, seq := 7, cls := BitVec.ofNat 8 cls, node := 0xFFFF }

def hcmd (opc cls : Nat) (body : List Word) : HCmd :=
  { key := ⟨4, 7⟩, hseq := 7, opc, cls, node := 0xFFFF, body, src := 0, port := .qspi }

def quietFlows (s : State) : Bool := s.host.flows.all fun e => e.2.held.isEmpty && e.2.taken.isEmpty && e.2.queries.isEmpty

theorem quietFlows_of (s : State) (h : quietFlows s = true) (f : Nat) : (s.flow f).held = [] ∧ (s.flow f).taken = [] ∧ (s.flow f).queries = [] := by
  unfold quietFlows at h
  unfold State.flow
  generalize s.host.flows = l at h ⊢
  induction l with
  | nil => simp [spGet, flowInit]
  | cons e l ih =>
    obtain ⟨k, v⟩ := e
    simp only [List.all_cons, Bool.and_eq_true, List.isEmpty_iff] at h
    unfold spGet
    split
    · exact ⟨h.1.1.1, h.1.1.2, h.1.2⟩
    · exact ih (by simpa using h.2)

/-- The frame is admitted as the command, which is accepted; nothing else waits, and no partner is linked. -/
def hostNow (s : State) (opc cls : Nat) (body : List Word) : Bool :=
  let c := hcmd opc cls body
  decide (stCONFIG ≤ s.dev) && !s.sys.offL && s.portOn .qspi && !frameBad (hdr body.length cls) body && decide (cls < 256) &&
    s.badCmd c == none && decide (s.destOf 0xFFFF = .own) && stateAllows s.dev opc &&
    (cls == 0 || (s.dev != stSEALED && s.dev != stTHERMAL && (s.active || decide (s.dev < stLINKS)) && s.canTake c && s.regN (R.HOST_FLOW_N 4) == 7
      && s.regN (R.HOST_FLOW_D 4) == 7)) &&
    quietFlows s && s.host.ringCmds.isEmpty && s.host.ops.isEmpty && s.host.accs.isEmpty && decide (s.host.queue.length < 64) && s.sys.move.isNone && !s.linked

theorem hostNow_of (s : State) (opc cls : Nat) (body : List Word) (h : hostNow s opc cls body = true) :
    Frame s (hdr body.length cls) opc body (hcmd opc cls body) ∧ Accepted s (hcmd opc cls body) ∧ (hcmd opc cls body).cls = cls ∧ HostQuiet s ∧ s.linked = false := by
  simp only [hostNow, Bool.and_eq_true, Bool.or_eq_true, Bool.not_eq_true', decide_eq_true_eq, beq_iff_eq, bne_iff_ne, List.isEmpty_iff, Option.isNone_iff_eq_none] at h
  obtain ⟨⟨⟨⟨⟨⟨⟨⟨⟨⟨⟨⟨⟨⟨⟨h1, h2⟩, h3⟩, h4⟩, h5⟩, h6⟩, h7⟩, h8⟩, h9⟩, h10⟩, h11⟩, h12⟩, h13⟩, h14⟩, h15⟩, h16⟩ := h
  refine ⟨⟨h1, h2, h3, h4, ?_, fun _ => ⟨rfl, rfl⟩, fun hp => absurd rfl hp⟩, ⟨h6, h7, h8, fun hc => ?_⟩, rfl, ⟨quietFlows_of s h10, h11, h12, h13, h14, h15⟩, h16⟩
  · simp [hcmd, hdr, Nat.mod_eq_of_lt h5]
  · rcases h9 with h9 | ⟨⟨⟨⟨⟨a, b⟩, c⟩, d⟩, e⟩, f⟩
    · exact absurd h9 hc
    · exact ⟨a, b, c, d, e.symm, f⟩

/-- A command of host 5 on HS0, in flow 2. -/
def sEth : State :=
  ((((hb 5).set F.HOST_CTRL_HS0EN 1).set (F.HOST_FLOW_CFG_EN 2) 1).setReg64 (R.HOST_FLOW_MAC_LO 2) 5).setReg64 R.HOST_MAC_LO 9
def hEth : HostHdr := { hdr 2 0 with port := .hs0, etype := BitVec.ofNat 16 (sEth.get F.HOST_ETYPE_ETYPE), dst := 9, src := 5 }

def bodyN (l : List Nat) : List Word := l.map (BitVec.ofNat 32)
/-- FIX bank 1 holds fix 9; an event waits for its acknowledgement in flow 4. -/
def sBank (d : Nat) : State := { hb d with ring := { (hb d).ring with banks := [(1, { state := fxARMED, fixid := 9, tfix := 7, t := 0 })] } }
def sEvt (d : Nat) : State := (hb d).setFlow 4 { (hb d).flow 4 with event := some (.qspiStat 5), lastEvent := 3 }

theorem wit_HostReadsWritesAndStatusAnswer :
    (Frame sEth hEth 1 [BitVec.ofNat 32 (R.SYS_SCRATCH 0), 1#32] { hcmd 1 0 [BitVec.ofNat 32 (R.SYS_SCRATCH 0), 1#32] with key := ⟨2, 7⟩, src := 5, port := .hs0 }) ∧
    (∀ n ∈ [0, 3], ∀ cls ∈ [0, 1], hostNow (hb 5) 1 cls (bodyN [R.SYS_SCRATCH n, 1])) ∧
    (∀ n ∈ [0, 3], hostNow (hb 5) 2 1 (bodyN [R.SYS_SCRATCH n, 1, 99]) ∧ hostNow (hb 5) 3 1 (bodyN [R.SYS_SCRATCH n, 0xFF, 0x123])) ∧
    ((∀ n ∈ [0, 3], (hb 5).servedBy (claimKey (R.SYS_SCRATCH n)) = none) ∧ (hb 5).bus.deferred = [] ∧ (hb 5).bus.rescap ++ (hb 5).bus.caps = []) ∧
    (hostNow (hb 5) 1 1 (bodyN [4, 1]) ∧ hostNow (hb 5) 2 1 (bodyN [4, 1, 5]) ∧ hostNow (hb 5) 3 1 (bodyN [4, 1, 5]) ∧ inWindow 4 = false) ∧
    (∀ d ∈ [3, 11, 12], hostNow (hb d) 4 0 []) ∧
    (hostNow (sBank 5) 0x31 0 (bodyN [9, 2 ^ 16 * 16]) ∧ (sBank 5).bankOf 9 = some 1) ∧ (hostNow (hb 5) 0x31 0 (bodyN [9, 2 ^ 16 * 16]) ∧ (hb 5).bankOf 9 = none) ∧
    (hostNow (sEvt 5) 0x71 0 (bodyN [3]) ∧ ((sEvt 5).flow 4).event = some (.qspiStat 5) ∧ ((sEvt 5).flow 4).lastEvent = 3) ∧
    ((hb 5).qspiOn = true ∧ frameBad { hdr 0 0 with crcOk := false } [] = true ∧ 0 < (hb 5).reactNow Q.HOST_RXERR ∧ (hb 5).reactNow Q.HOST_RXERR ≤ 3 ∧
      (hb 5).on F.HOST_STAT_RXERR = false ∧ quietFlows (hb 5)) := by
  refine ⟨⟨by decide +kernel, by decide +kernel, by decide +kernel, by decide +kernel, rfl, fun h => absurd h (by decide), fun _ => by decide +kernel⟩, ?_⟩
  and_intros <;> decide +kernel

/-- Both inactive banks verified, each Almanac of one row; the engine running, or not; every mode defined. -/
def sVer : State := ((((hb 5).set F.ALM_SWAP_VERA 1).set F.ALM_SWAP_VERP 1).set F.ENG_ALMLEN_LEN0 1).set F.ENG_ALMLEN_LEN1 1
def sVerR : State := sVer.set F.ENG_STAT_ESTATE 2
def sMode : State := (hb 5).set F.ALM_MCFG_DEF 0xFF

theorem wit_HostProgramBankAndModeCommandsAct :
    (hostNow (hb 5) 0x10 1 (bodyN [8191, 1, 2, 3]) ∧ hostNow (hb 5) 0x10 1 (bodyN [0, 0])) ∧ (hostNow (hb 5) 0x10 1 (bodyN [2 ^ 31, 1, 2, 3]) ∧ ((2 ^ 31) : Nat).testBit 31 = true) ∧
    hostNow (hb 5) 0x11 1 (bodyN [1023, 1, 2, 3, 4, 5]) ∧ hostNow (hb 5) 0x11 1 (bodyN [2 ^ 31 + 3 * 2 ^ 16, 1, 2, 3, 4, 5]) ∧
    (hostNow (hb 5) 0x12 1 (bodyN [1]) ∧ (hb 5).swapBad false 1 0 = some 0x19) ∧
    (∀ e ∈ [1, 3], hostNow sVerR 0x12 1 (bodyN [e]) ∧ sVerR.swapBad false e 0 = none ∧ hostNow sVerR 0x12 1 (bodyN [e + 2 ^ 31, 9, 1]) ∧ sVerR.swapBad true e (9 + 2 ^ 32) = none) ∧
    (∀ e ∈ [1, 3], hostNow sVer 0x12 1 (bodyN [e]) ∧ sVer.swapBad false e 0 = none ∧ sVer.get F.ENG_STAT_ESTATE = 0) ∧
    (hostNow (sMode.set F.ENG_STAT_ESTATE 2) 0x13 1 (bodyN [7]) ∧ (sMode.set F.ENG_STAT_ESTATE 2).on F.ALM_MODE_PEND = false) ∧
    (hostNow sMode 0x13 1 (bodyN [7]) ∧ sMode.modeDefined 7 = true) ∧
    (hostNow ((hb 5).set F.ALM_STAT_MODEREJ 1) 0x13 1 (bodyN [7]) ∧ ((hb 5).set F.ALM_STAT_MODEREJ 1).modeDefined 7 = false) := by
  and_intros <;> decide +kernel

/-- ARMED, with the Sextant locked. -/
def sRunOk : State := (hb 6).set F.SEXT_STAT_STATE sxLOCKED
/-- An active source: one that pends with a reaction that blocks. -/
def sSrc : State := (hb 9).setSrc Q.HALL_HALLF { (hb 9).src Q.HALL_HALLF with pend := true, rlvl := 4 }
/-- A demand on safety input 0. -/
def sDem : State := (hb 10).set (F.SAFE_SINCFG_EN 0) 1

theorem wit_HostMoveFixAndSafetyCommandsAct :
    (hostNow (hb 5) 0x20 1 [] ∧ (hb 5).linksReady = true) ∧ (hostNow ((hb 5).set F.SYS_CTRL_REQRING 1) 0x20 1 [] ∧ ((hb 5).set F.SYS_CTRL_REQRING 1).linksReady = false) ∧ hostNow (hb 7) 0x20 1 [] ∧
    (hostNow sRunOk 0x21 1 [] ∧ sRunOk.runAllowed = true) ∧ (hostNow (hb 6) 0x21 1 [] ∧ (hb 6).runAllowed = false) ∧ hostNow (hb 7) 0x21 1 [] ∧
    (∀ d ∈ [6, 7, 8], hostNow (hb d) 0x22 1 []) ∧ hostNow (hb 5) 0x22 1 [] ∧
    (hostNow (hb 9) 0x23 1 [] ∧ (hb 9).activeSource = false) ∧ (hostNow sSrc 0x23 1 [] ∧ sSrc.activeSource = true) ∧ hostNow (hb 7) 0x23 1 [] ∧
    (hostNow (hb 5) 0x60 1 [] ∧ (hb 5).safe.disc = 0 ∧ (hb 5).safetySrc = false ∧ (hb 5).demands &&& (hb 5).get (F.SAFE_CHCFG_STOMASK 2) = 0 ∧ (hb 5).safe.ss1Held.testBit 2 = false) ∧
    (hostNow (hb 10) 0x60 1 [] ∧ (hb 10).safe.disc = 0 ∧ (hb 10).demands = 0) ∧ (hostNow sDem 0x60 1 [] ∧ sDem.safe.disc = 0 ∧ sDem.demands ≠ 0) ∧
    (hostNow (hb 5) 0x30 1 (bodyN [5, 320000, 0]) ∧ ctDiff 320000 (hb 5).now = 320000 ∧ (hb 5).bankOf 5 = none ∧ (hb 5).fixChoice = some 0) ∧
    (hostNow (hb 5) 0x30 1 (bodyN [5, 319999, 0]) ∧ ctDiff 319999 (hb 5).now < 320000) := by
  and_intros <;> decide +kernel

def sPre : State := (hb 5).set F.LOG_STAT_STATE logPRE

theorem wit_HostSteppedCommandsTakeASlot :
    (hostNow (hb 5) 0x40 1 [] ∧ ((hb 5).logState = logIDLE ∨ (hb 5).logState = logDONE) ∧ (hb 5).armBad = false) ∧
    (hostNow ((hb 5).set F.LOG_PREPOST_PRE 0x3FFFF) 0x40 1 [] ∧ ((hb 5).set F.LOG_PREPOST_PRE 0x3FFFF).armBad = true) ∧
    (hostNow sPre 0x40 1 [] ∧ ¬ (sPre.logState = logIDLE ∨ sPre.logState = logDONE)) ∧ hostNow (hb 5) 0x41 0 (bodyN [0, 1]) ∧ hostNow sPre 0x41 0 (bodyN [0, 1]) ∧
    (hostNow (hb 5) 0x50 1 [] ∧ (hb 5).spareOk = true) ∧ (hostNow ((hb 5).set F.ADC_SPARE_SPARE 15) 0x50 1 [] ∧ ((hb 5).set F.ADC_SPARE_SPARE 15).spareOk = false) ∧
    (∀ e ∈ [(7, 0), (6, 1), (4, 2)], hostNow ((hb 5).set F.AXD_VM_VM 2000) 0x52 1 (bodyN [e.1]) ∧ ((hb 5).set F.AXD_VM_VM 2000).get F.AXD_VMLIM_VMUV ≤ 2000 ∧
      e.1.testBit e.2 = true ∧ (∀ j < e.2, e.1.testBit j = false) ∧ ((hb 5).set F.AXD_VM_VM 2000).diagRefused e.2 = false) ∧
    (hostNow ((hb 5).set F.AXD_VMLIM_VMUV 7) 0x52 1 (bodyN [1]) ∧ ((hb 5).set F.AXD_VMLIM_VMUV 7).get F.AXD_VM_VM < 7) ∧ hostNow (hb 5) 0x72 0 (bodyN [0, 1]) := by
  and_intros <;> decide +kernel
/-! ### Hosts: secured PERSIST commands -/

/-- The record of a command that is taken in and secured. -/
def hrec (opc : Nat) (body : List Word) : HRec :=
  { cmd := hcmd opc 2 body, nvmWait := false, jackWait := false, started := false, accepted := false, unmirrored := false, partner := false, remote := false,
    apply := false, tick := 0, prio := 0, order := 0 }

/-- The state with this record alone in flow 4. -/
def taking (s : State) (r : HRec) : State := { s with host := { s.host with flows := [(4, { flowInit with taken := [r] })] } }

/-- The record of flow 4 starts next. -/
def startsNow (s : State) (opc : Nat) (body : List Word) : Bool :=
  let t := taking s (hrec opc body)
  t.hostRuns && decide (t.nextRec t.waiting false [] = some (hrec opc body)) && decide (s.host.queue.length < 64) && s.host.ops.isEmpty && stateAllows t.dev opc

theorem startsNow_of (s : State) (opc : Nat) (body : List Word) (h : startsNow s opc body = true) : StartsNext (taking s (hrec opc body)) opc (hrec opc body) := by
  simp only [startsNow, Bool.and_eq_true, decide_eq_true_eq, List.isEmpty_iff] at h
  obtain ⟨⟨⟨⟨h1, h2⟩, h3⟩, h4⟩, h5⟩ := h
  exact ⟨h1, h2, rfl, rfl, by simp [hrec, hcmd], ⟨[], [], rfl, by simp⟩, rfl, rfl, rfl, rfl, rfl, rfl, by simp [hrec, hcmd], h3, h4, h5⟩

def digest8 : List Nat := [1, 2, 3, 4, 5, 6, 7, 8]

theorem wit_PersistCommandsAreRecordedFirst :
    (∀ e ∈ [(0x51, bodyN [8, 1]), (0x70, []), (0x80, bodyN ([7, 5] ++ digest8)), (0x81, bodyN ([7, 0] ++ List.range 128)), (0x83, bodyN [7, 9]), (0x84, bodyN [0]),
      (0x85, []), (0x86, bodyN [0, 0]), (2, bodyN [R.SYS_SCRATCH 0, 1, 5]), (3, bodyN [R.SYS_SCRATCH 0, 1, 5]), (0x10, bodyN [0, 1, 2, 3]), (0x11, bodyN [0, 1, 2, 3, 4, 5])],
      hostNow (hb 5) e.1 2 e.2) ∧
    (∀ e ∈ [(0x12, bodyN [1]), (0x13, bodyN [1]), (0x20, []), (0x21, []), (0x22, []), (0x23, []), (0x30, bodyN [1, 2, 3]), (0x40, []), (0x50, []), (0x52, bodyN [1]), (0x60, []), (0x61, [])],
      hostNow (hb 5) e.1 2 e.2) := by
  and_intros <;> decide +kernel

/-- A session of image 7 with 5 chunks, of which none has a piece. -/
def sSess : State :=
  { hb 5 with nvm := { (hb 5).nvm with sess := some { session := 7, digest := (List.range 32).map (BitVec.ofNat 8), nch := 5, pieces := 0, age := 0, relay := false } } }
/-- Slot A CONFIRMED and slot B VERIFIED; both ring ports UP. -/
def sSlots : State :=
  let s := ((hb 5).set F.RING_STAT_ESTATE 3).set F.RING_STAT_WSTATE 3
  { s with nvm := { s.nvm with boot := { s.nvm.boot with stA := 5, stB := 3 } } }
def chunkBody : List Word := bodyN ([7, 7] ++ List.range 128)

theorem wit_UpdateConfigurationAndResetCommandsAct :
    (startsNow (hb 5) 0x51 (bodyN [8, 1, 2, 3]) ∧ (hb 5).on F.UPD_STAT_NOIMAGE = false ∧ (8 : Nat).testBit 31 = false) ∧
    (startsNow ((hb 5).set F.UPD_STAT_NOIMAGE 1) 0x51 (bodyN [8, 1]) ∧ ((hb 5).set F.UPD_STAT_NOIMAGE 1).on F.UPD_STAT_NOIMAGE = true) ∧
    (startsNow (hb 5) 0x70 [] ∧ (hb 5).sys.rstAt ≠ some (hb 5).now ∧ (hb 5).dev ≠ stSEALED ∧ (hb 5).dev ≠ stTHERMAL) ∧
    (startsNow (hb 5) 0x80 (bodyN ([7, 5] ++ digest8)) ∧ (hb 5).nvm.sess = none ∧ (hb 5).on F.SYS_STATE_TRIAL = false) ∧
    startsNow sSess 0x80 (bodyN ([8, 5] ++ digest8)) ∧
    (startsNow sSess 0x81 chunkBody ∧ chunkBody.length = 130 ∧ sSess.pfail = false ∧ (∀ y ∈ sSess.nvm.sess, y.session = 7 ∧ 0 < y.nch ∧ sSess.hashPresent y sSess.idleSlot 0 = true ∧
      (y.setPieces 0 (2 ^ 7)).has 0 = false)) ∧ startsNow (hb 5) 0x81 chunkBody ∧
    (∀ w ∈ [9, 2 ^ 31 + 511], startsNow sSlots 0x83 (bodyN [7, 2 ^ 28 + w]) ∧ sSlots.slotState 1 ∈ [3, 5, 7] ∧ sSlots.upd.relay = none ∧ sSlots.ringPort 0 = 3 ∧ sSlots.ringPort 1 = 3) ∧
    (startsNow (hb 5) 0x84 (bodyN [0]) ∧ (hb 5).actBad (bodyN [0]) = some 0x48) ∧ (startsNow sSlots 0x84 (bodyN [2 ^ 30 + 1]) ∧ sSlots.actBad (bodyN [2 ^ 30 + 1]) = none) ∧
    (startsNow ((hb 5).set F.SYS_STATE_TRIAL 1) 0x85 [] ∧ ((hb 5).set F.SYS_STATE_TRIAL 1).on F.SYS_STATE_TRIAL = true) ∧ startsNow (hb 5) 0x85 [] ∧
    (startsNow sSess 0x86 (bodyN [0, 0]) ∧ startsNow sSess 0x86 (bodyN [7, 0]) ∧ sSess.upd.act = none ∧ sSess.host.ringCmds = []) ∧ startsNow (hb 5) 0x86 (bodyN [0, 0]) ∧
    startsNow (hb 5) 0x61 [] ∧ hostNow (hb 5) 0x61 1 [] ∧ hostNow (hb 5) 0x82 0 (bodyN [0]) := by
  and_intros <;> decide +kernel

/-- A frame waits in the QSPI queue; the NVM writes the record of a command; a step of JOURNAL_READ, and one of a verification; an event. -/
def sQ : State := { hb 5 with host := { (hb 5).host with queue := [.qspiStat 9] } }
def hrecW : HRec := { hrec 0x22 [] with nvmWait := true }
def sNvmW : State := let s := taking (hb 5) hrecW; { s with nvm := { s.nvm with jobs := [.record (.cmd ⟨4, 7⟩) none] } }
def opJ : OpSlot := { cmd := hcmd 0x72 0 (bodyN [0, 4]), aux := [0, 0, 0], words := [] }
def hrecP : HRec := { hrec 0x10 (bodyN [2 ^ 31, 0]) with cmd := hcmd 0x10 1 (bodyN [2 ^ 31, 0]), unmirrored := true, started := true, accepted := true }
def opP : OpSlot := { cmd := hrecP.cmd, aux := [], words := [] }
def sEvt2 : State := (hb 5).setFlow 2 { flowInit with event := some (.qspiStat 5) }

theorem wit_HostPortStepAndEventCommandsAct :
    (hb 5).qspiOn = true ∧ (sQ.qspiOn = true ∧ sQ.host.queue = [.qspiStat 9]) ∧ (hb 5).startOne = none ∧
    (sNvmW.nvm.jobs = [.record (.cmd ⟨4, 7⟩) none] ∧ (sNvmW.flow 4).taken = [hrecW] ∧ hrecW.cmd.key = ⟨4, 7⟩ ∧ sNvmW.twin.resync = 0) ∧
    (∀ n ∈ [0, 7], ({ hb 5 with host := { (hb 5).host with ops := [(n, opJ)] } } : State).hostRuns = true) ∧ (opJ.cmd.opc = 0x72 ∧ opJ.cmd.cls = 0 ∧ (hb 5).recFrom 0 0 = none) ∧
    (opP.cmd.opc = 0x10 ∧ ((taking (hb 5) hrecP).flow 4).taken = [hrecP] ∧ hrecP.cmd = opP.cmd ∧ hrecP.apply = false ∧ hrecP.unmirrored = (opP.cmd.cls == 1) ∧ opP.cmd.cls ≠ 0) ∧
    (sEvt2.hostRuns = true ∧ (sEvt2.flow 2).event = some (.qspiStat 5)) := by
  and_intros <;> decide +kernel

/-! ### The ring: node 5, on two ports in states `e` and `w` with their lanes UP -/

def laneUp : List (Nat × Word) := (List.range 8).flatMap fun l => [(R.LANE_CFG (56 + l), 3#32), (R.LANE_STAT (56 + l), 5#32)]
def rbAt (e w byp : Nat) : State :=
  { State.reset with regs := [(R.SYS_SERIAL, 0x1234#32), (R.SYS_STATE, 23#32)] ++ laneUp ++ [(R.RING_CFG, 0x82000005#32), (R.RING_STAT, BitVec.ofNat 32 (byp * 256 + w * 16 + e))] }
def rb : State := rbAt 3 3 0

def rf (cls src dst : Nat) (bc : Bool) (ttl cspec : Nat) (data : List Word64) : RingFrame := { cls, src, dst, bc, ttl, len := data.length, cspec, data, ok := true }
def got (s : State) (p : Side) (f : RingFrame) : Bool := s.ringTakes p f && ringValid f
theorem got_of (s : State) (p : Side) (f : RingFrame) (h : got s p f = true) : RingGot s p f := by simpa [got, RingGot] using h
def came (s : State) (p : Side) (f : RingFrame) : Bool := got s p f && (s.ringRx p f).1
theorem came_of (s : State) (p : Side) (f : RingFrame) (h : came s p f = true) : Came s p f (s.ringRx p f).2 := by
  simp only [came, Bool.and_eq_true] at h
  exact ⟨got_of s p f h.1, Prod.ext h.2 rfl⟩

def stays (s : State) (f : RingFrame) : Bool := decide (f.cls = rcTIME) || isHello f || s.consumes f
def dat (n : Nat) : List Word64 := (List.range n).map fun i => BitVec.ofNat 64 (i + 7)
def sides : List Side := [.east, .west]

theorem wit_RingFramesAreForwardedAndDeliveredOnce :
    (∀ p ∈ sides, (rbAt 4 4 0).ringTakes p (rf 0 9 0 true 1 0 (dat 2)) = false) ∧
    (∀ p ∈ sides, rb.ringTakes p (rf 0 9 0 true 1 0 (dat 3)) = true ∧ ringValid (rf 0 9 0 true 1 0 (dat 3)) = false ∧ ringValid { rf 0 9 0 true 1 0 (dat 2) with ok := false } = false) ∧
    (∀ p ∈ sides, ∀ f ∈ [rf 1 9 0 true 1 0 (dat 2), rf 0 9 0 true 1 0x1000 (dat 2), rf 4 9 5 false 511 0 (dat 2)], got rb p f ∧ stays rb f) ∧
    (∀ p ∈ sides, ∀ f ∈ [rf 0 9 0 true 1 0 (dat 2), rf 0 5 0 true 511 0 (dat 2)], got rb p f ∧ stays rb f = false) ∧
    (∀ f ∈ [rf 0 9 0 true 1 0 (dat 2), rf 0 5 0 true 511 0 (dat 2)], got (rbAt 3 2 0) .east f ∧ stays (rbAt 3 2 0) f = false) ∧
    (∀ p ∈ sides, ∀ ttl ∈ [2, 511], ∀ f ∈ [rf 0 9 0 true ttl 0 (dat 2), rf 4 9 8 false ttl 0 (dat 2)],
      got rb p f ∧ stays rb f = false ∧ 1 < f.ttl ∧ f.src ≠ rb.nodeId ∧ rb.ringPort (sideNo (otherSide p)) = 3 ∧ (f.bc = true → rb.isCopy f = false)) := by
  and_intros <;> decide +kernel

def xch (t : State) (p : Side) : Option (Nat × Nat) := match p with | .east => t.ring.xchgE | .west => t.ring.xchgW
/-- Both exchanges are open; where `tk`, the time keeper is known and another node. -/
def rbX (tk : Nat) : State := ({ rb with ring := { rb.ring with xchgE := some (0x37, 400), xchgW := some (0x37, 400) } }.set F.RING_TOPO_TKKNOWN tk).set F.CHRONO_CTRL_TK 0
/-- Node 9 has sent a beacon. -/
def rbN : State := { rb with ring := { rb.ring with nodes := [(9, { serial := 0x777, tkpri := 0x21, pair := false, role := false, dlye := 0, dlyw := 0, hopE := 12, hopW := 500 })] } }

theorem wit_RingTimeBeaconAndPortEventsAct :
    rb.ringRuns = true ∧ (∀ p ∈ sides, rb.ringPort (sideNo p) = 3 ∧ rb.ring.quiet = false) ∧ (st 2).ringRuns = false ∧
    (∀ p ∈ sides, got rb p (rf 1 9 0 true 1 0x37 [5, 0]) ∧ isTime (rf 1 9 0 true 1 0x37 [5, 0]) 0 = true) ∧
    (∀ p ∈ sides, ∀ tk ∈ [0, 1], got (rbX tk) p (rf 1 9 0 true 1 0x4037 [500, 700]) ∧ isTime (rf 1 9 0 true 1 0x4037 [500, 700]) 1 = true ∧ xch (rbX tk) p = some (0x37, 400)) ∧
    ((rbX 1).tkDrives .east = true ∨ (rbX 1).tkDrives .west = true) ∧ (∀ p ∈ sides, (rbX 0).tkDrives p = false ∧ xch rb p = none) ∧
    (∀ p ∈ sides, ∀ ttl ∈ [1, 511], got rb p (rf 0 9 0 true ttl 0 (dat 2)) ∧ isBeacon (rf 0 9 0 true ttl 0 (dat 2)) = true ∧ 9 ≠ rb.nodeId) ∧
    (∀ p ∈ sides, got rb p (rf 0 5 0 true 500 0 [blk 0x777 0, 0]) ∧ rb.nodeId = 5 ∧ hi32 (blk 0x777 0) ≠ rb.regN R.SYS_SERIAL) ∧
    (rbN.node 9).isSome = true ∧ rb.node 9 = none ∧ (∀ p ∈ sides, rb.portUp (sideNo p) = true ∧ (rbAt 0 0 0).ringPort (sideNo p) = 0 ∧ (st 7).portUp (sideNo p) = false) ∧
    (∀ ps ∈ [1, 2, 4], ∀ ser ∈ [0x1234, 0x999], got (rbAt ps ps 0) .east (rf 0 9 0 true 1 0x1000 [blk ser (2 ^ 24 * 0x10 + 9), 0])) ∧
    bitsOf (lo32 (blk 0x1234 (2 ^ 24 * 0x10 + 9))) 24 8 = 0x10 ∧
    (∀ p ∈ sides, (rbAt 2 2 3).ringPort (sideNo p) = 2 ∧ (rbAt 2 2 3).on F.RING_STAT_BYPE = true ∧ rb.ringPort (sideNo p) ≠ 2 ∧ (rbAt 2 2 0).on F.RING_STAT_BYPE = false) := by
  and_intros <;> decide +kernel

def fxOf (st id tf : Nat) : FixBank := { state := st, fixid := id, tfix := tf, t := 7 }
def rbDom : State := (rb.set F.RING_DOMCFG_EN 1).set F.RING_DOMCFG_DOMID 0x21
def rbBanks (l : List (Nat × FixBank)) : State := { rb with ring := { rb.ring with banks := l } }
def rbFull : State := rbBanks [(0, fxOf fxARMED 1 7), (1, fxOf fxARMED 2 7), (2, fxOf fxLATCHED 77 7), (3, fxOf fxARMED 4 7)]
def rbOvf : State := rbBanks ((List.range 4).map fun i => (i, fxOf fxARMED i 7))
def fixF (tf id : Nat) : RingFrame := rf rcFIX 9 0 true 400 0 [BitVec.ofNat 64 tf, BitVec.ofNat 64 id]
def gMsg : List Word := bodyN [8 * 65536 + 256, 0, 0x13, 0, 0x1111, 0x2222]
def gFr (q : Nat) : RingFrame := rf rcGUAR 9 5 false 1 0 (blk q 9 :: pack64 gMsg)
def rbNext : State := rb.setGrx 9 { rb.grx 9 with next := 5 }
def gm (n d : Nat) : GMsg := { dst := d, orig := 5, seq := n, payload := [7, 8], nvmWait := false, jackWait := false, last := some .east }
def rbTx : State := { rbN with ring := { rbN.ring with gtx := [gm 3 9, gm 4 9, gm 3 11] } }
def lx : RingFrame := rf rcBULK 9 5 false 1 0x2000 [BitVec.ofNat 64 (0x55 * 2 ^ 32 + 3 * 2 ^ 24 + 2 ^ 28 + 9), 1, 2]
def rbLog : State := rb.set F.HOST_LOGCFG_EN 1
def lg : RingFrame := rf rcBULK 9 5 false 1 0x3000 [blk 0x55 9]
def rbExp : State := { rb with host := { rb.host with exported := [(0x55, [1, 2, 3])] } }

theorem wit_RingScheduleFixAndMessageFramesAct :
    (∀ d ∈ [0x21, 0x22], came rbDom .east (rf rcSCHED 9 0 true 400 d (dat 18)) ∧ rbDom.on F.RING_DOMCFG_EN = true ∧ rbDom.get F.RING_DOMCFG_DOMID = 0x21) ∧
    (∀ e ∈ [(0, 1), (400000, 65535)], came rb .west (fixF e.1 e.2)) ∧ (∀ k < 4, (rb.fixBank k).state = fxFREE) ∧ rb.fixChoice = some 0 ∧
    0 ≤ ctDiff rb.now 0 ∧ ctDiff rb.now 400000 < 0 ∧
    (came rbOvf .east (fixF 9 78) ∧ rbOvf.fixChoice = none ∧ (∀ k < 4, (rbOvf.fixBank k).fixid ≠ 78)) ∧
    (came rbFull .east (fixF 9 77) ∧ (rbFull.fixBank 2).state ≠ fxFREE ∧ (rbFull.fixBank 2).fixid = 77) ∧
    ((rbFull.fixBank 3).state = fxARMED ∧ (rbFull.fixBank 0).state = fxARMED ∧ (rbFull.fixBank 2).state ≠ fxARMED) ∧
    (came rb .east (gFr 1) ∧ isGuar (gFr 1) 0 = true ∧ rb.pfail = false ∧ rb.linked = false ∧ hi32 (ringBlk (gFr 1) 0) = (rb.grx 9).next ∧
      lo32 (ringBlk (gFr 1) 0) % 512 = 9 ∧ (rb.grx 9).held = [] ∧ unpack64 ((gFr 1).data.drop 1) = gMsg ∧ bw gMsg 0 / 256 % 256 = 1) ∧
    (came rbNext .west (gFr 3) ∧ isGuar (gFr 3) 0 = true ∧ rbNext.pfail = false ∧ seqBefore 3 (rbNext.grx 9).next = true ∧ (rbNext.grx 9).waitN = [] ∧
      (rbNext.grx 9).waitJ = [] ∧ rbNext.ringPort 1 = 3 ∧ rbNext.ring.quiet = false) ∧
    (came rbTx .east (rf rcGUAR 9 5 false 1 0x5000 [blk 3 9]) ∧ isGuar (rf rcGUAR 9 5 false 1 0x5000 [blk 3 9]) 1 = true) ∧
    ((rbTx.ring.gtx.find? fun m => m.is 9 4 && m.last.isSome) = some (gm 4 9) ∧ rbTx.active = true ∧ (rbTx.idNode 9).isSome = true ∧
      (rbTx.ring.gtx.find? fun m => m.is 11 3 && m.last.isSome) = some (gm 3 11) ∧ rbTx.idNode 11 = none ∧ rbTx.ringPort 1 = 3 ∧ rbTx.ring.quiet = false) ∧
    (came rbLog .east lx ∧ isBulk lx 2 = true ∧ rbLog.on F.HOST_LOGCFG_EN = true ∧ lx.data = (BitVec.ofNat 64 (0x55 * 2 ^ 32 + 3 * 2 ^ 24 + 2 ^ 28 + 9)) :: [1, 2] ∧
      rbLog.host.parts = [] ∧ (0x55 * 2 ^ 32 + 3 * 2 ^ 24 + 2 ^ 28 + 9) / 2 ^ 24 % 16 ≠ 1) ∧
    (came rb .east lx ∧ rb.on F.HOST_LOGCFG_EN = false) ∧
    (came rbExp .east lg ∧ isBulk lg 3 = true ∧ rbExp.host.exported.find? (·.1 == hi32 (ringBlk lg 0)) = some (0x55, [1, 2, 3]) ∧
      rbExp.ringPort (sideNo (rbExp.route lg.src).1) = 3 ∧ rbExp.ring.quiet = false) ∧
    (came rb .east lg ∧ rb.host.exported.find? (·.1 == hi32 (ringBlk lg 0)) = none) := by
  and_intros <;> decide +kernel

/-! ### The twin link: this device's node 5, partner node 4, both lanes UP -/

/-- Device state `d`, role `act`, the agent on where `en`. -/
def twAt (d act en : Nat) (tstate : Nat) : State :=
  { State.reset with regs := [(R.SYS_SERIAL, 0x1234#32), (R.SYS_STATE, BitVec.ofNat 32 (16 * act + d))] ++ laneUp ++
    [(R.OCL_CLAIM, 0x55#32), (R.RING_CFG, 5#32), (R.TWIN_CFG, BitVec.ofNat 32 (2 ^ 31 * en + 2 ^ 16 * 4)), (R.TWIN_STAT, BitVec.ofNat 32 tstate)] }
def tw : State := twAt 7 1 1 0
def twL (act : Nat) : State := twAt 7 act 1 2
def twSeen : State := { tw with twin := { tw.twin with helloSeen := true } }
def lf (ty tspec : Nat) (data : List Word64) : LinkFrame := ⟨ty, 0x77, 3, data.length, tspec, data, true⟩
def tgot (s : State) (f : LinkFrame) (ty : Nat) : Bool := s.on F.TWIN_CFG_EN && s.portUp 2 && f.ok && f.ftype == ty && twinLenOk f && f.data.length == f.len
theorem tgot_of (s : State) (f : LinkFrame) (ty : Nat) (h : tgot s f ty = true) : TwinGot s f ty := by
  simpa [tgot, TwinGot, and_assoc] using h

def tHello (crc : Nat) : LinkFrame := lf 1 0 [blk 4 7, blk crc 9]
/-- A STANDBY in LINKS. -/
def twWait : State := twAt 5 0 1 0

theorem wit_TwinRoleHeartbeatAndSwapEventsAct :
    TwinUp tw ∧ tw.twin.helloSeen = false ∧ ¬ (twAt 7 1 0 0).on F.TWIN_CFG_EN ∧ twSeen.twin.helloSeen = true ∧ TwinUp twSeen ∧ tw.sx = sxOFF ∧
    (tgot tw (tHello tw.cfgCrc.toNat) 1 ∧ hi32 (blk 4 7) % 512 = tw.get F.TWIN_CFG_PARTNER ∧ hi32 (blk tw.cfgCrc.toNat 9) = tw.cfgCrc.toNat) ∧
    (tgot tw (tHello (tw.cfgCrc.toNat + 1)) 1 ∧ hi32 (blk (tw.cfgCrc.toNat + 1) 9) ≠ tw.cfgCrc.toNat) ∧
    (tgot tw (lf 1 0 [blk 6 7, 9]) 1 ∧ hi32 (blk 6 7) % 512 ≠ tw.get F.TWIN_CFG_PARTNER) ∧ (tw.set F.SEXT_STAT_STATE 3).sx ≠ sxOFF ∧
    (∀ act ∈ [0, 1], ∀ ts ∈ [0, 2 ^ 17 + 7 * 2 ^ 13], tgot (twL act) (lf 2 ts [5, 6, 7]) 2 ∧ (twL act).active = decide (act = 1)) ∧
    (2 ^ 17 : Nat).testBit 17 = true ∧ claimHigher 0x77 ((twL 1).get F.OCL_CLAIM_CLAIM) = true ∧ (twL 1).linked = true ∧ tw.linked = false ∧
    (twWait.on F.TWIN_CFG_EN = true ∧ twWait.active = false ∧ twWait.dev = stLINKS ∧ twWait.twin.hbSince = false) ∧
    (tgot (twL 0) (lf 11 0 [5]) 11 ∧ tgot (twL 1) (lf 11 0 [5]) 11) ∧ (tgot (twL 0) (lf 12 0 [5]) 12 ∧ tgot (twL 1) (lf 12 0 [5]) 12) := by
  unfold TwinUp
  and_intros <;> decide +kernel

def mFr : LinkFrame := lf 3 0 (dat 32)
/-- A mirror has begun. -/
def twM : State := { tw with twin := { tw.twin with mirror := ⟨mFr.data, [], [], mFr.data, 1, false, false⟩ } }
def sessOf (s : State) : State := { s with nvm := { s.nvm with sess := some { session := 7, digest := (List.range 32).map (BitVec.ofNat 8), nch := 5, pieces := 0, age := 0, relay := false } } }
def jr : JRec := ⟨9, 1, 4, 1, 0, 7, 0x13, 0x123456789, [5]⟩
def jFr : LinkFrame := lf 7 0 (pack64 jr.full)
def twHeld : State := { tw with host := { tw.host with ramJ := [jr] } }
def twUn : State := { twL 1 with twin := { (twL 1).twin with unacked := [(5, .cmd ⟨4, 7⟩, [9])] } }
def twSync : State := { tw with twin := { tw.twin with resync := 2 } }
def jsF (a b : Nat) : LinkFrame := lf 13 0 [blk 11 10, blk a b]

theorem wit_TwinMirrorCheckpointAndJournalFramesAct :
    tgot tw mFr 3 ∧ twM.twin.mirror.state ≠ [] ∧ tw.twin.mirror.state = [] ∧
    (∀ n ∈ [1, 3], tgot twM (lf 4 0 (blk 100 n :: dat (16 * n))) 4 ∧ lo32 (blk 100 n) = n ∧ tgot tw (lf 4 0 (blk 100 n :: dat (16 * n))) 4) ∧
    (∀ n ∈ [1, 3], tgot twM (lf 5 0 (BitVec.ofNat 64 n :: dat (2 * n))) 5 ∧ tgot tw (lf 5 0 (BitVec.ofNat 64 n :: dat (2 * n))) 5) ∧
    tgot twM (lf 6 0 (dat 2)) 6 ∧ tgot tw (lf 6 0 (dat 2)) 6 ∧
    (∃ d, (sessOf (twL 1)).active = true ∧ (sessOf (twL 1)).linked = true ∧ TwinUp (sessOf (twL 1)) ∧ (sessOf (twL 1)).checkpoint 0 = some d) ∧
    (tw.linked = false ∧ (twL 1).checkpoint 0 = none) ∧
    (∀ k ∈ [0, 2, 3], tgot tw (lf 9 0 (BitVec.ofNat 64 k :: dat 3)) 9 ∧ twinBlk (lf 9 0 (BitVec.ofNat 64 k :: dat 3)) 0 = k) ∧ tw.pfail = false ∧
    (tgot twHeld jFr 7 ∧ TwinUp twHeld ∧ recOf (unpack64 jFr.data) = some jr ∧ twHeld.holdsRec jr = true ∧ twHeld.twin.jackDue.contains jr.pos = false) ∧
    (tgot tw jFr 7 ∧ TwinUp tw ∧ tw.holdsRec jr = false ∧ jr.kind = 1 ∧ jr.cls = 1 ∧ jr.flow < 5 ∧ jr.flags = 0) ∧
    (tgot tw (lf 7 0 (dat 4)) 7 ∧ recOf (unpack64 (dat 4)) = none) ∧
    (twUn.linked = true ∧ TwinUp twUn ∧ twUn.twin.unacked.find? (·.1 == (5#32 : Word).toNat) = some (5, .cmd ⟨4, 7⟩, [9]) ∧ tw.twin.unacked.find? (·.1 == (5#32 : Word).toNat) = none) ∧
    (tgot twUn (lf 8 0 [5]) 8 ∧ twinBlk (lf 8 0 [5]) 0 % 2 ^ 32 = 5 ∧ tgot tw (lf 8 0 [5]) 8) ∧
    (∀ i ∈ [0, 4], tgot twSync (jsF 0 i) 13 ∧ twSync.twin.resync = 2 ∧ hi32 (blk 0 i) / 2 ^ 31 = 0 ∧ lo32 (blk 0 i) % 512 = i) ∧
    (tgot twSync (jsF (2 ^ 31) 77) 13 ∧ hi32 (blk (2 ^ 31) 77) / 2 ^ 31 = 1 ∧ tgot tw (jsF 0 0) 13 ∧ tw.twin.resync = 0) := by
  unfold TwinUp
  refine ⟨by decide +kernel, by decide +kernel, by decide +kernel, by decide +kernel, by decide +kernel, by decide +kernel, by decide +kernel,
    ⟨((sessOf (twL 1)).checkpoint 0).getD [], ?_⟩, ?_⟩
  all_goals and_intros <;> decide +kernel

/-! ### Power, clocks, temperatures and resets -/

def sOff (offB retry : Bool) : State := { st 0 with pwr := { (st 0).pwr with rails := 0, vauxOk := true, loop := false, off := offB, retry := retry } }
/-- Bring-up with `n` rails started and the power-good bits of `good`. -/
def sPmu (n : Nat) (good : Word) : State := { st 1 with regs := [(R.SYS_STATE, 1#32), (R.PMU_STAT, good)], pwr := { (st 1).pwr with rails := n, loop := true } }

theorem wit_PowerSequenceFollowsTheSupplies :
    ((sOff false false).dev = stOFF ∧ (sOff false false).pwr.off = false ∧ (sOff false false).pwr.retry = false) ∧
    (s7.dev ≠ stOFF ∧ (sOff true false).pwr.off = true ∧ (sOff false true).pwr.retry = true) ∧
    (∀ n ∈ [1, 4], (sPmu n 31).dev = stPMU_UP ∧ (sPmu n 31).on (pgBit (sPmu n 31).pwr.rails) = true ∧ (sPmu n 31).pwr.rails < 5) ∧
    (∀ n ∈ [1, 3, 5], (sPmu n 0).dev = stPMU_UP ∧ 1 ≤ (sPmu n 0).pwr.rails ∧ (sPmu n 0).pwr.rails ≤ 5) ∧
    (((sPmu 5 31).set F.CLK_STAT_LOCK 1).dev = stPMU_UP ∧ ((sPmu 5 31).set F.CLK_STAT_LOCK 1).regN R.PMU_STAT % 32 = 31 ∧ ((sPmu 5 31).set F.CLK_STAT_LOCK 1).on F.CLK_STAT_LOCK = true) ∧
    (((sPmu 5 31).set F.CLK_STAT_LOCK 0).on F.CLK_STAT_LOCK = false ∧ (sPmu 5 30).regN R.PMU_STAT % 32 ≠ 31) ∧
    (∀ r ∈ [0, 3], (sPmu 5 31).dev ≠ stOFF ∧ (sPmu 5 31).on (pgBit (r + 1)) = true) ∧
    ((sOff false true).dev = stOFF ∧ (sOff false true).pwr.retry = true ∧ (sOff false true).pwr.vauxOk = true) ∧ stPMU_UP < s7.dev := by
  and_intros <;> decide +kernel

/-- Lock and coast of the system PLL, its loop, and the status of the LC PLLs. -/
def sClk (lock coast lcl cmax : Nat) (loop : Bool) : State :=
  let s := ((((st 7).set F.CLK_STAT_LOCK lock).set F.CLK_STAT_COAST coast).set F.CLK_STAT_LCALOCK lcl).set F.CLK_STAT_LCBLOCK lcl
  { s.set F.CLK_COAST_COASTMAX cmax with pwr := { s.pwr with loop := loop } }

theorem wit_ClockEventsMoveThePlls :
    ((sClk 0 0 0 0 false).dev ≠ stOFF ∧ (sClk 0 0 0 0 false).on F.CLK_STAT_LOCK = false ∧ (sClk 0 0 0 0 false).on F.CLK_STAT_COAST = false) ∧
    (∀ c ∈ [0, 1], (sClk 0 c 0 0 true).pwr.loop = true ∧ (sClk 0 c 0 0 true).on F.CLK_STAT_LOCK = false) ∧
    ((sClk 0 1 0 0 false).pwr.loop = false ∧ (sClk 1 0 0 0 true).on F.CLK_STAT_LOCK = true ∧ (sClk 0 1 0 0 true).on F.CLK_STAT_COAST = true) ∧
    (∀ m ∈ [1, 65535], (sClk 0 1 0 m true).on F.CLK_STAT_COAST = true ∧ (sClk 0 1 0 m true).get F.CLK_COAST_COASTMAX ≠ 0) ∧
    ((sClk 0 0 0 5 true).on F.CLK_STAT_COAST = false ∧ (sClk 0 1 0 0 true).get F.CLK_COAST_COASTMAX = 0) ∧
    (∀ f ∈ [F.CLK_STAT_LCALOCK, F.CLK_STAT_LCBLOCK], (sClk 1 0 1 0 true).on f = true ∧ (sClk 1 0 1 0 true).on F.CLK_STAT_COAST = false ∧ (sClk 1 0 0 0 true).on f = false) := by
  and_intros <;> decide +kernel

def sHot (d : Nat) : State := { st d with pwr := { (st d).pwr with badTs := 0, hotL := some 3 } }
def sStrap (v : Nat) (held : Bool) : State := { (st 7).set F.SYS_STRAP_STRAP v with sys := { (st 7).sys with resetHeld := held } }
def sCool : State := (List.range 12).foldl (fun s k => s.set (F.THERM_TS_READING k) 100) ((st 12).set F.THERM_VALID_VALID 4095)
def sWarm : State := sCool.set (F.THERM_TS_READING 11) 1000
def sBoot : State := State.reset.set F.SYS_STRAP_STRAP 2

theorem wit_TemperatureResetAndBootEventsAct :
    (∀ d ∈ [2, 7], stPMU_UP < (sHot d).dev ∧ (sHot d).pwr.badTs = 0 ∧ (sHot d).pwr.hotL = some 3 ∧ (sHot d).sys.offL = false ∧ stBOOT ≤ (sHot d).dev ∧ (sHot d).dev ≤ stSAFE ∧
      (sHot d).reactNow Q.THERM_BANDCHG ≤ 3 ∧ (sHot d).reactNow Q.THERM_DIEDEG ≤ 3) ∧
    (∀ x ∈ [-440, 0, 1199], -440 ≤ (BitVec.ofInt 16 x).toInt ∧ (BitVec.ofInt 16 x).toInt < 1200) ∧ (∀ x ∈ [1200, 1400], 1200 ≤ (BitVec.ofInt 16 x).toInt ∧ (BitVec.ofInt 16 x).toInt ≤ 1400) ∧
    (∀ n ∈ [0, 3], s7.on (F.THERM_TXCFG_EN n) = false ∧ (s7.set (F.THERM_TXCFG_EN n) 1).on (F.THERM_TXCFG_EN n) = true) ∧
    (sCool.dev = stTHERMAL ∧ sCool.coolEnough = true ∧ sCool.sys.rstAt ≠ some sCool.now) ∧ (s7.dev ≠ stTHERMAL ∧ sWarm.coolEnough = false) ∧
    (∀ d ∈ [2, 7, 10], Resettable (st d) ∧ (st d).on F.SYS_STRAP_RSTIGN = false) ∧ (s7.set F.SYS_STRAP_RSTIGN 1).on F.SYS_STRAP_RSTIGN = true ∧
    ((sStrap 0 true).sys.resetHeld = true ∧ (sStrap 0 true).fbit F.SYS_STRAP_STRAP 3 = false) ∧ ((sStrap 0 false).sys.resetHeld = false ∧ (sStrap 8 true).fbit F.SYS_STRAP_STRAP 3 = true) ∧
    ((st 11).dev = stSEALED ∧ (st 12).dev = stTHERMAL) ∧ (s7.on F.SYS_EVT_LOCKSTEP = false ∧ s7.reactNow Q.SYS_LOCKSTEP = 6) ∧ s7.booting = false ∧
    (sBoot.booting = true ∧ sBoot.sys.porBoot = true ∧ sBoot.on F.PMU_LAST_CAUSE = false ∧ sBoot.fbit F.SYS_STRAP_STRAP 1 = true ∧ sBoot.reactNow Q.SYS_CFGDEF ≤ 3 ∧ sBoot.reactNow Q.HOST_RESETFIN ≤ 3) ∧ (∃ l u, sBoot.bootLoad.bootChoose = (l, u)) := by
  unfold Resettable
  and_intros <;> first | exact ⟨_, _, Prod.mk.eta.symm⟩ | decide +kernel

/-! ### The Helm: the grid running and LOCKED, device state ARMED, an Almanac of one row that runs the blocks of `x` -/

/-- Blocks 0 and 1 at words 0x80 and 0x82 of program bank 0; the Almanac's row 0 is `row`. -/
def hg (est row : Nat) : State :=
  let s := ((((((st 6).set F.SEXT_CTRL_EN 1).set F.SEXT_STAT_STATE 3).set F.ENG_CTRL_EN 1).set F.ENG_ALMLEN_LEN0 1).set F.ENG_ALMLEN_LEN1 1).set F.ENG_STAT_ESTATE est
  let s := { s with sext := { s.sext with b0 := 1000000, b1 := 1200000, b2 := 1400000, begun := true, comm := true, k := 3 }, eng := { s.eng with budOk := true } }
  ((((s.store (pmemAddr 0 0) 8 (0x8080 + 0x8082 * 2 ^ 16)).store (pmemAddr 0 0x80) 8 0).store (pmemAddr 0 0x81) 8 (2 ^ 26)).store (pmemAddr 0 0x82) 8 (2 ^ 26)).store (almAddr 0 0) 16 row
/-- Two blocks, or none. -/
def row0 : Nat := 2 ^ 30 + 63 * 2 ^ 48 + 63 * 2 ^ 66 + 63 * 2 ^ 84
def rowE : Nat := row0 + 63 * 2 ^ 12 + 62 * 2 ^ 30
def noComm (s : State) : State := { s with sext := { s.sext with comm := false } }
def withBlocks (s : State) (n : Nat) : State := { s with eng := { s.eng with blocks := (s.rowEntries (s.arow s.aBank s.curRow)).map fun e => (s.blockCost s.pBank e).1, doneBlks := n } }
def atBoundary (s : State) : State := ({ s.gridNext with adc := { s.gridNext.adc with plaus := [] } }).modBoundary.oclBoundary.logBoundary.boundaryMove
def blocksOf (s : State) : Nat := ((s.rowEntries (s.arow s.aBank s.curRow)).map fun e => (s.blockCost s.pBank e).1).length
def dueOf (s : State) : Bool := decide (s.sx ≠ sxOFF) && s.sext.begun && s.sext.comm
/-- A row with list 5 started by start A at offset `ofs` (bits 90 on), or by start B (103 on). -/
def rowL (b : Bool) (ofs : Nat) : Nat := let lo := if b then 103 else 90; row0 + 2 ^ (lo + 12) + 5 * 2 ^ (lo + 8) + ofs * 2 ^ lo
def hgL (est : Nat) (b : Bool) (ofs : Nat) : State := (hg est (rowL b ofs)).set F.ADC_CTRL_EN 1
def rsOf (s : State) (b : Bool) : Bool × Nat × Nat := rowStart (s.arow s.aBank (s.get F.ENG_ROW_ROW)) b
def hgLate : State := let s := hgL 2 true 254; { s with sext := { s.sext with b1 := s.sext.b0 } }
def hgPlace : State := ((hg 4 row0).set F.SAFE_PLACE_EN 1).set F.SAFE_PLACE_SWORD 0x123

theorem wit_PeriodEventsFollowTheHelm :
    (noComm (hg 0 row0)).gridDue = false ∧ (∀ e ∈ [0, 4], (hg e row0).gridDue = true ∧ (hg e row0).sext.begun = true ∧ (atBoundary (hg e row0)).helmMay = true) ∧
    ((hg 4 row0).set F.ENG_CTRL_EN 0).gridDue = true ∧ (atBoundary ((hg 4 row0).set F.ENG_CTRL_EN 0)).helmMay = false ∧
    ((hg 1 row0).get F.ENG_STAT_ESTATE = 1 ∧ blocksOf (hg 1 row0) = 2) ∧ ((hg 1 rowE).get F.ENG_STAT_ESTATE = 1 ∧ blocksOf (hg 1 rowE) = 0 ∧ NoClaims (hg 1 rowE)) ∧
    (∀ n ∈ [0, 1], (withBlocks (hg 2 row0) n).get F.ENG_STAT_ESTATE = 2 ∧ (withBlocks (hg 2 row0) n).eng.blocks.length = 2 ∧ NoClaims (withBlocks (hg 2 row0) n)) ∧
    (¬ dueOf (noComm (hg 2 row0)) ∧ (hg 4 row0).get F.ENG_STAT_ESTATE = 4) ∧
    (dueOf (withBlocks (hg 3 row0) 2) ∧ (withBlocks (hg 3 row0) 2).get F.ENG_STAT_ESTATE = 3 ∧ (withBlocks (hg 3 row0) 2).rowDone = true ∧ NoClaims (withBlocks (hg 3 row0) 2)) ∧
    (dueOf (withBlocks (hg 2 row0) 1) ∧ (withBlocks (hg 2 row0) 1).rowDone = false ∧ NoClaims (withBlocks (hg 2 row0) 1)) ∧
    ((rsOf (hg 2 row0) false).1 = false ∧ (rsOf (hg 2 row0) true).1 = false) ∧
    (∀ b ∈ [false, true], ∀ o ∈ [0, 254], (rsOf (hgL 4 b o) b).1 = true ∧ (hgL 4 b o).get F.ENG_STAT_ESTATE ≠ 0 ∧
      (hgL 4 b o).sext.b0 + 320 * (rsOf (hgL 4 b o) b).2.2 < (hgL 4 b o).sext.b1 ∧ (hgL 4 b o).on F.ADC_CTRL_EN = true ∧ (hgL 4 b o).fbit F.ADC_LBUSY_L (rsOf (hgL 4 b o) b).2.1 = false) ∧
    ((rsOf hgLate true).1 = true ∧ hgLate.get F.ENG_STAT_ESTATE ≠ 0 ∧ hgLate.sext.b1 ≤ hgLate.sext.b0 + 320 * (rsOf hgLate true).2.2) ∧
    (s7.sx = sxOFF ∧ hgPlace.sx ≠ sxOFF ∧ hgPlace.sext.begun = true ∧ hgPlace.on F.TWIN_CFG_EN = false ∧ hgPlace.on F.SAFE_PLACE_EN = true ∧
      hgPlace.get F.SAFE_PLACE_SWORD < 0x4000 ∧ hgPlace.inStateS (hgPlace.get F.SAFE_PLACE_SWORD) = false) := by
  unfold NoClaims
  and_intros <;> decide +kernel

/-- Device state `d`, in which a move to `t` was asked for. -/
def askedFor (d t : Nat) : State := { st d with sys := { (st d).sys with move := some ⟨t, [⟨4, 7⟩]⟩, cause := none } }
def sByp (d : Nat) : State := ((st d).setRegN R.OCL_BYP_LO 4).setRegN R.OCL_EN_LO 4
theorem wit_BoundaryMovesFollowTheTable :
    (((s5.set F.SYS_CTRL_AUTOARM 1).dev = stLINKS ∧ (s5.set F.SYS_CTRL_AUTOARM 1).on F.SYS_CTRL_AUTOARM = true ∧ (s5.set F.SYS_CTRL_AUTOARM 1).linksReady = true ∧ (s5.set F.SYS_CTRL_AUTOARM 1).pendingAt 4 = none)) ∧
    (∀ e ∈ [(5, 6), (9, 6), (6, 7)], (askedFor e.1 e.2).dev = e.1 ∧ (askedFor e.1 e.2).sys.move = some ⟨e.2, [⟨4, 7⟩]⟩ ∧ (askedFor e.1 e.2).linksReady = true ∧ (askedFor e.1 e.2).pendingAt 4 = none) ∧
    ((sByp 7).dev = stRUN ∧ (sByp 7).bypassSeen = true) ∧ ((st 8).dev = stDEGRADED ∧ (st 8).bypassSeen = false) ∧
    (∀ d ∈ [0, 2, 10, 12], (st d).dev ∉ [stLINKS, stBLOCKED, stARMED, stRUN, stDEGRADED]) ∧
    ((s5.set F.SYS_CTRL_REQRING 1).dev = stLINKS ∧ (s5.set F.SYS_CTRL_REQRING 1).linksReady = false) ∧ ((st 9).dev = stBLOCKED ∧ (st 6).dev = stARMED ∧ (st 9).sys.move = none ∧ (st 6).sys.move = none) := by
  and_intros <;> decide +kernel

def gEv : GridEv := { t := 0, n := 17, act := [], lvl := false, took := false, perrej := false, slewlim := false, slewing := false }
/-- A grid point of channels `k`; local edges to play: of pair 0's H side and of auxiliary leg 8's L side. -/
def sGrid (k : Nat) : State := s7.setChan k { s7.chan k with grid := [gEv] }
def sPlay (l : List (Nat × OutEdge)) : State := { s7 with mod := { s7.mod with play := l } }
def sPt (e capt : Nat) : State := (hg e row0).set F.LOG_CTRL_CAPPT capt
def sLogPre : State := (hg 4 row0).set F.LOG_STAT_STATE logPRE

theorem wit_GridEdgeAndCaptureEventsAct :
    ((noComm (hg 0 row0)).sx ≠ sxOFF ∧ (noComm (hg 0 row0)).sext.begun = true ∧ (noComm (hg 0 row0)).sext.comm = false ∧ (noComm (hg 0 row0)).regN R.SEXT_DMIN ≤ (noComm (hg 0 row0)).regN R.SEXT_DMAX) ∧
    (s7.sx = sxOFF ∧ (hg 0 row0).sext.comm = true) ∧ (∀ c ∈ [0, 447, 464], (s7.chan (chanOf (Fin.ofNat 465 c))).grid = [] ∧ ((sGrid (chanOf (Fin.ofNat 465 c))).chan (chanOf (Fin.ofNat 465 c))).grid = [gEv]) ∧
    s7.mod.play = [] ∧ (∀ k ∈ [448, 472], ∀ h ∈ [false, true], (sPlay [(k, ⟨5, h, true⟩)]).mod.play = [(k, ⟨5, h, true⟩)]) ∧
    ((hg 0 row0).get F.ENG_STAT_ESTATE = 0) ∧ ((hg 4 row0).get F.ENG_STAT_ESTATE = 4 ∧ (hg 4 row0).log.captured = false ∧ (hg 4 row0).log.open_ = none ∧ (hg 4 row0).logState = logIDLE) ∧
    (sLogPre.logState = logPRE ∧ sLogPre.fired sLogPre.sigData = 0 ∧ sLogPre.log.force = false) ∧
    (∀ e ∈ [2, 3], ∀ c ∈ [0, 1], (sPt e c).get F.ENG_STAT_ESTATE = e ∧ (sPt e c).log.captured = false ∧ (sPt e c).log.open_ = none ∧ (sPt e c).on F.LOG_CTRL_CAPPT = decide (c = 1)) := by
  and_intros <;> decide +kernel

/-! ### Cell links: lane `l`, its serial lane UP, its link in state `os` -/

def ob (l os : Nat) : State :=
  { State.reset with regs := [(R.SYS_STATE, 23#32), (R.LANE_CFG l, 1#32), (R.LANE_STAT l, 5#32), (R.OCL_CLAIM, 0x55#32), (R.OCL_EN_LO, 0xFFFFFFFF#32), (R.OCL_EN_HI, 0xFFFFFF#32), (R.OCL_LSTATE l, BitVec.ofNat 32 os)] }
def oln (s : State) (l : Nat) (f : OclLane → OclLane) : State := s.setLane l (f (s.lane l))
def heard (s : State) (l : Nat) (f : LinkFrame) : Bool := s.laneLocked l && decide (loQUERY ≤ s.ostate l) && s.upValid f
theorem heard_of (s : State) (l : Nat) (f : LinkFrame) (h : heard s l f = true) : Heard s l f := by simpa [heard, Heard, and_assoc] using h
def laneFree (s : State) (l : Nat) : Bool := !s.laneBusy l && s.laneLocked l && s.oclSends && (s.lane l).queue.isEmpty
theorem laneFree_of (s : State) (l : Nat) (h : laneFree s l = true) : LaneFree s l := by simpa [laneFree, LaneFree, and_assoc] using h

def mkCap (vmax nch nsmp nfrm byp tacc : Nat) : Word64 := BitVec.ofNat 64 (vmax * 2 ^ 40 + tacc * 2 ^ 20 + byp * 2 ^ 16 + nfrm * 2 ^ 12 + nsmp * 2 ^ 7 + nch * 2 ^ 3)
def capF (cap : Word64) : LinkFrame := lf 9 (2 ^ 16) [cap]
def ackF (c : OclCmd) (seq res bad : Nat) : LinkFrame := lf 9 (2 * 2 ^ 16 + seq) [BitVec.ofNat 64 (((crc32 (c.data.flatMap blockBytes)).toNat + bad) * 2 ^ 32 + res * 256 + c.opc)]
def oc (opc sends src : Nat) : OclCmd := { opc, seq := 9, data := [1, 2, 3, 4], sends, src, due := false }
def oCmd (l os : Nat) (c : OclCmd) : State := oln (ob l os) l fun x => { x with cmd := some c }
def sQuery (l v : Nat) : State := ((((ob l loQUERY).set F.OCL_TCFG_VMAX v).set (F.OCL_LCFG_NCHREQ l) 4).set F.OCL_INMAP_S 8).set (F.OCL_LCFG_ACCMAX l) 4
def sBusy (l : Nat) (c : OclCmd) : State := oln (oCmd l loREADY c) l fun x => { x with burstEnd := (ob l loREADY).now + 100 }
def lns : List Nat := [0, 55]

theorem wit_CellLinkNegotiationActs :
    (∀ l ∈ lns, (ob l loREADY).ostate l ≠ loQUERY ∧ (ob l loQUERY).ostate l = loQUERY ∧ ((ob l loQUERY).lane l).capSends ≠ 32 ∧ laneFree (ob l loQUERY) l ∧
      ((oln (ob l loQUERY) l fun x => { x with capSends := 32 }).lane l).capSends = 32) ∧
    (∀ l ∈ lns, ∀ v ∈ [0x10, 0x20], heard (sQuery l v) l (capF (mkCap 0x11 4 8 4 1 4)) ∧ (sQuery l v).ostate l = loQUERY ∧ CapPasses (sQuery l v) l (mkCap 0x11 4 8 4 1 4).toNat) ∧
    (∀ l ∈ lns, heard (sQuery l 0x20) l (capF (mkCap 0x30 4 8 4 1 4)) ∧ (sQuery l 0x20).capReason l (mkCap 0x30 4 8 4 1 4).toNat ≠ 0 ∧ (sQuery l 0x20).capReason l (mkCap 0x20 3 8 4 1 4).toNat ≠ 0) ∧
    (∀ l ∈ lns, ∀ o ∈ [loCONFIG, loREADY], heard (ob l o) l (capF (mkCap 0x11 4 8 4 1 4)) ∧ (ob l o).ostate l ≠ loQUERY) ∧
    (∀ l ∈ lns, (ob l loQUERY).laneLocked l = true ∧ (ob l loQUERY).upValid { capF (mkCap 0x11 4 8 4 1 4) with ok := false } = false ∧ s7.laneLocked l = false) ∧
    (∀ l ∈ lns, ∀ n ∈ [0, 2, 3], ((oCmd l loCONFIG (oc 2 n 0)).lane l).cmd = some (oc 2 n 0) ∧ ((ob l loCONFIG).lane l).cmd = none) ∧
    (∀ l ∈ lns, laneFree (oCmd l loCONFIG (oc 2 1 0)) l ∧ (oCmd l loCONFIG (oc 2 1 0)).fits l 4 = true ∧ (sBusy l (oc 2 1 0)).laneBusy l = true) ∧
    (∀ l ∈ lns, ∀ e ∈ [(0, 0), (1, 0), (0, 1)], heard (oCmd l loCONFIG (oc 2 1 0)) l (ackF (oc 2 1 0) 9 e.1 e.2) ∧ (oCmd l loCONFIG (oc 2 1 0)).ostate l = loCONFIG) ∧
    (∀ l ∈ lns, ∀ c ∈ [oc 3 1 1, oc 4 1 2, oc 8 1 1], ∀ q ∈ [9, 10], heard (oCmd l loTSYNC c) l (ackF c q 0 0) ∧ ((oCmd l loTSYNC c).lane l).cmd = some c ∧ (oCmd l loTSYNC c).ostate l ≠ loREADY) := by
  unfold CapPasses
  and_intros <;> decide +kernel

def perF (b1 b2 : Nat) : LinkFrame := lf 9 8 [5, BitVec.ofNat 64 b1, BitVec.ofNat 64 b2]
/-- The last TIME frame left at `t1`; delays `acc` are kept, `rej` rejected, `run` within bounds in a row. -/
def sTime (l os : Nat) (acc rej : List Int) (run : Nat) : State :=
  oln ({ ob l os with chrono := { (ob l os).chrono with ct := 1000000 } }) l fun x => { x with t1 := some 999960, tseq := 9, dAcc := acc, dRej := rej, dRun := run }
def sFollow (l n : Nat) : State := oln (ob l loREADY) l fun x => { x with followRun := n }
def sSmp (l n : Nat) : State := ((ob l loREADY).set F.OCL_INMAP_S n).set F.OCL_INMAP_F 2
def sGridOn : State := { (ob 0 loREADY).set F.SEXT_STAT_STATE 3 with sext := { (ob 0 loREADY).sext with begun := true } }

theorem wit_CellLinkReportsAndTimersAct :
    (∀ l ∈ lns, ∀ o ∈ [loQUERY, loREADY, loFAIL], heard (ob l o) l (perF 0 0xFFFFFFFFFFFFFFFF) ∧ (ob l o).ostate l ≠ loTSYNC ∧ ((ob l o).lane l).t1 = none) ∧
    (∀ l ∈ lns, heard (sTime l loREADY [] [] 0) l (perF 0 0) ∧ ((sTime l loREADY [] [] 0).lane l).t1 = some 999960 ∧ (perF 0 0).tspec % 256 = (((sTime l loREADY [] [] 0).lane l).tseq + 255) % 256) ∧
    (∀ l ∈ lns, ∀ rej ∈ [[], [5, 6], [5, 6, 7]], heard (sTime l loREADY [100000] rej 8) l (perF 0 0) ∧
      2 * ((sTime l loREADY [100000] rej 8).get F.OCL_TCFG_DWIN : Int) < ((ctDiff (ctAdd ((sTime l loREADY [100000] rej 8).now + 15) 0) 999960) - 2 * meanOf [100000]).natAbs ∧
      signedOf 16 ((sTime l loREADY [100000] rej 8).get (F.LANE_TSOFS_RX l)) = 0 ∧ signedOf 16 ((sTime l loREADY [100000] rej 8).get (F.OCL_LASYM_ASYM l)) = 0) ∧
    (∀ l ∈ lns, heard (sTime l loTSYNC [] [] 7) l (perF 0 (2 ^ 18)) ∧ (sTime l loTSYNC [] [] 7).ostate l = loTSYNC) ∧
    (∀ l ∈ lns, (sFollow l 8).active = true ∧ (sFollow l 8).ostate l = loREADY ∧ 8 ≤ ((sFollow l 8).lane l).followRun ∧ ((sFollow l 7).lane l).followRun < 8) ∧
    (∀ l ∈ lns, ∀ n ∈ [0, 6], heard (sSmp l n) l (lf 8 1 (dat (1 + (n + 3) / 4)))) ∧ (∀ l ∈ lns, s7.laneLocked l = false) ∧
    (sGridOn.gridRuns = true ∧ (st 3).oclSends = false) ∧ (∀ l ∈ lns, (ob l loREADY).gridRuns = false ∧ (ob l loREADY).ostate l = loREADY ∧ laneFree (ob l loREADY) l) ∧
    (∀ l ∈ lns, ∀ n ∈ [0, 3, 4], ((oCmd l loTSYNC (oc 8 n 1)).lane l).cmd = some (oc 8 n 1) ∧ (oCmd l loTSYNC (oc 8 n 1)).ostate l ≠ loREADY ∧ ((ob l loREADY).lane l).cmd = none) ∧
    (∀ l ∈ lns, laneFree (oCmd l loTSYNC (oc 8 1 1)) l ∧ (oCmd l loTSYNC (oc 8 1 1)).fits l 4 = true ∧ (sBusy l (oc 8 1 1)).laneBusy l = true) := by
  and_intros <;> decide +kernel

/-! ### Pods: pod `l` with claim 0x77 accepted and a capability of every kind -/

def cfgBlk0 (ver : Nat) : Word64 := BitVec.ofNat 64 (10 * 2 ^ 40 + 100 * 2 ^ 24 + 3 * 2 ^ 18 + 2 ^ 17 + 4 * 2 ^ 12 + 2 * 2 ^ 8 + ver)
def pcfg (ver : Nat) : List Word64 := [cfgBlk0 ver, 2, 3, 4]
def pd : PodSt :=
  { pod0 with on := true, cap := BitVec.ofNat 64 ((mkCap 0x20 8 16 8 1 2).toNat + 5 * 2 ^ 32), sight := [(0x77, true, 0), (0x77, false, 0)], cacc := 0x77,
              cfg := pcfg 0x11, needCfg := false, wLen := 64000 }
def pdOther : PodSt := { pd with sight := [(0x99, true, 0), (0x99, false, 0)], cacc := 0x99 }
def pds (l : Nat) (p : PodSt) : State := { s7.setPod l p with chrono := { s7.chrono with ct := 1000000 } }
def recs2 : List Word := [5, BitVec.ofNat 32 (2 ^ 28 + 2 ^ 24 + 9)]
/-- An EDGE frame with two records for the window from `a`, with TRIP where `t`. -/
def eF (a t : Nat) : LinkFrame := lf 2 (2 ^ 17 * t + 2) [BitVec.ofNat 64 a, BitVec.ofNat 64 (64000 * 2 ^ 40), BitVec.ofNat 64 ((2 ^ 28 + 2 ^ 24 + 9) * 2 ^ 32 + 5)]
def eWin (a t : Nat) : PodWin := { anchor := a, wlen := 64000, claim := 0x77, edge := some (t == 1, false, 0, unpackRecs 2 ((eF a t).data.drop 2)) }
def kF (a : Nat) : LinkFrame := lf 4 0 [BitVec.ofNat 64 a, BitVec.ofNat 64 (3200 * 2 ^ 40)]
def tF (t1 : Nat) : LinkFrame := lf 1 200 [BitVec.ofNat 64 t1, 0]
def accepts (p : PodSt) (b : Bool) : Bool := (p.see 0x77 b).cacc == 0x77
theorem accepts_of (p : PodSt) (b : Bool) (h : accepts p b = true) : Accepts p 0x77 b := by simpa [accepts, Accepts] using h
def tripPl (claim : Nat) : BitVec 56 := BitVec.ofNat 56 (claim * 2 ^ 40 + 0xA55A9669C3)
/-- The 5 CT64 and error of a TIME frame at `t1`, in CT64. -/
def tErr (t1 : Nat) : Nat := (ctDiff t1 1000000).natAbs

theorem wit_PodsTakeFramesOfTheirClaim :
    (∀ l ∈ lns, (pds l pd).pod l = pd) ∧ pd.on = true ∧ (∀ b ∈ [false, true], accepts pd b ∧ accepts pdOther b = false) ∧
    bitsOf pd.cap.toNat 32 8 = 5 ∧ (∀ l ∈ lns, (pds l pd).podNow pd = 1000000) ∧
    (∀ t ∈ [0, 1], pd.edgeOf (eF 1000160 t) = some (eWin 1000160 t) ∧ (32 * 5 : Nat) ≤ ctDiff (eWin 1000160 t).anchor 1000000) ∧
    (pd.edgeOf (eF 1000159 0) = some (eWin 1000159 0) ∧ ctDiff (eWin 1000159 0).anchor 1000000 < (32 * 5 : Nat)) ∧ pdOther.edgeOf (eF 1000160 0) = some (eWin 1000160 0) ∧
    (pd.edgeOf { eF 1000160 0 with ok := false } = none ∧ pod0.on = false) ∧ (∀ a ∈ [0, 1000160], downValid (kF a) = true ∧ (kF a).ftype = 4 ∧ (kF a).claim = 0x77) ∧
    downValid { kF 0 with claim := 0 } = false ∧ (downValid (tF 1000000) = true ∧ (tF 1000000).ftype = 1) ∧ downValid { tF 0 with ok := false } = false ∧
    (5 * tErr 1000000 ≤ classBound5 (capTACC pd.cap.toNat) ∧ 2 * classBound5 (capTACC pd.cap.toNat) < 5 * tErr 1100000) ∧
    (∃ t, classBound5 (capTACC pd.cap.toNat) < 5 * tErr t ∧ 5 * tErr t ≤ 2 * classBound5 (capTACC pd.cap.toNat)) ∧
    ((tripPl 0x77).toNat % 2 ^ 40 = 0xA55A9669C3 ∧ (tripPl 0x77).toNat / 2 ^ 40 % 2 ^ 16 = 0x77 ∧ claimHigher (pd.see 0x77 true).cacc 0x77 = false ∧ claimHigher (pdOther.see 0x77 true).cacc 0x77 = true) ∧
    (5#56 : BitVec 56).toNat % 2 ^ 40 ≠ 0xA55A9669C3 := by
  refine ⟨by decide +kernel, by decide +kernel, by decide +kernel, by decide +kernel, by decide +kernel, by decide +kernel, by decide +kernel, by decide +kernel, by decide +kernel,
    by decide +kernel, by decide +kernel, by decide +kernel, by decide +kernel, by decide +kernel,
    ⟨1000000 + classBound5 (capTACC pd.cap.toNat) / 5 + 1, by decide +kernel⟩, by decide +kernel, by decide +kernel⟩

def cF (opc : Nat) (data : List Word64) : LinkFrame := lf 3 opc data
def isCmd (f : LinkFrame) : Bool := downValid f && f.ftype == 3
/-- Its last command on port A was `f`, answered with 77. -/
def pdRep (f : LinkFrame) : PodSt := { pd with portA := { pd.portA with lastCmd := some ((f.seq, f.tspec, f.claim), 77) } }
def pdNoByp : PodSt := { pd with cap := mkCap 0x20 8 16 8 0 2 }

theorem wit_PodsExecuteCommandsOnce :
    (isCmd (cF 2 (pcfg 0x11)) ∧ isCmd (cF 1 [5]) ∧ (∀ o ∈ [3, 4, 5, 8], isCmd (cF o [])) ∧ (∀ o ∈ [6, 7], isCmd (cF o [9]))) ∧ isCmd (cF 9 []) = false ∧
    (∀ l ∈ lns, (pds l pd).pod l = pd) ∧ (∀ b ∈ [false, true], accepts pd b ∧ accepts pdOther b = false ∧ accepts pdNoByp b) ∧
    (∀ b ∈ [false, true], (pd.port b).lastCmd = none ∧ (pd.see 0x77 b).takes (pcfg 0x20) = true ∧ (pd.see 0x77 b).takes (pcfg 0x12) = false) ∧
    (∃ b, ((pdRep (cF 3 [])).port b).lastCmd = some ((3, 3, 0x77), 77) ∧ accepts (pdRep (cF 3 [])) b) ∧ (capBYP pd.cap.toNat = true ∧ capBYP pdNoByp.cap.toNat = false) ∧
    (pd.bypst = 0 ∧ ({ pd with bypst := 1 } : PodSt).bypst ≠ 0 ∧ accepts { pd with bypst := 1 } true) := by
  refine ⟨by decide +kernel, by decide +kernel, by decide +kernel, by decide +kernel, by decide +kernel, ?_, by decide +kernel, by decide +kernel⟩
  exact ⟨false, by decide +kernel⟩

/-- A pod that plays `recs2`; one with a window that begins now; one blocked, which may leave or not. -/
def pdPlay (outs chb : Nat) : PodSt := { pd with blocked := false, playing := true, play := recs2, outs, chb }
def pdWin (trip blocked need : Bool) : PodSt := { pd with blocked, needCfg := need, wins := [{ anchor := 1000015, wlen := 64000, claim := 0x77, edge := some (trip, false, 0, recs2) }] }
def pdNone (hold : Nat) : PodSt := { pd with blocked := false, hold, wins := [{ anchor := 1000016, wlen := 64000, claim := 0x77, edge := none }] }

theorem wit_PodsPlayReplayAndHold :
    pod0.on = false ∧ pd.on = true ∧ (∀ l ∈ lns, ∀ p ∈ [pd, pdPlay 0 0, pdWin true false false, pdNone 8], (pds l p).pod l = p ∧ (pds l p).podNow p = 1000000) ∧
    (∀ h ∈ [0, 7, 8], (∀ w ∈ (pdNone h).wins, 16 ≤ ctDiff w.anchor 1000000) ∧ (pdNone h).blocked = false ∧ (pdNone h).hold = h) ∧
    (∀ w ∈ (pdWin false false false).wins, ctDiff w.anchor 1000000 < 16) ∧ ((pdWin false false false).blocked = false ∧ (pdWin false false false).chb = 0 ∧ (pdWin false false false).ver < 0x20) ∧
    ((pdWin false true false).blocked = true ∧ (pdWin false true false).mayLeave = true ∧ (pdWin false true true).mayLeave = false) ∧
    ((pdPlay 0 0).playing = true ∧ (pdPlay 0 0).blocked = false ∧ (pdPlay 0 0).play.length = 2 ∧ (pdPlay 0 0).bypst = 0 ∧ (pdPlay 0 0).chb.testBit 0 = false ∧ (pdPlay 0 0).chb.testBit 1 = false) ∧
    (((pdPlay 0 0).play.getD 0 0).toNat.testBit 28 = false ∧ ((pdPlay 0 0).play.getD 1 0).toNat.testBit 28 = true ∧ 2 * (((pdPlay 0 0).play.getD 1 0).toNat / 2 ^ 24 % 8) = 2 ∧
      (pdPlay 0 0).outs.testBit 3 = false ∧ (pdPlay 8 0).outs.testBit 3 = true) ∧
    pd.playing = false ∧ (∀ slot ∈ [0, 1], pd.cfg ≠ [] ∧ slot < pd.frm) ∧ ¬ 2 < pd.frm ∧ (pd.loss = false ∧ pd.llbyp = true ∧ pd.vbsrc < pd.smp ∧ (5 : Int) < pd.vbyp ∧ pd.bypst ≠ 1) ∧
    (pd.bypst ≠ 2 ∧ ({ pd with bypst := 2 } : PodSt).bypst = 2) := by
  and_intros <;> decide +kernel

/-! ### Serial lanes: lane `l` enabled and in state `ls`, both LC PLLs locked -/

def sl (l ls : Nat) (autopol : Bool) : State :=
  let s := ((s7.set (F.LANE_CFG_EN l) 1).setB (F.LANE_CFG_AUTOPOL l) autopol).set (F.LANE_STAT_LSTATE l) ls
  (s.set F.CLK_STAT_LCALOCK 1).set F.CLK_STAT_LCBLOCK 1
theorem wit_LaneBringUpFollowsItsTable :
    (∀ l ∈ [0, 55, 61], (sl l lsCDR true).ls l = lsCDR ∧ (sl l lsCDR true).lcLocked l = true ∧ (sl l lsHUNT true).ls l = lsHUNT ∧ s7.lcLocked l = false ∧ (sl l lsCDR true).ls l < lsHUNT) ∧
    (∀ l ∈ [0, 55, 61], (sl l lsPOLTEST true).ls l = lsPOLTEST ∧ (sl l lsPOLTEST true).ser.test.testBit l = false ∧ (sl l lsPOLTEST true).on (F.LANE_CFG_AUTOPOL l) = true ∧
      (sl l lsPOLTEST false).on (F.LANE_CFG_AUTOPOL l) = false ∧ (sl l lsUP false).ls l = lsUP) ∧
    ({ s7 with ser := { s7.ser with test := 2 ^ 61 } } : State).ser.test.testBit 61 = true ∧ (∀ h ∈ [62, 63], (sl h 0 false).on (F.LANE_CFG_EN h) = true ∧ s7.on (F.LANE_CFG_EN h) = false) := by
  and_intros <;> decide +kernel

/-- The lanes of port `p` in state `ls`; `run` equal marker slots of skew `sk`, the buffered position `rev`. -/
def sPort (p ls run : Nat) (sk : Int) : State :=
  let s := (s7.set (F.LANE_STAT_LSTATE (56 + 2 * p)) ls).set (F.LANE_STAT_LSTATE (57 + 2 * p)) ls
  { s with ser := { s.ser with ports := [(p, { mcnt := 255, run, skew := sk, rev := false })] } }
def mOk (p lane cnt : Nat) : BitVec 56 := markerP (if p = 2 then 2 else 1 - p) lane cnt
def mOn (s : State) (p : Nat) (m0 m1 : BitVec 56) : Bool := decide (lsALIGN ≤ s.ls (56 + 2 * p)) && decide (lsALIGN ≤ s.ls (57 + 2 * p)) && isMarker m0.toNat && isMarker m1.toNat

theorem wit_MarkersAlignPortsAndTheEqualiserSteps :
    (∀ p ∈ [0, 2], (sPort p lsCDR 0 0).ls (56 + 2 * p) ≠ lsOFF ∧ (sPort p lsCDR 0 0).ls (57 + 2 * p) ≠ lsOFF) ∧ s7.ls 56 = lsOFF ∧
    mOn (sPort 0 lsCDR 0 0) 0 (mOk 0 0 5) (mOk 0 1 5) = false ∧
    (∀ p ∈ [0, 2], ∀ ls ∈ [lsALIGN, lsUP], mOn (sPort p ls 1 2112) p (mOk p 0 5) (mOk p 1 5) ∧ (sPort p ls 1 2112).ls (56 + 2 * p) = ls ∧ (sPort p ls 1 2112).ls (57 + 2 * p) = ls) ∧
    (∀ p ∈ [0, 2], bitsOf (mOk p 0 5).toNat 50 2 = (sPort p lsUP 1 2112).expectPort p ∧ bitsOf (mOk p 1 5).toNat 50 2 = (sPort p lsUP 1 2112).expectPort p ∧
      bitsOf (mOk p 0 5).toNat 49 1 = 0 ∧ bitsOf (mOk p 1 5).toNat 49 1 = 1 ∧ bitsOf (mOk p 0 5).toNat 40 8 = bitsOf (mOk p 1 5).toNat 40 8 ∧ bitsOf (mOk p 1 6).toNat 40 8 ≠ 5) ∧
    (∀ p ∈ [0, 2], bitsOf (markerP 3 0 5).toNat 50 2 ≠ (sPort p lsUP 1 2112).expectPort p) ∧
    (¬ 2112 < (2112#16 : BitVec 16).toInt.natAbs ∧ 2112 < (BitVec.ofInt 16 (-2113)).toInt.natAbs ∧ ((sPort 2 lsUP 1 2112).bond 2).skew = (2112#16 : BitVec 16).toInt ∧
      ((sPort 2 lsUP 1 2112).bond 2).rev = (bitsOf (mOk 2 0 5).toNat 49 1 == 1) ∧ ((sPort 2 lsUP 1 2112).bond 2).run ≠ 0 ∧ ((sPort 2 lsUP 0 5).bond 2).run = 0) ∧
    (∀ l ∈ [0, 61], (sl l lsHUNT true).ls l ≤ lsHUNT ∧ lsHUNT < (sl l lsUP true).ls l) ∧
    (∀ e ∈ [0, 63], (s7.set (F.LANE_EYECTL_BUSY e) 1).on (F.LANE_EYECTL_BUSY e) = true ∧ s7.on (F.LANE_EYECTL_BUSY e) = false) := by
  and_intros <;> decide +kernel

/-! ### Converters -/

/-- List 5 runs at entry 7 of 7 to `last`; entry 7 uses position 2, entry 8 positions 1 and 2; `pos2` serves position 2. -/
def ad (conv retry : Bool) (pos2 : Nat) (convs : List ConvRun) : State :=
  let s := ((s7.setRegN (R.ADC_ENT 7 0) 0x9000).setRegN (R.ADC_ENT 8 0) 0x90008800).setRegN R.ADC_MAP (0x76543010 + pos2 * 256)
  { s with adc := { s.adc with lists := [{ list := 5, entry := 7, last := 8, conv, ready := 0, retry, reserved := retry }], convs := convs } }
def run5 (conv retry : Bool) : ListRun := { list := 5, entry := 7, last := 8, conv, ready := 0, retry, reserved := retry }
def conv7 : ConvRun := { entry := 7, inj := none, list := 5, hold := 12345, retry := false, slots := [(2, 2, 1, 0x9000)] }
def convI : ConvRun := { entry := 8, inj := some 1, list := 0, hold := 5, retry := false, slots := [(1, 1, 1, 0x8800), (2, 2, 1, 0x9000)] }
/-- The start of a list by the idle register: `b` of list 3, at offset `o`, in a grid that runs with the engine stopped. -/
def adIdle (b : Bool) (o busy : Nat) : State :=
  let s := ((hg 0 row0).set F.ADC_CTRL_EN 1).set F.ADC_LBUSY_L (busy * 8)
  if b then ((s.set F.ADC_IDLESTART_BEN 1).set F.ADC_IDLESTART_BLIST 3).set F.ADC_IDLESTART_BOFS o else ((s.set F.ADC_IDLESTART_AEN 1).set F.ADC_IDLESTART_ALIST 3).set F.ADC_IDLESTART_AOFS o
def shortP (s : State) : State := { s with sext := { s.sext with b1 := s.sext.b0 } }
def idleOf (s : State) (b : Bool) : Bool := s.on (if b then F.ADC_IDLESTART_BEN else F.ADC_IDLESTART_AEN) && s.get F.ENG_STAT_ESTATE == 0 && s.sx != sxOFF && s.sext.begun
/-- Entry 7 places its result at row 9, lane 60, and at word 0x123. -/
def adDst : State := ((ad true false 2 [conv7]).setRegN (R.ADC_ENT 7 4) (9 + 2 ^ 17 + 60 * 2 ^ 18 + 3 * 2 ^ 24)).setRegN (R.ADC_ENT 7 5) (2 ^ 31 + 0x123)

theorem wit_EntriesConvertAndPlaceTheirResults :
    (∀ b ∈ [false, true], idleOf s7 b = false ∧ (∀ o ∈ [0, 254], idleOf (adIdle b o 0) b ∧ (adIdle b o 0).sext.b0 + 320 * o < (adIdle b o 0).sext.b1 ∧ (adIdle b o 0).on F.ADC_CTRL_EN = true ∧
      (adIdle b o 0).fbit F.ADC_LBUSY_L 3 = false ∧ (adIdle b o 1).fbit F.ADC_LBUSY_L 3 = true) ∧ idleOf (shortP (adIdle b 0 0)) b ∧ (shortP (adIdle b 0 0)).sext.b1 ≤ (shortP (adIdle b 0 0)).sext.b0 + 320 * 0) ∧
    s7.listRun 5 = none ∧ (∀ c ∈ [false, true], ∀ r ∈ [false, true], (ad c r 2 []).listRun 5 = some (run5 c r) ∧ (ad c r 2 []).unserved 7 = false ∧ (ad c r 15 []).unserved 7 = true) ∧
    ((ad false false 2 []).mayStart (run5 false false) = true ∧ (ad false false 2 [convI]).mayStart (run5 false false) = false) ∧
    ((ad false true 2 []).entryPos 7 = [2] ∧ (ad false true 2 []).posInj 2 = false ∧ (ad false true 2 []).posPend 2 = false ∧ (ad false true 2 []).adc.swapPos = none ∧ (ad false true 2 [convI]).posInj 2 = true) ∧
    (adDst.adc.convs.find? (·.entry == 7) = some conv7 ∧ conv7.slots = [(2, 2, 1, 0x9000)] ∧ conv7.inj = none ∧ adDst.listRun conv7.list = some (run5 true false) ∧ s7.adc.convs = [] ∧
      adDst.entVen 7 = true ∧ adDst.entSen 7 = true ∧ adDst.inStateV (adDst.entVrow 7) = false ∧ adDst.inStateS (adDst.entSword 7) = false) ∧
    ((ad true false 2 [conv7]).entVen 7 = false ∧ (ad true false 2 [conv7]).entSen 7 = false) ∧
    (adDst.set F.ENG_SPAGE_V_NROWS 9).entVen 7 = true ∧ (adDst.set F.ENG_SPAGE_V_NROWS 9).inStateV 9 = true ∧ ((adDst.set F.ENG_SPAGE_V_NROWS 9).setRegN (R.ADC_ENT 7 5) 0).entSen 7 = false := by
  and_intros <;> decide +kernel

/-- Injected request 1 of entry 8 in phase `ph`, with these conversions. -/
def aj (ph pos2 : Nat) (convs : List ConvRun) : State :=
  let s := (ad true false pos2 convs).set (F.ADC_INJ_ENTRY 1) 8
  { s with adc := { s.adc with inj := [(1, ph)] } }
def swp (f : AdcSt → AdcSt) : State := { s7 with adc := f s7.adc }
def sDue : State := swp fun x => { x with forced := 1, calDone := true, swapPos := none }
def sCal (fails : Nat) : State := let s := s7.set F.ADC_STAT_CALBUSY 1; { s with adc := { s.adc with calFails := [(s.get F.ADC_SPARE_SPARE, fails)] } }
def spI : Nat := s7.get F.ADC_SPARE_SPARE

theorem wit_InjectionsPreemptAndSlicesRotate :
    (∀ ph ∈ [1, 2, 3], (aj ph 2 []).injPhase 1 = ph) ∧ ((aj 2 2 [conv7]).entryPos ((aj 2 2 [conv7]).get (F.ADC_INJ_ENTRY 1)) = [1, 2] ∧ (aj 2 2 [conv7]).adc.convs = [conv7] ∧ conv7.inj.isNone ∧
      (aj 2 2 [conv7]).listRun conv7.list = some (run5 true false)) ∧
    ((aj 3 2 []).unserved 8 = false ∧ (aj 3 2 []).posInj 1 = false ∧ (aj 3 2 []).posInj 2 = false ∧ (aj 3 2 [convI]).posInj 1 = true ∧ (aj 3 2 []).adc.swapPos = none ∧ (aj 3 15 []).unserved 8 = true) ∧
    (sDue.adc.forced ≠ 0 ∧ sDue.spareOk = true ∧ sDue.adc.calDone = true ∧ sDue.adc.swapPos = none) ∧ (swp fun x => { x with calDone := false }).adc.calDone = false ∧
    ((swp fun x => { x with swapDue := true }).adc.swapDue = true ∧ (swp fun x => { x with swapDue := true }).adc.swapPos = none ∧ s7.posBusy s7.swapTarget = false ∧ s7.posPend s7.swapTarget = false ∧
      s7.quietOk = true) ∧ s7.adc.swapDue = false ∧ s7.adc.swapPos = none ∧ (∀ q ∈ [0, 7], (swp fun x => { x with swapPos := some q }).adc.swapPos = some q) ∧
    (s7.on F.ADC_STAT_CALBUSY = false ∧ (sCal 0).on F.ADC_STAT_CALBUSY = true ∧ (sCal 1).on F.ADC_STAT_CALBUSY = true ∧ spGet 0 (sCal 1).adc.calFails spI = 1 ∧ spI < 9) ∧
    (((BitVec.ofInt 32 (factoryOfs spI s7.bandA)).toInt - factoryOfs spI s7.bandA).natAbs ≤ 16 * s7.get F.ADC_CALLIM_OFSMAX ∧ ((BitVec.ofNat 32 (factoryGain spI s7.bandA)).toNat : Int) = factoryGain spI s7.bandA) ∧
    ¬ ((0x7FFFFFFF : Word).toInt - factoryOfs spI s7.bandA).natAbs ≤ 16 * s7.get F.ADC_CALLIM_OFSMAX := by
  and_intros <;> decide +kernel

/-- Filter `n` on, OSR 256; `k` results still not valid; stuck where `stk`. -/
def sd (n k stk mode : Nat) : State :=
  let s := ((((((s7.set (F.SDF_CFG_OSR n) 256).set (F.SDF_CFG_STK n) 1).set (F.SDF_PLACE_MODE n) mode).set (F.SDF_PLACE_VEN n) 1).set (F.SDF_PLACE_VROW n) 9).set (F.SDF_PLACE_LANE n) 60).setRegN (R.SDF_LIM n) 0
  let s := s.set (F.SDF_CFG_EN n) 1
  { s with adc := { s.adc with sdfFirst := if k = 0 then [] else [(n, k)], stuck := stk * 2 ^ n } }
theorem wit_SigmaDeltaFiltersFormResults :
    (∀ n ∈ [0, 15], s7.on (F.SDF_CFG_EN n) = false ∧ (∀ k ∈ [0, 2], ∀ b ∈ [0, 1], (sd n k b 2).on (F.SDF_CFG_EN n) = true ∧ (spGet 0 (sd n k b 2).adc.sdfFirst n : Nat) = k ∧ (sd n k b 2).adc.stuck.testBit n = decide (b = 1))) ∧
    (∀ n ∈ [0, 15], signedOf 16 ((sd n 0 0 2).regN (R.SDF_LIM n) / 2 ^ 16) < 32767 ∧ (sd n 0 0 2).get (F.SDF_PLACE_MODE n) = 2 ∧ (sd n 0 0 2).on (F.SDF_PLACE_VEN n) = true ∧
      (sd n 0 0 2).inStateV ((sd n 0 0 2).get (F.SDF_PLACE_VROW n)) = false ∧ (sd n 0 0 1).get (F.SDF_PLACE_MODE n) ≠ 2 ∧ (sd n 0 0 1).get (F.SDF_CFG_STK n) ≠ 0 ∧ (s7.set (F.SDF_CFG_STK n) 0).get (F.SDF_CFG_STK n) = 0) := by
  and_intros <;> decide +kernel

/-- Comparator `n` sensing as `sense`, its stages `h` and `l`, under test where `t`, the test's forcing sampled where `set`. -/
def cp (n sense : Nat) (h l : Bool) (t : Option Nat) (set : Bool) : State :=
  let s := (s7.set (F.CMP_CFG_SENSE n) sense).setRegN R.CMP_LATCH 0
  { s with cmp := { s.cmp with hi := b2n h * 2 ^ n, lo := b2n l * 2 ^ n, test := t, settling := set, tie := 0 } }
/-- Trip input `m` enabled with its trip level high, its pin at `lvl`. -/
def tp (m : Nat) (lvl : Bool) : State := let s := ((s7.set (F.TRIP_TINC_EN m) 1).set (F.TRIP_TINC_TPOL m) 1).setRegN R.TRIP_TLATCH 0; { s with cmp := { s.cmp with pins := b2n lvl * 2 ^ m } }
theorem wit_ComparatorsAndTripInputsLatch :
    (∀ n ∈ [0, 23], ∀ k ∈ [1, 2, 3], (cp n k false false none false).get (F.CMP_CFG_SENSE n) = k ∧ (cp n k false false none false).cmp.hi.testBit n = false ∧ (cp n k false false none false).cmp.lo.testBit n = false ∧
      (cp n k false false none false).fbit F.CMP_LATCH_L n = false ∧ (cp n k false false none false).cmp.test ≠ some n) ∧
    (∀ n ∈ [0, 23], ((cp n 3 true true none false).cmp.hi.testBit n = true) ∧ ((cp n 1 false false (some n) false).cmp.test = some n ∧ (cp n 1 false false (some n) false).cmp.settling = false) ∧
      (cp n 1 false false (some n) true).cmp.settling = true ∧ (cp n 1 false false (some n) false).cmp.tie = 0 ∧ s7.cmp.test = none) ∧
    (∀ m ∈ [0, 7], (tp m false).on (F.TRIP_TINC_EN m) = true ∧ (tp m false).on (F.TRIP_TINC_TPOL m) = true ∧ (tp m false).cmp.pins.testBit m = false ∧ (tp m true).cmp.pins.testBit m = true ∧
      (tp m false).fbit F.TRIP_TLATCH_L m = false) := by
  and_intros <;> decide +kernel

/-! ### Auxiliary stages, Hall sensors, safety -/

def axs (f : AxdSt → AxdSt) (s : State) : State := { s with axd := f s.axd }
/-- Channel `a` switched by its inputs, its high side of leg `l` held off, that input off. -/
def sAux (a l : Nat) : State := axs (fun x => { x with hOff := 2 ^ (3 * a + l) }) ((s7.set (F.AXD_CHCFG_SRC a) 1).set (F.AXD_CHCFG_INPOL a) 0)
def sProt (a : Nat) : State := (s7.set (F.AXD_PROT_OCTHR a) 5).set (F.AXD_PROT_SLTHR a) 5
def sVm : State := ((((s7.set F.AXD_VMLIM_VMUV 100).set F.AXD_VMLIM_OVSD 3000).set F.AXD_VMCFG_BRKOFF 2000).set F.AXD_VMCFG_BRKON 2500).set F.AXD_BRKCFG_EN 1
theorem wit_AuxiliaryStageEventsAct :
    (∀ a ∈ [0, 2], s7.on (F.AXD_CHCFG_SRC a) = false ∧ (∀ l ∈ [0, 2], (sAux a l).on (F.AXD_CHCFG_SRC a) = true ∧ (sAux a l).auxIn a (2 * l) = false ∧
      (axs (fun x => { x with pins := putBit x.pins (6 * a + 2 * l) true }) (sAux a l)).auxIn a (2 * l) = true ∧ (sAux a l).axd.hOff.testBit (3 * a + l) = true)) ∧
    (∀ a ∈ [0, 2], (axs (fun x => { x with gates := 2 ^ (2 * (3 * a)) }) s7).axd.gates.testBit (2 * (3 * a)) = true ∧ s7.axd.gates.testBit (2 * (3 * a)) = false) ∧
    (∀ a ∈ [0, 2], (s7.set (F.AXD_PROT_OCTHR a) 0).get (F.AXD_PROT_OCTHR a) = 0 ∧ (s7.set (F.AXD_PROT_SLTHR a) 0).get (F.AXD_PROT_SLTHR a) = 0 ∧ (sProt a).get (F.AXD_PROT_OCTHR a) ≠ 0 ∧
      (sProt a).get (F.AXD_PROT_SLTHR a) ≠ 0 ∧ s7.get (F.AXD_SCINFO_LEGS a) = 0 ∧ ((s7.set (F.AXD_SCINFO_LEGS a) 2).setReg64 (R.AXD_SCSTAMP_LO a) 77).reg64 (R.AXD_SCSTAMP_LO a) ≠ s7.now) ∧
    (sVm.get F.AXD_VMLIM_VMUV = 100 ∧ sVm.get F.AXD_VMLIM_OVSD = 3000 ∧ sVm.get F.AXD_VMCFG_BRKOFF = 2000 ∧ sVm.get F.AXD_VMCFG_BRKON = 2500 ∧ sVm.on F.AXD_BRKCFG_EN = true) ∧
    ((sVm.set F.AXD_VM_BRK 1).on F.AXD_BRKCFG_EN = true ∧ (sVm.set F.AXD_VM_BRK 1).on F.AXD_VM_BRK = true ∧ (s7.set F.AXD_BRKCFG_EN 0).on F.AXD_BRKCFG_EN = false) := by
  and_intros <;> decide +kernel

def halls (f : HallSt → HallSt) (s : State) : State := { s with hall := f s.hall }
/-- Channel `a` on, the code before `c`, the sector `x`, `m` moves in the window. -/
def sHall (a : Nat) (c x : Option Nat) (m : Int) : State := halls (fun h => { h with code := [(a, c)], sector := [(a, x)], moves := [(a, m)] }) ((s7.set (F.HALL_CFG_EN a) 1).set (F.HALL_CFG_HEN a) 1)
/-- SS1 runs, with these bounds, after window `j`. -/
def sSs1 (a : Nat) (m : Int) (j maxw : Nat) : State :=
  let s := (((((sHall a (some 1) (some 0) m).set (F.SAFE_CHSTAT_SS1 a) 1).set (F.SAFE_CHSTAT_J a) j).set (F.SAFE_SS1_STILL a) 5).set (F.SAFE_SS1_MARG a) 10).set (F.SAFE_SS1_MAXW a) maxw
  { s.set (F.SAFE_SS1_DEC a) 1 with safe := { s.safe with v0 := [(a, 100)] } }
/-- The envelope of the window that ends. -/
def env (s : State) (a : Nat) : Int := ((spGet 0 s.safe.v0 a : Nat) : Int) + s.get (F.SAFE_SS1_MARG a) - s.get (F.SAFE_SS1_DEC a) * (s.get (F.SAFE_CHSTAT_J a) + 1 : Nat)
def homeAt (a pos spr : Nat) : State := ((sHall a none none 0).setRegN (R.HALL_POS a) pos).set (F.HALL_CFG_SPR a) spr
def hslip (s : State) (a : Nat) : Int := homeSlip (s.reg (R.HALL_POS a)) (s.reg (R.HALL_HOMEPOS a)) (s.get (F.HALL_CFG_SPR a))

theorem wit_HallChangesCountPositionAndSpeed :
    (∀ a ∈ [0, 2], s7.on (F.HALL_CFG_EN a) = false ∧ (sHall a (some 1) (some 0) 0).on (F.HALL_CFG_EN a) = true ∧ (sHall a (some 1) (some 0) 0).hallS a = some 0 ∧ (sHall a (some 1) (some 0) 0).hallCode a = some 1 ∧
      (sHall a none none 0).hallS a = none ∧ (sHall a none none 0).hallCode a = none ∧ (sHall a (some 1) (some 5) 0).hallS a = some 5) ∧
    (twoLines 1 3 = false ∧ hallSector 3 = some ((0 + 1) % 6)) ∧ (twoLines 1 5 = false ∧ hallSector 5 = some ((0 + 5) % 6)) ∧ hallSector 1 = some ((5 + 1) % 6) ∧ (twoLines 1 6 = true ∧ hallSector 7 = none ∧ twoLines 1 0 = false) ∧
    (∀ a ∈ [0, 2], s7.on (F.HALL_CFG_HEN a) = false ∧ (sHall a none none 0).on (F.HALL_CFG_HEN a) = true ∧ (sHall a none none 0).on (F.HALL_CFG_HPOL a) = false ∧
      (((sHall a none none 0).set (F.HALL_CFG_SETPOS a) 1).on (F.HALL_CFG_SETPOS a) = true ∧ (sHall a none none 0).on (F.HALL_STAT_HOMED a) = false) ∧
      ((sHall a none none 0).set (F.HALL_CFG_SETPOS a) 0).on (F.HALL_CFG_SETPOS a) = false ∧ hslip (homeAt a 48 24) a = 0 ∧ hslip (homeAt a 50 24) a = 2) ∧
    (∀ a ∈ [0, 2], ∀ m ∈ [-32768, 32767, 0], fitsS 16 m = true ∧ (spGet 0 (sHall a none none m).hall.moves a : Int) = m ∧ (sHall a none none m).on (F.SAFE_CHSTAT_SS1 a) = false) ∧
    (∀ a ∈ [0, 2], ∀ m ∈ [-5, 6, 104, -105], (sSs1 a m 4 9).on (F.HALL_CFG_EN a) = true ∧ (sSs1 a m 4 9).on (F.SAFE_CHSTAT_SS1 a) = true ∧ (sSs1 a m 4 9).on (F.HALL_STAT_HALLF a) = false ∧
      (spGet 0 (sSs1 a m 4 9).hall.moves a : Int) = m ∧ env (sSs1 a m 4 9) a = 105 ∧ (sSs1 a m 4 9).get (F.SAFE_SS1_STILL a) = 5 ∧ 4 + 1 ≠ (sSs1 a m 4 9).get (F.SAFE_SS1_MAXW a) ∧ 4 + 1 = (sSs1 a m 4 5).get (F.SAFE_SS1_MAXW a)) ∧
    (max 105 5 : Int) < (106 : Int).natAbs ∧ (5 : Int) < (6 : Int).natAbs ∧ ((-105 : Int).natAbs : Int) ≤ 105 ∧ ((-5 : Int).natAbs : Int) ≤ 5 := by
  and_intros <;> decide +kernel

def safes (f : SafeSt → SafeSt) (s : State) : State := { s with safe := f s.safe }
/-- Input `n` on, equivalent, its channels apart after `c` strobes. -/
def sSin (n c : Nat) : State := safes (fun x => { x with sinA := 2 ^ n, sinB := 0, cnt := [(n, c)] }) (((s7.set (F.SAFE_SINCFG_EN n) 1).set (F.SAFE_SINCFG_MODE n) 0).set (F.SAFE_SINCFG_DISC n) 3)
def sPul (n : Nat) : State := safes (fun x => { x with pulse := 2 ^ n }) (s7.set (F.SAFE_SOUTSTAT_ON n) 1)
def sTst (a gsw : Nat) : State := (s7.set (F.SAFE_CHCFG_EN a) 1).set (F.AXD_CHSTAT_GSW a) gsw
def sCrcBad : State := safes (fun x => { x with crcDone := true }) ((s7.set F.SAFE_STAT_UNLOCKED 0).setReg R.SAFE_CRC 5)
theorem wit_SafetyInputsOutputsAndTestsAct :
    (∀ n ∈ [0, 3], (∀ c ∈ [1, 2], (sSin n c).sinDisagree n = true ∧ (spGet 0 (sSin n c).safe.cnt n : Nat) = c ∧ (sSin n c).get (F.SAFE_SINCFG_DISC n) = 3 ∧ (sSin n c).safe.disc.testBit n = false) ∧ s7.sinDisagree n = false) ∧
    (∀ n ∈ [0, 3], (sPul n).on (F.SAFE_SOUTSTAT_ON n) = true ∧ s7.on (F.SAFE_SOUTSTAT_ON n) = false ∧ (sPul n).safe.pulse.testBit n = true ∧ s7.safe.pulse.testBit n = false) ∧
    (∀ a ∈ [0, 2], (s7.set (F.SAFE_CHCFG_EN a) 0).on (F.SAFE_CHCFG_EN a) = false ∧ (sTst a 1).on (F.SAFE_CHCFG_EN a) = true ∧ ((sTst a 1).set (F.SAFE_CHSTAT_STO a) 1).on (F.SAFE_CHSTAT_STO a) = true ∧
      (axs (fun x => { x with soft := 2 ^ a }) (sTst a 1)).axd.soft.testBit a = true ∧ ((sTst a 1).set (F.SAFE_CHSTAT_STO a) 0).on (F.SAFE_CHSTAT_STO a) = false ∧ (sTst a 1).axd.soft.testBit a = false ∧
      (sTst a 1).on (F.AXD_CHSTAT_GSW a) = true ∧ s7.on (F.SAFE_CHSTAT_TEST a) = false ∧ (s7.set (F.SAFE_CHSTAT_TEST a) 1).on (F.SAFE_CHSTAT_TEST a) = true) ∧
    (sCrcBad.on F.SAFE_STAT_UNLOCKED = false ∧ sCrcBad.safe.crcDone = true ∧ sCrcBad.safeCrc ≠ sCrcBad.reg R.SAFE_CRC) ∧ s7.safe.crcDone = false ∧ s7.reactNow Q.SAFE_SLCLK ≠ 0 := by
  and_intros <;> decide +kernel

/-! ### Updates -/

/-- A session of image 77, `pieces` received, of `nch` chunks, `age` minutes old; it expires after one day. -/
def se (id pieces nch age : Nat) : Session := { session := id, digest := [], nch, pieces, age, relay := false }
def withSe (s : State) (x : Session) : State := { s with nvm := { s.nvm with sess := some x } }
def sAge (a : Nat) : State := withSe (s7.set F.UPD_CFG_EXPIRY 1) (se 77 5 10 a)
def rly (owner : Option HCmd) (next nch : Nat) (sent : List RlyChunk) (acked : Nat) : Relay := { owner, session := 77, slot := 1, side := .west, hops := 3, nch, origin := 5, next, sent, acked }
def rbR (r : Relay) : State := { rb with upd := { rb.upd with relay := some r } }
def rbAcc (x : Option Session) (acc : Nat) : State := { rb.set F.UPD_CFG_RLYACC acc with nvm := { rb.nvm with sess := x } }
/-- A quarter `q` of chunk `c` of image 77, `h` hops to go; the acknowledgement of chunk `c` of image `id`. -/
def qF (c q h : Nat) : RingFrame := rf rcBULK 9 0 true 1 0 (blk 77 (2 ^ 21 * c + 2 ^ 19 * q + 2 ^ 10 * h + 9) :: dat 128)
def rkF (id c bad : Nat) : RingFrame := rf rcBULK 9 0 true 1 0x1000 [blk id (2 ^ 21 * c + 2 ^ 20 * bad + 9)]
/-- What forwarding leaves. -/
def fwd (s : State) (f : RingFrame) : State := (s.ringRx .east f).2
def relA : Relay := rly none 5 5 [⟨2, 7, 3⟩, ⟨4, 8, 2⟩] 3

theorem wit_SessionsAgeAndRelaysPassChunks :
    s7.nvm.sess = none ∧ (∀ a ∈ [0, 1438, 1439], (sAge a).nvm.sess = some (se 77 5 10 a) ∧ (sAge a).get F.UPD_CFG_EXPIRY = 1) ∧
    ((rbR (rly (some (hcmd 0x83 2 [])) 3 5 [] 0)).upd.relay = some (rly (some (hcmd 0x83 2 [])) 3 5 [] 0) ∧ (rbR (rly none 5 5 [] 0)).upd.relay = some (rly none 5 5 [] 0) ∧ rb.upd.relay = none ∧
      rb.ringPort 1 = 3 ∧ rb.ring.quiet = false) ∧
    (came (rbAcc none 0) .east (qF 0 0 1) ∧ isBulk (qF 0 0 1) 0 = true ∧ (qF 0 0 1).len = 129 ∧ (fwd (rbAcc none 0) (qF 0 0 1)).on F.UPD_CFG_RLYACC = false) ∧
    (came (rbAcc none 1) .east (qF 0 0 1) ∧ (fwd (rbAcc none 1) (qF 0 0 1)).on F.UPD_CFG_RLYACC = true ∧ (fwd (rbAcc none 1) (qF 0 0 1)).on F.SYS_STATE_TRIAL = false ∧
      (fwd (rbAcc none 1) (qF 0 0 1)).pfail = false ∧ (fwd (rbAcc none 1) (qF 0 0 1)).nvm.sess = none ∧ hi32 (blk 77 9) = 77 ∧ lo32 (blk 77 (2 ^ 10 + 9)) / 2 ^ 21 = 0 ∧ bitsOf (lo32 (blk 77 (2 ^ 10 + 9))) 19 2 = 0) ∧
    (came (rbAcc (some (se 78 255 10 0)) 1) .east (qF 1 0 0) ∧ (fwd (rbAcc (some (se 78 255 10 0)) 1) (qF 1 0 0)).nvm.sess = some (se 78 255 10 0) ∧ lo32 (blk 77 (2 ^ 21 + 9)) / 2 ^ 21 = 1) ∧
    (came (rbAcc (some (se 77 65535 10 0)) 1) .east (qF 1 0 1) ∧ (fwd (rbAcc (some (se 77 65535 10 0)) 1) (qF 1 0 1)).nvm.sess = some (se 77 65535 10 0) ∧ (se 77 65535 10 0).has 1 = true) ∧
    (∀ c ∈ [2, 3], came (rbR relA) .east (rkF 77 c 0) ∧ isBulk (rkF 77 c 0) 1 = true ∧ (rkF 77 c 0).len = 1 ∧ (fwd (rbR relA) (rkF 77 c 0)).upd.relay = some relA) ∧
    (relA.sent.any (·.chunk == 2) = true ∧ relA.sent.any (·.chunk == 3) = false ∧ relA.session = 77 ∧ relA.acked + 1 ≠ 6 ∧ relA.acked + 1 ≠ relA.nch ∧ ({ relA with acked := 4 } : Relay).acked + 1 = relA.nch) ∧
    (came rb .east (rkF 77 2 0) ∧ (fwd rb (rkF 77 2 0)).upd.relay = none) ∧
    (relA.sent.find? (·.chunk == 2) = some ⟨2, 7, 3⟩ ∧ relA.sent.find? (·.chunk == 4) = some ⟨4, 8, 2⟩ ∧ relA.sent.find? (·.chunk == 3) = none) := by
  and_intros <;> decide +kernel

/-- Device state `d`, a trial running where `tr`, its conditions met where `ok`; PFAIL where `pf`. -/
def sTrial (d tr ok pf : Nat) : State :=
  let s := (((((((st d).set F.SYS_STATE_TRIAL tr).set F.UPD_STAT_TRIAL tr).setRegN R.UPD_OKRUN (999 + ok)).set F.UPD_CFG_AUTOCONF 1).set F.PMU_STAT_PFAIL pf).set F.RING_CFG_EN 0).set F.TWIN_CFG_EN 0
  { s with upd := { s.upd with testsOk := true } }
def sActW (d pf : Nat) : State := let s := (st d).set F.PMU_STAT_PFAIL pf; { s with upd := { s.upd with act := some ⟨hcmd 0x84 2 [0, 0, 0], 1, 5⟩ } }

theorem wit_ActivationTrialAndKeyEventsAct :
    s7.upd.act = none ∧ (∀ d ∈ [2, 10, 11, 12], ∀ pf ∈ [0, 1], (sActW d pf).upd.act.isSome = true ∧ (sActW d pf).pfail = decide (pf = 1) ∧ (sActW d pf).dev = d) ∧ (∀ d ∈ [2, 10], Resettable (sActW d 0)) ∧
    (∀ pf ∈ [0, 1], (sTrial 7 1 1 pf).on F.SYS_STATE_TRIAL = true ∧ (sTrial 7 1 1 pf).upd.testsOk = true ∧ (sTrial 7 1 1 pf).trialLinks = true ∧ 1000 ≤ (sTrial 7 1 1 pf).regN R.UPD_OKRUN ∧
      (sTrial 7 1 1 pf).on F.UPD_CFG_AUTOCONF = true ∧ (sTrial 7 1 1 pf).pfail = decide (pf = 1)) ∧
    (∀ pf ∈ [0, 1], (sTrial 7 1 0 pf).on F.SYS_STATE_TRIAL = true ∧ (sTrial 7 1 0 pf).regN R.UPD_OKRUN < 1000 ∧ Resettable (sTrial 7 1 0 pf)) ∧ (sTrial 7 0 1 0).on F.SYS_STATE_TRIAL = false ∧
    (s7.on F.NVM_STAT_KEYINT = false ∧ s7.reactNow Q.NVM_KEYINT ≠ 0) ∧ (s7.upd.confWait = false ∧ s7.host.late = []) ∧ ({ s7 with upd := { s7.upd with confWait := true } } : State).upd.confWait = true := by
  unfold Resettable
  and_intros <;> decide +kernel

/-! ### The whole machine -/

def sState : State := (((hg 2 row0).set F.ENG_SPAGE_V_NROWS 9).set F.ENG_SPAGE_V_BASE 1920)
theorem wit_StepTakesTheCommandAtTheFront : s7.pending = [] := rfl
theorem wit_TickAddsSixteenPlusTheTrim :
    s7.pending = [] ∧ s7.bus.deferred = [] ∧ s7.bus.held = [] ∧ s7.host.accs = [] ∧ s7.sys.sextDue = false ∧ s7.chrono.frac < 2 ^ 32 := by
  and_intros <;> decide +kernel
/-- On an empty queue a step has a next state. -/
theorem wit_EveryStepLeavesTheGatesSafe : ∃ t, step s7 = .next t := ⟨_, rfl⟩
theorem wit_MemoryReadsBackAndStaysCanonical : Memory.wf (s7.store 0xFFF 8 5).mem = true ∧ 0xFFE < 0xFFF ∧ 0xFFF + 8 ≤ 0x1007 := by
  and_intros <;> decide +kernel
theorem wit_SaturationAndRoundingAreExact : (0 < 1 ∧ (1 : Int) > 2 ^ (1 - 1) - 1) ∧ 0 < (1 : Nat) := by decide
/-- Rows 0 and 8 of the state region; a due deadline, the row's blocks done, or not. -/
theorem wit_StatePagesReadAndFlip :
    (∀ i ∈ [0, 8], sState.vState (1920 + i) = some i ∧ sState.vBase + 2 * sState.vRows ≤ 2048) ∧
    (∀ n ∈ [1, 2], (withBlocks (hg 2 row0) n).sx ≠ sxOFF ∧ (withBlocks (hg 2 row0) n).sext.begun = true ∧ (withBlocks (hg 2 row0) n).sext.comm = true ∧ (withBlocks (hg 2 row0) n).bus.deferred = [] ∧
      (withBlocks (hg 2 row0) n).bus.held = [] ∧ (withBlocks (hg 2 row0) n).get F.ENG_STAT_ESTATE = 2 ∧ (withBlocks (hg 2 row0) n).rowDone = decide (n = 2)) := by
  and_intros <;> decide +kernel
theorem wit_RaisesPendAndInterruptRequestsFollow :
    (∀ q ∈ [Q.HOST_RXERR, Q.SYS_LOCKSTEP], s7.reactNow q ≠ 0 ∧ q ∈ allSrcs ∧ (s7.cap q.blk).valid = false) ∧ s7.reactNow Q.HOST_RXERR ≤ 3 ∧ Q.HOST_RXERR ≠ Q.SYS_LOCKSTEP ∧
    (let s : State := s7.raise Q.HOST_RXERR (hw 0); (s.cap Q.HOST_RXERR.blk).valid = true) := by
  and_intros <;> decide +kernel
theorem wit_AnalogEventsLeaveTheRest : adDst.entVen 7 = true ∧ adDst.entSen 7 = true ∧ adDst.entRidx 7 + 8 ≤ 256 ∧ (∀ c ∈ adDst.adc.convs, c.slots.length ≤ 8) := by
  and_intros <;> decide +kernel

/-! ### Terms that WellFormed refuses: one for each of its checks -/

def okLink : LinkFrame := ⟨15, 65535, 255, 1, 2 ^ 18 - 1, [5], true⟩
def okRing : RingFrame := { cls := 7, src := 511, dst := 511, bc := true, ttl := 511, len := 1, cspec := 2 ^ 15 - 1, data := [5], ok := true }
def okHost : HostHdr := hdr 2 0

theorem test_wf_link_frames : Instr.wf (.podKeepRx 0 false okLink) = true ∧ Instr.wf (.podKeepRx 0 false { okLink with ok := false, data := [] }) = true ∧
    ∀ f ∈ [{ okLink with ftype := 16 }, { okLink with claim := 2 ^ 16 }, { okLink with seq := 256 }, { okLink with len := 1024, ok := false }, { okLink with tspec := 2 ^ 18 }, { okLink with data := [] }],
      Instr.wf (.podKeepRx 0 false f) = false := by decide
theorem test_wf_ring_frames : Instr.wf (.fixRx .east okRing) = true ∧
    ∀ f ∈ [{ okRing with cls := 8 }, { okRing with src := 512 }, { okRing with dst := 512 }, { okRing with ttl := 512 }, { okRing with len := 1024, ok := false }, { okRing with cspec := 2 ^ 15 }, { okRing with data := [] }],
      Instr.wf (.fixRx .east f) = false := by decide
theorem test_wf_host_frames : Instr.wf (.read okHost (bodyN [1, 2])) = true ∧ Instr.wf (.read { okHost with avail := 19 } (bodyN [1])) = true ∧
    Instr.wf (.read okHost (bodyN [1])) = false ∧ Instr.wf (.read { okHost with len := 2 ^ 16, avail := 0 } []) = false := by decide
theorem test_wf_readings : Instr.wf (.tempRoundEnd (List.replicate 12 0)) = true ∧ Instr.wf (.tempRoundEnd (List.replicate 11 0)) = false ∧
    Instr.wf (.conversionResult 0 (List.replicate 8 0)) = true ∧ Instr.wf (.conversionResult 0 (List.replicate 9 0)) = false ∧
    Instr.wf (.podSample 0 0 (List.replicate 16 0) 0) = true ∧ Instr.wf (.podSample 0 0 (List.replicate 17 0) 0) = false := by decide

/-! ### Examples of the spec -/

/-- Chapter 04, "encoding one word": VADD V3, V1, V2, K1 | VLD V4, [0x120]. -/
theorem test_word_of_chapter_04 : (match wordOf 0x0461110008800120 with | .ok p => p == (.vadd 3 1 2 1, .vld 4 0 0 0x120 0) | .error _ => false) = true := by decide +kernel

/-- Chapter 04, "duty and phase to modulation time". -/
theorem test_vetm_of_chapter_04 : etmOf 18022 0x030D4000 false = 0x01ADAD8F ∧ etmOf (-3277) 1024000 true = 921594 := by decide +kernel

/-- Chapter 04, "ties and a lane outside the ranked set". -/
def sRank : State := [1000, 980, 1000, 1020, 980, 900].zipIdx.foldl (fun s e => s.setV 7 e.2 (BitVec.ofNat 16 e.1)) s7
theorem test_vrank_of_chapter_04 : (List.range 5).map (sRank.rankOf 7 0x1F false) = [2, 0, 3, 4, 1] := by decide +kernel

/-- Chapter 04, "a lookup at 40 % load": lane 0 asks in band 1; the table is at row 0x300; `v` is the validity word. -/
def sLut (v : Nat) : State :=
  let put (s : State) (r x : Nat) : State := s.store (vdmAddr (0x300 + r) 0) 2 x
  put (put (put (put (s7.setV 3 0 13107) 22 4608) 21 4480) 65 v) 74 4000
theorem test_lutb_of_chapter_04 : (sLut 0x60).lutbLane 0x300 1 3 0 = (4595, true) ∧ (sLut 0x40).lutbLane 0x300 1 3 0 = (4608, true) ∧ (sLut 0x20).lutbLane 0x300 1 3 0 = (4000, false) := by decide +kernel

/-- Chapter 05, "one Depot 13.8 row": only ADC start A is used, list 0 at offset 0. -/
theorem test_row_of_chapter_05 : let row := 0x00600040_03F000FC_00022430_40000000; rowStart row false = (true, 0, 0) ∧ (rowStart row true).1 = false ∧ row.testBit 117 = true := by decide +kernel

/-- Chapter 06, "the carrier shift of CL17" and "compare near and beyond the period". -/
theorem test_dither_of_chapter_06 : (List.range 16).filter (fun n => dither 10971429 n == 685715) = [0, 2, 4, 8, 12] ∧ (List.range 16).filter (fun n => dither 0xF9FFC n == 63999) = [3, 7, 11, 15] ∧
    refOn 0 64000 64000 0 0 = .all ∧ refEdges 64000 (refOn 0 64000 63999 0 0) = (true, [(63999, false)], false) := by decide +kernel

/-- Chapter 07, "the EDGE frame of CL05": channels, sides and levels in their records. -/
theorem test_records_of_chapter_07 : edgeRecord 2 ⟨1000, false, false⟩ = 0x0A0003E8 ∧ edgeRecord 3 ⟨1000, true, false⟩ = 0x030003E8 ∧ edgeRecord 3 ⟨1640, false, true⟩ = 0x1B000668 := by decide +kernel

/-- Chapter 07, "both directions on CL41": DDN 998 ET, TSU 100 ns, T_lead 2.5 µs, 2.5 Gb/s. -/
def sCl41 : State :=
  (((((ob 41 loREADY).set F.ENG_TIMING_T_LEAD 500).set (F.OCL_LDELAY_DDN 41) 998).setRegN (R.OCL_LCAP_HI 41) 10).set (F.OCL_LSTATE_VER 41) 0x20).set (F.LANE_CFG_RATE 41) 1
theorem test_rmax_of_chapter_07 : sCl41.tblk 41 = 10560 ∧ sCl41.rmaxOf 41 = 98 := by decide +kernel

/-- Chapter 02, Table 3 and "one commitment in lock". -/
theorem test_angles_of_chapter_02 : angleWord (1 / 4) = 0x40000000 ∧ freqWord 50 = 0x32000000 ∧ freqWord 60 = 0x3C000000 ∧
    (s7.set F.SEXT_N_N 1000).dNom (5001 / 100) = 63987 := by decide +kernel

end Sys2Proof.Tests
end

/-! ## O56: saturation and rounding (00 R5, R6) -/
namespace Sys2Proof.Machine

/-! ### Saturation (R5) -/

theorem clampInt_mem_format (w : Nat) (x : Int) : minS w ≤ clampInt (minS w) (maxS w) x ∧ clampInt (minS w) (maxS w) x ≤ maxS w := by
  have hp : 0 < 2 ^ (w - 1) := Nat.two_pow_pos _
  simp only [clampInt, minS, maxS]
  split_ifs <;> omega

/-- The limited value fits its format, so that the format reads it back. -/
theorem toInt_satS {w : Nat} (hw : 0 < w) (x : Int) : (satS w x).toInt = clampInt (minS w) (maxS w) x := by
  obtain ⟨hlo, hhi⟩ := clampInt_mem_format w x
  refine BitVec.toInt_ofInt_eq_self hw ?_ ?_
  · simpa [minS] using hlo
  · have := Int.lt_of_le_sub_one hhi
    simpa [maxS] using this

/-! ### Rounding (R6) -/

/-- Half away from zero by Mathlib's `round`, which takes a half upwards: the magnitude is rounded. -/
def roundAway (x : Rat) : Int := if 0 ≤ x then round x else -round (-x)

theorem roundDiv_eq_roundAway (n : Int) {d : Nat} (hd : 0 < d) : roundDiv n d = roundAway ((n : Rat) / d) := by
  have hd' : (0 : Rat) < d := by exact_mod_cast hd
  have key : ∀ m : Nat, (((2 * m + d) / (2 * d) : Nat) : Int) = round ((m : Rat) / d) := by
    intro m
    rw [round_eq, show (m : Rat) / d + 1 / 2 = ((2 * m + d : Nat) : Rat) / ((2 * d : Nat) : Rat) by push_cast; field_simp,
      Rat.floor_natCast_div_natCast, Int.natCast_ediv]
  have hsign : 0 ≤ (n : Rat) / d ↔ 0 ≤ n := by rw [le_div_iff₀ hd']; simp
  unfold roundDiv roundAway
  rw [key, key]
  by_cases h : 0 ≤ n
  · rw [if_pos h, if_pos (hsign.mpr h), show ((n.toNat : Nat) : Rat) = n by exact_mod_cast Int.toNat_of_nonneg h]
  · rw [if_neg h, if_neg (mt hsign.mp h), show (((-n).toNat : Nat) : Rat) = -n by exact_mod_cast Int.toNat_of_nonneg (by omega : 0 ≤ -n),
      neg_div]

theorem roundRat_eq_roundAway (x : Rat) : roundRat x = roundAway x := by
  rw [roundRat, roundDiv_eq_roundAway _ x.pos, Rat.num_div_den]

/-- No integer is nearer to a number that is not negative than `round` of it, and one as near has a smaller magnitude. -/
theorem eq_round_or_natAbs_lt {x : Rat} (hx : 0 ≤ x) {n : Int} (hn : |x - n| ≤ |x - round x|) : n = round x ∨ n.natAbs < (round x).natAbs := by
  obtain ⟨hlo, hhi⟩ := round_eq_iff.mp (rfl : round x = round x)
  obtain ⟨h1, h2⟩ := abs_le.mp (hn.trans (abs_sub_round x))
  have hle : n < round x + 1 := by exact_mod_cast (by linarith : (n : Rat) < round x + 1)
  have hge : round x - 1 ≤ n := by exact_mod_cast (by linarith : (round x : Rat) - 1 ≤ n)
  have hr : -1 < round x := by exact_mod_cast (by linarith : (-1 : Rat) < round x)
  by_cases h0 : round x = 0
  · left
    by_contra hne
    have hn1 : n = -1 := by omega
    rw [hn1, h0, abs_of_nonneg (by push_cast; linarith), abs_of_nonneg (by simpa using hx)] at hn
    push_cast at hn
    linarith
  · omega

theorem sub_neg_cast_eq (x : Rat) (r : Int) : x - (-r : Int) = -(-x - r) := by push_cast; ring

/-- The rounded value is at most a half away. -/
theorem abs_sub_roundAway (x : Rat) : |x - roundAway x| ≤ 1 / 2 := by
  unfold roundAway
  split
  · exact abs_sub_round x
  · rw [sub_neg_cast_eq, abs_neg]; exact abs_sub_round (-x)

/-- Of the integers as near to `x` as `roundAway x`, every other one has a smaller magnitude. -/
theorem eq_roundAway_or_natAbs_lt {x : Rat} {n : Int} (hn : |x - n| ≤ |x - roundAway x|) :
    n = roundAway x ∨ n.natAbs < (roundAway x).natAbs := by
  unfold roundAway at hn ⊢
  split at hn
  case isTrue h => rw [if_pos h]; exact eq_round_or_natAbs_lt h hn
  case isFalse h =>
    have hn' : |-x - (-n : Int)| ≤ |-x - round (-x)| := by
      rwa [sub_neg_cast_eq, abs_neg, ← neg_neg n, sub_neg_cast_eq, abs_neg] at hn
    rw [if_neg h]
    have := eq_round_or_natAbs_lt (by linarith : 0 ≤ -x) hn'
    omega

/-- Settles O56: the limited value fits its format, and `roundDiv`, `roundRat` and `roundShift` are all `roundAway` of the quotient. -/
theorem saturationAndRoundingAreExact : Obligations.SaturationAndRoundingAreExact := by
  refine ⟨fun w x hw => ?_, fun x => ?_, fun n d hd => ?_, fun n k => ?_⟩
  · rw [toInt_satS hw]
    simp [clampInt, minS, maxS]
  · rw [roundRat_eq_roundAway]
    exact ⟨abs_sub_roundAway x, fun n => eq_roundAway_or_natAbs_lt⟩
  · rw [roundRat_eq_roundAway, roundDiv_eq_roundAway n hd]
  · rw [roundRat_eq_roundAway, roundShift, roundDiv_eq_roundAway n (Nat.two_pow_pos k), Nat.cast_pow, Nat.cast_ofNat]

end Sys2Proof.Machine

/-! ## O10: the accesses. An access outside the map fails to pend for a source word that holds no code of REACT. -/
namespace Sys2Proof.Machine

/-! ### The words of the SYS sources -/

/-- No word of a source of the SYS block differs between `s` and `t`. -/
def SysSrcSame (s t : State) : Prop := ∀ q : Src, srcKey q < 64 → t.src q = s.src q

namespace SysSrcSame

theorem refl (s : State) : SysSrcSame s s := fun _ _ => rfl

theorem trans {s t u : State} (h : SysSrcSame s t) (k : SysSrcSame t u) : SysSrcSame s u := fun q hq => (k q hq).trans (h q hq)

theorem of_faults {s t : State} (h : t.faults = s.faults) : SysSrcSame s t := fun q _ => by simp only [State.src, h]

theorem ite {s t u : State} {c : Prop} [Decidable c] (h : SysSrcSame s t) (k : SysSrcSame s u) : SysSrcSame s (if c then t else u) := by
  split <;> assumption

theorem fold {α : Type} {f : State → α → State} (h : ∀ s x, SysSrcSame s (f s x)) (l : List α) (s : State) : SysSrcSame s (l.foldl f s) := by
  induction l generalizing s with
  | nil => exact refl s
  | cons x l ih => exact (h s x).trans (ih (f s x))

/-- A raise in another block writes no word of the SYS block. -/
theorem raise (s : State) {p : Src} (hp : 64 ≤ srcKey p) (a : Acc) : SysSrcSame s (s.raise p a) := by
  intro q hq
  by_cases hr : s.reactNow p = 0
  · rw [raise_none s p a hr]
  · have hne : srcKey q ≠ srcKey p := by omega
    have hsrc : (s.raisedFaults p a).src = (s.noted p a).faults.src := by
      unfold State.raisedFaults; split
      · exact holdLocal_src _ p a
      · rfl
    rw [State.src, (raise_kept s p a hr).faults, hsrc]
    exact spGet_spPut_ne _ _ _ hne _

theorem faultNew (s : State) (f : Fld) {p : Src} (hp : 64 ≤ srcKey p) (a : Acc) : SysSrcSame s (s.faultNew f p a) :=
  ite (refl s) ((of_faults (flag_faults s f)).trans (raise _ hp a))

theorem faultBit (s : State) (f : Fld) (i : Nat) {p : Src} (hp : 64 ≤ srcKey p) (a : Acc) : SysSrcSame s (s.faultBit f i p a) :=
  ite (refl s) ((of_faults (setFbit_faults s f i true)).trans (raise _ hp a))

end SysSrcSame

/-! ### Steps of `settle` that leave the fault registers -/

theorem ite_faults {s t u : State} {c : Prop} [Decidable c] (h : t.faults = s.faults) (k : u.faults = s.faults) :
    (if c then t else u).faults = s.faults := by split <;> assumption

theorem foldl_faults {α : Type} {f : State → α → State} (h : ∀ s x, (f s x).faults = s.faults) (l : List α) (s : State) :
    (l.foldl f s).faults = s.faults := by
  induction l generalizing s with
  | nil => rfl
  | cons x l ih => rw [List.foldl_cons, ih, h]

@[simp] theorem setPairBit_faults (s : State) (lo l : Nat) (b : Bool) : (s.setPairBit lo l b).faults = s.faults := rfl
@[simp] theorem setLane_faults (s : State) (l : Nat) (x : OclLane) : (s.setLane l x).faults = s.faults := rfl
@[simp] theorem wire_faults (s : State) (l : Nat) (f : LinkFrame) : (s.wire l f).faults = s.faults := rfl
@[simp] theorem lcmdFailed_faults (s : State) : s.lcmdFailed.faults = s.faults := by simp [State.lcmdFailed]

@[simp] theorem lanePump_faults (s : State) (l : Nat) : (s.lanePump l).faults = s.faults := by
  unfold State.lanePump
  refine ite_faults rfl ?_
  extract_lets x
  split
  · exact ite_faults (setLane_faults ..) ((wire_faults ..).trans (setLane_faults ..))
  · split
    · exact ite_faults ((wire_faults ..).trans (setLane_faults ..)) rfl
    · rfl

@[simp] theorem issueCmd_faults (s : State) (l opc src : Nat) (data : List Word64) : (s.issueCmd l opc src data).faults = s.faults := by
  simp [State.issueCmd]

@[simp] theorem sendCapq_faults (s : State) (l : Nat) : (s.sendCapq l).faults = s.faults := by
  simp [State.sendCapq, State.laneSend, State.newFrame]

@[simp] theorem nextCmd_faults (s : State) (l : Nat) : (s.nextCmd l).faults = s.faults := by
  unfold State.nextCmd
  refine ite_faults rfl (ite_faults (issueCmd_faults ..) ?_)
  split
  · exact issueCmd_faults ..
  · rfl

@[simp] theorem setFollow_faults (s : State) (l : Nat) : (s.setFollow l).faults = s.faults := rfl

@[simp] theorem tripBurst_faults (s : State) (l : Nat) : (s.tripBurst l).faults = s.faults := by
  unfold State.tripBurst
  exact ite_faults rfl rfl

@[simp] theorem trips_faults (s t : State) : (s.trips t).faults = t.faults := by
  rw [State.trips, foldl_faults tripBurst_faults]; rfl

@[simp] theorem ss1Start_faults (s : State) (new a : Nat) : (s.ss1Start new a).faults = s.faults := by
  unfold State.ss1Start
  refine ite_faults ?_ rfl
  rw [set_faults, set_faults, flag_faults]

@[simp] theorem gateCh_faults (s : State) (a : Nat) : (s.gateCh a).faults = s.faults := by
  unfold State.gateCh
  exact ite_faults (ite_faults rfl (flag_faults ..)) rfl

@[simp] theorem gates_faults (s : State) : s.gates.faults = s.faults := foldl_faults gateCh_faults _ s

@[simp] theorem soutCh_faults (s : State) (n : Nat) : (s.soutCh n).faults = s.faults := by
  unfold State.soutCh
  extract_lets due _ t on
  have ht : t.faults = s.faults := ite_faults rfl rfl
  rw [setFbit_faults, setB_faults, ht]

@[simp] theorem souts_faults (s : State) : s.souts.faults = s.faults := foldl_faults soutCh_faults _ s

@[simp] theorem startDeferred_faults (s : State) : s.startDeferred.faults = s.faults := by
  unfold State.startDeferred
  refine foldl_faults (fun s a => ?_) _ s
  exact ite_faults (flag_faults ..) rfl

@[simp] theorem brkAt_faults (s : State) : s.brkAt.faults = s.faults := by
  unfold State.brkAt
  exact ite_faults rfl (ite_faults rfl rfl)

@[simp] theorem pairAt_faults (s : State) (t j : Nat) (high : Bool) : (s.pairAt t j high).faults = s.faults := by
  unfold State.pairAt
  exact ite_faults rfl rfl

@[simp] theorem gateAt_faults (s : State) (t k : Nat) (high : Bool) : (s.gateAt t k high).faults = s.faults := by
  unfold State.gateAt
  exact ite_faults rfl (ite_faults rfl rfl)

@[simp] theorem setRingPort_faults (s : State) (p st : Nat) : (s.setRingPort p st).faults = s.faults := by
  unfold State.setRingPort
  exact ite_faults rfl rfl

@[simp] theorem ringPorts_faults (s : State) : s.ringPorts.faults = s.faults := by simp [State.ringPorts]

@[simp] theorem noteEvents_faults (s t : State) : (s.noteEvents t).faults = t.faults := by
  unfold State.noteEvents
  exact ite_faults rfl rfl

@[simp] theorem event_faults (s : State) : s.event.faults = s.faults := by
  unfold State.event
  refine (foldl_faults (fun s f => ite_faults ?_ rfl) _ _).trans rfl
  exact ((setFlow_kept _ _ _).trans (toHost_kept _ _)).faults

/-! ### The steps of `settle` that raise sources of their own blocks -/

theorem oclFault_sysSrcSame (s : State) (l : Nat) (f : Nat → Fld) {p : Src} (hp : 64 ≤ srcKey p) : SysSrcSame s (s.oclFault l f p) :=
  .faultNew s _ hp _

theorem cmdFail_sysSrcSame (s : State) (l : Nat) (c : OclCmd) : SysSrcSame s (s.cmdFail l c) := by
  unfold State.cmdFail
  extract_lets _ t
  have h : SysSrcSame s t := (SysSrcSame.of_faults (setLane_faults ..)).trans (oclFault_sysSrcSame _ _ _ (by decide))
  exact .ite (h.trans (.of_faults (lcmdFailed_faults t))) h

theorem leaveReady_sysSrcSame (s : State) (l : Nat) : SysSrcSame s (s.leaveReady l) := by
  unfold State.leaveReady
  extract_lets t u
  have ht : SysSrcSame s t := (SysSrcSame.of_faults (setPairBit_faults ..)).trans (oclFault_sysSrcSame _ _ _ (by decide))
  have hu : SysSrcSame t u := by
    unfold u; split
    · exact cmdFail_sysSrcSame t l _
    · exact .refl t
  refine (ht.trans hu).trans (.ite ?_ (.refl u))
  exact ((SysSrcSame.of_faults (setLane_faults ..)).trans (oclFault_sysSrcSame _ _ _ (by decide))).trans (.of_faults (lcmdFailed_faults _))

/-- Beyond what leaving READY raises, the entry to a lane state leaves the fault registers. -/
theorem toState_sysSrcSame (s : State) (l st : Nat) : SysSrcSame s (s.toState l st) := by
  unfold State.toState
  extract_lets t u
  have ht : SysSrcSame s t := .ite (leaveReady_sysSrcSame s l) (.refl s)
  refine ht.trans (.of_faults ?_)
  have hu : u.faults = t.faults := set_faults ..
  clear_value u
  rw [← hu]
  refine ite_faults rfl (ite_faults rfl (ite_faults ?_ (ite_faults ?_ (ite_faults rfl (ite_faults rfl rfl)))))
  · rw [sendCapq_faults, set_faults, set_faults, setLane_faults]
  · exact issueCmd_faults ..

theorem laneFollow_sysSrcSame (s : State) (l : Nat) : SysSrcSame s (s.laneFollow l) := by
  unfold State.laneFollow
  refine .ite (.ite (.refl s) (toState_sysSrcSame s l _)) ?_
  extract_lets t
  have ht : SysSrcSame s t := .ite (toState_sysSrcSame s l _) (.refl s)
  exact ht.trans (.ite (toState_sysSrcSame t l _) (.ite (toState_sysSrcSame t l _) (.of_faults (nextCmd_faults t l))))

theorem setRmax_sysSrcSame (s : State) (l : Nat) : SysSrcSame s (s.setRmax l) := by
  unfold State.setRmax
  extract_lets t
  have ht : SysSrcSame s t := .of_faults (set_faults ..)
  clear_value t
  refine ht.trans (.ite (.ite ?_ (.refl t)) (.ite (.of_faults (set_faults ..)) (.refl t)))
  exact (SysSrcSame.of_faults (set_faults ..)).trans (oclFault_sysSrcSame _ _ _ (by decide))

theorem lanesFollow_sysSrcSame (s t : State) : SysSrcSame t (s.lanesFollow t) := by
  unfold State.lanesFollow
  extract_lets t1 t2
  have h1 : SysSrcSame t t1 := .fold laneFollow_sysSrcSame _ t
  have hf : ∀ (u : State) (e : Nat × OclLane), SysSrcSame u (u.setFollow e.1) := fun u e => .of_faults (setFollow_faults u e.1)
  have h2 : SysSrcSame t1 t2 := .ite (.fold hf _ t1) (.refl t1)
  exact (h1.trans h2).trans (.ite (.fold setRmax_sysSrcSame _ t2) (.refl t2))

theorem evalStoCh_sysSrcSame (s : State) (a : Nat) : SysSrcSame s (s.evalStoCh a) := by
  unfold State.evalStoCh
  refine .ite (.ite (.refl s) ?_) (.of_faults (set_faults ..))
  extract_lets t u
  have ht : t.faults = s.faults := (set_faults ..).trans (flag_faults ..)
  have hu : u.faults = t.faults := ite_faults (flag_faults ..) rfl
  exact (SysSrcSame.of_faults (hu.trans ht)).trans (.faultBit u _ a (by decide) _)

theorem demandEdges_sysSrcSame (s : State) (old : Nat) : SysSrcSame s (s.demandEdges old) := by
  unfold State.demandEdges
  extract_lets new t
  have hp : ∀ n, 64 ≤ srcKey (Q.SAFE_DEM n) := fun n => by simp only [srcKey, Q.SAFE_DEM]; omega
  have ht : SysSrcSame s t := .fold (fun s n => .ite (.faultBit s _ n (hp n) _) (.refl s)) _ s
  exact ht.trans (.fold (fun s a => .of_faults (ss1Start_faults s new a)) _ t)

theorem pinsAt_sysSrcSame (s : State) (t : Nat) : SysSrcSame s (s.pinsAt t) := by
  unfold State.pinsAt
  extract_lets s1 s2
  have h1 : SysSrcSame s s1 := .of_faults (brkAt_faults _)
  have h2 : SysSrcSame s1 s2 := .fold (fun s j => .of_faults ((pairAt_faults ..).trans (pairAt_faults ..))) _ s1
  refine (h1.trans h2).trans (.fold (fun s k => ?_) _ s2)
  extract_lets u
  have hu : SysSrcSame s u := .ite (.faultNew s _ (by decide) _) (.refl s)
  exact hu.trans (.of_faults (ite_faults ((gateAt_faults ..).trans (gateAt_faults ..)) ((gateAt_faults ..).trans (gateAt_faults ..))))

theorem follow_sysSrcSame (s : State) : SysSrcSame s s.follow := by
  have h : SysSrcSame s s.evalSto := .fold evalStoCh_sysSrcSame _ s
  have h' : SysSrcSame s.evalSto s.evalSto.gates.souts.startDeferred := .of_faults (by simp)
  exact (h.trans h').trans (pinsAt_sysSrcSame _ _)

theorem portsDown_sysSrcSame (s t : State) : SysSrcSame t (s.portsDown t) := by
  unfold State.portsDown
  exact .ite (.faultNew t _ (by decide) _) (.refl t)

/-- What follows from a command in its tick changes no word of a SYS source: it raises sources of other blocks alone. -/
theorem settle_sysSrcSame (s t : State) : SysSrcSame t (settle s t) := by
  unfold settle
  extract_lets t1 t2 t3 t4 t5 t6
  have h1 : SysSrcSame t t1 := .ite (.of_faults rfl) (.refl t)
  have hd : SysSrcSame t1 (t1.demandEdges s.demands).dropSs1 := (demandEdges_sysSrcSame t1 _).trans (.of_faults rfl)
  have h2 : SysSrcSame t1 t2 :=
    ((hd.trans (follow_sysSrcSame _)).trans (.of_faults (ringPorts_faults _))).trans (portsDown_sysSrcSame s _)
  have h3 : SysSrcSame t2 t3 := lanesFollow_sysSrcSame s t2
  have h4 : SysSrcSame t3 t4 := follow_sysSrcSame t3
  have h5 : SysSrcSame t4 t5 := .of_faults ((noteEvents_faults s _).trans (trips_faults s t4))
  have h6 : SysSrcSame t5 t6 := .ite (.raise t5 (by decide) _) (.refl t5)
  have h7 : SysSrcSame t6 (if newEvent s t6 then t6.event else t6) := .ite (.of_faults (event_faults t6)) (.refl t6)
  exact (((((h1.trans h2).trans h3).trans h4).trans h5).trans h6).trans h7

/-! ### An access outside the map with a REACT that is no word -/

/-- An access outside every window is recorded as such. -/
theorem access_unmapped (s : State) {m : Master} (w : Bool) {a : Nat} (v : Word) (hOpen : s.mapOpen m = true) (hWin : inWindow a = false) :
    s.access m w a v = s.addrErr m w a := by
  simp [State.access, hOpen, hWin]

/-- The first mark of a tick empties what the tick before kept of REACT, and REACT is then read as a word. -/
theorem reactNow_mark_of_stale (s : State) (h : s.bus.freshAt ≠ s.now) (a : Nat) (mask : Word) (q : Src) :
    (s.mark a mask).reactNow q = (s.src q).react % 2 ^ 32 := by
  unfold State.mark
  rw [if_neg h]
  exact (if_pos rfl).trans (BitVec.toNat_ofNat ..)

/-- A write outside the map raises nothing where it makes the first mark of its tick and the low 32 bits of REACT are 0. -/
theorem addrErr_write_faults (s : State) (m : Master) (a : Nat) (h : s.bus.freshAt ≠ s.now) (hr : (s.src Q.SYS_ADDRERR).react % 2 ^ 32 = 0) :
    (s.addrErr m true a).faults = s.faults := by
  have h0 : (s.flag F.SYS_EVT_ADDRERR).reactNow Q.SYS_ADDRERR = 0 := (reactNow_mark_of_stale s h _ _ _).trans hr
  unfold State.addrErr
  rw [raise_none _ _ _ h0]
  exact flag_faults s _

/-- One CT64 after the reset, with 2^32 as REACT of ADDRERR, a field of three bits. -/
def sReactBeyondWord : State :=
  { State.reset with
    chrono := { State.reset.chrono with ct := 1 }
    faults := { State.reset.faults with src := [(srcKey Q.SYS_ADDRERR, { pend := false, ie := true, rlvl := 0, react := 2 ^ 32 })] } }

/-- Refutes O10, in its clause of accesses outside the map: in `sReactBeyondWord` the reaction in force reads 2^32 before the access, and NONE once
the flag is marked, so that ADDRERR does not pend. The state is none that a run leaves, but the clause speaks of every state. -/
theorem not_registerAccessesReadAndWrite : ¬ Obligations.RegisterAccessesReadAndWrite := by
  intro h
  obtain ⟨-, -, -, -, -, hUnmapped, -⟩ := h sReactBeyondWord .supervisor 0
  have hOpen : sReactBeyondWord.mapOpen .supervisor = true := by decide
  have hWin : inWindow (0#32).toNat = false := by decide
  obtain ⟨t, hExec, -, -, -, hPend, -⟩ := hUnmapped 0 true hOpen hWin (by decide)
  have hSettle : settle sReactBeyondWord (sReactBeyondWord.access .supervisor true (0#32).toNat 0) = settle sReactBeyondWord t :=
    Host.Outcome.next.inj hExec
  rw [access_unmapped _ _ _ hOpen hWin] at hSettle
  have hFaults := addrErr_write_faults sReactBeyondWord .supervisor (0#32).toNat (by decide) (by decide)
  have hSrc : t.src Q.SYS_ADDRERR = sReactBeyondWord.src Q.SYS_ADDRERR := by
    rw [← settle_sysSrcSame sReactBeyondWord t _ (by decide), ← hSettle, settle_sysSrcSame _ _ _ (by decide), State.src, hFaults, State.src]
  rw [hSrc] at hPend
  exact absurd hPend (by decide)

end Sys2Proof.Machine

/-! ## O32: the moves at a period boundary (01 R31 to R36) -/
namespace Sys2Proof.Machine

/-! ### What finishing a command leaves alone beyond `Kept`: the device's own state -/

/-- `t` is `s` after work of the host port, the ring, the twin and the NVM alone, which writes no register below the ring block. -/
def PortWork (s t : State) : Prop :=
  (∃ regs bus ring twin nvm host tx, t = { s with regs, bus, ring, twin, nvm, host, tx }) ∧ ∀ a, a < 0x13200000 → t.reg a = s.reg a

namespace PortWork

theorem refl (s : State) : PortWork s s := ⟨⟨_, _, _, _, _, _, _, rfl⟩, fun _ _ => rfl⟩

theorem trans {s t u : State} (h : PortWork s t) (k : PortWork t u) : PortWork s u := by
  obtain ⟨⟨_, _, _, _, _, _, _, rfl⟩, h⟩ := h
  obtain ⟨⟨_, _, _, _, _, _, _, rfl⟩, k⟩ := k
  exact ⟨⟨_, _, _, _, _, _, _, rfl⟩, fun a ha => (k a ha).trans (h a ha)⟩

theorem ite {s t u : State} {c : Prop} [Decidable c] (h : PortWork s t) (k : PortWork s u) : PortWork s (if c then t else u) := by
  split <;> assumption

theorem fold {α : Type} {f : State → α → State} (h : ∀ s x, PortWork s (f s x)) (l : List α) (s : State) : PortWork s (l.foldl f s) := by
  induction l generalizing s with
  | nil => exact refl s
  | cons x l ih => exact (h s x).trans (ih (f s x))

/-- An update of the parts named, the registers apart. -/
theorem parts (s : State) (bus : BusSt) (ring : RingSt) (twin : TwinSt) (nvm : NvmSt) (host : HostSt) (tx : List OutMsg) :
    PortWork s { s with bus, ring, twin, nvm, host, tx } := ⟨⟨_, _, _, _, _, _, _, rfl⟩, fun _ _ => rfl⟩

theorem setReg {a : Nat} (h : 0x13200000 ≤ a) (s : State) (v : Word) : PortWork s (s.setReg a v) :=
  ⟨⟨_, _, _, _, _, _, _, rfl⟩, fun _ hb => reg_setReg_ne s (by omega) v⟩

theorem set {f : Fld} (h : 0x13200000 ≤ f.addr) (s : State) (n : Nat) : PortWork s (s.set f n) := setReg h s _

theorem mark (s : State) (a : Nat) (m : Word) : PortWork s (s.mark a m) := by
  unfold State.mark
  exact ite (parts s _ _ _ _ _ _) (parts s _ _ _ _ _ _)

theorem flag {f : Fld} (h : 0x13200000 ≤ f.addr) (s : State) : PortWork s (s.flag f) := (mark s _ _).trans (set h _ _)

theorem faults {s t : State} (h : PortWork s t) : t.faults = s.faults := by obtain ⟨⟨_, _, _, _, _, _, _, rfl⟩, -⟩ := h; rfl

theorem sys {s t : State} (h : PortWork s t) : t.sys = s.sys := by obtain ⟨⟨_, _, _, _, _, _, _, rfl⟩, -⟩ := h; rfl

theorem dev {s t : State} (h : PortWork s t) : t.dev = s.dev := by
  have hr : t.reg R.SYS_STATE = s.reg R.SYS_STATE := h.2 _ (by decide)
  exact congrArg (fldOf F.SYS_STATE_STATE) hr

end PortWork

theorem respond_portWork (s : State) (c : HCmd) (w f : Nat) (d : List Word) : PortWork s (s.respond c w f d) := by
  unfold State.respond State.toHost
  split
  · refine .ite ?_ (.flag (by decide) s)
    exact ((PortWork.parts s _ _ _ _ _ _).trans (.set (by decide) _ _)).trans (.set (by decide) _ _)
  · exact .parts s _ _ _ _ _ _

theorem twinSend_portWork (s : State) (f t : Nat) (d : List Word64) : PortWork s (s.twinSend f t d) := by
  unfold State.twinSend
  exact .ite (.parts s _ _ _ _ _ _) (.refl s)

theorem nvmRecord_portWork (s : State) (r : JRec) (sec : JSec) (j : Option Nat) : PortWork s (s.nvmRecord r sec j) := by
  unfold State.nvmRecord State.nvmStart
  refine .ite (.parts s _ _ _ _ _ _) ?_
  exact (((PortWork.parts s _ _ _ _ _ _).trans (.setReg (by decide) _ _)).trans (.parts _ _ _ _ _ _ _)).trans (.flag (by decide) _)

theorem journal_portWork (s : State) (nvm : Bool) (sec : JSec) (kind flow cls flags seq opc : Nat) (body : List Word) :
    PortWork s (s.journal nvm sec kind flow cls flags seq opc body) := by
  unfold State.journal
  extract_lets pos flags r s1 _ s2
  have h1 : PortWork s s1 := .setReg (by decide) s _
  have h2 : PortWork s s2 := h1.trans (.ite (nvmRecord_portWork s1 r sec none) (.parts s1 _ _ _ _ _ _))
  exact .ite (h2.trans ((PortWork.parts s2 _ _ _ _ _ _).trans (twinSend_portWork _ _ _ _))) h2

theorem guarSend_portWork (s : State) (dst : Nat) (p : List Word) : PortWork s (s.guarSend dst p) := by
  unfold State.guarSend State.guarCount
  exact (((PortWork.parts s _ _ _ _ _ _).trans (journal_portWork ..)).trans (.set (by decide) _ _)).trans (.set (by decide) _ _)

theorem freeSlot_portWork (s : State) (k : CmdKey) (o : Nat) : PortWork s (s.freeSlot k o) := by
  unfold State.freeSlot
  split
  · exact (PortWork.parts s _ _ _ _ _ _).trans (.set (by simp only [F.HOST_OP_STAT_BUSY]; omega) _ _)
  · exact .refl s

theorem finalRec_portWork (s : State) (f : Nat) (c : HCmd) (w : List Word) : PortWork s (s.finalRec f c w) :=
  .ite (journal_portWork ..) (.refl s)

theorem finishOwn_portWork (s : State) (k : CmdKey) (w : Nat) (d : List Word) : PortWork s (s.finishOwn k w d) := by
  unfold State.finishOwn
  extract_lets fl
  split
  · exact .refl s
  · rename_i r _
    extract_lets fin s1 s2 s3 s4
    have h2 : PortWork s s2 :=
      ((PortWork.parts s _ _ _ _ _ _).trans (.setReg (by simp only [R.HOST_FLOW_D]; omega) _ _)).trans (freeSlot_portWork _ _ _)
    have h4 : PortWork s s4 := (h2.trans (finalRec_portWork _ _ _ _)).trans (.ite (.refl _) (respond_portWork _ _ _ _ _))
    exact (h4.trans (.parts _ _ _ _ _ _ _)).trans (.setReg (by decide) _ _)

theorem finishRing_portWork (s : State) (r : HRec) (w : Nat) (d : List Word) : PortWork s (s.finishRing r w d) := by
  unfold State.finishRing
  extract_lets ws s1
  have h : PortWork s s1 := ((finalRec_portWork s _ _ _).trans (.parts _ _ _ _ _ _ _)).trans (.setReg (by decide) _ _)
  exact .ite h (h.trans (guarSend_portWork _ _ _))

theorem finishPartner_portWork (s : State) (k : CmdKey) (r : HRec) (w : Nat) (d : List Word) : PortWork s (s.finishPartner k r w d) := by
  unfold State.finishPartner
  extract_lets s1
  have h : PortWork s s1 := journal_portWork ..
  refine .ite (h.trans (finishOwn_portWork ..)) ?_
  split
  · exact (h.trans (.parts s1 _ _ _ _ _ _)).trans (finishRing_portWork ..)
  · exact h

/-- The final response of a command leaves the device's own state. -/
theorem finish_portWork (s : State) (k : CmdKey) (r : Nat) (d : List Word) (ok : Bool) : PortWork s (s.finish k r d ok) := by
  unfold State.finish
  extract_lets w
  refine .ite (finishOwn_portWork ..) ?_
  split
  · exact .refl s
  · extract_lets s1
    have h : PortWork s s1 := (PortWork.parts s _ _ _ _ _ _).trans (freeSlot_portWork ..)
    exact .ite (h.trans (finishPartner_portWork ..)) (h.trans (finishRing_portWork ..))

theorem foldl_done_portWork (l : List CmdKey) (s : State) : PortWork s (l.foldl (fun s k => s.done k []) s) :=
  .fold (fun s k => finish_portWork s k 0 [] true) l s

/-! ### Moves -/

theorem setDev_dev (s : State) {d : Nat} (h : d < 16) : (s.setDev d).dev = d :=
  (get_set_self s F.SYS_STATE_STATE d (by decide)).trans (Nat.mod_eq_of_lt h)

theorem pendingAt_congr {s t : State} (h : t.faults = s.faults) (l : Nat) : t.pendingAt l = s.pendingAt l := by
  simp only [State.pendingAt, State.src, h]

theorem asked_iff (s : State) (st : Nat) : s.asked st = true ↔ ∃ m, s.sys.move = some m ∧ m.target = st := by
  cases h : s.sys.move <;> simp [State.asked, h]

/-- Once a pending move is made none is left; the sources are untouched. -/
theorem takeMove_move (s : State) : s.takeMove.2.sys.move = none ∧ s.takeMove.2.faults = s.faults := by
  unfold State.takeMove
  split
  · exact ⟨rfl, rfl⟩
  · exact ⟨by assumption, rfl⟩

/-- Where no BLOCK_STACK source pends, ARMED is entered, and the rest is the answers. -/
theorem enterArmed_of_clear {s : State} (owners : List CmdKey) (h : s.pendingAt 4 = none) :
    (s.enterArmed owners).dev = stARMED ∧ (s.enterArmed owners).sys = { s.sys with cause := none } := by
  have hp : (s.setDev stARMED).clearCause.pendingAt 4 = none := (pendingAt_congr (by rfl) 4).trans h
  have hw := foldl_done_portWork owners (s.setDev stARMED).clearCause
  simp only [State.enterArmed, hp]
  exact ⟨hw.dev.trans (setDev_dev s (by decide)), hw.sys⟩

/-- The pending move to ARMED, or automatic arming, is made: ARMED is entered, no move waits and no source is named. -/
theorem takeMove_enterArmed {s : State} (h : s.pendingAt 4 = none) :
    (s.takeMove.2.enterArmed s.takeMove.1).dev = stARMED ∧ (s.takeMove.2.enterArmed s.takeMove.1).sys.move = none ∧
      (s.takeMove.2.enterArmed s.takeMove.1).sys.cause = none := by
  obtain ⟨hm, hf⟩ := takeMove_move s
  obtain ⟨hd, hs⟩ := enterArmed_of_clear s.takeMove.1 ((pendingAt_congr hf 4).trans h)
  simp only [hs, hd, hm, and_self]

/-! ### The boundary, by the device's state -/

theorem boundaryMove_links {s : State} (h : s.dev = stLINKS) : s.boundaryMove =
    if (s.on F.SYS_CTRL_AUTOARM || s.asked stARMED) && s.linksReady then s.takeMove.2.enterArmed s.takeMove.1 else s := by
  simp [State.boundaryMove, h]

theorem boundaryMove_blocked {s : State} (h : s.dev = stBLOCKED) :
    s.boundaryMove = if s.asked stARMED then s.takeMove.2.enterArmed s.takeMove.1 else s := by
  simp [State.boundaryMove, h, stBLOCKED, stLINKS]

theorem boundaryMove_armed {s : State} (h : s.dev = stARMED) : s.boundaryMove =
    if s.asked stRUN then s.takeMove.1.foldl (fun s k => s.done k []) (s.takeMove.2.setDev stRUN) else s := by
  simp [State.boundaryMove, h, stBLOCKED, stLINKS, stARMED]

theorem boundaryMove_run {s : State} (h : s.dev = stRUN) : s.boundaryMove = if s.bypassSeen then s.setDev stDEGRADED else s := by
  simp [State.boundaryMove, h, stBLOCKED, stLINKS, stARMED, stRUN]

theorem boundaryMove_degraded {s : State} (h : s.dev = stDEGRADED) : s.boundaryMove = if s.bypassSeen then s else s.setDev stRUN := by
  simp [State.boundaryMove, h, stBLOCKED, stLINKS, stARMED, stRUN, stDEGRADED]

/-- In every other state a boundary makes no move. -/
theorem boundaryMove_other {s : State} (h : s.dev ∉ [stLINKS, stBLOCKED, stARMED, stRUN, stDEGRADED]) : s.boundaryMove = s := by
  simp only [List.mem_cons, List.not_mem_nil, or_false, not_or] at h
  obtain ⟨hl, hb, ha, hr, hd⟩ := h
  simp [State.boundaryMove, hl, hb, ha, hr, hd]

theorem asked_of_move_none {s : State} (h : s.sys.move = none) (st : Nat) : s.asked st = false := by simp [State.asked, h]

/-- Settles O32, by the equation of `boundaryMove` in each state of the device. -/
theorem boundaryMovesFollowTheTable : Obligations.BoundaryMovesFollowTheTable := by
  intro s
  refine ⟨fun hdev hask hready hclear => ?_, fun hdev hask hclear => ?_, fun hdev hask => ?_, fun hdev hbyp => ?_, fun hdev hbyp => ?_,
    boundaryMove_other, fun hdev hready => ?_, fun hdev hmove => ?_⟩
  · have hgo : ((s.on F.SYS_CTRL_AUTOARM || s.asked stARMED) && s.linksReady) = true := by
      rw [Bool.and_eq_true, Bool.or_eq_true, asked_iff]
      exact ⟨hask, hready⟩
    rw [boundaryMove_links hdev, if_pos hgo]
    exact takeMove_enterArmed hclear
  · rw [boundaryMove_blocked hdev, if_pos ((asked_iff s _).mpr hask)]
    obtain ⟨hd, -, hc⟩ := takeMove_enterArmed hclear
    exact ⟨hd, hc⟩
  · rw [boundaryMove_armed hdev, if_pos ((asked_iff s _).mpr hask)]
    have hw := foldl_done_portWork s.takeMove.1 (s.takeMove.2.setDev stRUN)
    exact ⟨hw.dev.trans (setDev_dev _ (by decide)), by rw [hw.sys]; exact (takeMove_move s).1⟩
  · rw [boundaryMove_run hdev, if_pos hbyp]
  · rw [boundaryMove_degraded hdev, if_neg (by simp [hbyp])]
  · rw [boundaryMove_links hdev, hready, Bool.and_false, if_neg Bool.false_ne_true]
  · have hno := asked_of_move_none hmove
    rcases hdev with hdev | hdev
    · rw [boundaryMove_blocked hdev, hno, if_neg Bool.false_ne_true]
    · rw [boundaryMove_armed hdev, hno, if_neg Bool.false_ne_true]

end Sys2Proof.Machine

/-! ## Volatile commands: a frame that nothing holds back is taken in, starts and is answered in its tick (16 R584 to R591) -/

namespace Sys2Proof.Stmt.HostWork
open Sys2Proof.Machine

variable {f : Nat} {s t u : State}

theorem refl (f : Nat) (s : State) : HostWork f s s := ⟨⟨_, _, _, _, _, _, _, rfl⟩, rfl, rfl, fun _ _ => rfl⟩

theorem trans (h : HostWork f s t) (k : HostWork f t u) : HostWork f s u := by
  obtain ⟨⟨_, _, _, _, _, _, _, rfl⟩, ho, ha, hr⟩ := h
  obtain ⟨⟨_, _, _, _, _, _, _, rfl⟩, ko, ka, kr⟩ := k
  exact ⟨⟨_, _, _, _, _, _, _, rfl⟩, ko.trans ho, ka.trans ha, fun a h => (kr a h).trans (hr a h)⟩

theorem ite {c : Prop} [Decidable c] (h : HostWork f s t) (k : HostWork f s u) : HostWork f s (if c then t else u) := by split <;> assumption

theorem setReg {a : Nat} (h : a ∈ hostRegs f) (s : State) (v : Word) : HostWork f s (s.setReg a v) :=
  ⟨⟨_, _, _, _, _, _, _, rfl⟩, rfl, rfl, fun b hb => reg_setReg_ne s (by rintro rfl; exact hb h) v⟩

theorem set {g : Fld} (h : g.addr ∈ hostRegs f) (s : State) (n : Nat) : HostWork f s (s.set g n) := setReg h s _

/-- An update of the host port that leaves its slots and accesses. -/
theorem host (s : State) (x : HostSt) (ho : x.ops = s.host.ops) (ha : x.accs = s.host.accs) : HostWork f s { s with host := x } :=
  ⟨⟨_, _, _, _, _, _, _, rfl⟩, ho, ha, fun _ _ => rfl⟩

theorem setFlow (s : State) (g : Nat) (v : FlowSt) : HostWork f s (s.setFlow g v) := host s _ rfl rfl

theorem send (s : State) (m : OutMsg) : HostWork f s (s.send m) := ⟨⟨_, _, _, _, _, _, _, rfl⟩, rfl, rfl, fun _ _ => rfl⟩

/-- Registers below the HOST block are untouched. -/
theorem reg (h : HostWork f s t) {a : Nat} (ha : a < 0x16000000) : t.reg a = s.reg a := by
  refine h.2.2.2 a fun hm => ?_
  simp only [hostRegs, R.HOST_JPOS, R.HOST_JFREE, R.HOST_QSTAT, R.NVM_STAT, R.HOST_FLOW_N, R.HOST_FLOW_D, List.mem_cons, List.not_mem_nil,
    or_false] at hm
  omega

theorem get (h : HostWork f s t) {g : Fld} (ha : g.addr < 0x16000000) : t.get g = s.get g := congrArg (fldOf g) (h.reg ha)

theorem on (h : HostWork f s t) {g : Fld} (ha : g.addr < 0x16000000) : t.on g = s.on g := by rw [State.on, h.get ha, State.on]

theorem regN (h : HostWork f s t) {a : Nat} (ha : a < 0x16000000) : t.regN a = s.regN a := congrArg BitVec.toNat (h.reg ha)

theorem dev (h : HostWork f s t) : t.dev = s.dev := h.get (by decide)

theorem sys (h : HostWork f s t) : t.sys = s.sys := by obtain ⟨⟨_, _, _, _, _, _, _, rfl⟩, -⟩ := h; rfl
theorem faults (h : HostWork f s t) : t.faults = s.faults := by obtain ⟨⟨_, _, _, _, _, _, _, rfl⟩, -⟩ := h; rfl
theorem safe (h : HostWork f s t) : t.safe = s.safe := by obtain ⟨⟨_, _, _, _, _, _, _, rfl⟩, -⟩ := h; rfl
theorem ring (h : HostWork f s t) : t.ring = s.ring := by obtain ⟨⟨_, _, _, _, _, _, _, rfl⟩, -⟩ := h; rfl
theorem now (h : HostWork f s t) : t.now = s.now := by obtain ⟨⟨_, _, _, _, _, _, _, rfl⟩, -⟩ := h; rfl
theorem ops (h : HostWork f s t) : t.host.ops = s.host.ops := h.2.1

end Sys2Proof.Stmt.HostWork

namespace Sys2Proof.Machine
open Sys2Proof.Stmt

/-! ### Flows -/

theorem flow_setFlow (s : State) (f g : Nat) (v : FlowSt) : (s.setFlow f v).flow g = if g = f then v else s.flow g := spGet_spPut ..

@[simp] theorem flow_setFlow_self (s : State) (f : Nat) (v : FlowSt) : (s.setFlow f v).flow f = v := by simp [flow_setFlow]

theorem flow_congr {s t : State} (h : t.host.flows = s.host.flows) (f : Nat) : t.flow f = s.flow f := by simp [State.flow, h]

/-! ### Host work that sends nothing -/

/-- `t` is `s` after host work for flow `f` that sends nothing and leaves the commands of the ring and every flow but `f`. -/
structure QuietWork (f : Nat) (s t : State) : Prop where
  work : HostWork f s t
  tx : t.tx = s.tx
  queue : t.host.queue = s.host.queue
  ringCmds : t.host.ringCmds = s.host.ringCmds
  flows : ∀ g, g ≠ f → t.flow g = s.flow g

theorem QuietWork.refl (f : Nat) (s : State) : QuietWork f s s := ⟨.refl f s, rfl, rfl, rfl, fun _ _ => rfl⟩

theorem QuietWork.trans {f : Nat} {s t u : State} (h : QuietWork f s t) (k : QuietWork f t u) : QuietWork f s u :=
  ⟨h.work.trans k.work, k.tx.trans h.tx, k.queue.trans h.queue, k.ringCmds.trans h.ringCmds, fun g hg => (k.flows g hg).trans (h.flows g hg)⟩

theorem QuietWork.setReg {f a : Nat} (h : a ∈ hostRegs f) (s : State) (v : Word) : QuietWork f s (s.setReg a v) :=
  ⟨.setReg h s v, rfl, rfl, rfl, fun _ _ => rfl⟩

theorem QuietWork.setFlow (f : Nat) (s : State) (v : FlowSt) : QuietWork f s (s.setFlow f v) :=
  ⟨.setFlow s f v, rfl, rfl, rfl, fun g hg => by rw [flow_setFlow, if_neg hg]⟩

theorem flow_updRec_self {s : State} {k : CmdKey} (hk : k.flow < 5) (g : HRec → HRec) :
    ((s.updRec k g).flow k.flow).taken = (s.flow k.flow).taken.map fun r => if r.cmd.key = k then g r else r := by
  simp [State.updRec, hk]

theorem updRec_quietWork {s : State} {k : CmdKey} (hk : k.flow < 5) (g : HRec → HRec) : QuietWork k.flow s (s.updRec k g) := by
  unfold State.updRec
  rw [if_pos hk]
  exact .setFlow k.flow s _

/-! ### The response -/

/-- The word and the data by which a host learns the outcome of a start (R590). -/
def resWord : CmdRes → Nat
  | .done _ => 2
  | .failed g => 3 + 256 * g
  | .wait => 1

def resData : CmdRes → List Word
  | .done d => d
  | _ => []

/-- The command `c` of a volatile class runs alone: its flow holds its record and no other, which has not been answered; no slot is taken and the
QSPI queue has room. -/
structure RunsAlone (c : HCmd) (b : State) : Prop where
  flow : c.key.flow < 5
  cls : c.cls = 1
  ops : b.host.ops = []
  room : b.host.queue.length < 64
  taken : ∃ r, (b.flow c.key.flow).taken = [r] ∧ r.cmd = c ∧ r.accepted = false ∧ r.unmirrored = true ∧ r.apply = false

theorem RunsAlone.congr {c : HCmd} {b x : State} (h : RunsAlone c b) (hx : x.host = b.host) : RunsAlone c x :=
  ⟨h.flow, h.cls, by rw [hx, h.ops], by rw [hx]; exact h.room, by rw [flow_congr (congrArg HostSt.flows hx)]; exact h.taken⟩

/-- Into the QSPI queue where it has room. -/
theorem toHost_qspi {s : State} (h : s.host.queue.length < 64) (src kind flow seq opc cls fl node : Nat) (l : List Word) :
    s.toHost (.host .qspi src kind flow seq opc cls fl node l) = s.setQueue (s.host.queue ++ [.host .qspi src kind flow seq opc cls fl node l]) :=
  if_pos h

theorem toHost_eth (s : State) {p : HostPort} (hp : p ≠ .qspi) (src kind flow seq opc cls fl node : Nat) (l : List Word) :
    s.toHost (.host p src kind flow seq opc cls fl node l) = s.send (.host p src kind flow seq opc cls fl node l) := by
  cases p
  · rfl
  · rfl
  · exact absurd rfl hp

theorem respond_host_flows (s : State) (c : HCmd) (w fl : Nat) (d : List Word) : (s.respond c w fl d).host.flows = s.host.flows := by
  unfold State.respond State.toHost
  split
  · split <;> simp [State.setQueue, State.flag]
  · rfl

/-- A response is host work, and is the last frame sent. -/
theorem respond_sends (f : Nat) (s : State) (c : HCmd) (w fl : Nat) (d : List Word) (h : s.host.queue.length < 64) :
    let m := OutMsg.host c.port c.src 2 c.key.flow c.hseq c.opc c.cls fl s.nodeId (BitVec.ofNat 32 w :: d)
    let t := s.respond c w fl d
    HostWork f s t ∧ (c.port ≠ .qspi → t.tx = s.tx ++ [m]) ∧ (c.port = .qspi → t.host.queue = s.host.queue ++ [m] ∧ t.tx = s.tx) := by
  intro m t
  by_cases hp : c.port = .qspi
  · have ht : t = s.setQueue (s.host.queue ++ [m]) := by
      simp only [t, m, State.respond, hp, toHost_qspi h]
    have hq : R.HOST_QSTAT ∈ hostRegs f := by simp [hostRegs]
    rw [ht]
    exact ⟨((HostWork.host s _ rfl rfl).trans (.set hq _ _)).trans (.set hq _ _), fun hn => absurd hp hn, fun _ => ⟨rfl, rfl⟩⟩
  · have ht : t = s.send m := toHost_eth s hp ..
    rw [ht]
    exact ⟨.send s m, fun _ => rfl, fun he => absurd he hp⟩

/-- What precedes and follows the response in the final answer of a command alters neither what was sent nor the identity. -/
theorem answers_of_respond {x y u : State} {c : HCmd} {w : Nat} {d : List Word} (hcls : c.cls = 1) (hxy : HostWork c.key.flow x y)
    (htx : y.tx = x.tx) (hq : y.host.queue = x.host.queue) (hroom : x.host.queue.length < 64)
    (hu : HostWork c.key.flow (y.respond c w 1 d) u) (hutx : u.tx = (y.respond c w 1 d).tx)
    (huq : u.host.queue = (y.respond c w 1 d).host.queue)
    (hfin : w % 256 ≠ 1 → (∀ r ∈ (u.flow c.key.flow).taken, r.cmd.key ≠ c.key) ∧
      ∃ l, (u.flow c.key.flow).finals = { seq := c.key.seq, word := BitVec.ofNat 32 w, data := d.take 4, unmirrored := c.cls == 1 } :: l) :
    Answers x u c w d := by
  obtain ⟨hw, he, hs⟩ := respond_sends c.key.flow y c w 1 d (by rw [hq]; exact hroom)
  have hid : y.nodeId = x.nodeId := hxy.get (by decide)
  rw [hid, htx] at he
  rw [hid, htx, hq] at hs
  refine ⟨(hxy.trans hw).trans hu, fun hp => ?_, fun hp => ?_, fun _ hn => hfin hn⟩
  · rw [hutx, he hp, if_pos hcls]
  · rw [hutx, huq, if_pos hcls]; exact hs hp

theorem freeSlot_of_no_ops {s : State} (h : s.host.ops = []) (k : CmdKey) (o : Nat) : s.freeSlot k o = s := by simp [State.freeSlot, h]

theorem accept_answers {x : State} {c : HCmd} (h : RunsAlone c x) : Answers x (x.accept c.key) c 1 [] := by
  obtain ⟨hf, hcls, -, hroom, r, ht, rfl, hacc, hun, happ⟩ := h
  have hfind : (x.flow r.cmd.key.flow).taken.find? (·.cmd.key == r.cmd.key) = some r := by simp [ht]
  have heq : x.accept r.cmd.key = (x.updRec r.cmd.key fun r => { r with accepted := true }).respond r.cmd 1 1 [] := by
    simp [State.accept, hf, hfind, hacc, happ, hun, b2n]
  have hy := updRec_quietWork (s := x) hf fun r => { r with accepted := true }
  rw [heq]
  exact answers_of_respond hcls hy.work hy.tx hy.queue hroom (.refl _ _) rfl rfl (fun hn => absurd rfl hn)

/-- A flow after the final response of a command of it: the record has left, the response is kept (R591). -/
def flowAnswered (fl : FlowSt) (c : HCmd) (w : Nat) (d : List Word) : FlowSt :=
  let fin : HFinal := { seq := c.key.seq, word := BitVec.ofNat 32 w, data := d.take 4, unmirrored := c.cls == 1 }
  { fl with taken := fl.taken.filter (·.cmd.key != c.key), finals := (fin :: fl.finals).take 256 }

theorem finishOwn_eq {x : State} {c : HCmd} (h : RunsAlone c x) (w : Nat) (d : List Word) : x.finishOwn c.key w d =
    (((x.setFlow c.key.flow (flowAnswered (x.flow c.key.flow) c w d)).updateD c.key.flow).respond c w 1 d).freeJournal c.key.flow := by
  obtain ⟨-, hcls, hops, -, r, ht, rfl, -, hun, happ⟩ := h
  have hfind : (x.flow r.cmd.key.flow).taken.find? (·.cmd.key == r.cmd.key) = some r := by simp [ht]
  have hcls2 : r.cmd.cls ≠ 2 := by omega
  have hbeq : (r.cmd.cls == 1) = true := by simp [hcls]
  have hslot : ∀ fl, ((x.setFlow r.cmd.key.flow fl).updateD r.cmd.key.flow).freeSlot r.cmd.key r.cmd.opc =
      (x.setFlow r.cmd.key.flow fl).updateD r.cmd.key.flow := fun fl =>
    freeSlot_of_no_ops (s := (x.setFlow r.cmd.key.flow fl).updateD r.cmd.key.flow) hops _ _
  simp only [State.finishOwn, hfind, State.finalRec, hcls2, if_false, happ, hun, hslot, flowAnswered, hbeq]
  rfl

theorem finishOwn_answers {x : State} {c : HCmd} (h : RunsAlone c x) (w : Nat) (d : List Word) : Answers x (x.finishOwn c.key w d) c w d := by
  have hD : R.HOST_FLOW_D c.key.flow ∈ hostRegs c.key.flow := by simp [hostRegs]
  have hJ : R.HOST_JFREE ∈ hostRegs c.key.flow := by simp [hostRegs]
  rw [finishOwn_eq h]
  refine answers_of_respond h.cls ((HostWork.setFlow x _ _).trans (.setReg hD _ _)) rfl rfl h.room
    ((HostWork.host _ _ rfl rfl).trans (.setReg hJ _ _)) rfl rfl fun _ => ?_
  have hflow : ∀ t : State, ((t.respond c w 1 d).freeJournal c.key.flow).flow c.key.flow = t.flow c.key.flow := fun t =>
    flow_congr (t := (t.respond c w 1 d).freeJournal c.key.flow) (respond_host_flows t c w 1 d) _
  have hset : ((x.setFlow c.key.flow (flowAnswered (x.flow c.key.flow) c w d)).updateD c.key.flow).flow c.key.flow =
      flowAnswered (x.flow c.key.flow) c w d := flow_setFlow_self x _ _
  rw [hflow, hset]
  exact ⟨fun q hq => by simpa using (List.mem_filter.mp hq).2, (x.flow c.key.flow).finals.take 255, rfl⟩

/-- What a start answers is what its outcome says. -/
theorem answerStart_answers {x : State} {c : HCmd} (h : RunsAlone c x) (res : CmdRes) :
    Answers x (x.answerStart c res) c (resWord res) (resData res) := by
  have hq : c.ownQuery = false := by simp [HCmd.ownQuery, h.cls]
  have hf := h.flow
  cases res with
  | done d =>
    have : x.answerStart c (.done d) = x.finishOwn c.key 2 d := by
      simp [State.answerStart, State.answerCmd, hq, State.done, State.finish, hf]
    rw [this]; exact finishOwn_answers h 2 d
  | failed g =>
    have : x.answerStart c (.failed g) = x.finishOwn c.key (3 + 256 * g) [] := by
      simp [State.answerStart, State.failCmd, hq, State.finish, hf]
    rw [this]; exact finishOwn_answers h (3 + 256 * g) []
  | wait =>
    have : x.answerStart c .wait = x.accept c.key := by simp [State.answerStart, hq]
    rw [this]; exact accept_answers h

/-! ### The frame reaches its flow -/

/-- The frame is handed to its flow; on an Ethernet port the flow notes its host before. -/
theorem hostRx_admitted {s : State} {h : HostHdr} {opc : Nat} {body : List Word} {c : HCmd} (hF : Frame s h opc body c) (hA : Accepted s c)
    (hQ : HostQuiet s) : ∃ t, s.hostRx h opc body = t.rxCmd c.key.flow c ∧ QuietWork c.key.flow s t ∧ t.regs = s.regs ∧ HostQuiet t ∧
      Accepted t c := by
  obtain ⟨hdev, hoff, hport, hbad, hc, hqspi, heth⟩ := hF
  have hlisten : (s.dev < stCONFIG || s.sys.offL || !s.portOn h.port) = false := by simp [hoff, hport, Nat.not_lt.mpr hdev]
  by_cases hp : h.port = .qspi
  · obtain ⟨hf, hsrc⟩ := hqspi hp
    refine ⟨s, ?_, .refl _ s, rfl, hQ, hA⟩
    rw [hf, hsrc] at hc
    simp only [State.hostRx, hlisten, Bool.false_eq_true, if_false, if_pos hp, hbad, hf]
    rw [hc]
  · obtain ⟨hf, hsrc, hadm⟩ := heth hp
    let v := { s.flow c.key.flow with port := h.port, addr := h.src.toNat }
    obtain ⟨hfl, hrest⟩ := hQ
    refine ⟨s.setFlow c.key.flow v, ?_, .setFlow _ s v, rfl, ⟨fun g => ?_, hrest⟩, hA⟩
    · rw [hsrc] at hc
      simp only [State.hostRx, hlisten, Bool.false_eq_true, if_false, if_neg hp, hadm, hbad, if_pos hf]
      exact congrArg _ hc.symm
    · rw [flow_setFlow]
      split
      · exact hfl c.key.flow
      · exact hfl g

/-! ### The take-in -/

theorem linked_setRegN {s : State} {a : Nat} (h : a ≠ R.TWIN_STAT) (n : Nat) : (s.setRegN a n).linked = s.linked := by
  unfold State.linked State.setRegN
  rw [get_setReg_ne s a _ F.TWIN_STAT_TSTATE (Ne.symm h)]

/-- Without a linked partner a record of the RAM journal stays there. -/
theorem journal_ram {s : State} (h : s.linked = false) (f : Nat) (sec : JSec) (kind flow cls flags seq opc : Nat) (body : List Word) :
    let t := s.journal false sec kind flow cls flags seq opc body
    QuietWork f s t ∧ t.flow f = s.flow f := by
  have hJ : R.HOST_JPOS ∈ hostRegs f := by simp [hostRegs]
  unfold State.journal
  extract_lets pos flags r s1 _ s2 _ _ t
  have h2 : s2.linked = false := (linked_setRegN (by decide) pos).trans h
  have ht : t = s2 := if_neg (by simp [State.mirrors, h2])
  rw [ht]
  exact ⟨⟨(HostWork.setReg hJ s _).trans (.host _ _ rfl rfl), rfl, rfl, rfl, fun _ _ => rfl⟩, rfl⟩

/-- The record of a volatile command as it is taken in by a device that has no linked partner. -/
def recTaken (s : State) (c : HCmd) : HRec :=
  { cmd := c, nvmWait := false, jackWait := false, started := false, accepted := false, unmirrored := true, partner := false, remote := false,
    apply := false, tick := s.now, prio := c.key.flow, order := s.host.order }

/-- The record joins its flow. -/
def State.enlist (s : State) (c : HCmd) : State :=
  ({ s with host := { s.host with order := s.host.order + 1 } }).setFlow c.key.flow
    { s.flow c.key.flow with taken := (s.flow c.key.flow).taken ++ [recTaken s c] }

theorem takeIn_volatile {s : State} {c : HCmd} (hcls : c.cls = 1) (hown : s.destOf c.node = .own) (hL : s.linked = false) :
    s.takeIn c.key.flow c = ((s.journal false (.cmd c.key) 1 c.key.flow 1 0 c.key.seq c.opc c.body).enlist c).setRegN
      (R.HOST_FLOW_N c.key.flow) (seqNext c.key.seq) := by
  have hbody : c.body = c.body ++ [] := (List.append_nil _).symm
  conv_rhs => rw [hbody]
  simp only [State.takeIn, hown, hL, hcls]
  rfl

theorem enlist_quietWork (s : State) (c : HCmd) (h : (s.flow c.key.flow).taken = []) :
    QuietWork c.key.flow s (s.enlist c) ∧ (s.enlist c).flow c.key.flow = { s.flow c.key.flow with taken := [recTaken s c] } := by
  refine ⟨⟨(HostWork.host s _ rfl rfl).trans (.setFlow _ _ _), rfl, rfl, rfl, fun g hg => ?_⟩, ?_⟩
  · unfold State.enlist; rw [flow_setFlow, if_neg hg]; rfl
  · unfold State.enlist; rw [flow_setFlow_self, h]; rfl

theorem takeHeld_of_none {s : State} {f : Nat} (h : (s.flow f).held = []) (n : Nat) : s.takeHeld f n = s := by
  cases n with
  | zero => rfl
  | succ n => simp [State.takeHeld, h]

theorem seqDist_self (n : Nat) : seqDist n n = 0 := by
  unfold seqDist
  rw [Nat.add_comm, Nat.add_sub_assoc (Nat.mod_le n _), Nat.add_mod_left, ← Nat.div_add_mod n (2 ^ 32 - 1), Nat.mul_add_mod_self_left,
    Nat.mod_mod, Nat.add_sub_cancel, Nat.mul_mod_right]

/-- The next number of a flow that misses nothing is taken in at once. -/
theorem sequence_next {s : State} {c : HCmd} (hact : s.active = true ∨ s.dev < stLINKS) (htake : s.canTake c = true)
    (hN : c.key.seq = s.regN (R.HOST_FLOW_N c.key.flow)) (hD : s.regN (R.HOST_FLOW_D c.key.flow) = c.key.seq) :
    s.sequence c.key.flow c = ((s.takeIn c.key.flow c).updateD c.key.flow).takeHeld c.key.flow 64 := by
  have hd : seqDist c.key.seq c.key.seq = 0 := seqDist_self _
  have hrole : (!s.active && decide (stLINKS ≤ s.dev)) = false := by
    rcases hact with h | h
    · simp [h]
    · simp [Nat.not_le.mpr h]
  simp [State.sequence, hrole, ← hN, hD, seqBefore, hd, State.takeNow, htake]

/-- A volatile command that the sequencing lets through is the only record of its flow afterwards, and N has counted on. -/
theorem rxCmd_volatile {s : State} {c : HCmd} (hA : Accepted s c) (hcls : c.cls = 1) (hQ : HostQuiet s) (hL : s.linked = false) :
    ∃ t j : State, s.rxCmd c.key.flow c = t ∧ QuietWork c.key.flow s t ∧
      t.flow c.key.flow = { s.flow c.key.flow with taken := [recTaken j c] } ∧ t.regN (R.HOST_FLOW_N c.key.flow) = seqNext c.key.seq := by
  obtain ⟨hbad, hown, -, hseq⟩ := hA
  obtain ⟨hsealed, htherm, hact, htake, hN, hD⟩ := hseq (by omega)
  obtain ⟨hfl, -⟩ := hQ
  obtain ⟨hheld, htaken, -⟩ := hfl c.key.flow
  have hNr : R.HOST_FLOW_N c.key.flow ∈ hostRegs c.key.flow := by simp [hostRegs]
  have hDr : R.HOST_FLOW_D c.key.flow ∈ hostRegs c.key.flow := by simp [hostRegs]
  let j := s.journal false (.cmd c.key) 1 c.key.flow 1 0 c.key.seq c.opc c.body
  obtain ⟨hj, hjf⟩ : QuietWork c.key.flow s j ∧ j.flow c.key.flow = s.flow c.key.flow := journal_ram hL ..
  obtain ⟨he, hef⟩ := enlist_quietWork j c (by rw [hjf, htaken])
  let t := ((j.enlist c).setRegN (R.HOST_FLOW_N c.key.flow) (seqNext c.key.seq)).updateD c.key.flow
  have htf : t.flow c.key.flow = { s.flow c.key.flow with taken := [recTaken j c] } := by rw [← hjf]; exact hef
  have heq : s.rxCmd c.key.flow c = t := by
    have hrx : s.rxCmd c.key.flow c = s.sequence c.key.flow c := by simp [State.rxCmd, hsealed, htherm, hbad, hcls]
    rw [hrx, sequence_next hact htake hN hD, takeIn_volatile hcls hown hL]
    exact takeHeld_of_none (by rw [htf]; exact hheld) 64
  refine ⟨t, j, heq, ((hj.trans he).trans (.setReg hNr _ _)).trans (.setReg hDr _ _), htf, ?_⟩
  have hne : R.HOST_FLOW_N c.key.flow ≠ R.HOST_FLOW_D c.key.flow := by simp only [R.HOST_FLOW_N, R.HOST_FLOW_D]; omega
  have hlt : seqNext c.key.seq < 2 ^ 32 := by
    have : c.key.seq < 2 ^ 32 := by rw [hN]; exact BitVec.isLt _
    unfold seqNext; split <;> omega
  have hreg : t.reg (R.HOST_FLOW_N c.key.flow) = BitVec.ofNat 32 (seqNext c.key.seq) := by
    simp only [t, State.updateD]
    rw [reg_setRegN_ne _ hne, reg_setRegN_self]
  rw [State.regN, hreg, BitVec.toNat_ofNat, Nat.mod_eq_of_lt hlt]

/-! ### The start -/

/-- The only record of a quiet host port is all that waits. -/
theorem waiting_alone {s : State} {f : Nat} {r : HRec} (hf : f < 5) (ht : (s.flow f).taken = [r]) (ho : ∀ g, g ≠ f → (s.flow g).taken = [])
    (hr : s.host.ringCmds = []) (hs : r.started = false) : s.waiting = [r] := by
  have hflat : (List.range 5).flatMap (fun g => (s.flow g).taken) = [r] := by
    simp only [List.range_succ, List.range_zero, List.nil_append, List.flatMap_append, List.flatMap_singleton]
    interval_cases f <;> simp [ht, ho]
  simp [State.waiting, hflat, hr, hs, insByTake]

theorem startReady_alone {s : State} {r : HRec} (hruns : s.hostRuns = true) (hw : s.waiting = [r])
    (hq : ∀ g, (s.flow g).queries = []) (hn : s.nextRec [r] false [] = some r) : s.startReady = s.startRec r := by
  simp [State.startReady, hw, hq, State.startMany, State.startOne, hruns, hn]

/-- The record of a volatile command for this device starts once its resources are free. -/
theorem nextRec_recTaken {s j : State} {c : HCmd} (h : s.resFree c = true) : s.nextRec [recTaken j c] false [] = some (recTaken j c) := by
  simp [State.nextRec, recTaken, HRec.secured, HRec.executed, h]

theorem startRec_recTaken {s j : State} {c : HCmd} (hcls : c.cls = 1) (hf : c.key.flow < 5) : s.startRec (recTaken j c) =
    let b := s.updRec c.key fun r => { r with started := true }
    (b.perform c false).2.answerStart c (b.perform c false).1 := by
  have hrb : ringBad c = none := if_pos (by omega)
  simp [State.startRec, recTaken, hcls, HRec.executed, hrb]

/-! ### From the frame to the answer -/

/-- With no slot taken nothing holds back a command for its resources. -/
theorem resFree_of_no_ops {s : State} (h : s.host.ops = []) (c : HCmd) : s.resFree c = true := by
  have hslot : s.slotFree = some 0 := by simp [State.slotFree, h, List.range_succ]
  simp [State.resFree, h, hslot]

/-- What a meaning makes of a command: its outcome as the response shows it, the host port as it was, and a state with property `P`. -/
def HasEffect (b : State) (w : Nat) (d : List Word) (P : State → Prop) (e : CmdRes × State) : Prop :=
  resWord e.1 = w ∧ resData e.1 = d ∧ e.2.host = b.host ∧ P e.2

/-- The frame of a volatile command is taken in, and the command starts alone, with everything but the host port as it was. -/
theorem rxStart_volatile {s : State} {h : HostHdr} {opc : Nat} {body : List Word} {c : HCmd} (hF : Frame s h opc body c) (hA : Accepted s c)
    (hcls : c.cls = 1) (hQ : HostQuiet s) (hL : s.linked = false) : ∃ b, QuietWork c.key.flow s b ∧
      b.regN (R.HOST_FLOW_N c.key.flow) = seqNext c.key.seq ∧ RunsAlone c b ∧
      s.rxStart h opc body = (b.perform c false).2.answerStart c (b.perform c false).1 := by
  obtain ⟨s0, hrx, hw0, hregs, hQ0, hA0⟩ := hostRx_admitted hF hA hQ
  obtain ⟨hdev, hoff, -, -, -, hqspi, heth⟩ := hF
  have hf : c.key.flow < 5 := by
    by_cases hp : h.port = .qspi
    · rw [(hqspi hp).1]; decide
    · exact Nat.lt_succ_of_lt (heth hp).1
  have hL0 : s0.linked = false := by rw [← hL]; simp only [State.linked, get_congr hregs]
  obtain ⟨t, j, heq, hw, hflow, hN⟩ := rxCmd_volatile hA0 hcls hQ0 hL0
  obtain ⟨hfl0, hring0, hops0, -, hroom0, -⟩ := hQ0
  have hother : ∀ g, g ≠ c.key.flow → (t.flow g).taken = [] ∧ (t.flow g).queries = [] := fun g hg => by
    rw [hw.flows g hg]; exact ⟨(hfl0 g).2.1, (hfl0 g).2.2⟩
  have hqueries : ∀ g, (t.flow g).queries = [] := fun g => by
    by_cases hg : g = c.key.flow
    · rw [hg, hflow]; exact (hfl0 _).2.2
    · exact (hother g hg).2
  have htaken : (t.flow c.key.flow).taken = [recTaken j c] := by rw [hflow]
  have hops : t.host.ops = [] := hw.work.ops.trans hops0
  have hwt : QuietWork c.key.flow s t := hw0.trans hw
  have hruns : t.hostRuns = true := by simp [State.hostRuns, hwt.work.dev, hwt.work.sys, hdev, hoff]
  have hwait : t.waiting = [recTaken j c] := waiting_alone hf htaken (fun g hg => (hother g hg).1) (hw.ringCmds.trans hring0) rfl
  let b := t.updRec c.key fun r => { r with started := true }
  have hb : QuietWork c.key.flow t b := updRec_quietWork hf _
  refine ⟨b, hwt.trans hb, ?_, ⟨hf, hcls, ?_, ?_, ?_⟩, ?_⟩
  · rw [← hN]
    simp only [b, State.updRec, if_pos hf]
    rfl
  · exact hb.work.ops.trans hops
  · rw [hb.queue, hw.queue]; exact hroom0
  · exact ⟨{ recTaken j c with started := true }, by rw [flow_updRec_self hf, htaken]; simp [recTaken], rfl, rfl, rfl, rfl⟩
  · rw [State.rxStart, hrx, heq, startReady_alone hruns hwait hqueries (nextRec_recTaken (resFree_of_no_ops hops c)), startRec_recTaken hcls hf]

/-- A volatile command that nothing holds back runs as its meaning says, from a state that differs in the host port alone. -/
theorem starts_volatile {mk : HostHdr → List Word → Instr} {opc : Nat} {s : State} {B : HCmd → Prop} {w : HCmd → State → Nat}
    {d : HCmd → State → List Word} {P : HCmd → State → State → Prop}
    (hexec : ∀ h l, exec (mk h l) s = .next (settle s (s.rxStart h opc l)))
    (hrun : ∀ c b, c.opc = opc → stateAllows b.dev c.opc = true → s.sys.move = none → HostWork c.key.flow s b → B c →
      HasEffect b (w c b) (d c b) (P c b) (b.perform c false)) : Starts mk opc 1 s B w d P := by
  intro h body c hF hA hcls hQ hL hB
  obtain ⟨b, hw, hN, halone, hstart⟩ := rxStart_volatile hF hA hcls hQ hL
  have hopc : c.opc = opc := by obtain ⟨-, -, -, -, hc, -⟩ := hF; rw [hc]
  obtain ⟨-, -, hallow, -⟩ := hA
  obtain ⟨-, -, -, -, -, hmove⟩ := hQ
  obtain ⟨hres, hdata, hhost, hP⟩ := hrun c b hopc (by rw [hw.work.dev]; exact hallow) hmove hw.work hB
  have hans := answerStart_answers (halone.congr hhost) (b.perform c false).1
  rw [hres, hdata] at hans
  exact ⟨b, _, _, hw.work, hw.tx, hw.queue, fun _ => hN, hP, hans, by rw [hexec, hstart]⟩

end Sys2Proof.Machine

/-! ## O18: moves, fixes and SAFE_RESET (01 R31 to R36, 09 R342, R343, 13 R494, 15 R553, R554) -/
namespace Sys2Proof.Machine
open Sys2Proof.Stmt

/-! ### Host work leaves what the commands look at -/

section
variable {f : Nat} {s t : State} (h : HostWork f s t)
include h

theorem hostWork_reqReady : t.reqReady = s.reqReady := by
  simp only [State.reqReady, State.reg64, h.regN (show R.OCL_REQ_LO < 0x16000000 by decide), h.regN (show R.OCL_REQ_LO + 4 < 0x16000000 by decide),
    h.regN (show R.OCL_READY_LO < 0x16000000 by decide), h.regN (show R.OCL_READY_LO + 4 < 0x16000000 by decide)]

theorem hostWork_linked : t.linked = s.linked := by
  simp only [State.linked, h.get (show F.TWIN_STAT_TSTATE.addr < 0x16000000 by decide)]

theorem hostWork_linksReady : t.linksReady = s.linksReady := by
  simp only [State.linksReady, State.ringPort, hostWork_reqReady h, hostWork_linked h, h.on (show F.SYS_CTRL_REQRING.addr < 0x16000000 by decide),
    h.on (show F.SYS_CTRL_REQTWIN.addr < 0x16000000 by decide), h.get (show F.RING_STAT_ESTATE.addr < 0x16000000 by decide),
    h.get (show F.RING_STAT_WSTATE.addr < 0x16000000 by decide)]

theorem hostWork_cellLatch : t.cellLatch = s.cellLatch := by
  have hsrc : t.tripSources = s.tripSources := by
    simp only [State.tripSources, h.get (show F.CMP_LATCH_L.addr < 0x16000000 by decide), h.get (show F.TRIP_TLATCH_L.addr < 0x16000000 by decide)]
  have hgrp : ∀ g, g < 8 → t.regN (R.TRIP_MASK (12 + g)) = s.regN (R.TRIP_MASK (12 + g)) ∧ t.cgLanes g = s.cgLanes g := fun g hg => by
    simp only [State.cgLanes, State.reg64]
    rw [h.regN (a := R.TRIP_MASK (12 + g)) (by simp only [R.TRIP_MASK]; omega), h.regN (a := R.TRIP_CG_LO g) (by simp only [R.TRIP_CG_LO]; omega),
      h.regN (a := R.TRIP_CG_LO g + 4) (by simp only [R.TRIP_CG_LO]; omega)]
    exact ⟨rfl, rfl⟩
  unfold State.cellLatch
  rw [hsrc, Bool.eq_iff_iff, List.any_eq_true, List.any_eq_true]
  refine exists_congr fun g => and_congr_right fun hg => ?_
  obtain ⟨hmask, hlanes⟩ := hgrp g (List.mem_range.mp hg)
  rw [hmask, hlanes]

theorem hostWork_runAllowed : t.runAllowed = s.runAllowed := by
  simp only [State.runAllowed, State.sx, State.active, hostWork_cellLatch h, h.get (show F.SEXT_STAT_STATE.addr < 0x16000000 by decide),
    h.on (show F.SEXT_STAT_COAST.addr < 0x16000000 by decide), h.on (show F.SYS_STATE_ROLE.addr < 0x16000000 by decide)]

theorem hostWork_activeSource : t.activeSource = s.activeSource := by
  have hsrc : t.src = s.src := funext fun q => by simp only [State.src, h.faults]
  rw [State.activeSource, hsrc, State.activeSource]

theorem hostWork_safetySrc : t.safetySrc = s.safetySrc := by rw [State.safetySrc, h.dev, State.safetySrc]

end

/-! ### Moves -/

theorem askMove_of_none {s : State} (h : s.sys.move = none) (st : Nat) (k : CmdKey) :
    s.askMove st k = { s with sys := { s.sys with move := some ⟨st, [k]⟩ } } := by
  simp [State.askMove, h]

theorem cancelMove_of_none {s : State} (h : s.sys.move = none) : s.cancelMove = s := by simp [State.cancelMove, h]

/-- BLOCKED is entered for a command where no move is pending. -/
theorem enterStop_blocked {s : State} (hm : s.sys.move = none) (hs : stopAllowed s.dev stBLOCKED = true) :
    s.enterStop stBLOCKED none = { s.setDev stBLOCKED with sys := { s.sys with cause := none } } := by
  rw [State.enterStop, if_pos hs, cancelMove_of_none hm]
  rfl

theorem stopAllowed_blocked_iff (d : Nat) : stopAllowed d stBLOCKED = true ↔ d = stARMED ∨ d = stRUN ∨ d = stDEGRADED := by
  simp [stopAllowed, or_assoc]

/-! ### SAFE_RESET -/

/-- What holds after one element of a fold, and no other element spoils, holds after the fold; `I` may be assumed throughout. -/
theorem foldl_reaches {α : Type} {f : State → α → State} {I P : State → Prop} (hI : ∀ s y, I s → I (f s y)) (hk : ∀ s y, I s → P s → P (f s y))
    {x : α} (hx : ∀ s, I s → P (f s x)) {l : List α} (h : x ∈ l) {s : State} (hs : I s) : P (l.foldl f s) := by
  induction l generalizing s with
  | nil => exact absurd h List.not_mem_nil
  | cons y l ih =>
    rcases List.mem_cons.mp h with rfl | h
    · exact (l.foldlRecOn f (motive := fun t => I t ∧ P t) ⟨hI s x hs, hx s hs⟩ fun t ht y _ => ⟨hI t y ht.1, hk t y ht.1 ht.2⟩).2
    · exact ih h (hI s y hs)

/-- The demands follow the inputs, their configuration and the discrepancies alone. -/
theorem demands_congr {s t : State} (hr : ∀ n, n < 4 → t.reg (R.SAFE_SINCFG n) = s.reg (R.SAFE_SINCFG n)) (hA : t.safe.sinA = s.safe.sinA)
    (hB : t.safe.sinB = s.safe.sinB) (hd : t.safe.disc = s.safe.disc) : t.demands = s.demands := by
  refine List.foldl_ext _ _ 0 fun d n hn => ?_
  have hreg := hr n (List.mem_range.mp hn)
  have hEN : t.on (F.SAFE_SINCFG_EN n) = s.on (F.SAFE_SINCFG_EN n) := congrArg (fun v => fldOf (F.SAFE_SINCFG_EN n) v != 0) hreg
  have hMODE : t.on (F.SAFE_SINCFG_MODE n) = s.on (F.SAFE_SINCFG_MODE n) := congrArg (fun v => fldOf (F.SAFE_SINCFG_MODE n) v != 0) hreg
  have hdem : t.sinDemand n = s.sinDemand n := by simp only [State.sinDemand, hEN, hMODE, hA, hB, hd]
  rw [hdem]

theorem hostWork_demands {f : Nat} {s t : State} (h : HostWork f s t) : t.demands = s.demands := by
  have hs := h.safe
  refine demands_congr ?_ (by rw [hs]) (by rw [hs]) (by rw [hs])
  exact fun n hn => h.reg (by show 0x15020100 + 0x10 * n < 0x16000000; omega)

/-- `t` is `s` with other states of safety outputs and channels. -/
def SafeStatWork (s t : State) : Prop :=
  (∃ regs, t = { s with regs }) ∧ ∀ a, (∀ n, a ≠ R.SAFE_SOUTSTAT n) → (∀ n, a ≠ R.SAFE_CHSTAT n) → t.reg a = s.reg a

namespace SafeStatWork
variable {s t u : State}

theorem refl (s : State) : SafeStatWork s s := ⟨⟨_, rfl⟩, fun _ _ _ => rfl⟩

theorem trans (h : SafeStatWork s t) (k : SafeStatWork t u) : SafeStatWork s u := by
  obtain ⟨⟨_, rfl⟩, h⟩ := h
  obtain ⟨⟨_, rfl⟩, k⟩ := k
  exact ⟨⟨_, rfl⟩, fun a ho hc => (k a ho hc).trans (h a ho hc)⟩

theorem ite {c : Prop} [Decidable c] (h : SafeStatWork s t) (k : SafeStatWork s u) : SafeStatWork s (if c then t else u) := by split <;> assumption

theorem fold {α : Type} {f : State → α → State} (h : ∀ s x, SafeStatWork s (f s x)) (l : List α) (s : State) : SafeStatWork s (l.foldl f s) := by
  induction l generalizing s with
  | nil => exact refl s
  | cons x l ih => exact (h s x).trans (ih (f s x))

theorem setOut {g : Fld} {n : Nat} (h : g.addr = R.SAFE_SOUTSTAT n) (s : State) (v : Nat) : SafeStatWork s (s.set g v) :=
  ⟨⟨_, rfl⟩, fun a ho _ => reg_set_ne s g (by rw [h]; exact ho n) v⟩

theorem setCh {g : Fld} {n : Nat} (h : g.addr = R.SAFE_CHSTAT n) (s : State) (v : Nat) : SafeStatWork s (s.set g v) :=
  ⟨⟨_, rfl⟩, fun a _ hc => reg_set_ne s g (by rw [h]; exact hc n) v⟩

theorem faults (h : SafeStatWork s t) : t.faults = s.faults := by obtain ⟨⟨_, rfl⟩, -⟩ := h; rfl
theorem host (h : SafeStatWork s t) : t.host = s.host := by obtain ⟨⟨_, rfl⟩, -⟩ := h; rfl
theorem sys (h : SafeStatWork s t) : t.sys = s.sys := by obtain ⟨⟨_, rfl⟩, -⟩ := h; rfl
theorem safe (h : SafeStatWork s t) : t.safe = s.safe := by obtain ⟨⟨_, rfl⟩, -⟩ := h; rfl

/-- Registers below the status of the first channel are untouched. -/
theorem reg_below (h : SafeStatWork s t) {a : Nat} (ha : a < 0x15020140) : t.reg a = s.reg a :=
  h.2 a (fun n => by show a ≠ 0x150201A4 + 0x10 * n; omega) (fun n => by show a ≠ 0x15020148 + 0x20 * n; omega)

theorem dev (h : SafeStatWork s t) : t.dev = s.dev := congrArg (fldOf F.SYS_STATE_STATE) (h.reg_below (by decide))

theorem safetySrc (h : SafeStatWork s t) : t.safetySrc = s.safetySrc := by rw [State.safetySrc, h.dev, State.safetySrc]

theorem demands (h : SafeStatWork s t) : t.demands = s.demands :=
  demands_congr (fun n _ => h.2 _ (fun m => by show 0x15020100 + 0x10 * n ≠ 0x150201A4 + 0x10 * m; omega)
    (fun m => by show 0x15020100 + 0x10 * n ≠ 0x15020148 + 0x20 * m; omega)) (by rw [h.safe]) (by rw [h.safe]) (by rw [h.safe])

theorem stomask (h : SafeStatWork s t) (a : Nat) : t.get (F.SAFE_CHCFG_STOMASK a) = s.get (F.SAFE_CHCFG_STOMASK a) := by
  have hr : t.reg (R.SAFE_CHCFG a) = s.reg (R.SAFE_CHCFG a) :=
    h.2 _ (fun m => by show 0x15020140 + 0x20 * a ≠ 0x150201A4 + 0x10 * m; omega)
      (fun m => by show 0x15020140 + 0x20 * a ≠ 0x15020148 + 0x20 * m; omega)
  exact congrArg (fldOf (F.SAFE_CHCFG_STOMASK a)) hr

theorem stoCause (h : SafeStatWork s t) (a : Nat) : t.stoCause a = s.stoCause a := by
  rw [State.stoCause, h.demands, h.stomask, h.safe, State.stoCause]

end SafeStatWork

/-- The readback and overcurrent latches of the safety outputs clear. -/
def State.clearSouts (s : State) : State :=
  (List.range 4).foldl (fun s n => (s.set (F.SAFE_SOUTSTAT_RBERR n) 0).set (F.SAFE_SOUTSTAT_OC n) 0) s

/-- The restart latch clears on the channels on which nothing holds STO. -/
def State.clearWaits (s : State) : State :=
  (List.range 3).foldl (fun s a => if s.safetySrc || s.stoCause a then s else s.set (F.SAFE_CHSTAT_WAITRST a) 0) s

/-- SAFE_RESET where no input shows a discrepancy. -/
theorem safeReset_eq {s : State} (h : s.safe.disc = 0) : s.safeReset =
    (if s.clearSouts.dev = stSAFE && s.clearSouts.demands = 0 then s.clearSouts.leaveSafe else s.clearSouts).dropSs1.clearWaits := by
  have hdisc : (List.range 4).foldl (fun d n => if s.safe.disc.testBit n && s.sinDisagree n then d + 2 ^ n else d) 0 = s.safe.disc := by
    simp [h]
  unfold State.safeReset
  rw [hdisc]
  rfl

theorem clearSouts_work (s : State) : SafeStatWork s s.clearSouts :=
  .fold (fun s n => (SafeStatWork.setOut (n := n) rfl s 0).trans (.setOut (n := n) rfl _ 0)) _ s

theorem clearWaits_work (s : State) : SafeStatWork s s.clearWaits :=
  .fold (fun s a => .ite (.refl s) (.setCh (n := a) rfl s 0)) _ s

theorem on_set_zero (s : State) (g : Fld) (h : g.lo + g.width ≤ 32) : (s.set g 0).on g = false := by
  simp [State.on, get_set_self s g 0 h]

theorem on_set_ne (s : State) {g k : Fld} (n : Nat) (h : k.addr ≠ g.addr ∨ k.lo + k.width ≤ g.lo ∨ g.lo + g.width ≤ k.lo) :
    (s.set g n).on k = s.on k := by rw [State.on, get_set_disjoint s g k n h, State.on]

/-- The latches of output `n` are clear. -/
def SoutClear (n : Nat) (s : State) : Prop := s.on (F.SAFE_SOUTSTAT_RBERR n) = false ∧ s.on (F.SAFE_SOUTSTAT_OC n) = false

theorem soutClear_set (s : State) (n : Nat) : SoutClear n ((s.set (F.SAFE_SOUTSTAT_RBERR n) 0).set (F.SAFE_SOUTSTAT_OC n) 0) :=
  ⟨by rw [on_set_ne _ 0 (.inr (.inr (le_refl 29)))]; exact on_set_zero _ _ (show 29 + 1 ≤ 32 by decide), on_set_zero _ _ (show 28 + 1 ≤ 32 by decide)⟩

theorem SoutClear.set_ne {n : Nat} {s : State} (h : SoutClear n s) {g : Fld} (hg : g.addr ≠ R.SAFE_SOUTSTAT n) (v : Nat) : SoutClear n (s.set g v) :=
  ⟨(on_set_ne s v (.inl (Ne.symm hg))).trans h.1, (on_set_ne s v (.inl (Ne.symm hg))).trans h.2⟩

theorem clearSouts_clear {n : Nat} (hn : n < 4) (s : State) : SoutClear n s.clearSouts := by
  unfold State.clearSouts
  refine foldl_reaches (I := fun _ => True) (P := SoutClear n) (x := n) (fun _ _ _ => trivial) (fun s m _ hs => ?_) (fun s _ => ?_)
    (List.mem_range.mpr hn) trivial
  · by_cases hm : m = n
    · rw [hm]; exact soutClear_set s n
    · have hne : R.SAFE_SOUTSTAT m ≠ R.SAFE_SOUTSTAT n := by show 0x150201A4 + 0x10 * m ≠ 0x150201A4 + 0x10 * n; omega
      exact (hs.set_ne (g := F.SAFE_SOUTSTAT_RBERR m) hne 0).set_ne (g := F.SAFE_SOUTSTAT_OC m) hne 0
  · exact soutClear_set s n

theorem SoutClear.clearWaits {n : Nat} {s : State} (h : SoutClear n s) : SoutClear n s.clearWaits := by
  unfold State.clearWaits
  refine List.foldlRecOn _ _ (motive := SoutClear n) h fun t ht a _ => ?_
  have hne : R.SAFE_CHSTAT a ≠ R.SAFE_SOUTSTAT n := by show 0x15020148 + 0x20 * a ≠ 0x150201A4 + 0x10 * n; omega
  split
  · exact ht
  · exact ht.set_ne (g := F.SAFE_CHSTAT_WAITRST a) hne 0

/-- The restart latch of a channel on which nothing holds STO clears. -/
theorem clearWaits_clear {a : Nat} (ha : a < 3) {s : State} (hs : s.safetySrc = false) (hc : s.stoCause a = false) :
    s.clearWaits.on (F.SAFE_CHSTAT_WAITRST a) = false := by
  have hw : ∀ (t : State) (b : Nat), SafeStatWork t (if t.safetySrc || t.stoCause b then t else t.set (F.SAFE_CHSTAT_WAITRST b) 0) :=
    fun t b => .ite (.refl t) (.setCh (n := b) rfl t 0)
  unfold State.clearWaits
  refine foldl_reaches (I := fun t => t.safetySrc = false ∧ t.stoCause a = false) (P := fun t => t.on (F.SAFE_CHSTAT_WAITRST a) = false) (x := a)
    (fun t b ht => ?_) (fun t b _ ht => ?_) (fun t ht => ?_) (List.mem_range.mpr ha) ⟨hs, hc⟩
  · rw [(hw t b).safetySrc, (hw t b).stoCause]; exact ht
  · split
    · exact ht
    · by_cases hb : b = a
      · rw [hb]; exact on_set_zero t _ (show 29 + 1 ≤ 32 by decide)
      · exact (on_set_ne t 0 (.inl (by show 0x15020148 + 0x20 * a ≠ 0x15020148 + 0x20 * b; omega))).trans ht
  · rw [ht.1, ht.2]; exact on_set_zero t _ (show 29 + 1 ≤ 32 by decide)

/-! `dropSs1` changes which ended SS1 hold STO, and nothing else. -/

@[simp] theorem dropSs1_host (s : State) : s.dropSs1.host = s.host := rfl
@[simp] theorem dropSs1_sys (s : State) : s.dropSs1.sys = s.sys := rfl
@[simp] theorem dropSs1_faults (s : State) : s.dropSs1.faults = s.faults := rfl
@[simp] theorem dropSs1_get (s : State) (g : Fld) : s.dropSs1.get g = s.get g := rfl
@[simp] theorem dropSs1_on (s : State) (g : Fld) : s.dropSs1.on g = s.on g := rfl
@[simp] theorem dropSs1_dev (s : State) : s.dropSs1.dev = s.dev := rfl
@[simp] theorem dropSs1_safetySrc (s : State) : s.dropSs1.safetySrc = s.safetySrc := rfl
@[simp] theorem dropSs1_demands (s : State) : s.dropSs1.demands = s.demands := demands_congr (fun _ _ => rfl) rfl rfl rfl

/-- An SS1 that is not held is not held afterwards. -/
theorem dropSs1_ss1Held {s : State} {a : Nat} (h : s.safe.ss1Held.testBit a = false) : s.dropSs1.safe.ss1Held.testBit a = false := by
  have hb := (sumBits_testBit (fun b => s.safe.ss1Held.testBit b &&
    (!s.on (F.SAFE_CHSTAT_STO b) || (s.demands &&& s.get (F.SAFE_CHCFG_SS1MASK b)) != 0)) 3 a).1
  rw [h, Bool.false_and, Bool.and_false] at hb
  exact hb

theorem dropSs1_stoCause {s : State} {a : Nat} (hd : s.demands &&& s.get (F.SAFE_CHCFG_STOMASK a) = 0) (hh : s.safe.ss1Held.testBit a = false) :
    s.dropSs1.stoCause a = false := by
  simp [State.stoCause, hd, dropSs1_ss1Held hh]

theorem SoutClear.dropSs1 {n : Nat} {s : State} (h : SoutClear n s) : SoutClear n s.dropSs1 := by
  simpa [SoutClear] using h

/-! ### Leaving SAFE -/

theorem srcWord0_pend (q : Src) : (srcWord0 q).pend = false := by unfold srcWord0; split <;> rfl

/-- `clearPend` clears PEND of the source it names, and sets that of none. -/
theorem clearPend_pend (s : State) (p q : Src) : ((s.clearPend p).src q).pend = false ∨ (s.clearPend p).src q = s.src q := by
  by_cases hk : srcKey q = srcKey p
  · left
    show (spGet (srcWord0 q) (spPut (srcWord0 p) s.faults.src (srcKey p) _) (srcKey q)).pend = false
    unfold spPut
    split
    · rw [spGet_spDel, if_pos hk, srcWord0_pend]
    · rw [spGet_spIns, if_pos hk]
  · exact .inr (spGet_spPut_ne _ _ _ hk _)

theorem clearPend_self (s : State) (q : Src) : ((s.clearPend q).src q).pend = false := by
  show (spGet (srcWord0 q) (spPut (srcWord0 q) s.faults.src (srcKey q) _) (srcKey q)).pend = false
  rw [spGet_spPut, if_pos rfl]

/-- `clearPend` changes the fault registers alone. -/
theorem foldl_clearPend (l : List Src) (s : State) : l.foldl State.clearPend s = { s with faults := (l.foldl State.clearPend s).faults } := by
  refine l.foldlRecOn State.clearPend (b := s) (motive := fun t => t = { s with faults := t.faults }) rfl fun t ht q _ => ?_
  rw [ht]
  rfl

/-- The state in which SAFE is left, before the sources clear. -/
theorem leaveSafe_eq (s : State) : s.leaveSafe = { (s.setDev stBLOCKED).clearCause with faults := s.leaveSafe.faults } := foldl_clearPend _ _

theorem leaveSafe_dev (s : State) : s.leaveSafe.dev = stBLOCKED := by rw [leaveSafe_eq]; exact setDev_dev s (by decide)
theorem leaveSafe_cause (s : State) : s.leaveSafe.sys.cause = none := by rw [leaveSafe_eq]; rfl
theorem leaveSafe_host (s : State) : s.leaveSafe.host = s.host := by rw [leaveSafe_eq]; rfl

/-- No source with the reaction SAFE pends once SAFE is left. -/
theorem leaveSafe_pend {s : State} {q : Src} (hq : q ∈ allSrcs) (h : (s.src q).rlvl = 5) : (s.leaveSafe.src q).pend = false := by
  have hk : ∀ (t : State) (p : Src), (t.src q).pend = false → ((t.clearPend p).src q).pend = false := fun t p ht => by
    rcases clearPend_pend t p q with h | h
    · exact h
    · rw [h]; exact ht
  let P := fun t : State => (t.src q).pend = false
  have hsrc : (s.setDev stBLOCKED).clearCause.src q = s.src q := rfl
  by_cases hp : (s.src q).pend = true
  · have hmem : q ∈ allSrcs.filter fun q => ((s.setDev stBLOCKED).clearCause.src q).pend && ((s.setDev stBLOCKED).clearCause.src q).rlvl == 5 :=
      List.mem_filter.mpr ⟨hq, by rw [hsrc, hp, h]; rfl⟩
    exact foldl_reaches (I := fun _ => True) (P := P) (fun _ _ _ => trivial) (fun t p _ => hk t p) (fun t _ => clearPend_self t q) hmem trivial
  · exact List.foldlRecOn _ _ (motive := P) (by simpa [P, hsrc] using hp) fun t ht p _ => hk t p ht

/-! ### Fixes -/

theorem fixBank_congr {s t : State} (h : t.ring.banks = s.ring.banks) : t.fixBank = s.fixBank :=
  funext fun k => by simp only [State.fixBank, h]

theorem bankOf_congr {s t : State} (h : t.ring.banks = s.ring.banks) (id : Nat) : t.bankOf id = s.bankOf id := by
  rw [State.bankOf, fixBank_congr h, State.bankOf]

theorem fixChoice_congr {s t : State} (h : t.ring.banks = s.ring.banks) : t.fixChoice = s.fixChoice := by
  rw [State.fixChoice, fixBank_congr h, State.fixChoice]

/-- `t` is `s` after frames of this node have gone to the ring's ports. -/
def RingOut (s t : State) : Prop := (∃ regs ring tx, t = { s with regs, ring, tx }) ∧ t.ring.banks = s.ring.banks

namespace RingOut
variable {s t u : State}

theorem refl (s : State) : RingOut s s := ⟨⟨_, _, _, rfl⟩, rfl⟩

theorem trans (h : RingOut s t) (k : RingOut t u) : RingOut s u := by
  obtain ⟨⟨_, _, _, rfl⟩, h⟩ := h
  obtain ⟨⟨_, _, _, rfl⟩, k⟩ := k
  exact ⟨⟨_, _, _, rfl⟩, k.trans h⟩

theorem ite {c : Prop} [Decidable c] (h : RingOut s t) (k : RingOut s u) : RingOut s (if c then t else u) := by split <;> assumption

end RingOut

theorem putOn_ringOut (s : State) (p : Side) (f : RingFrame) : RingOut s (s.putOn p f) := ⟨⟨_, _, _, rfl⟩, rfl⟩

theorem pumpPort_ringOut (s : State) (p : Side) : RingOut s (s.pumpPort p) := by
  unfold State.pumpPort
  refine .ite (.refl s) ?_
  split
  · exact ⟨⟨_, _, _, rfl⟩, rfl⟩
  · exact .refl s

theorem breakOff_ringOut (s : State) (p : Side) : RingOut s (s.breakOff p) := by
  unfold State.breakOff
  split
  · exact .ite (.refl s) ⟨⟨_, _, _, rfl⟩, rfl⟩
  · exact .refl s

theorem ringOrig_ringOut (s : State) (p : Side) (f : RingFrame) : RingOut s (s.ringOrig p f) := by
  unfold State.ringOrig State.ringEmit
  refine .ite (.refl s) (.ite (.refl s) (.ite ((breakOff_ringOut s p).trans (putOn_ringOut _ p f)) ?_))
  exact RingOut.trans ⟨⟨_, _, _, rfl⟩, rfl⟩ (pumpPort_ringOut _ p)

theorem ringBroadcast_ringOut (s : State) (cls cspec : Nat) (data : List Word64) : RingOut s (s.ringBroadcast cls cspec data) :=
  (ringOrig_ringOut s _ _).trans (ringOrig_ringOut _ _ _)

/-- Clearing registers one after another changes the registers alone. -/
theorem foldl_setRegN (g : Nat → Nat) (l : List Nat) (s : State) :
    ∃ regs, l.foldl (fun s w => s.setRegN (g w) 0) s = { s with regs } :=
  List.foldlRecOn l _ (b := s) (motive := fun t => ∃ regs, t = { s with regs }) ⟨_, rfl⟩ fun t ht w _ => by
    obtain ⟨_, rfl⟩ := ht
    exact ⟨_, rfl⟩

/-- What a bank shows goes to the registers; the bank itself is the ring's. -/
theorem setBank_fixWide (s : State) (b : Nat) (x : FixBank) (ofs v : Nat) :
    ∃ regs, (s.setBank b x).fixWide b ofs v = { s with regs, ring := { s.ring with banks := spPut bank0 s.ring.banks b x } } := by
  unfold State.setBank State.fixWide State.fixWord State.setRegN State.set State.setReg
  exact ⟨_, rfl⟩

/-- A fix that no bank holds takes the bank chosen, ARMED while its time is ahead. -/
theorem fixAssign_armed {s : State} {id t k : Nat} (hnone : s.bankOf id = none) (hk : s.fixChoice = some k) (hlate : ctDiff s.now t < 0) :
    ∃ regs, s.fixAssign id t = { s with
      regs
      ring := { s.ring with banks := spPut bank0 s.ring.banks k { state := fxARMED, fixid := id, tfix := t, t := s.now } } } := by
  have hany : ((List.range 4).any fun b => (s.fixBank b).state != fxFREE && (s.fixBank b).fixid == id) = false := by
    rw [List.any_eq_false]
    exact List.find?_eq_none.mp hnone
  have hl : ¬ 0 ≤ ctDiff s.now t := not_le.mpr hlate
  obtain ⟨regs, hclear⟩ := foldl_setRegN (R.RING_FIXBANK k) (List.range 512) s
  have hnow : ({ s with regs } : State).now = s.now := rfl
  obtain ⟨regs', hset⟩ := setBank_fixWide { s with regs } k { state := fxARMED, fixid := id, tfix := t, t := s.now } 8 t
  refine ⟨regs', ?_⟩
  simp only [State.fixAssign, hany, hk, hclear, hnow, hl, Bool.false_eq_true, if_false]
  exact hset

/-- A fold that at every element keeps its choice or takes that element chooses one of the list. -/
theorem foldl_choice_mem {g : Option Nat → Nat → Option Nat} (hg : ∀ c b, g c b = c ∨ g c b = some b) {l : List Nat} {k : Nat} :
    ∀ {c}, l.foldl g c = some k → k ∈ l ∨ c = some k := by
  induction l with
  | nil => exact fun h => .inr h
  | cons b l ih =>
    intro c h
    rcases ih h with hk | hk
    · exact .inl (List.mem_cons_of_mem _ hk)
    · rcases hg c b with hc | hc
      · exact .inr (hc ▸ hk)
      · left
        rw [hc] at hk
        rw [Option.some.inj hk]
        exact List.mem_cons_self

/-- The bank chosen is one of the four. -/
theorem fixChoice_lt {s : State} {k : Nat} (h : s.fixChoice = some k) : k < 4 := by
  unfold State.fixChoice at h
  split at h
  case h_1 b hb =>
    rw [← Option.some.inj h]
    exact List.mem_range.mp (List.mem_of_find?_eq_some hb)
  case h_2 =>
    have hmem := foldl_choice_mem (fun c b => ?_) h
    · rcases hmem with hmem | hmem
      · exact List.mem_range.mp (List.mem_filter.mp hmem).1
      · exact absurd hmem (by simp)
    · cases c with
      | none => exact .inr rfl
      | some x =>
        dsimp only
        split
        · exact .inr rfl
        · exact .inl rfl

theorem ctDiff_neg_of_pos {a b : Nat} (h : 0 < ctDiff a b) : ctDiff b a < 0 := by
  simp only [ctDiff, BitVec.toInt_ofInt, Int.bmod] at h ⊢
  split at h <;> split <;> omega

/-- The bank that a fix has taken is the one found by its number. -/
theorem bankOf_taken {s t : State} {k id : Nat} {x : FixBank} (hk : k < 4) (hnone : s.bankOf id = none)
    (hb : t.ring.banks = spPut bank0 s.ring.banks k x) (hid : x.fixid = id) (hst : x.state ≠ fxFREE) :
    t.bankOf id = some k := by
  have hbank : ∀ j, t.fixBank j = if j = k then x else s.fixBank j := fun j => by
    rw [State.fixBank, hb, spGet_spPut]; rfl
  have hother : ∀ j ∈ List.range 4, ¬ ((s.fixBank j).state != fxFREE && (s.fixBank j).fixid == id) = true := List.find?_eq_none.mp hnone
  cases hf : t.bankOf id with
  | none =>
    have hno := List.find?_eq_none.mp hf k (List.mem_range.mpr hk)
    rw [hbank, if_pos rfl, hid] at hno
    exact absurd (by simpa using hst) hno
  | some j =>
    have hj := List.find?_some hf
    by_cases hjk : j = k
    · rw [hjk]
    · rw [hbank, if_neg hjk] at hj
      exact absurd hj (hother j (List.mem_of_find?_eq_some hf))

/-- A fix whose time is ahead goes out on the ring and is armed here. -/
theorem fixStart_armed {s : State} {id t k : Nat} (hnone : s.bankOf id = none) (hk : s.fixChoice = some k) (hlate : ctDiff s.now t < 0) :
    ∃ regs ring tx, s.fixStart id t = { s with regs, ring, tx } ∧
      ring.banks = spPut bank0 s.ring.banks k { state := fxARMED, fixid := id, tfix := t, t := s.now } := by
  unfold State.fixStart
  obtain ⟨⟨regs, ring, tx, hout⟩, hbanks⟩ := ringBroadcast_ringOut s rcFIX 0 [BitVec.ofNat 64 t, BitVec.ofNat 64 (65536 * s.nodeId + id)]
  obtain ⟨regs', hfix⟩ := fixAssign_armed ((bankOf_congr hbanks id).trans hnone) ((fixChoice_congr hbanks).trans hk)
    (by rw [hout]; exact hlate)
  rw [hbanks] at hfix
  rw [hfix, hout]
  exact ⟨regs', _, tx, rfl, rfl⟩

/-- FIX with its time far enough ahead takes a bank and waits for it. -/
theorem fixCmd_armed {s : State} {c : HCmd} {k : Nat} (hahead : 320000 ≤ ctDiff (bw c.body 1 + 2 ^ 32 * bw c.body 2) s.now)
    (hnone : s.bankOf (bw c.body 0) = none) (hk : s.fixChoice = some k) :
    ∃ regs ring tx, s.fixCmd c = (.wait, { s with regs, ring, tx }) ∧ ring.banks = spPut bank0 s.ring.banks k
      { state := fxARMED, fixid := bw c.body 0, tfix := bw c.body 1 + 2 ^ 32 * bw c.body 2, t := s.now } := by
  obtain ⟨regs, ring, tx, hstart, hbanks⟩ := fixStart_armed hnone hk (ctDiff_neg_of_pos (lt_of_lt_of_le (by decide) hahead))
  refine ⟨regs, ring, tx, ?_, hbanks⟩
  have hbank : ({ s with regs, ring, tx } : State).bankOf (bw c.body 0) = some k :=
    bankOf_taken (fixChoice_lt hk) hnone hbanks rfl (show fxARMED ≠ fxFREE by decide)
  have hstate : (({ s with regs, ring, tx } : State).fixBank k).state = fxARMED := by
    rw [State.fixBank, hbanks, spGet_spPut, if_pos rfl]
  simp only [State.fixCmd, if_neg (not_lt.mpr hahead), hstart, hbank, hstate]
  rfl

/-! ### The clauses -/

/-- On every state that host work has led to the meaning `run` has the effect that a clause states. -/
def EffectOf (s : State) (B : HCmd → Prop) (w : HCmd → State → Nat) (d : HCmd → State → List Word) (P : HCmd → State → State → Prop)
    (run : State → HCmd → CmdRes × State) : Prop :=
  ∀ c b, b.sys.move = none → HostWork c.key.flow s b → B c → HasEffect b (w c b) (d c b) (P c b) (run b c)

section
variable {s : State} {B : HCmd → Prop} {w : HCmd → State → Nat} {d : HCmd → State → List Word} {P : HCmd → State → State → Prop}

/-- A volatile command whose start is `run` where the device's state allows it. -/
theorem starts_of_effect {mk : HostHdr → List Word → Instr} {opc : Nat} {run : State → HCmd → CmdRes × State}
    (hexec : ∀ h l, exec (mk h l) s = .next (settle s (s.rxStart h opc l)))
    (hperf : ∀ (b : State) (c : HCmd), c.opc = opc →
      b.perform c false = if !stateAllows b.dev opc then (.failed 1, b) else run b c)
    (h : EffectOf s B w d P run) : Starts mk opc 1 s B w d P :=
  starts_volatile hexec fun c b hopc hal hm hw hB => by
    rw [hperf b c hopc, ← hopc, hal, Bool.not_true, if_neg Bool.false_ne_true]
    exact h c b (by rw [hw.sys]; exact hm) hw hB

theorem starts_arm (h : EffectOf s B w d P State.armCmd) : Starts .arm 0x20 1 s B w d P :=
  starts_of_effect (fun _ _ => rfl) (fun b c hopc => by simp only [State.perform, hopc]) h

theorem starts_run (h : EffectOf s B w d P fun b c => b.runCmd c false) : Starts .run 0x21 1 s B w d P :=
  starts_of_effect (fun _ _ => rfl) (fun b c hopc => by simp only [State.perform, hopc]) h

theorem starts_block (h : EffectOf s B w d P fun b _ => b.blockCmd) : Starts .block 0x22 1 s B w d P :=
  starts_of_effect (fun _ _ => rfl) (fun b c hopc => by simp only [State.perform, hopc]) h

theorem starts_release (h : EffectOf s B w d P State.releaseCmd) : Starts .release 0x23 1 s B w d P :=
  starts_of_effect (fun _ _ => rfl) (fun b c hopc => by simp only [State.perform, hopc]) h

theorem starts_safeReset (h : EffectOf s B w d P fun b _ => b.safeResetCmd) : Starts .safeReset 0x60 1 s B w d P :=
  starts_of_effect (fun _ _ => rfl) (fun b c hopc => by simp only [State.perform, hopc]) h

theorem starts_fixCmd (h : EffectOf s B w d P State.fixCmd) : Starts .fixCmd 0x30 1 s B w d P :=
  starts_of_effect (fun _ _ => rfl) (fun b c hopc => by simp only [State.perform, hopc]) h

end

/-! ### The effects -/

/-- A command that fails at once has no effect beside the response. -/
theorem hasEffect_failed (c : HCmd) (b : State) (g : Nat) : HasEffect b (failW g c b) (noData c b) (Same c b) (.failed g, b) :=
  ⟨rfl, rfl, rfl, rfl⟩

/-- A move is asked for where none was. -/
theorem hasEffect_askMove {c : HCmd} {b : State} (h : b.sys.move = none) (st : Nat) :
    HasEffect b (acceptW c b) (noData c b) (AsksMove st c b) (.wait, b.askMove st c.key) :=
  ⟨rfl, rfl, rfl, askMove_of_none h st c.key⟩

theorem armCmd_links {b : State} (c : HCmd) (h : b.dev = stLINKS) :
    b.armCmd c = if !b.linksReady then (.failed 0x2B, b) else (.wait, b.askMove stARMED c.key) := by
  simp [State.armCmd, h]

theorem armCmd_other {b : State} (c : HCmd) (h : b.dev ≠ stLINKS) : b.armCmd c = (.failed 1, b) := by simp [State.armCmd, h]

theorem runCmd_armed {b : State} (c : HCmd) (h : b.dev = stARMED) :
    b.runCmd c false = if b.runAllowed then (.wait, b.askMove stRUN c.key) else (.failed 0x29, b) := by
  simp [State.runCmd, h]

theorem runCmd_other {b : State} (c : HCmd) (h : b.dev ≠ stARMED) : b.runCmd c false = (.failed 1, b) := by simp [State.runCmd, h]

theorem releaseCmd_blocked {b : State} (c : HCmd) (h : b.dev = stBLOCKED) :
    b.releaseCmd c = if b.activeSource then (.failed 0x2A, b) else (.wait, b.askMove stARMED c.key) := by
  simp [State.releaseCmd, h]

theorem releaseCmd_other {b : State} (c : HCmd) (h : b.dev ≠ stBLOCKED) : b.releaseCmd c = (.failed 1, b) := by simp [State.releaseCmd, h]

/-- BLOCK enters BLOCKED in its tick, names no source, and writes SYS_STATE alone. -/
theorem blockCmd_effect {c : HCmd} {b : State} (hm : b.sys.move = none) (hs : stopAllowed b.dev stBLOCKED = true) :
    HasEffect b (doneW c b) (noData c b) (fun x => x.dev = stBLOCKED ∧ x.sys = { b.sys with cause := none } ∧ x.mem = b.mem ∧
      ∀ a, a ≠ R.SYS_STATE → x.reg a = b.reg a) b.blockCmd := by
  rw [State.blockCmd, if_pos hs, enterStop_blocked hm hs]
  exact ⟨rfl, rfl, rfl, setDev_dev b (by decide), rfl, rfl, fun a ha => reg_set_ne b F.SYS_STATE_STATE ha _⟩

/-- Outside SAFE, and in it while an input is in demand, the device does not move. -/
theorem safeReset_stays {b : State} (hdisc : b.safe.disc = 0) (h : ¬ (b.dev = stSAFE ∧ b.demands = 0)) :
    b.safeReset = b.clearSouts.dropSs1.clearWaits := by
  have hso := clearSouts_work b
  rw [safeReset_eq hdisc, hso.dev, hso.demands, if_neg (by simpa using h)]

theorem safeReset_leaves {b : State} (hdisc : b.safe.disc = 0) (hdev : b.dev = stSAFE) (hdem : b.demands = 0) :
    b.safeReset = b.clearSouts.leaveSafe.dropSs1.clearWaits := by
  have hso := clearSouts_work b
  rw [safeReset_eq hdisc, hso.dev, hso.demands, if_pos (by simp [hdev, hdem])]

/-- The safety reset that does not move the device. -/
theorem stays_frame (b : State) : let x := b.clearSouts.dropSs1.clearWaits
    x.dev = b.dev ∧ x.host = b.host ∧ x.faults = b.faults := by
  have hso := clearSouts_work b
  have hcw := clearWaits_work b.clearSouts.dropSs1
  exact ⟨by rw [hcw.dev, dropSs1_dev, hso.dev], by rw [hcw.host, dropSs1_host, hso.host], by rw [hcw.faults, dropSs1_faults, hso.faults]⟩

/-- Outside SAFE the reset clears the output latches, and the restart latch of a channel that nothing holds off. -/
theorem safeResetCmd_outside_safe {c : HCmd} {b : State} (hdev : b.dev ≠ stSAFE) (hdisc : b.safe.disc = 0) (hsrc : b.safetySrc = false) :
    HasEffect b (doneW c b) (noData c b) (fun x =>
      (∀ n, n < 4 → x.on (F.SAFE_SOUTSTAT_RBERR n) = false ∧ x.on (F.SAFE_SOUTSTAT_OC n) = false) ∧ x.dev = b.dev ∧
        ∀ a, a < 3 → b.demands &&& b.get (F.SAFE_CHCFG_STOMASK a) = 0 → b.safe.ss1Held.testBit a = false →
          x.on (F.SAFE_CHSTAT_WAITRST a) = false) b.safeResetCmd := by
  obtain ⟨hxdev, hxhost, -⟩ := stays_frame b
  have hcmd : b.safeResetCmd = (.done [], b.clearSouts.dropSs1.clearWaits) := by
    rw [State.safeResetCmd, safeReset_stays hdisc fun h => hdev h.1]
    exact if_neg (by rw [hxdev]; exact hdev)
  have hso := clearSouts_work b
  rw [hcmd]
  refine ⟨rfl, rfl, hxhost, fun n hn => (clearSouts_clear hn b).dropSs1.clearWaits, hxdev, fun a ha hdem hheld => ?_⟩
  refine clearWaits_clear ha (by rw [dropSs1_safetySrc, hso.safetySrc, hsrc]) (dropSs1_stoCause ?_ (by rw [hso.safe, hheld]))
  rw [hso.demands, hso.stomask, hdem]

/-- In SAFE with no input in demand the reset leaves SAFE, and the sources that held it clear. -/
theorem safeResetCmd_leaves_safe {c : HCmd} {b : State} (hdev : b.dev = stSAFE) (hdisc : b.safe.disc = 0) (hdem : b.demands = 0) :
    HasEffect b (doneW c b) (noData c b) (fun x => x.dev = stBLOCKED ∧ x.sys.cause = none ∧
      ∀ q ∈ allSrcs, (b.src q).rlvl = 5 → (x.src q).pend = false) b.safeResetCmd := by
  have hso := clearSouts_work b
  have hcw := clearWaits_work b.clearSouts.leaveSafe.dropSs1
  have hxdev : b.clearSouts.leaveSafe.dropSs1.clearWaits.dev = stBLOCKED := by rw [hcw.dev, dropSs1_dev, leaveSafe_dev]
  have hcmd : b.safeResetCmd = (.done [], b.clearSouts.leaveSafe.dropSs1.clearWaits) := by
    rw [State.safeResetCmd, safeReset_leaves hdisc hdev hdem]
    exact if_neg (by rw [hxdev]; decide)
  rw [hcmd]
  refine ⟨rfl, rfl, by rw [hcw.host, dropSs1_host, leaveSafe_host, hso.host], hxdev, by rw [hcw.sys, dropSs1_sys, leaveSafe_cause], fun q hq hr => ?_⟩
  rw [State.src, hcw.faults, dropSs1_faults]
  exact leaveSafe_pend hq (by rw [State.src, hso.faults]; exact hr)

/-- In SAFE with an input in demand the reset fails; no source clears. -/
theorem safeResetCmd_stays_safe {c : HCmd} {b : State} (hdev : b.dev = stSAFE) (hdisc : b.safe.disc = 0) (hdem : b.demands ≠ 0) :
    HasEffect b (failW 0x26 c b) (noData c b) (fun x => x.dev = stSAFE ∧ x.faults = b.faults) b.safeResetCmd := by
  obtain ⟨hxdev, hxhost, hxfaults⟩ := stays_frame b
  have hcmd : b.safeResetCmd = (.failed 0x26, b.clearSouts.dropSs1.clearWaits) := by
    rw [State.safeResetCmd, safeReset_stays hdisc fun h => hdem h.2]
    exact if_pos (hxdev.trans hdev)
  rw [hcmd]
  exact ⟨rfl, rfl, hxhost, hxdev.trans hdev, hxfaults⟩

/-- FIX arms the bank chosen and leaves the others. -/
theorem fixCmd_effect {c : HCmd} {b : State} {k : Nat} (hahead : 320000 ≤ ctDiff (bw c.body 1 + 2 ^ 32 * bw c.body 2) b.now)
    (hnone : b.bankOf (bw c.body 0) = none) (hk : b.fixChoice = some k) :
    HasEffect b (acceptW c b) (noData c b) (fun x =>
      x.fixBank k = { state := fxARMED, fixid := bw c.body 0, tfix := bw c.body 1 + 2 ^ 32 * bw c.body 2, t := b.now } ∧
        (∀ j, j ≠ k → x.fixBank j = b.fixBank j) ∧ x.mem = b.mem) (b.fixCmd c) := by
  obtain ⟨regs, ring, tx, heq, hbanks⟩ := fixCmd_armed hahead hnone hk
  rw [heq]
  refine ⟨rfl, rfl, rfl, ?_, fun j hj => ?_, rfl⟩
  · rw [State.fixBank, hbanks, spGet_spPut, if_pos rfl]
  · rw [State.fixBank, hbanks, spGet_spPut, if_neg hj, State.fixBank]

/-! ### The obligation -/

/-- Settles O18: every clause is the effect of the command's meaning, run by `starts_of_effect`. -/
theorem hostMoveFixAndSafetyCommandsAct : Obligations.HostMoveFixAndSafetyCommandsAct := by
  intro s
  refine ⟨starts_arm fun c b hm hw hB => ?_, starts_arm fun c b hm hw hB => ?_, starts_arm fun c b hm hw hB => ?_,
    starts_run fun c b hm hw hB => ?_, starts_run fun c b hm hw hB => ?_, starts_run fun c b hm hw hB => ?_,
    starts_block fun c b hm hw hB => ?_, starts_block fun c b hm hw hB => ?_,
    starts_release fun c b hm hw hB => ?_, starts_release fun c b hm hw hB => ?_, starts_release fun c b hm hw hB => ?_,
    starts_safeReset fun c b hm hw hB => ?_, starts_safeReset fun c b hm hw hB => ?_, starts_safeReset fun c b hm hw hB => ?_,
    fun k => starts_fixCmd fun c b hm hw hB => ?_, starts_fixCmd fun c b hm hw hB => ?_⟩ <;> beta_reduce
  · obtain ⟨hdev, hready⟩ := hB
    rw [armCmd_links c (hw.dev.trans hdev), hostWork_linksReady hw, hready]
    exact hasEffect_askMove hm stARMED
  · obtain ⟨hdev, hready⟩ := hB
    rw [armCmd_links c (hw.dev.trans hdev), hostWork_linksReady hw, hready]
    exact hasEffect_failed c b 0x2B
  · rw [armCmd_other c (by rw [hw.dev]; exact hB)]
    exact hasEffect_failed c b 1
  · obtain ⟨hdev, hallowed⟩ := hB
    rw [runCmd_armed c (hw.dev.trans hdev), hostWork_runAllowed hw, hallowed]
    exact hasEffect_askMove hm stRUN
  · obtain ⟨hdev, hallowed⟩ := hB
    rw [runCmd_armed c (hw.dev.trans hdev), hostWork_runAllowed hw, hallowed]
    exact hasEffect_failed c b 0x29
  · rw [runCmd_other c (by rw [hw.dev]; exact hB)]
    exact hasEffect_failed c b 1
  · exact blockCmd_effect hm (by rw [hw.dev]; exact (stopAllowed_blocked_iff _).mpr hB)
  · have hno : ¬ stopAllowed b.dev stBLOCKED = true := by
      rw [hw.dev, stopAllowed_blocked_iff]
      obtain ⟨ha, hr, hd⟩ := hB
      simp [ha, hr, hd]
    rw [State.blockCmd, if_neg hno]
    exact hasEffect_failed c b 1
  · obtain ⟨hdev, hsrc⟩ := hB
    rw [releaseCmd_blocked c (hw.dev.trans hdev), hostWork_activeSource hw, hsrc]
    exact hasEffect_askMove hm stARMED
  · obtain ⟨hdev, hsrc⟩ := hB
    rw [releaseCmd_blocked c (hw.dev.trans hdev), hostWork_activeSource hw, hsrc]
    exact hasEffect_failed c b 0x2A
  · rw [releaseCmd_other c (by rw [hw.dev]; exact hB)]
    exact hasEffect_failed c b 1
  · obtain ⟨hdev, hdisc, hsrc⟩ := hB
    exact safeResetCmd_outside_safe (by rw [hw.dev]; exact hdev) (by rw [hw.safe]; exact hdisc) ((hostWork_safetySrc hw).trans hsrc)
  · obtain ⟨hdev, hdisc, hdem⟩ := hB
    exact safeResetCmd_leaves_safe (hw.dev.trans hdev) (by rw [hw.safe]; exact hdisc) ((hostWork_demands hw).trans hdem)
  · obtain ⟨hdev, hdisc, hdem⟩ := hB
    exact safeResetCmd_stays_safe (hw.dev.trans hdev) (by rw [hw.safe]; exact hdisc) (by rw [hostWork_demands hw]; exact hdem)
  · obtain ⟨hahead, hnone, hk⟩ := hB
    have hbanks := congrArg RingSt.banks hw.ring
    exact fixCmd_effect (by rw [hw.now]; exact hahead) ((bankOf_congr hbanks _).trans hnone) ((fixChoice_congr hbanks).trans hk)
  · rw [State.fixCmd, if_pos (by rw [hw.now]; exact hB)]
    exact hasEffect_failed c b 0x21

end Sys2Proof.Machine

/-! ## O51: a common tick (02 R39) -/
namespace Sys2Proof.Machine

/-! ### The advance of CT64 -/

/-- The advance writes time and the registers that show it, and nothing else. -/
theorem advance_frame (s : State) : ∃ regs chrono, s.advance = { s with regs, chrono } := ⟨_, _, rfl⟩

/-- Time with its fraction bits, in parts of 2^-32 CT64, moves on by 16 plus the trim, modulo 2^96. -/
theorem advance_time (s : State) :
    ((s.advance.chrono.ct.toNat * 2 ^ 32 + s.advance.chrono.frac : Nat) : Int) =
      ((s.chrono.ct.toNat * 2 ^ 32 + s.chrono.frac : Nat) + 16 * 2 ^ 32 + (s.reg R.CHRONO_TRIM).toInt) % 2 ^ 96 := by
  have hct : s.advance.chrono.ct =
      s.chrono.ct + BitVec.ofInt 64 ((s.chrono.frac + (16 * 2 ^ 32 + (s.reg R.CHRONO_TRIM).toInt)) / 2 ^ 32) := rfl
  have hfrac : s.advance.chrono.frac = ((s.chrono.frac + (16 * 2 ^ 32 + (s.reg R.CHRONO_TRIM).toInt)) % 2 ^ 32).toNat := rfl
  rw [hct, hfrac, BitVec.toNat_add, BitVec.toNat_ofInt]
  omega

theorem advance_frac_lt (s : State) : s.advance.chrono.frac < 2 ^ 32 := by
  have hfrac : s.advance.chrono.frac = ((s.chrono.frac + (16 * 2 ^ 32 + (s.reg R.CHRONO_TRIM).toInt)) % 2 ^ 32).toNat := rfl
  omega

/-- A pair of registers shows the 64-bit quantity that it was set to. -/
theorem reg64_setReg64_self (s : State) (a : Nat) {n : Nat} (h : n < 2 ^ 64) : (s.setReg64 a n).reg64 a = n := by
  have hlo : (s.setReg64 a n).reg a = BitVec.ofNat 32 n := (reg_setRegN_ne _ (by omega) _).trans (reg_setRegN_self ..)
  have hhi : (s.setReg64 a n).reg (a + 4) = BitVec.ofNat 32 (n / 2 ^ 32) := reg_setRegN_self ..
  rw [State.reg64, State.regN, State.regN, hlo, hhi, BitVec.toNat_ofNat, BitVec.toNat_ofNat]
  omega

theorem showCt_reg64 (s : State) : s.showCt.reg64 R.CHRONO_NOW_LO = s.now := reg64_setReg64_self s _ s.chrono.ct.isLt

/-! ### What moves on in a tick beside the accesses -/

/-- `t` is `s` after work of the engine's tick count, the refreshes and the wires alone. -/
def WireWork (s t : State) : Prop := ∃ eng axd ring ocl tx, t = { s with eng, axd, ring, ocl, tx }

namespace WireWork

variable {s t u : State}

theorem refl (s : State) : WireWork s s := ⟨_, _, _, _, _, rfl⟩

theorem trans (h : WireWork s t) (k : WireWork t u) : WireWork s u := by
  obtain ⟨_, _, _, _, _, rfl⟩ := h
  obtain ⟨_, _, _, _, _, rfl⟩ := k
  exact ⟨_, _, _, _, _, rfl⟩

theorem ite {c : Prop} [Decidable c] (h : WireWork s t) (k : WireWork s u) : WireWork s (if c then t else u) := by split <;> assumption

theorem fold {α : Type} {f : State → α → State} (h : ∀ s x, WireWork s (f s x)) (l : List α) (s : State) : WireWork s (l.foldl f s) := by
  induction l generalizing s with
  | nil => exact refl s
  | cons x l ih => exact (h s x).trans (ih (f s x))

end WireWork

theorem refreshEnds_wireWork (s : State) : WireWork s s.refreshEnds :=
  .fold (fun s _ => .ite ⟨_, _, _, _, _, rfl⟩ (.refl s)) _ s

theorem pumpPort_wireWork (s : State) (p : Side) : WireWork s (s.pumpPort p) := by
  unfold State.pumpPort
  refine .ite (.refl s) ?_
  split
  · exact ⟨_, _, _, _, _, rfl⟩
  · exact .refl s

theorem wire_wireWork (s : State) (l : Nat) (f : LinkFrame) : WireWork s (s.wire l f) := ⟨_, _, _, _, _, rfl⟩

theorem setLane_wireWork (s : State) (l : Nat) (x : OclLane) : WireWork s (s.setLane l x) := ⟨_, _, _, _, _, rfl⟩

theorem lanePump_wireWork (s : State) (l : Nat) : WireWork s (s.lanePump l) := by
  unfold State.lanePump
  refine .ite (.refl s) ?_
  extract_lets x
  split
  · exact .ite (setLane_wireWork ..) ((setLane_wireWork ..).trans (wire_wireWork ..))
  · split
    · exact .ite ((setLane_wireWork ..).trans (wire_wireWork ..)) (.refl s)
    · exact .refl s

/-- With no claim waiting none is served. -/
theorem serveDeferred_of_none {s : State} (hd : s.bus.deferred = []) (hh : s.bus.held = []) : s.serveDeferred = s := by
  have hbus : ∀ b : BusSt, b.deferred = [] → b.held = [] → { b with held := [], deferred := [] } = b := by rintro ⟨⟩ rfl rfl; rfl
  have hu : s.unhold = s := by
    unfold State.unhold
    simp only [hh, hd, List.filter_nil, List.foldl_nil, hbus s.bus hd hh]
  rw [State.serveDeferred, hu, hd, List.foldl_nil]

theorem accsFinal_of_none {s : State} (h : s.host.accs = []) : s.accsFinal = s := by
  unfold State.accsFinal
  simp only [h, List.filter_nil, List.foldl_nil]
  rw [← h]

theorem accsTick_of_none {s : State} (h : s.host.accs = []) : s.accsTick = s := by
  unfold State.accsTick
  simp only [accsFinal_of_none h, h, List.filter_nil, List.foldl_nil]

theorem sextAuto_of_not_due {s : State} (h : s.sys.sextDue = false) : s.sextAuto = s := by simp [State.sextAuto, h]

/-- With no access waiting, a tick is the advance of CT64 and work on the wires. -/
theorem tick_of_no_access {s : State} (hd : s.bus.deferred = []) (hh : s.bus.held = []) (ha : s.host.accs = []) (hx : s.sys.sextDue = false) :
    WireWork s.advance s.tick := by
  unfold State.tick
  extract_lets t _ u
  have hu : WireWork t u := .ite ⟨_, _, _, _, _, rfl⟩ (.refl t)
  have hw : WireWork t u.refreshEnds.ringPump.oclPump :=
    (((hu.trans (refreshEnds_wireWork u)).trans (pumpPort_wireWork _ _)).trans (pumpPort_wireWork _ _)).trans
      (.fold (fun s (e : Nat × OclLane) => lanePump_wireWork s e.1) _ _)
  obtain ⟨_, _, _, _, _, he⟩ := hw
  obtain ⟨_, _, ht⟩ := advance_frame s
  have hserve : u.refreshEnds.ringPump.oclPump.serveDeferred = u.refreshEnds.ringPump.oclPump :=
    serveDeferred_of_none (by rw [he, ← hd]; simp only [t, ht]) (by rw [he, ← hh]; simp only [t, ht])
  have haccs : u.refreshEnds.ringPump.oclPump.accsTick = u.refreshEnds.ringPump.oclPump :=
    accsTick_of_none (by rw [he, ← ha]; simp only [t, ht])
  rw [hserve, haccs, sextAuto_of_not_due (by rw [he, ← hx]; simp only [t, ht])]
  exact ⟨_, _, _, _, _, he⟩

/-- Settles O51, by `advance_time`: with no access waiting the rest of a tick is work on the wires. -/
theorem tickAddsSixteenPlusTheTrim : Obligations.TickAddsSixteenPlusTheTrim := by
  intro s hq hd hh ha hx _
  obtain ⟨_, _, _, _, _, he⟩ := tick_of_no_access hd hh ha hx
  refine ⟨s.tick, by rw [step, hq], ?_, ?_, ?_, ?_⟩
  · rw [he]; exact advance_time s
  · rw [he]; exact advance_frac_lt s
  · rw [he]; exact showCt_reg64 _
  · rw [he]; rfl

end Sys2Proof.Machine

/-! ## O12: writes of the time and engine settings -/
namespace Sys2Proof.Machine
open Sys2Proof.Stmt

/-! ### What setting a flag and raising its source leaves alone -/

theorem not_moved {a : Nat} (h : a < 0x16000000)
    (hs : a ∉ [R.SYS_STATE, R.RING_STAT, R.RING_GQ, R.ENG_STAT, R.TWIN_STAT, R.ALM_SWAP, R.ALM_MODE, R.ALM_STAT]) : ¬ Moved a := by
  simp only [List.mem_cons, List.not_mem_nil, or_false, not_or] at hs
  obtain ⟨h1, h2, h3, h4, h5, h6, h7, h8⟩ := hs
  simp only [Moved, not_or]
  exact ⟨by omega, h1, h2, h3, h4, h5, h6, h7, h8⟩

theorem raise_chrono (s : State) (q : Src) (a : Acc) : (s.raise q a).chrono = s.chrono := (raise_but_faults s q a).choose_spec.chrono
theorem raise_log (s : State) (q : Src) (a : Acc) : (s.raise q a).log = s.log := (raise_but_faults s q a).choose_spec.log

theorem faultNew_reg (s : State) {f : Fld} (q : Src) (x : Acc) {a : Nat} (hf : a ≠ f.addr) (h : ¬ Moved a) :
    (s.faultNew f q x).reg a = s.reg a := by
  unfold State.faultNew
  split
  · rfl
  · rw [raise_reg _ _ _ h, reg_flag_ne _ _ hf]

theorem faultNew_chrono (s : State) (f : Fld) (q : Src) (x : Acc) : (s.faultNew f q x).chrono = s.chrono := by
  unfold State.faultNew
  split
  · rfl
  · rw [raise_chrono, flag_chrono]

theorem faultNew_log (s : State) (f : Fld) (q : Src) (x : Acc) : (s.faultNew f q x).log = s.log := by
  unfold State.faultNew
  split
  · rfl
  · rw [raise_log, flag_log]

/-! ### Fields of one bit -/

theorem fldOf_bit {f : Fld} (hw : f.width = 1) (v : Word) : fldOf f v = b2n (v.getLsbD f.lo) := by
  have h0 : (fldOf f v).testBit 0 = v.getLsbD f.lo := by rw [fldOf_testBit, hw]; simp
  have hlt : fldOf f v < 2 ^ 1 := hw ▸ Nat.mod_lt _ (Nat.two_pow_pos _)
  rw [← h0, Nat.testBit_zero]
  unfold b2n
  split <;> simp_all <;> omega

/-! ### A write that is served at once -/

/-- A register that no rule of the engine memories, the Log memory or the 64-bit quantities concerns: its write goes to its block. -/
def plainReg (a : Nat) : Bool :=
  a / 4 * 4 == a && !isVdm a && !isSdm a && !isLogMem a && !isWideWrite a && !isWideWrite (a - 4)

/-- A write that is served at once acts on the state in which its resource is noted as served. -/
theorem busWrite_served {s : State} {m : Master} {a : Nat} {v : Word} (h : ServedNow s m true a v) :
    busWrite m a v s = .next (settle s (((s.served (claimKey a) m).writeAt m a v).answered ⟨m, true, a, v, s.now⟩ 0)) := by
  obtain ⟨hOpen, hWin, hReach, -, hHold, hDef, hBy, -, hHost, hDbg⟩ := h
  rw [busWrite, access_served s m true a v hOpen hWin hReach hHold hDef hBy hHost hDbg, State.serveBy, if_pos rfl]

theorem served_analogServes (s : State) (k : Nat) (m : Master) (a : Nat) : (s.served k m).analogServes a = s.analogServes a := by
  rw [State.analogServes, served_sys, State.analogServes]

section
variable {i : Instr} {s : State} {m : Master} {a : Nat} {v : Word} {P : State → State → Prop}

/-- A write of a register whose block leaves the host port alone takes the state to what the block makes of it. -/
theorem writes_of_quiet (hi : exec i s = busWrite m a v s) (hr : plainReg a = true)
    (h : ∀ b : State, b.regs = s.regs → (b.blockWrite m a v).host = b.host ∧ P b (b.blockWrite m a v)) : Writes i s m a v P := by
  intro hs
  obtain ⟨-, -, -, hA, -, -, -, hWait, -, -⟩ := id hs
  simp only [plainReg, Bool.and_eq_true, beq_iff_eq, Bool.not_eq_true'] at hr
  obtain ⟨⟨⟨⟨⟨h4, hV⟩, hS⟩, hL⟩, hW⟩, hW'⟩ := hr
  obtain ⟨hhost, hP⟩ := h (s.served (claimKey a) m) (served_regs ..)
  refine ⟨_, hi.trans (busWrite_served hs), ?_⟩
  rw [writeAt_block _ m a v h4 hV hS hL ((served_analogServes ..).trans hA) hW hW',
    answered_eq _ _ _ (by rw [hhost, served_host]; exact hWait)]
  exact hP

/-- A write of a register whose block may finish commands: what the property says holds whatever becomes of the host port. -/
theorem writes_of_block (hi : exec i s = busWrite m a v s) (hr : plainReg a = true)
    (h : ∀ b : State, b.regs = s.regs → ∀ host, P b { b.blockWrite m a v with host }) : Writes i s m a v P := by
  intro hs
  obtain ⟨-, -, -, hA, -⟩ := id hs
  simp only [plainReg, Bool.and_eq_true, beq_iff_eq, Bool.not_eq_true'] at hr
  obtain ⟨⟨⟨⟨⟨h4, hV⟩, hS⟩, hL⟩, hW⟩, hW'⟩ := hr
  refine ⟨_, hi.trans (busWrite_served hs), ?_⟩
  rw [writeAt_block _ m a v h4 hV hS hL ((served_analogServes ..).trans hA) hW hW']
  exact h _ (served_regs ..) _

/-- The same where the property reads registers alone. -/
theorem writes_of_blockRegs (hi : exec i s = busWrite m a v s) (hr : plainReg a = true)
    (h : ∀ b t : State, b.regs = s.regs → t.regs = (b.blockWrite m a v).regs → P b t) : Writes i s m a v P :=
  writes_of_block hi hr fun b hb _ => h b _ hb rfl

end

/-- The high word of a 64-bit quantity whose low word its master holds: the low word is written first (00 R17). -/
theorem writeAt_high {s : State} {m : Master} {a : Nat} {v lo : Word} (h4 : a / 4 * 4 = a) (hV : isVdm a = false) (hS : isSdm a = false)
    (hL : isLogMem a = false) (hA : s.analogServes a = true) (hW : isWideWrite a = false) (hW' : isWideWrite (a - 4) = true)
    (hlo : spGet none s.bus.lows (busKey m (a - 4)) = some lo) :
    s.writeAt m a v = (({ s with bus := { s.bus with lows := spDel s.bus.lows (busKey m (a - 4)) } }).blockWrite m (a - 4) lo).blockWrite m a v := by
  unfold State.writeAt State.wideWrite
  simp [h4, hV, hS, hL, hA, hW, hW', hlo]

/-! ### The blocks -/

theorem blockWrite_CHRONO (s : State) (m : Master) {a : Nat} (v : Word) (hf : fltBlockAt a = none) (h : a / 0x10000 = 0x1004) :
    s.blockWrite m a v = s.writeCHRONO m a v := by simp only [State.blockWrite, hf, h]

theorem blockWrite_SEXT (s : State) (m : Master) {a : Nat} (v : Word) (hf : fltBlockAt a = none) (h : a / 0x10000 = 0x1005) :
    s.blockWrite m a v = if budgetRegs.contains a then (s.writeSEXT m a v).setBudget else s.writeSEXT m a v := by
  simp only [State.blockWrite, hf, h]

theorem blockWrite_ENG (s : State) (m : Master) {a : Nat} (v : Word) (hf : fltBlockAt a = none) (h : a / 0x10000 = 0x1010) :
    s.blockWrite m a v = s.writeENG m a v := by simp only [State.blockWrite, hf, h]

/-- A write by access codes changes the register file alone. -/
theorem plainWrite_onlyRegs (s : State) (a : Nat) (v : Word) : OnlyRegs s (s.plainWrite a v) [a] := by
  refine ⟨?_, fun b hb => plainWrite_reg_ne s v (by simpa using hb)⟩
  unfold State.plainWrite
  split
  · exact ⟨_, rfl⟩
  · exact ⟨_, rfl⟩

/-- A register all of whose bits are RW takes the word. -/
theorem plainWrite_of_rw (s : State) {a : Nat} (v : Word) {row : RegRow} (h : regRowAt a = some row) (hrw : row.rw = BitVec.allOnes 32) :
    s.plainWrite a v = s.setReg a v := by
  have hv : s.wouldBe a v = v := by
    simp only [State.wouldBe, h, writtenBy, hrw, BitVec.not_allOnes, BitVec.and_zero, BitVec.zero_and, BitVec.and_allOnes, BitVec.zero_or]
  simp only [State.plainWrite, h, hv]

/-! ### CHRONO -/

theorem writeCHRONO_SET_LO {s : State} (m : Master) (v : Word) (h : s.on F.SEXT_CTRL_EN = false) :
    s.writeCHRONO m R.CHRONO_SET_LO v = s.setReg R.CHRONO_SET_LO v := by simp [State.writeCHRONO, h]

theorem writeCHRONO_SET_HI (s : State) (m : Master) (v : Word) : s.writeCHRONO m R.CHRONO_SET_HI v = s.chronoLoad m v := by
  simp [State.writeCHRONO]

theorem writeCHRONO_TRIM (s : State) (m : Master) (v : Word) : s.writeCHRONO m R.CHRONO_TRIM v = s.trimWrite m v := by
  simp [State.writeCHRONO]

/-- An accepted load: CT64 takes the two words and shows them, its fraction is 0 and STEPPED is set. -/
theorem chronoLoad_of_stopped {s : State} (m : Master) (v : Word) (h : s.on F.SEXT_CTRL_EN = false) :
    (s.chronoLoad m v).chrono.ct = v ++ s.reg R.CHRONO_SET_LO ∧ (s.chronoLoad m v).chrono.frac = 0 ∧
      (s.chronoLoad m v).on F.CHRONO_STAT_STEPPED = true ∧ (s.chronoLoad m v).reg64 R.CHRONO_NOW_LO = (v ++ s.reg R.CHRONO_SET_LO).toNat := by
  have hct : ∀ lo : Word, BitVec.ofNat 64 (lo.toNat + 2 ^ 32 * v.toNat) = v ++ lo := by
    intro lo
    apply BitVec.eq_of_toNat_eq
    rw [BitVec.toNat_ofNat, BitVec.toNat_append, Nat.shiftLeft_eq, Nat.mul_comm v.toNat, ← Nat.two_pow_add_eq_or_of_lt lo.isLt]
    omega
  have hload : (s.setReg R.CHRONO_SET_HI v).reg64 R.CHRONO_SET_LO = (s.reg R.CHRONO_SET_LO).toNat + 2 ^ 32 * v.toNat := by
    rw [State.reg64, State.regN, State.regN, reg_setReg_ne _ (by decide), reg_setReg_self]
  unfold State.chronoLoad
  rw [if_neg (by simp [h])]
  simp only [hload, State.setCt, hct]
  refine ⟨?_, ?_, ?_, ?_⟩
  · rw [flag_chrono]; rfl
  · rw [flag_chrono]; rfl
  · rw [State.on, get_flag_self _ _ (by decide) (by decide)]; rfl
  · have hne : ∀ (t : State) (a : Nat), a ≠ R.CHRONO_STAT → (t.flag F.CHRONO_STAT_STEPPED).regN a = t.regN a :=
      fun t a ha => congrArg BitVec.toNat (reg_flag_ne t _ ha)
    rw [State.reg64, hne _ _ (by decide), hne _ _ (by decide)]
    exact showCt_reg64 _

theorem trimWrite_of_servo {s : State} (m : Master) (v : Word) (h : s.on F.CHRONO_CTRL_SERVO = true) : s.trimWrite m v = s := by
  simp [State.trimWrite, h]

/-- Without the servo the trim takes the value, limited to ±500 ppm. -/
theorem trimWrite_reg {s : State} (m : Master) (v : Word) (h : s.on F.CHRONO_CTRL_SERVO = false) :
    (s.trimWrite m v).reg R.CHRONO_TRIM = BitVec.ofInt 32 (max (-34359738) (min 34359738 v.toInt)) := by
  unfold State.trimWrite
  rw [if_neg (by simp [h])]
  extract_lets t u
  have hu : u.reg R.CHRONO_TRIM = BitVec.ofInt 32 (max (-34359738) (min 34359738 v.toInt)) := by
    rw [← clampInt_eq _ _ _ (by norm_num)]
    exact reg_setReg_self ..
  split
  · rw [faultNew_reg _ _ _ (by decide) (not_moved (by decide) (by decide)), hu]
  · exact hu

/-! ### SEXT -/

theorem on_congr {s t : State} (h : s.regs = t.regs) (f : Fld) : s.on f = t.on f := by rw [State.on, get_congr h, State.on]
theorem dev_congr {s t : State} (h : s.regs = t.regs) : s.dev = t.dev := get_congr h _
theorem regN_congr {s t : State} (h : s.regs = t.regs) (a : Nat) : s.regN a = t.regN a := congrArg BitVec.toNat (reg_congr h a)

/-- The start of the grid reads N, the limits and the times; SEXT_CTRL is none of them. -/
def GridParams (s t : State) : Prop := ∀ a, a ≠ R.SEXT_CTRL → t.reg a = s.reg a

namespace GridParams

variable {s t : State} (h : GridParams s t)
include h

theorem get {f : Fld} (hf : f.addr ≠ R.SEXT_CTRL) : t.get f = s.get f := congrArg (fldOf f) (h _ hf)
theorem regN {a : Nat} (ha : a ≠ R.SEXT_CTRL) : t.regN a = s.regN a := congrArg BitVec.toNat (h a ha)
theorem dev : t.dev = s.dev := h.get (by decide)
theorem sxN : t.sxN = s.sxN := h.get (by decide)
theorem fNom : t.fNom = s.fNom := by rw [State.fNom, h.regN (by decide), State.fNom]

theorem mayStart : t.sxMayStart = s.sxMayStart := by
  unfold State.sxMayStart State.fMin State.fMax
  rw [h.sxN, h.fNom, h.get (f := F.SEXT_FLIM_F_MIN) (by decide), h.get (f := F.SEXT_FLIM_F_MAX) (by decide),
    h.get (f := F.ENG_TIMING_T_START) (by decide), h.get (f := F.ENG_TIMING_T_LEAD) (by decide), h.regN (a := R.SEXT_DMIN) (by decide)]

theorem dNom (f : Rat) : t.dNom f = s.dNom f := by rw [State.dNom, h.sxN, State.dNom]

end GridParams

/-- SEXT_CTRL with the SRC and CONN of a written word, before EN is judged. -/
def State.sxSources (s : State) (v : Word) : State :=
  (s.set F.SEXT_CTRL_SRC (fldOf F.SEXT_CTRL_SRC v)).set F.SEXT_CTRL_CONN (fldOf F.SEXT_CTRL_CONN v)

theorem sxSources_params (s : State) (v : Word) : GridParams s (s.sxSources v) := fun _ ha => (reg_set_ne _ _ ha _).trans (reg_set_ne _ _ ha _)

theorem sxSources_en (s : State) (v : Word) : (s.sxSources v).on F.SEXT_CTRL_EN = s.on F.SEXT_CTRL_EN := by
  rw [State.on, State.sxSources, get_set_disjoint _ _ _ _ (by decide), get_set_disjoint _ _ _ _ (by decide), State.on]

theorem writeSEXT_CTRL (s : State) (m : Master) (v : Word) : s.writeSEXT m R.SEXT_CTRL v = s.sxCtrl m v := by simp [State.writeSEXT]

/-- The device states in which EN may change (R71). -/
def sextStates (d : Nat) : Bool := d == stCONFIG || d == stDEFAULT || d == stLINKS

theorem sextStates_of {d : Nat} (h : d = stCONFIG ∨ d = stDEFAULT ∨ d = stLINKS) : sextStates d = true := by
  rcases h with rfl | rfl | rfl <;> rfl

/-- A write of SEXT_CTRL, by the EN that is asked for (R71). -/
theorem sxCtrl_eq (s : State) (m : Master) (v : Word) : s.sxCtrl m v =
    if v.getLsbD 0 = s.on F.SEXT_CTRL_EN then s.sxSources v
    else if !sextStates s.dev || v.getLsbD 0 && !s.sxMayStart then (s.sxSources v).sxReject m R.SEXT_CTRL
    else if v.getLsbD 0 = true then ((s.sxSources v).set F.SEXT_CTRL_EN 1).sxStart
    else ((s.sxSources v).set F.SEXT_CTRL_EN 0).sxStop := by
  have hf : (fldOf F.SEXT_CTRL_EN v == 1) = v.getLsbD 0 := by
    rw [fldOf_bit (f := F.SEXT_CTRL_EN) rfl]
    change (b2n (v.getLsbD 0) == 1) = v.getLsbD 0
    cases v.getLsbD 0 <;> rfl
  rw [← sxSources_en s v, ← (sxSources_params s v).dev, ← (sxSources_params s v).mayStart, ← hf]
  rfl

theorem sxCtrl_start {s : State} (m : Master) {v : Word} (hv : v.getLsbD 0 = true) (hen : s.on F.SEXT_CTRL_EN = false)
    (hdev : s.dev = stCONFIG ∨ s.dev = stDEFAULT ∨ s.dev = stLINKS) (hmay : s.sxMayStart = true) :
    s.sxCtrl m v = ((s.sxSources v).set F.SEXT_CTRL_EN 1).sxStart := by
  simp [sxCtrl_eq, hv, hen, sextStates_of hdev, hmay]

theorem sxCtrl_stop {s : State} (m : Master) {v : Word} (hv : v.getLsbD 0 = false) (hen : s.on F.SEXT_CTRL_EN = true)
    (hdev : s.dev = stCONFIG ∨ s.dev = stDEFAULT ∨ s.dev = stLINKS) : s.sxCtrl m v = ((s.sxSources v).set F.SEXT_CTRL_EN 0).sxStop := by
  rw [sxCtrl_eq, hv, hen, sextStates_of hdev]
  rfl

/-- Starting or stopping the channels' grids changes the modulation state alone. -/
theorem modGridReset_frame (s : State) : ∃ mod, s.modGridReset = { s with mod } := by
  unfold State.modGridReset
  extract_lets t
  have ht : ∀ (f : State → Nat × ChSt → ChSt) (l : List (Nat × ChSt)) (u : State),
      ∃ mod, l.foldl (fun u e => u.setChan e.1 (f u e)) u = { u with mod } := by
    intro f l
    induction l with
    | nil => exact fun u => ⟨u.mod, rfl⟩
    | cons e l ih =>
      intro u
      obtain ⟨_, h⟩ := ih (u.setChan e.1 (f u e))
      exact ⟨_, h⟩
  obtain ⟨_, h⟩ := ht _ s.mod.ch s
  exact ⟨_, by rw [show t = _ from h]⟩

theorem modGridReset_regs (s : State) : s.modGridReset.regs = s.regs := by obtain ⟨_, h⟩ := modGridReset_frame s; rw [h]
theorem modGridReset_sext (s : State) : s.modGridReset.sext = s.sext := by obtain ⟨_, h⟩ := modGridReset_frame s; rw [h]
theorem modGridReset_reg (s : State) (a : Nat) : s.modGridReset.reg a = s.reg a := reg_congr (modGridReset_regs s) a
theorem modGridReset_get (s : State) (f : Fld) : s.modGridReset.get f = s.get f := get_congr (modGridReset_regs s) f

/-! ### The start and the stop of the grid -/

theorem setSx_get_state (s : State) {st : Nat} (h : st < 8) : (s.setSx st).get F.SEXT_STAT_STATE = st := by
  change ((((s.set F.SEXT_STAT_STATE st).setB F.SEXT_STAT_LOCK _).setB F.SEXT_STAT_COAST _).get F.SEXT_STAT_STATE) = st
  rw [State.setB, State.setB, get_set_disjoint _ _ _ _ (by decide), get_set_disjoint _ _ _ _ (by decide), get_set_self _ _ _ (by decide)]
  exact Nat.mod_eq_of_lt h

/-- Entering a state of the Sextant writes SEXT_STAT alone. -/
theorem setSx_reg (s : State) (st : Nat) {a : Nat} (h : a ≠ R.SEXT_STAT) : (s.setSx st).reg a = s.reg a := by
  change (((s.set F.SEXT_STAT_STATE st).setB F.SEXT_STAT_LOCK _).setB F.SEXT_STAT_COAST _).reg a = s.reg a
  rw [State.setB, State.setB, reg_set_ne _ _ h, reg_set_ne _ _ h, reg_set_ne _ _ h]

/-- The Sextant's state beside its registers, replaced. -/
def State.withSext (s : State) (x : SextSt) : State := { s with sext := x }

theorem withSext_reg (s : State) (x : SextSt) (a : Nat) : (s.withSext x).reg a = s.reg a := rfl
theorem withSext_get (s : State) (x : SextSt) (f : Fld) : (s.withSext x).get f = s.get f := rfl

/-- The start of the grid (R76): no period has begun, the first end lies within the bounds, and the registers show it. -/
theorem sxStart_eq (s : State) : ∃ x : SextSt, x.begun = false ∧ x.comm = false ∧
    x.b1 = ctAdd x.b0 (clampInt (s.regN R.SEXT_DMIN) (s.regN R.SEXT_DMAX) (s.dNom s.fNom)) ∧
    s.sxStart = (((((s.setSx sxSEEK).withSext x).setReg64 R.SEXT_B1_LO x.b1).setReg R.SEXT_PIDX 0).setReg R.SEXT_LOCKCNT 0).modGridReset := by
  unfold State.sxStart
  extract_lets f b0 d t u w
  have hu : (s.setSx sxSEEK).withSext u.sext = u := rfl
  refine ⟨u.sext, rfl, rfl, rfl, ?_⟩
  rw [hu]

theorem sxStart_sext (s : State) : s.sxStart.sext.begun = false ∧ s.sxStart.sext.comm = false ∧
    s.sxStart.sext.b1 = ctAdd s.sxStart.sext.b0 (clampInt (s.regN R.SEXT_DMIN) (s.regN R.SEXT_DMAX) (s.dNom s.fNom)) := by
  obtain ⟨x, hb, hc, h1, he⟩ := sxStart_eq s
  rw [he, modGridReset_sext]
  exact ⟨hb, hc, h1⟩

/-- The start of the grid leaves every register but SEXT_STAT, B1, PIDX and LOCKCNT. -/
theorem sxStart_reg (s : State) {a : Nat} (h : a ∉ [R.SEXT_STAT, R.SEXT_B1_LO, R.SEXT_B1_HI, R.SEXT_PIDX, R.SEXT_LOCKCNT]) :
    s.sxStart.reg a = s.reg a := by
  simp only [List.mem_cons, List.not_mem_nil, or_false, not_or] at h
  obtain ⟨hst, hlo, hhi, hp, hl⟩ := h
  obtain ⟨x, -, -, -, he⟩ := sxStart_eq s
  rw [he, modGridReset_reg, reg_setReg_ne _ hl, reg_setReg_ne _ hp, State.setReg64, reg_setRegN_ne _ hhi, reg_setRegN_ne _ hlo,
    withSext_reg, setSx_reg _ _ hst]

theorem sxStart_state (s : State) : s.sxStart.get F.SEXT_STAT_STATE = 1 := by
  obtain ⟨x, -, -, -, he⟩ := sxStart_eq s
  rw [he, modGridReset_get, get_setReg_ne _ _ _ _ (by decide), get_setReg_ne _ _ _ _ (by decide), State.setReg64, State.setRegN, State.setRegN,
    get_setReg_ne _ _ _ _ (by decide), get_setReg_ne _ _ _ _ (by decide), withSext_get, setSx_get_state _ (by decide)]
  rfl

/-- The stop of the grid (R70). -/
theorem sxStop_eq (s : State) : ∃ x : SextSt, x.begun = false ∧ x.comm = false ∧
    s.sxStop = ((s.setSx sxOFF).withSext x).modGridReset := by
  unfold State.sxStop
  extract_lets t
  exact ⟨{ t.sext with begun := false, comm := false }, rfl, rfl, rfl⟩

theorem sxStop_sext (s : State) : s.sxStop.sext.begun = false ∧ s.sxStop.sext.comm = false := by
  obtain ⟨x, hb, hc, he⟩ := sxStop_eq s
  rw [he, modGridReset_sext]
  exact ⟨hb, hc⟩

theorem sxStop_state (s : State) : s.sxStop.get F.SEXT_STAT_STATE = 0 ∧ s.sxStop.on F.SEXT_STAT_LOCK = false := by
  obtain ⟨x, -, -, he⟩ := sxStop_eq s
  rw [State.on, he, modGridReset_get, modGridReset_get, withSext_get, withSext_get]
  refine ⟨setSx_get_state s (by decide), ?_⟩
  change (((s.set F.SEXT_STAT_STATE sxOFF).set F.SEXT_STAT_LOCK 0).set F.SEXT_STAT_COAST 0).on F.SEXT_STAT_LOCK = false
  rw [on_set_ne _ _ (by decide), on_set_zero _ _ (by decide)]

theorem sxStop_reg (s : State) {a : Nat} (h : a ≠ R.SEXT_STAT) : s.sxStop.reg a = s.reg a := by
  obtain ⟨x, -, -, he⟩ := sxStop_eq s
  rw [he, modGridReset_reg, withSext_reg, setSx_reg _ _ h]

/-! ### N -/

theorem setBudget_reg (s : State) {a : Nat} (h : a ∉ [R.ENG_BUDGET, R.ENG_LIMIT, R.ENG_STAT]) (hm : ¬ Moved a) :
    s.setBudget.reg a = s.reg a := by
  simp only [List.mem_cons, List.not_mem_nil, or_false, not_or] at h
  obtain ⟨hb, hl, hs⟩ := h
  unfold State.setBudget
  split
  extract_lets old t
  have ht : t.reg a = s.reg a := (reg_setRegN_ne _ hl _).trans (reg_setRegN_ne _ hb _)
  clear_value t
  split
  · exact ht
  · split
    · exact ht
    · rw [faultNew_reg _ _ _ hs hm]; exact ht

theorem writeSEXT_N {s : State} (m : Master) {v : Word} (hen : s.on F.SEXT_CTRL_EN = false) (hv : 0 < v.toNat % 2 ^ 11) :
    s.writeSEXT m R.SEXT_N v = (s.plainWrite R.SEXT_N v).setBounds := by
  have hn : fldOf F.SEXT_N_N v ≠ 0 := by
    change v.toNat / 2 ^ 0 % 2 ^ 11 ≠ 0
    omega
  have hbad : s.sxBad R.SEXT_N v = false := by simp [State.sxBad, hen, hn]
  simp [State.writeSEXT, hbad]

/-- D_MIN follows N and SEXT_FLIM (R78). -/
theorem setBounds_dmin (s : State) : s.setBounds.regN R.SEXT_DMIN =
    if s.sxN * s.get F.SEXT_FLIM_F_MAX = 0 then 0xFFFFFFFF
    else min 0xFFFFFFFF ((256 * ctSecond + s.sxN * s.get F.SEXT_FLIM_F_MAX - 1) / (s.sxN * s.get F.SEXT_FLIM_F_MAX)) := by
  unfold State.setBounds
  extract_lets n fx fn sat dmin dmax
  have hlt : dmin < 2 ^ 32 := by
    unfold dmin sat
    split <;> omega
  have hreg : ((s.setRegN R.SEXT_DMIN dmin).setRegN R.SEXT_DMAX dmax).regN R.SEXT_DMIN = dmin := by
    rw [State.regN, reg_setRegN_ne _ (by decide), reg_setRegN_self, BitVec.toNat_ofNat, Nat.mod_eq_of_lt hlt]
  rw [hreg]
  unfold dmin sat
  rw [Nat.min_comm]

theorem setBounds_reg (s : State) {a : Nat} (h1 : a ≠ R.SEXT_DMIN) (h2 : a ≠ R.SEXT_DMAX) : s.setBounds.reg a = s.reg a :=
  (reg_setRegN_ne _ h2 _).trans (reg_setRegN_ne _ h1 _)

/-! ### Fields that take the written value -/

theorem plainWrite_SEXT_N_get (s : State) (v : Word) : (s.plainWrite R.SEXT_N v).get F.SEXT_N_N = v.toNat % 2 ^ 11 :=
  (plainWrite_get s F.SEXT_N_N v (row := ⟨R.SEXT_N, 0, 1, 0x3E8, 0x7FF, 0, 0, 0⟩) (by rfl) (by decide)).trans (by simp [fldOf, F.SEXT_N_N])

theorem plainWrite_SPAGE_V_get (s : State) {g : Fld} (v : Word) (hg : g ∈ [F.ENG_SPAGE_V_BASE, F.ENG_SPAGE_V_NROWS]) :
    (s.plainWrite R.ENG_SPAGE_V v).get g = fldOf g v := by
  simp only [List.mem_cons, List.not_mem_nil, or_false] at hg
  rcases hg with rfl | rfl
  · exact plainWrite_get s F.ENG_SPAGE_V_BASE v (row := ⟨R.ENG_SPAGE_V, 0, 1, 0, 0x7FF00FF, 0, 0, 0⟩) (by rfl) (by decide)
  · exact plainWrite_get s F.ENG_SPAGE_V_NROWS v (row := ⟨R.ENG_SPAGE_V, 0, 1, 0, 0x7FF00FF, 0, 0, 0⟩) (by rfl) (by decide)

theorem plainWrite_SPAGE_S_get (s : State) {g : Fld} (v : Word) (hg : g ∈ [F.ENG_SPAGE_S_BASE, F.ENG_SPAGE_S_NWORDS]) :
    (s.plainWrite R.ENG_SPAGE_S v).get g = fldOf g v := by
  simp only [List.mem_cons, List.not_mem_nil, or_false] at hg
  rcases hg with rfl | rfl
  · exact plainWrite_get s F.ENG_SPAGE_S_BASE v (row := ⟨R.ENG_SPAGE_S, 0, 1, 0, 0x3FFF07FF, 0, 0, 0⟩) (by rfl) (by decide)
  · exact plainWrite_get s F.ENG_SPAGE_S_NWORDS v (row := ⟨R.ENG_SPAGE_S, 0, 1, 0, 0x3FFF07FF, 0, 0, 0⟩) (by rfl) (by decide)

theorem plainWrite_ENG_CTRL_en (s : State) (v : Word) : (s.plainWrite R.ENG_CTRL v).on F.ENG_CTRL_EN = v.getLsbD 0 := by
  have hg : (s.plainWrite R.ENG_CTRL v).get F.ENG_CTRL_EN = b2n (v.getLsbD 0) :=
    (plainWrite_get s F.ENG_CTRL_EN v (row := ⟨R.ENG_CTRL, 0, 1, 0x1002, 0xFF03, 0, 0, 0⟩) (by rfl) (by decide)).trans (fldOf_bit rfl v)
  rw [State.on, hg]
  cases v.getLsbD 0 <;> rfl


theorem setBounds_dmin_after_N (s : State) (v : Word) : (s.plainWrite R.SEXT_N v).setBounds.regN R.SEXT_DMIN =
    (let x := v.toNat % 2 ^ 11 * s.get F.SEXT_FLIM_F_MAX
      if x = 0 then 0xFFFFFFFF else min 0xFFFFFFFF ((256 * ctSecond + x - 1) / x)) := by
  have hn : (s.plainWrite R.SEXT_N v).sxN = v.toNat % 2 ^ 11 := by
    rw [State.sxN, plainWrite_SEXT_N_get]
  rw [setBounds_dmin, hn, plainWrite_get_ne _ _ _ (by decide)]

theorem writeSEXT_FNOM {s : State} (m : Master) {v : Word} (hen : s.on F.SEXT_CTRL_EN = false) :
    s.writeSEXT m R.SEXT_FNOM v = s.setReg R.SEXT_FNOM v := by
  have hbad : s.sxBad R.SEXT_FNOM v = false := by simp [State.sxBad, hen]
  have hw : s.plainWrite R.SEXT_FNOM v = s.setReg R.SEXT_FNOM v := plainWrite_of_rw _ _ (by rfl) (by rfl)
  simp [State.writeSEXT, hbad, hw]

/-! ### ENG -/

/-- The times are taken while the Sextant is disabled and within their ranges (R140). -/
theorem timingOk_iff (s : State) (v : Word) : s.timingOk v = true ↔ s.on F.SEXT_CTRL_EN = false ∧
    (200 ≤ fldOf F.ENG_TIMING_T_LEAD v ∧ fldOf F.ENG_TIMING_T_LEAD v ≤ 1000) ∧
    (200 ≤ fldOf F.ENG_TIMING_T_START v ∧ fldOf F.ENG_TIMING_T_START v ≤ 2000) := by
  simp only [State.timingOk, outside, Bool.and_eq_true, Bool.not_eq_true', Bool.or_eq_false_iff, decide_eq_false_iff_not, not_lt, and_assoc]

theorem mfit_reg (s : State) {a : Nat} (h : a ≠ R.TWIN_MFIT) : s.mfit.reg a = s.reg a :=
  (reg_set_ne _ _ h _).trans (reg_set_ne _ _ h _)

theorem domCheck_reg (s : State) {a : Nat} (h : a ≠ R.RING_DOMCHK) (hs : a ≠ R.RING_STAT) (hm : ¬ Moved a) : s.domCheck.reg a = s.reg a := by
  unfold State.domCheck
  split
  · exact reg_setRegN_ne _ h _
  · extract_lets x t
    split
    all_goals
      extract_lets pass u
      have hu : u.reg a = s.reg a := (reg_set_ne _ _ h _).trans ((reg_set_ne _ _ h _).trans (reg_set_ne _ _ h _))
      clear_value u
      split
      · exact hu
      · rw [faultNew_reg _ _ _ hs hm, hu]

theorem writeENG_TIMING_of_ok {s : State} (m : Master) {v : Word} (h : s.timingOk v = true) :
    (s.writeENG m R.ENG_TIMING v).reg R.ENG_TIMING = v := by
  have he : s.writeENG m R.ENG_TIMING v = (s.plainWrite R.ENG_TIMING v).setBudget.mfit.domCheck := by
    simp only [State.writeENG, h, if_true]
  rw [he, domCheck_reg _ (by decide) (by decide) (not_moved (by decide) (by decide)), mfit_reg _ (by decide),
    setBudget_reg _ (by decide) (not_moved (by decide) (by decide)), plainWrite_of_rw _ _ (by rfl) (by rfl), reg_setReg_self]

theorem writeENG_TIMING_of_bad {s : State} (m : Master) {v : Word} (h : s.timingOk v = false) :
    (s.writeENG m R.ENG_TIMING v).reg R.ENG_TIMING = s.reg R.ENG_TIMING := by
  have he : s.writeENG m R.ENG_TIMING v = s.faultNew F.ENG_STAT_CFGREJ Q.ENG_CFGREJ (wr m R.ENG_TIMING) := by simp [State.writeENG, h]
  rw [he, faultNew_reg _ _ _ (by decide) (not_moved (by decide) (by decide))]

theorem writeENG_SPAGE_V {s : State} (m : Master) {v : Word} (hst : s.get F.ENG_STAT_ESTATE = 0) (hok : s.spageVOk v = true) :
    s.writeENG m R.ENG_SPAGE_V v =
      let t := s.plainWrite R.ENG_SPAGE_V v; { t with eng := { t.eng with pV := 0, wV := 0 } } := by
  simp [State.writeENG, hst, hok]

theorem writeENG_SPAGE_S {s : State} (m : Master) {v : Word} (hst : s.get F.ENG_STAT_ESTATE = 0) (hok : spageSOk v = true) :
    s.writeENG m R.ENG_SPAGE_S v =
      let t := s.plainWrite R.ENG_SPAGE_S v; { t with eng := { t.eng with pS := 0, wS := 0 } } := by
  simp [State.writeENG, hst, hok]

theorem writeENG_CTRL (s : State) (m : Master) (v : Word) : s.writeENG m R.ENG_CTRL v = s.plainWrite R.ENG_CTRL v := by
  simp [State.writeENG, show ¬ R.ENG_FLG_SAT_LO ≤ R.ENG_CTRL by decide]

/-! ### The obligation -/

section
variable {s : State} {m : Master} {v : Word}

/-- A load of CT64: the held low word is written, then the high one loads both (R17, R41). -/
theorem writes_CHRONO_SET_HI {P : State → State → Prop} {lo : Word} (hen : s.on F.SEXT_CTRL_EN = false)
    (hlo : spGet none s.bus.lows (busKey m R.CHRONO_SET_LO) = some lo)
    (h : ∀ b t : State, t.on F.SEXT_CTRL_EN = false → t.reg R.CHRONO_SET_LO = lo → ∀ host, P b { t.chronoLoad m v with host }) :
    Writes (.chronoLoad m v) s m R.CHRONO_SET_HI v P := by
  intro hs
  obtain ⟨-, -, -, hA, -⟩ := id hs
  have hlo' : spGet none (s.served (claimKey R.CHRONO_SET_HI) m).bus.lows (busKey m (R.CHRONO_SET_HI - 4)) = some lo := by
    rw [← hlo]
    unfold State.served
    split <;> rfl
  refine ⟨_, (show exec (.chronoLoad m v) s = busWrite m R.CHRONO_SET_HI v s from rfl).trans (busWrite_served hs), ?_⟩
  rw [writeAt_high (by rfl) (by rfl) (by rfl) (by rfl) ((served_analogServes ..).trans hA) (by rfl) (by rfl) hlo']
  generalize hb : ({ s.served (claimKey R.CHRONO_SET_HI) m with bus := _ } : State) = b
  have hregs : s.regs = b.regs := by rw [← hb, ← served_regs s (claimKey R.CHRONO_SET_HI) m]
  have hb_en : b.on F.SEXT_CTRL_EN = false := (on_congr hregs _).symm.trans hen
  rw [blockWrite_CHRONO _ m v (by rfl) (by rfl), writeCHRONO_SET_HI, show R.CHRONO_SET_HI - 4 = R.CHRONO_SET_LO from rfl,
    blockWrite_CHRONO _ m lo (by rfl) (by rfl), writeCHRONO_SET_LO m lo hb_en]
  exact h _ _ (by rw [State.on, get_setReg_ne _ _ _ _ (by decide)]; exact hb_en) (reg_setReg_self ..) _

theorem chronoLoad_takes_words {lo : Word} (hen : s.on F.SEXT_CTRL_EN = false)
    (hlo : spGet none s.bus.lows (busKey m R.CHRONO_SET_LO) = some lo) :
    Writes (.chronoLoad m v) s m R.CHRONO_SET_HI v fun _ t => t.chrono.ct = v ++ lo ∧ t.chrono.frac = 0 ∧
      t.on F.CHRONO_STAT_STEPPED = true ∧ t.reg64 R.CHRONO_NOW_LO = (v ++ lo).toNat := by
  refine writes_CHRONO_SET_HI hen hlo fun b t ht hr _ => ?_
  rw [← hr]
  exact chronoLoad_of_stopped m v ht

theorem chronoTrimWrite_limits (h : s.on F.CHRONO_CTRL_SERVO = false) : Writes (.chronoTrimWrite m v) s m R.CHRONO_TRIM v
    fun _ t => t.reg R.CHRONO_TRIM = BitVec.ofInt 32 (max (-34359738) (min 34359738 v.toInt)) := by
  refine writes_of_block rfl rfl fun b hb _ => ?_
  rw [blockWrite_CHRONO _ m v (by rfl) (by rfl), writeCHRONO_TRIM]
  exact trimWrite_reg m v ((on_congr hb _).trans h)

theorem chronoTrimWrite_ignored (h : s.on F.CHRONO_CTRL_SERVO = true) :
    Writes (.chronoTrimWrite m v) s m R.CHRONO_TRIM v fun b t => t = b := by
  refine writes_of_quiet rfl rfl fun b hb => ?_
  rw [blockWrite_CHRONO _ m v (by rfl) (by rfl), writeCHRONO_TRIM, trimWrite_of_servo m v ((on_congr hb _).trans h)]
  exact ⟨rfl, rfl⟩

theorem sextEnable_starts (hv : v.getLsbD 0 = true) (hen : s.on F.SEXT_CTRL_EN = false)
    (hdev : s.dev = stCONFIG ∨ s.dev = stDEFAULT ∨ s.dev = stLINKS) (hmay : s.sxMayStart = true) :
    Writes (.sextEnable m v) s m R.SEXT_CTRL v fun b t => t.on F.SEXT_CTRL_EN = true ∧ t.get F.SEXT_STAT_STATE = 1 ∧
      t.sext.begun = false ∧ t.sext.comm = false ∧
      t.sext.b1 = ctAdd t.sext.b0 (clampInt (b.regN R.SEXT_DMIN) (b.regN R.SEXT_DMAX) (b.dNom b.fNom)) := by
  refine writes_of_block rfl rfl fun b hb _ => ?_
  have hparams : GridParams s b := fun a _ => reg_congr hb a
  rw [blockWrite_SEXT _ m v (by rfl) (by rfl), if_neg (by decide), writeSEXT_CTRL,
    sxCtrl_start m hv ((on_congr hb _).trans hen) (by rw [dev_congr hb]; exact hdev) (hparams.mayStart.trans hmay)]
  have hset : GridParams b ((b.sxSources v).set F.SEXT_CTRL_EN 1) := fun a ha => (reg_set_ne _ _ ha _).trans (sxSources_params b v a ha)
  obtain ⟨hbegun, hcomm, h1⟩ := sxStart_sext ((b.sxSources v).set F.SEXT_CTRL_EN 1)
  rw [hset.regN (by decide), hset.regN (by decide), hset.fNom, hset.dNom] at h1
  refine ⟨?_, sxStart_state _, hbegun, hcomm, h1⟩
  have hget : ((b.sxSources v).set F.SEXT_CTRL_EN 1).sxStart.get F.SEXT_CTRL_EN = 1 :=
    (congrArg (fldOf F.SEXT_CTRL_EN) (sxStart_reg _ (by decide))).trans (get_set_self _ F.SEXT_CTRL_EN 1 (by decide))
  exact (congrArg (· != 0) hget).trans rfl

theorem sextDisable_stops (hv : v.getLsbD 0 = false) (hen : s.on F.SEXT_CTRL_EN = true)
    (hdev : s.dev = stCONFIG ∨ s.dev = stDEFAULT ∨ s.dev = stLINKS) :
    Writes (.sextDisable m v) s m R.SEXT_CTRL v fun _ t => t.on F.SEXT_CTRL_EN = false ∧ t.get F.SEXT_STAT_STATE = 0 ∧
      t.on F.SEXT_STAT_LOCK = false ∧ t.sext.begun = false ∧ t.sext.comm = false := by
  refine writes_of_block rfl rfl fun b hb _ => ?_
  rw [blockWrite_SEXT _ m v (by rfl) (by rfl), if_neg (by decide), writeSEXT_CTRL,
    sxCtrl_stop m hv ((on_congr hb _).trans hen) (by rw [dev_congr hb]; exact hdev)]
  obtain ⟨hstate, hlock⟩ := sxStop_state ((b.sxSources v).set F.SEXT_CTRL_EN 0)
  have hget : ((b.sxSources v).set F.SEXT_CTRL_EN 0).sxStop.get F.SEXT_CTRL_EN = 0 :=
    (congrArg (fldOf F.SEXT_CTRL_EN) (sxStop_reg _ (by decide))).trans (get_set_self _ F.SEXT_CTRL_EN 0 (by decide))
  exact ⟨(congrArg (· != 0) hget).trans rfl, hstate, hlock, sxStop_sext _⟩

theorem sextFnomWrite_takes (hen : s.on F.SEXT_CTRL_EN = false) :
    Writes (.sextConfigWrite m 2 v) s m R.SEXT_FNOM v fun b t => t = b.setReg R.SEXT_FNOM v := by
  refine writes_of_quiet rfl rfl fun b hb => ?_
  rw [blockWrite_SEXT _ m v (by rfl) (by rfl), if_neg (by decide), writeSEXT_FNOM m ((on_congr hb _).trans hen)]
  exact ⟨rfl, rfl⟩

theorem sextNWrite_sets_bounds (hen : s.on F.SEXT_CTRL_EN = false) (hv : 0 < v.toNat % 2 ^ 11) :
    Writes (.sextConfigWrite m 0 v) s m R.SEXT_N v fun b t => t.get F.SEXT_N_N = v.toNat % 2 ^ 11 ∧
      t.regN R.SEXT_DMIN = (let x := v.toNat % 2 ^ 11 * b.get F.SEXT_FLIM_F_MAX
        if x = 0 then 0xFFFFFFFF else min 0xFFFFFFFF ((256 * ctSecond + x - 1) / x)) := by
  refine writes_of_blockRegs rfl rfl fun b t hb ht => ?_
  rw [blockWrite_SEXT _ m v (by rfl) (by rfl), if_pos (by decide), writeSEXT_N m ((on_congr hb _).trans hen) hv] at ht
  rw [get_congr ht, regN_congr ht, ← setBounds_dmin_after_N b v, ← plainWrite_SEXT_N_get b v]
  have hkeep : ∀ a, a ∉ [R.ENG_BUDGET, R.ENG_LIMIT, R.ENG_STAT] → ¬ Moved a →
      (b.plainWrite R.SEXT_N v).setBounds.setBudget.reg a = (b.plainWrite R.SEXT_N v).setBounds.reg a := fun a => setBudget_reg _
  constructor
  · have hn := hkeep R.SEXT_N (by decide) (not_moved (by decide) (by decide))
    exact congrArg (fldOf F.SEXT_N_N) (hn.trans (setBounds_reg _ (by decide) (by decide)))
  · exact congrArg BitVec.toNat (hkeep R.SEXT_DMIN (by decide) (not_moved (by decide) (by decide)))

theorem engTimingWrite_takes (h : s.timingOk v = true) :
    Writes (.engTimingWrite m v) s m R.ENG_TIMING v fun _ t => t.reg R.ENG_TIMING = v := by
  refine writes_of_block rfl rfl fun b hb _ => ?_
  rw [blockWrite_ENG _ m v (by rfl) (by rfl)]
  exact writeENG_TIMING_of_ok m (by rw [State.timingOk, on_congr hb]; exact h)

theorem engTimingWrite_refused (h : s.timingOk v = false) :
    Writes (.engTimingWrite m v) s m R.ENG_TIMING v fun b t => t.reg R.ENG_TIMING = b.reg R.ENG_TIMING := by
  refine writes_of_block rfl rfl fun b hb _ => ?_
  rw [blockWrite_ENG _ m v (by rfl) (by rfl)]
  exact writeENG_TIMING_of_bad m (by rw [State.timingOk, on_congr hb]; exact h)

theorem engSpageVWrite_takes (hst : s.get F.ENG_STAT_ESTATE = 0) (hok : s.spageVOk v = true) :
    Writes (.engSpageVWrite m v) s m R.ENG_SPAGE_V v fun b t => t.vBase = fldOf F.ENG_SPAGE_V_BASE v ∧
      t.vRows = fldOf F.ENG_SPAGE_V_NROWS v ∧ t.eng.pV = 0 ∧ t.eng.wV = 0 ∧ t.mem = b.mem := by
  refine writes_of_block rfl rfl fun b hb _ => ?_
  rw [blockWrite_ENG _ m v (by rfl) (by rfl), writeENG_SPAGE_V m ((get_congr hb _).trans hst)
    (by rw [State.spageVOk, get_congr hb, get_congr hb]; exact hok)]
  exact ⟨plainWrite_SPAGE_V_get b v (by decide), plainWrite_SPAGE_V_get b v (by decide), rfl, rfl, plainWrite_mem ..⟩

theorem engSpageSWrite_takes (hst : s.get F.ENG_STAT_ESTATE = 0) (hok : spageSOk v = true) :
    Writes (.engSpageSWrite m v) s m R.ENG_SPAGE_S v fun b t => t.sBase = fldOf F.ENG_SPAGE_S_BASE v ∧
      t.sWords = fldOf F.ENG_SPAGE_S_NWORDS v ∧ t.eng.pS = 0 ∧ t.eng.wS = 0 ∧ t.mem = b.mem := by
  refine writes_of_block rfl rfl fun b hb _ => ?_
  rw [blockWrite_ENG _ m v (by rfl) (by rfl), writeENG_SPAGE_S m ((get_congr hb _).trans hst) hok]
  exact ⟨plainWrite_SPAGE_S_get b v (by decide), plainWrite_SPAGE_S_get b v (by decide), rfl, rfl, plainWrite_mem ..⟩

/-- Either write of ENG_CTRL leaves its EN as written, and writes no other register (R117, R676). -/
theorem engCtrlWrite_takes {i : Instr} (hi : exec i s = busWrite m R.ENG_CTRL v s) {e : Bool} (hv : v.getLsbD 0 = e) :
    Writes i s m R.ENG_CTRL v fun b t => t.on F.ENG_CTRL_EN = e ∧ OnlyRegs b t [R.ENG_CTRL] := by
  refine writes_of_quiet hi rfl fun b _ => ?_
  rw [blockWrite_ENG _ m v (by rfl) (by rfl), writeENG_CTRL]
  exact ⟨plainWrite_host .., (plainWrite_ENG_CTRL_en b v).trans hv, plainWrite_onlyRegs ..⟩

end

/-- Settles O12: each write goes to its block, whose rule is the lemma named. -/
theorem timeAndEngineSettingsTakeEffect : Obligations.TimeAndEngineSettingsTakeEffect := by
  intro s m v
  refine ⟨fun lo => chronoLoad_takes_words, chronoTrimWrite_limits, chronoTrimWrite_ignored, sextEnable_starts, sextDisable_stops,
    sextFnomWrite_takes, sextNWrite_sets_bounds, fun hen hl hl' ht ht' => engTimingWrite_takes ?_, fun hen => engTimingWrite_refused ?_,
    engSpageVWrite_takes, engSpageSWrite_takes, engCtrlWrite_takes rfl, engCtrlWrite_takes rfl⟩
  · exact (timingOk_iff s v).mpr ⟨hen, ⟨hl, hl'⟩, ht, ht'⟩
  · simp [State.timingOk, hen]

end Sys2Proof.Machine

/-! ## O24: time exchanges, beacons and port states -/
namespace Sys2Proof.Machine
open Sys2Proof.Stmt

/-! ### What a raise leaves of the ring: all but the GUAR messages that answers add -/

/-- The field has no bit of DUPID. -/
abbrev BesideDupId (f : Fld) : Prop :=
  R.RING_STAT ≠ f.addr ∨ F.RING_STAT_DUPID.lo + F.RING_STAT_DUPID.width ≤ f.lo ∨ f.lo + f.width ≤ F.RING_STAT_DUPID.lo

/-- `t` holds the ring of `s` but for GUAR messages to send and the figures of a domain check, and shows DUPID as `s` does. -/
def RingHeld (s t : State) : Prop :=
  (∃ gtx gnext chkDly chkHops, t.ring = { s.ring with gtx, gnext, chkDly, chkHops }) ∧ t.get F.RING_STAT_DUPID = s.get F.RING_STAT_DUPID

namespace RingHeld
variable {s t u : State}

theorem same (hr : t.ring = s.ring) (hg : t.regs = s.regs) : RingHeld s t := ⟨⟨_, _, _, _, hr⟩, get_congr hg _⟩

theorem refl (s : State) : RingHeld s s := same rfl rfl

theorem trans (h : RingHeld s t) (k : RingHeld t u) : RingHeld s u := by
  obtain ⟨⟨_, _, _, _, hr⟩, hd⟩ := h
  obtain ⟨⟨_, _, _, _, kr⟩, kd⟩ := k
  exact ⟨⟨_, _, _, _, by rw [kr, hr]⟩, kd.trans hd⟩

theorem ite {c : Prop} [Decidable c] (h : RingHeld s t) (k : RingHeld s u) : RingHeld s (if c then t else u) := by split <;> assumption

theorem fold {α : Type} {f : State → α → State} (h : ∀ s x, RingHeld s (f s x)) (l : List α) (s : State) : RingHeld s (l.foldl f s) := by
  induction l generalizing s with
  | nil => exact refl s
  | cons x l ih => exact (h s x).trans (ih (f s x))

theorem setReg {a : Nat} (h : R.RING_STAT ≠ a) (s : State) (v : Word) : RingHeld s (s.setReg a v) :=
  ⟨⟨_, _, _, _, rfl⟩, get_setReg_ne s a v _ h⟩

/-- A write of a field other than DUPID. -/
theorem set {f : Fld} (h : BesideDupId f) (s : State) (n : Nat) : RingHeld s (s.set f n) :=
  ⟨⟨_, _, _, _, rfl⟩, get_set_disjoint s f _ n h⟩

theorem mark (s : State) (a : Nat) (m : Word) : RingHeld s (s.mark a m) := by
  unfold State.mark
  exact ite (same rfl rfl) (same rfl rfl)

theorem flag {f : Fld} (h : BesideDupId f) (s : State) : RingHeld s (s.flag f) := (mark s _ _).trans (set h _ _)

/-- An update of another part than the ring and the registers. -/
theorem host (s : State) (x : HostSt) : RingHeld s { s with host := x } := same rfl rfl
theorem sys (s : State) (x : SysSt) : RingHeld s { s with sys := x } := same rfl rfl
theorem eng (s : State) (x : EngSt) : RingHeld s { s with eng := x } := same rfl rfl
theorem nvm (s : State) (x : NvmSt) : RingHeld s { s with nvm := x } := same rfl rfl
theorem twin (s : State) (x : TwinSt) : RingHeld s { s with twin := x } := same rfl rfl

theorem nodes (h : RingHeld s t) : t.ring.nodes = s.ring.nodes := by obtain ⟨⟨_, _, _, _, hr⟩, -⟩ := h; rw [hr]
theorem quiet (h : RingHeld s t) : t.ring.quiet = s.ring.quiet := by obtain ⟨⟨_, _, _, _, hr⟩, -⟩ := h; rw [hr]
theorem xchgOf (h : RingHeld s t) (p : Side) : t.xchgOf p = s.xchgOf p := by
  obtain ⟨⟨_, _, _, _, hr⟩, -⟩ := h
  cases p
  · change t.ring.xchgE = s.ring.xchgE
    rw [hr]
  · change t.ring.xchgW = s.ring.xchgW
    rw [hr]
theorem dly (h : RingHeld s t) : t.ring.dlyE = s.ring.dlyE ∧ t.ring.dlyW = s.ring.dlyW := by
  obtain ⟨⟨_, _, _, _, hr⟩, -⟩ := h
  rw [hr]
  exact ⟨rfl, rfl⟩

end RingHeld

theorem respond_ringHeld (s : State) (c : HCmd) (w f : Nat) (d : List Word) : RingHeld s (s.respond c w f d) := by
  unfold State.respond State.toHost
  split
  · refine .ite ?_ (.flag (by decide) s)
    exact ((RingHeld.same rfl rfl).trans (.set (by decide) _ _)).trans (.set (by decide) _ _)
  · exact .same rfl rfl

theorem twinSend_ringHeld (s : State) (f t : Nat) (d : List Word64) : RingHeld s (s.twinSend f t d) := by
  unfold State.twinSend
  exact .ite (.same rfl rfl) (.refl s)

theorem nvmRecord_ringHeld (s : State) (r : JRec) (sec : JSec) (j : Option Nat) : RingHeld s (s.nvmRecord r sec j) := by
  unfold State.nvmRecord State.nvmStart
  refine .ite (.host s _) ?_
  exact (((RingHeld.host s _).trans (.setReg (by decide) _ _)).trans (.nvm _ _)).trans (.flag (f := F.NVM_STAT_BUSY) (by decide) _)

theorem journal_ringHeld (s : State) (nvm : Bool) (sec : JSec) (kind flow cls flags seq opc : Nat) (body : List Word) :
    RingHeld s (s.journal nvm sec kind flow cls flags seq opc body) := by
  unfold State.journal
  extract_lets pos flags r s1 _ s2
  have h1 : RingHeld s s1 := .setReg (by decide) s _
  have h2 : RingHeld s s2 := h1.trans (.ite (nvmRecord_ringHeld s1 r sec none) (.same rfl rfl))
  exact .ite (h2.trans ((RingHeld.same rfl rfl).trans (twinSend_ringHeld _ _ _ _))) h2

theorem guarSend_ringHeld (s : State) (dst : Nat) (p : List Word) : RingHeld s (s.guarSend dst p) := by
  unfold State.guarSend State.guarCount
  have h : ∀ gtx gnext, RingHeld s { s with ring := { s.ring with gtx, gnext } } := fun _ _ => ⟨⟨_, _, _, _, rfl⟩, rfl⟩
  exact (((h _ _).trans (journal_ringHeld ..)).trans (.set (by decide) _ _)).trans (.set (by decide) _ _)

theorem freeSlot_ringHeld (s : State) (k : CmdKey) (o : Nat) : RingHeld s (s.freeSlot k o) := by
  unfold State.freeSlot
  split
  · exact RingHeld.trans (.same rfl rfl) (.set (.inl (by simp only [F.HOST_OP_STAT_BUSY, R.RING_STAT]; omega)) _ _)
  · exact .refl s

theorem finalRec_ringHeld (s : State) (f : Nat) (c : HCmd) (w : List Word) : RingHeld s (s.finalRec f c w) :=
  .ite (journal_ringHeld ..) (.refl s)

theorem finishOwn_ringHeld (s : State) (k : CmdKey) (w : Nat) (d : List Word) : RingHeld s (s.finishOwn k w d) := by
  unfold State.finishOwn
  extract_lets fl
  split
  · exact .refl s
  · rename_i r _
    extract_lets fin s1 s2 s3 s4
    have h2 : RingHeld s s2 :=
      ((RingHeld.same rfl rfl).trans (.setReg (by simp only [R.HOST_FLOW_D, R.RING_STAT]; omega) _ _)).trans (freeSlot_ringHeld _ _ _)
    have h4 : RingHeld s s4 := (h2.trans (finalRec_ringHeld _ _ _ _)).trans (.ite (.refl _) (respond_ringHeld _ _ _ _ _))
    exact (h4.trans (.same rfl rfl)).trans (.setReg (by decide) _ _)

theorem finishRing_ringHeld (s : State) (r : HRec) (w : Nat) (d : List Word) : RingHeld s (s.finishRing r w d) := by
  unfold State.finishRing
  extract_lets ws s1
  have h : RingHeld s s1 := ((finalRec_ringHeld s _ _ _).trans (.same rfl rfl)).trans (.setReg (by decide) _ _)
  exact .ite h (h.trans (guarSend_ringHeld _ _ _))

theorem finishPartner_ringHeld (s : State) (k : CmdKey) (r : HRec) (w : Nat) (d : List Word) : RingHeld s (s.finishPartner k r w d) := by
  unfold State.finishPartner
  extract_lets s1
  have h : RingHeld s s1 := journal_ringHeld ..
  refine .ite (h.trans (finishOwn_ringHeld ..)) ?_
  split
  · exact (h.trans (.host _ _)).trans (finishRing_ringHeld ..)
  · exact h

theorem finish_ringHeld (s : State) (k : CmdKey) (r : Nat) (d : List Word) (ok : Bool) : RingHeld s (s.finish k r d ok) := by
  unfold State.finish
  extract_lets w
  refine .ite (finishOwn_ringHeld ..) ?_
  split
  · exact .refl s
  · extract_lets s1
    have h : RingHeld s s1 := (RingHeld.same rfl rfl).trans (freeSlot_ringHeld ..)
    exact .ite (h.trans (finishPartner_ringHeld ..)) (h.trans (finishRing_ringHeld ..))

theorem doneOpt_ringHeld (s : State) (k : Option CmdKey) (d : List Word) : RingHeld s (s.doneOpt k d) := by
  cases k with
  | none => exact .refl s
  | some k => exact finish_ringHeld ..

theorem cancelMove_ringHeld (s : State) : RingHeld s s.cancelMove := by
  unfold State.cancelMove
  split
  · exact .refl s
  · exact RingHeld.trans (.same rfl rfl) (.fold (fun _ _ => finish_ringHeld ..) _ _)

theorem modeStopped_ringHeld (s : State) (m : Nat) (k : Option CmdKey) : RingHeld s (s.modeStopped m k) := by
  unfold State.modeStopped
  exact (((RingHeld.set (by decide) _ _).trans (.set (by decide) _ _)).trans (.set (by decide) _ _)).trans (doneOpt_ringHeld ..)

theorem exchangeBanks_ringHeld (s : State) : RingHeld s s.exchangeBanks := by
  unfold State.exchangeBanks
  extract_lets sel one
  have hone : ∀ i bank ver t, R.RING_STAT ≠ bank.addr → R.RING_STAT ≠ ver.addr → RingHeld t (one i bank ver t) := fun i bank ver t hb hv =>
    .ite (((RingHeld.eng t _).trans (.set (.inl hb) _ _)).trans (.set (.inl hv) _ _)) (.refl t)
  have h1 := (hone 0 F.ENG_STAT_PBANK F.ALM_SWAP_VERP s (by decide) (by decide)).trans
    (hone 1 F.ENG_STAT_ABANK F.ALM_SWAP_VERA _ (by decide) (by decide))
  have hswap : ∀ {f : Fld} (u : State) (n : Nat), f.addr = R.ALM_SWAP → RingHeld u (u.set f n) := fun u n h => .set (.inl (by rw [h]; decide)) u n
  refine RingHeld.trans ?_ (doneOpt_ringHeld ..)
  refine RingHeld.trans ?_ (.flag (f := F.ALM_STAT_SWAPPED) (by decide) _)
  refine ((RingHeld.trans ?_ (hswap _ _ rfl)).trans (hswap _ _ rfl)).trans (hswap _ _ rfl)
  exact h1.trans (.eng _ _)

theorem settleStopped_ringHeld (s : State) : RingHeld s s.settleStopped := by
  have h0 : RingHeld s (if s.on F.ALM_SWAP_PEND then s.exchangeBanks else s) := .ite (exchangeBanks_ringHeld s) (.refl s)
  have h1 : ∀ t : State, RingHeld t (match t.eng.modeNext with
      | some m => ({ t with eng := { t.eng with modeNext := none, modeTaken := none, entryDue := false } } : State).modeStopped m t.eng.modeTaken
      | none => ({ t with eng := { t.eng with modeNext := none, modeTaken := none, entryDue := false } } : State).doneOpt t.eng.modeTaken []) := by
    intro t
    split
    · exact (RingHeld.eng t _).trans (modeStopped_ringHeld _ _ _)
    · exact (RingHeld.eng t _).trans (doneOpt_ringHeld _ _ _)
  unfold State.settleStopped
  refine .ite ?_ ?_
  · exact (h0.trans (h1 _)).trans ((RingHeld.eng _ _).trans (modeStopped_ringHeld _ _ _))
  · exact h0.trans (h1 _)

theorem stopDeep_ringHeld (s : State) : RingHeld s s.stopDeep := by
  have h : RingHeld s s.helmStop := by
    unfold State.helmStop
    exact .ite (.refl s) (((RingHeld.eng s _).trans (.set (by decide) _ _)).trans (settleStopped_ringHeld _))
  exact (h.trans (.set (f := F.RING_STAT_BYPE) (by decide) _ _)).trans (.set (f := F.RING_STAT_BYPW) (by decide) _ _)

theorem yield_ringHeld (s : State) (c : Nat) : RingHeld s (s.yield c) :=
  .ite ((twinSend_ringHeld s _ _ _).trans (.flag (f := F.TWIN_STAT_YIELDED) (by decide) _)) (.refl s)

theorem enterStop_ringHeld (s : State) (t : Nat) (c : Option Src) : RingHeld s (s.enterStop t c) := by
  have h : ∀ x, RingHeld s ({ s.cancelMove.setDev t with sys := x } : State) := fun x =>
    ((cancelMove_ringHeld s).trans (.set (f := F.SYS_STATE_STATE) (by decide) _ _)).trans (.sys _ _)
  unfold State.enterStop
  refine .ite (.ite ?_ (.ite ?_ ?_)) (.refl s)
  · exact ((h _).trans (yield_ringHeld _ _)).trans (stopDeep_ringHeld _)
  · exact (h _).trans (stopDeep_ringHeld _)
  · exact h _

theorem raise_ringHeld (s : State) (q : Src) (a : Acc) : RingHeld s (s.raise q a) := by
  unfold State.raise
  extract_lets w r s1 s2 s3
  have h3 : RingHeld s s3 := .same rfl rfl
  refine .ite (.refl s) (h3.trans ?_)
  unfold State.applyReact
  extract_lets s4
  have h4 : RingHeld s3 s4 := by
    refine .ite ?_ (.refl _)
    rw [holdLocal_eq]
    exact .same rfl rfl
  exact .ite (h4.trans (enterStop_ringHeld ..)) (.ite (h4.trans (enterStop_ringHeld ..)) (.ite (h4.trans (enterStop_ringHeld ..)) h4))

/-- A flag other than DUPID, set and raised. -/
theorem faultNew_ringHeld {f : Fld} (h : BesideDupId f) (s : State) (q : Src) (a : Acc) : RingHeld s (s.faultNew f q a) :=
  .ite (.refl s) ((RingHeld.flag h s).trans (raise_ringHeld ..))

/-! ### Tables by number, searched -/

theorem find?_spIns {α : Type} (m : List (Nat × α)) (k k' : Nat) (v : α) :
    (spIns m k v).find? (·.1 == k') = if k' = k then some (k, v) else m.find? (·.1 == k') := by
  induction m with
  | nil => by_cases h : k' = k <;> simp [spIns, h, Ne.symm]
  | cons e r ih =>
    obtain ⟨a, x⟩ := e
    rw [spIns]
    by_cases h1 : k = a
    · subst h1
      by_cases h : k' = k <;> simp [h, Ne.symm]
    · by_cases h2 : k < a
      · by_cases h : k' = k <;> simp [h1, h2, h, Ne.symm]
      · by_cases h : k' = a
        · simp [h1, h2, h, Ne.symm h1]
        · simp [h1, h2, ih, beq_false_of_ne (Ne.symm h)]

theorem find?_spDel {α : Type} (m : List (Nat × α)) (k k' : Nat) :
    (spDel m k).find? (·.1 == k') = if k' = k then none else m.find? (·.1 == k') := by
  rw [spDel, List.find?_filter]
  split
  · next h => simp [h]
  · next h =>
    congr 1
    funext e
    by_cases he : e.1 = k' <;> simp [he, h]

/-! ### Frames put on a port -/

/-- `t` is `s` after frames have gone to port `p`: the other port's frame under way, the exchanges and the node's own registers are as they were, and
nothing that was sent is lost. -/
structure OnPort (p : Side) (s t : State) : Prop where
  frame : ∃ regs low cur tx, t = { s with regs, ring := { s.ring with low, cur }, tx }
  reg : ∀ a, a ≠ R.RING_PREEMPT → t.reg a = s.reg a
  cur : ∀ q, q ≠ p → t.ring.cur.find? (·.1 == sideNo q) = s.ring.cur.find? (·.1 == sideNo q)
  sent : s.tx <+: t.tx

theorem sideNo_ne {p q : Side} (h : q ≠ p) : sideNo q ≠ sideNo p := by cases p <;> cases q <;> simp_all [sideNo]

namespace OnPort
variable {p : Side} {s t u : State}

theorem refl (p : Side) (s : State) : OnPort p s s := ⟨⟨_, _, _, _, rfl⟩, fun _ _ => rfl, fun _ _ => rfl, List.prefix_rfl⟩

theorem trans (h : OnPort p s t) (k : OnPort p t u) : OnPort p s u := by
  refine ⟨?_, fun a ha => (k.reg a ha).trans (h.reg a ha), fun q hq => (k.cur q hq).trans (h.cur q hq), h.sent.trans k.sent⟩
  obtain ⟨_, _, _, _, rfl⟩ := h.frame
  obtain ⟨_, _, _, _, rfl⟩ := k.frame
  exact ⟨_, _, _, _, rfl⟩

theorem get (h : OnPort p s t) {f : Fld} (hf : f.addr ≠ R.RING_PREEMPT) : t.get f = s.get f := congrArg (fldOf f) (h.reg _ hf)

theorem ringPort (h : OnPort p s t) (n : Nat) : t.ringPort n = s.ringPort n := by
  rw [State.ringPort, State.ringPort, h.get (by decide), h.get (by decide)]

theorem nodeId (h : OnPort p s t) : t.nodeId = s.nodeId := h.get (by decide)

theorem quiet (h : OnPort p s t) : t.ring.quiet = s.ring.quiet := by obtain ⟨_, _, _, _, rfl⟩ := h.frame; rfl
theorem xchgOf (h : OnPort p s t) (q : Side) : t.xchgOf q = s.xchgOf q := by obtain ⟨_, _, _, _, rfl⟩ := h.frame; cases q <;> rfl
theorem tseqOf (h : OnPort p s t) (q : Side) : t.tseqOf q = s.tseqOf q := by obtain ⟨_, _, _, _, rfl⟩ := h.frame; cases q <;> rfl
theorem now (h : OnPort p s t) : t.now = s.now := by obtain ⟨_, _, _, _, rfl⟩ := h.frame; rfl

theorem maySend (h : OnPort p s t) (q : Side) : MaySend t q ↔ MaySend s q := by rw [MaySend, MaySend, h.ringPort, h.quiet]

theorem txStamp (h : OnPort p s t) {q : Side} (hq : q ≠ p) : t.txStamp q = s.txStamp q := by
  have hs : t.sending q = s.sending q := by rw [State.sending, State.sending, h.cur q hq, h.now]
  have hg : t.get (F.LANE_TSOFS_TX (56 + 2 * sideNo q)) = s.get (F.LANE_TSOFS_TX (56 + 2 * sideNo q)) :=
    h.get (by cases q <;> decide)
  rw [State.txStamp, State.txStamp, hs, hg, h.now]

end OnPort

theorem putOn_onPort (s : State) (p : Side) (f : RingFrame) : OnPort p s (s.putOn p f) where
  frame := ⟨_, _, _, _, rfl⟩
  reg _ _ := rfl
  cur _ hq := (find?_spIns _ _ _ _).trans (if_neg (sideNo_ne hq))
  sent := List.prefix_append _ _

theorem putOn_tx (s : State) (p : Side) (f : RingFrame) : (s.putOn p f).tx = s.tx ++ [.ring p f] := rfl

theorem breakOff_onPort (s : State) (p : Side) : OnPort p s (s.breakOff p) := by
  unfold State.breakOff
  split
  · next f _ _ =>
    by_cases hf : isPrio f = true
    · rw [if_pos hf]
      exact .refl p s
    · rw [if_neg hf]
      exact {
        frame := ⟨_, _, _, _, rfl⟩
        reg := fun a ha => reg_setRegN_ne _ ha _
        cur := fun q hq => (find?_spDel _ _ _).trans (if_neg (sideNo_ne hq))
        sent := List.prefix_append _ _ }
  · exact .refl p s

/-- A priority frame of the node goes out on a port that is UP; a silenced node sends only frames of class CTRL (R319, R323). -/
theorem ringOrig_of_prio {s : State} {p : Side} {f : RingFrame} (hf : isPrio f = true) (hp : s.ringPort (sideNo p) = 3)
    (hq : s.ring.quiet = false ∨ f.cls = rcCTRL) : s.ringOrig p f = (s.breakOff p).putOn p f := by
  have hq' : (s.ring.quiet && f.cls != rcCTRL) = false := by rcases hq with h | h <;> simp [h]
  simp [State.ringOrig, State.ringEmit, hq', hp, hf]

theorem ringEmit_onPort (s : State) (p : Side) (own : Bool) {f : RingFrame} (hf : isPrio f = true) : OnPort p s (s.ringEmit p own f) := by
  unfold State.ringEmit
  rw [if_pos hf]
  split
  · exact .refl p s
  · exact (breakOff_onPort s p).trans (putOn_onPort _ p f)

theorem ringOrig_onPort (s : State) (p : Side) {f : RingFrame} (hf : isPrio f = true) : OnPort p s (s.ringOrig p f) := by
  unfold State.ringOrig
  split
  · exact .refl p s
  · exact ringEmit_onPort s p true hf

/-- The last frame sent is the priority frame that has just gone out. -/
theorem ringOrig_last {s : State} {p : Side} {f : RingFrame} (hf : isPrio f = true) (hp : s.ringPort (sideNo p) = 3)
    (hq : s.ring.quiet = false ∨ f.cls = rcCTRL) : (s.ringOrig p f).tx.getLast? = some (.ring p f) := by
  rw [ringOrig_of_prio hf hp hq, putOn_tx]
  exact List.getLast?_concat

theorem ringOrig_mem {s : State} {p : Side} {f : RingFrame} (hf : isPrio f = true) (hp : s.ringPort (sideNo p) = 3)
    (hq : s.ring.quiet = false ∨ f.cls = rcCTRL) : .ring p f ∈ (s.ringOrig p f).tx := List.mem_of_getLast? (ringOrig_last hf hp hq)

/-! ### TIME exchanges (02 R88) -/

/-- An exchange of port `p` stands with its TSEQ and stamp, before its frame goes out. -/
def State.exchangeOpen (s : State) (p : Side) : State := (s.setXchg p (some (s.tseqOf p, s.txStamp p))).setTseq p ((s.tseqOf p + 1) % 256)

theorem timeReq_eq (s : State) (p : Side) : s.timeReq p =
    (s.exchangeOpen p).ringOrig p (Own s 1 0 (s.tseqOf p) true 1 [BitVec.ofNat 64 (s.txStamp p), 0]) := by cases p <;> rfl

theorem timeReq_onPort (s : State) (p : Side) : OnPort p (s.exchangeOpen p) (s.timeReq p) := by
  rw [timeReq_eq]
  exact ringOrig_onPort _ p rfl

/-- An exchange stands with the TSEQ of its request and its transmit stamp. -/
theorem timeReq_xchg (s : State) (p : Side) : (s.timeReq p).xchgOf p = some (s.tseqOf p, s.txStamp p) ∧
    (s.timeReq p).tseqOf p = (s.tseqOf p + 1) % 256 := by
  rw [(timeReq_onPort s p).xchgOf, (timeReq_onPort s p).tseqOf]
  cases p <;> exact ⟨rfl, rfl⟩

/-- The request goes out. -/
theorem timeReq_sends {s : State} {p : Side} (h : MaySend s p) :
    .ring p (Own s 1 0 (s.tseqOf p) true 1 [BitVec.ofNat 64 (s.txStamp p), 0]) ∈ (s.timeReq p).tx := by
  obtain ⟨hport, hquiet⟩ := h
  rw [timeReq_eq]
  exact ringOrig_mem rfl (by cases p <;> exact hport) (.inl (by cases p <;> exact hquiet))

/-- What an exchange on one port leaves of the other's. -/
theorem timeReq_other (s : State) {p q : Side} (h : q ≠ p) : (s.timeReq p).xchgOf q = s.xchgOf q ∧ (s.timeReq p).tseqOf q = s.tseqOf q ∧
    (s.timeReq p).txStamp q = s.txStamp q ∧ (s.timeReq p).nodeId = s.nodeId ∧ (MaySend (s.timeReq p) q ↔ MaySend s q) := by
  have h' := timeReq_onPort s p
  rw [h'.xchgOf, h'.tseqOf, h'.txStamp h, h'.nodeId, h'.maySend]
  have hq : q = otherSide p := by cases p <;> cases q <;> simp_all [otherSide]
  subst hq
  cases p <;> exact ⟨rfl, rfl, rfl, rfl, Iff.rfl⟩

theorem timeReq_sent (s : State) (p : Side) : s.tx <+: (s.timeReq p).tx := by
  have h := (timeReq_onPort s p).sent
  cases p <;> exact h

/-- The exchange on each port stands, its TSEQ is used up, and its frame is sent. -/
theorem syncStart_exchanges {s : State} (hr : s.ringRuns = true) (p : Side) : s.syncStart.xchgOf p = some (s.tseqOf p, s.txStamp p) ∧
    s.syncStart.tseqOf p = (s.tseqOf p + 1) % 256 ∧
    (MaySend s p → .ring p (Own s 1 0 (s.tseqOf p) true 1 [BitVec.ofNat 64 (s.txStamp p), 0]) ∈ s.syncStart.tx) := by
  have he : s.syncStart = (s.timeReq .east).timeReq .west := if_pos hr
  rw [he]
  cases p with
  | east =>
    obtain ⟨hx, ht, -, -, -⟩ := timeReq_other (s.timeReq .east) (p := .west) (q := .east) (by decide)
    obtain ⟨hx', ht'⟩ := timeReq_xchg s .east
    exact ⟨hx.trans hx', ht.trans ht', fun h => (timeReq_sent _ _).subset (timeReq_sends h)⟩
  | west =>
    obtain ⟨-, ht, hs, hn, hm⟩ := timeReq_other s (p := .east) (q := .west) (by decide)
    obtain ⟨hx', ht'⟩ := timeReq_xchg (s.timeReq .east) .west
    refine ⟨by rw [hx', ht, hs], by rw [ht', ht], fun h => ?_⟩
    have hsend := timeReq_sends (hm.mpr h)
    rw [ht, hs, Own, hn] at hsend
    exact hsend

/-! ### Reception -/

/-- A frame that the port takes and that is valid is handed to the meaning of its kind where the node forwards none (R316, R320). -/
theorem ringIn_of_stays {s : State} {p : Side} {f : RingFrame} {kind : Bool} (hgot : RingGot s p f) (hk : kind = true)
    (hf : f.cls = rcTIME ∨ isHello f = true) (act : State → State) : s.ringIn p f kind act = act s := by
  obtain ⟨htakes, hvalid⟩ := hgot
  have hfwd : s.forwards f = false := by rcases hf with h | h <;> simp [State.forwards, h]
  have hrx : s.ringRx p f = (true, s) := by simp [State.ringRx, htakes, hvalid, State.forward, hfwd, hf]
  simp [State.ringIn, hk, hrx]

/-- A frame that the port does not take changes nothing. -/
theorem ringRx_of_not_taken {s : State} {p : Side} {f : RingFrame} (h : s.ringTakes p f = false) : s.ringRx p f = (false, s) := by
  simp [State.ringRx, h]

theorem ringIn_of_not_taken {s : State} {p : Side} {f : RingFrame} (h : s.ringTakes p f = false) (kind : Bool) (act : State → State) :
    s.ringIn p f kind act = s := by
  simp [State.ringIn, ringRx_of_not_taken h]

theorem beaconRx_of_not_taken {s : State} {p : Side} {f : RingFrame} (h : s.ringTakes p f = false) : s.beaconRx p f = s := by
  simp [State.beaconRx, ringRx_of_not_taken h, h]

/-- A frame of the node's own is neither forwarded nor taken. -/
theorem ringRx_of_own {s : State} {p : Side} {f : RingFrame} (hgot : RingGot s p f) (hsrc : f.src = s.nodeId) : (s.ringRx p f).2 = s := by
  obtain ⟨htakes, hvalid⟩ := hgot
  have hfwd : s.forwards f = false := by simp [State.forwards, hsrc]
  simp only [State.ringRx, htakes, hvalid, State.forward, hfwd, hsrc, true_or, if_true, Bool.not_true, Bool.false_and, Bool.false_eq_true, if_false]
  split
  · rfl
  · split <;> rfl

/-! ### The Chronometer after an exchange -/

/-- `t` is `s` for what an exchange has left: the ring, CT64 and the offset. -/
def ExchangeHeld (s t : State) : Prop := RingHeld s t ∧ t.chrono = s.chrono ∧ t.reg R.CHRONO_OFFSET = s.reg R.CHRONO_OFFSET

namespace ExchangeHeld
variable {s t u : State}

theorem refl (s : State) : ExchangeHeld s s := ⟨.refl s, rfl, rfl⟩

theorem trans (h : ExchangeHeld s t) (k : ExchangeHeld t u) : ExchangeHeld s u := by
  obtain ⟨hr, hc, ho⟩ := h
  obtain ⟨kr, kc, ko⟩ := k
  exact ⟨hr.trans kr, kc.trans hc, ko.trans ho⟩

theorem ite {c : Prop} [Decidable c] (h : ExchangeHeld s t) (k : ExchangeHeld s u) : ExchangeHeld s (if c then t else u) := by split <;> assumption

theorem setReg {a : Nat} (h : a ≠ R.RING_STAT) (h' : a ≠ R.CHRONO_OFFSET) (s : State) (v : Word) : ExchangeHeld s (s.setReg a v) :=
  ⟨.setReg h.symm s v, rfl, reg_setReg_ne s h'.symm v⟩

theorem set {f : Fld} (h : f.addr ≠ R.RING_STAT) (h' : f.addr ≠ R.CHRONO_OFFSET) (s : State) (n : Nat) : ExchangeHeld s (s.set f n) :=
  setReg h h' s _

theorem faultNew {f : Fld} (h : BesideDupId f) (h' : R.CHRONO_OFFSET ≠ f.addr) (s : State) (q : Src) (a : Acc) :
    ExchangeHeld s (s.faultNew f q a) :=
  ⟨faultNew_ringHeld h s q a, faultNew_chrono .., faultNew_reg s q a h' (not_moved (by decide) (by decide))⟩

end ExchangeHeld

theorem domCheck_exchangeHeld (s : State) : ExchangeHeld s s.domCheck := by
  unfold State.domCheck
  refine .ite (.setReg (by decide) (by decide) s _) ?_
  extract_lets x ring s1
  have h1 : ExchangeHeld s s1 := ⟨⟨⟨_, _, _, _, rfl⟩, rfl⟩, rfl, rfl⟩
  split
  extract_lets pass s2
  have hset : ∀ {f : Fld} (u : State) (n : Nat), f.addr = R.RING_DOMCHK → ExchangeHeld u (u.set f n) := fun u n h =>
    .set (by rw [h]; decide) (by rw [h]; decide) u n
  have h2 : ExchangeHeld s s2 := ((h1.trans (hset _ _ rfl)).trans (hset _ _ rfl)).trans (hset _ _ rfl)
  exact .ite h2 (h2.trans (.faultNew (by decide) (by decide) _ _ _))

theorem domFollow_exchangeHeld (s : State) : ExchangeHeld s s.domFollow := .ite (domCheck_exchangeHeld s) (.refl s)

theorem withSext_exchangeHeld (s : State) (x : SextSt) : ExchangeHeld s (s.withSext x) := ⟨.same rfl rfl, rfl, rfl⟩

theorem modGridReset_exchangeHeld (s : State) : ExchangeHeld s s.modGridReset := by
  obtain ⟨_, h⟩ := modGridReset_frame s
  rw [h]
  exact ⟨.same rfl rfl, rfl, rfl⟩

theorem setSx_exchangeHeld (s : State) (st : Nat) : ExchangeHeld s (s.setSx st) := by
  change ExchangeHeld s (((s.set F.SEXT_STAT_STATE st).setB F.SEXT_STAT_LOCK _).setB F.SEXT_STAT_COAST _)
  exact ((ExchangeHeld.set (by decide) (by decide) s _).trans (.set (by decide) (by decide) _ _)).trans (.set (by decide) (by decide) _ _)

theorem sxStart_exchangeHeld (s : State) : ExchangeHeld s s.sxStart := by
  obtain ⟨x, -, -, -, h⟩ := sxStart_eq s
  have hset : ∀ {a : Nat} (t : State) (v : Word), a ∈ [R.SEXT_B1_LO, R.SEXT_B1_HI, R.SEXT_PIDX, R.SEXT_LOCKCNT] →
      ExchangeHeld t (t.setReg a v) := by
    intro a t v ha
    refine .setReg ?_ ?_ t v <;> rintro rfl <;> revert ha <;> decide
  rw [h]
  exact (((((((setSx_exchangeHeld s _).trans (withSext_exchangeHeld _ x)).trans (hset _ _ (by decide))).trans (hset _ _ (by decide))).trans
    (hset _ _ (by decide)))).trans (hset _ _ (by decide))).trans (modGridReset_exchangeHeld _)

theorem sxStop_exchangeHeld (s : State) : ExchangeHeld s s.sxStop := by
  obtain ⟨x, -, -, h⟩ := sxStop_eq s
  rw [h]
  exact ((setSx_exchangeHeld s _).trans (withSext_exchangeHeld _ x)).trans (modGridReset_exchangeHeld _)

/-- The supervisor's start of the grid (15 R567). -/
theorem sextAuto_exchangeHeld (s : State) : ExchangeHeld s s.sextAuto := by
  have hen : ∀ (t : State) (n : Nat), ExchangeHeld t (t.set F.SEXT_CTRL_EN n) := fun t n => .set (by decide) (by decide) t n
  have hctrl : ∀ (t : State) (m : Master) (v : Word), ExchangeHeld t (t.sxCtrl m v) := by
    intro t m v
    rw [sxCtrl_eq]
    have h : ExchangeHeld t (t.sxSources v) := (ExchangeHeld.set (by decide) (by decide) t _).trans (.set (by decide) (by decide) _ _)
    exact .ite h (.ite (h.trans (.faultNew (f := F.SEXT_STAT_CFGREJ) (by decide) (by decide) _ _ _))
      (.ite ((h.trans (hen _ _)).trans (sxStart_exchangeHeld _)) ((h.trans (hen _ _)).trans (sxStop_exchangeHeld _))))
  unfold State.sextAuto
  exact .ite (ExchangeHeld.trans ⟨.sys s _, rfl, rfl⟩ (hctrl _ _ _)) (.refl s)

/-! ### The exchange completed (R89) -/

/-- `t` is `s` for the ring and the offset; CT64 and the servo may have moved. -/
def OffsetHeld (s t : State) : Prop := RingHeld s t ∧ t.reg R.CHRONO_OFFSET = s.reg R.CHRONO_OFFSET

namespace OffsetHeld
variable {s t u : State}

theorem trans (h : OffsetHeld s t) (k : OffsetHeld t u) : OffsetHeld s u := ⟨h.1.trans k.1, k.2.trans h.2⟩

theorem ite {c : Prop} [Decidable c] (h : OffsetHeld s t) (k : OffsetHeld s u) : OffsetHeld s (if c then t else u) := by split <;> assumption

theorem of (h : ExchangeHeld s t) : OffsetHeld s t := ⟨h.1, h.2.2⟩

theorem chrono (s : State) (x : ChronoSt) : OffsetHeld s { s with chrono := x } := ⟨.same rfl rfl, rfl⟩

/-- A write in the CHRONO block, the offset apart. -/
theorem setReg {a : Nat} (h : a ≠ R.RING_STAT) (h' : a ≠ R.CHRONO_OFFSET) (s : State) (v : Word) : OffsetHeld s (s.setReg a v) :=
  of (.setReg h h' s v)

theorem set {f : Fld} (h : f.addr = R.CHRONO_STAT) (s : State) (n : Nat) : OffsetHeld s (s.set f n) :=
  of (.set (by rw [h]; decide) (by rw [h]; decide) s n)

theorem flag {f : Fld} (h : f.addr = R.CHRONO_STAT) (s : State) : OffsetHeld s (s.flag f) :=
  ⟨.flag (.inl (by rw [h]; decide)) s, reg_flag_ne s f (by rw [h]; decide)⟩

theorem faultNew {f : Fld} (h : f.addr = R.CHRONO_STAT) (s : State) (q : Src) (a : Acc) : OffsetHeld s (s.faultNew f q a) :=
  of (.faultNew (.inl (by rw [h]; decide)) (by rw [h]; decide) s q a)

end OffsetHeld

theorem setCt_offsetHeld (s : State) (n : Nat) : OffsetHeld s (s.setCt n) :=
  ((OffsetHeld.chrono s _).trans (.setReg (by decide) (by decide) _ _)).trans (.setReg (by decide) (by decide) _ _)

theorem syncCount_offsetHeld (s : State) (o : Rat) : OffsetHeld s (s.syncCount o) := (OffsetHeld.chrono s _).trans (.set rfl _ _)

theorem servoTrim_offsetHeld (s : State) (o : Rat) : OffsetHeld s (s.servoTrim o) := by
  unfold State.servoTrim
  refine .ite ?_ (.chrono s _)
  refine .ite (OffsetHeld.trans ?_ (.faultNew rfl _ _ _)) ?_
  all_goals exact (OffsetHeld.chrono s _).trans (.setReg (by decide) (by decide) _ _)

/-- A completed exchange leaves the ring as it was and CHRONO_OFFSET with its offset. -/
theorem exchangeDone_held (s : State) (o d : Rat) : RingHeld s (s.exchangeDone o d) ∧
    (s.exchangeDone o d).reg R.CHRONO_OFFSET = BitVec.ofInt 32 (quantize (o * 625 / 2)) := by
  have h : OffsetHeld (s.setReg R.CHRONO_OFFSET (BitVec.ofInt 32 (quantize (o * 625 / 2)))) (s.exchangeDone o d) := by
    have h0 : ∀ x, OffsetHeld (s.setReg R.CHRONO_OFFSET (BitVec.ofInt 32 (quantize (o * 625 / 2))))
        (({ (s.setReg R.CHRONO_OFFSET (BitVec.ofInt 32 (quantize (o * 625 / 2)))).setReg R.CHRONO_DELAY (BitVec.ofInt 32 (quantize (d * 625 / 2)))
          with chrono := x } : State).syncCount o) := fun x =>
      ((OffsetHeld.setReg (by decide) (by decide) _ _).trans (.chrono _ x)).trans (syncCount_offsetHeld _ o)
    unfold State.exchangeDone
    refine .ite ?_ (OffsetHeld.trans ?_ (servoTrim_offsetHeld _ o))
    · exact (((h0 _).trans (.set rfl _ _)).trans (setCt_offsetHeld _ _)).trans (.flag rfl _)
    · exact .ite (((h0 _).trans (.set rfl _ _)).trans (.faultNew rfl _ _ _)) ((h0 _).trans (.set rfl _ _))
  exact ⟨(RingHeld.setReg (by decide) s _).trans h.1, h.2.trans (reg_setReg_self ..)⟩

/-- The link delay of port `p`. -/
def State.dlyOf (s : State) (p : Side) : Nat := match p with | .east => s.ring.dlyE | .west => s.ring.dlyW

/-- The exchange of port `p` is over; its link delay is `d`. -/
def State.exchangeClosed (s : State) (p : Side) (d : Nat) : State :=
  match p with
  | .east => { s with ring := { s.ring with xchgE := none, dlyE := d } }
  | .west => { s with ring := { s.ring with xchgW := none, dlyW := d } }

theorem timeRespRx_eq {s : State} {p : Side} {f : RingFrame} {t1 : Nat} (sub : Nat) (h : s.xchgOf p = some (f.cspec % 256, t1)) :
    let d := delayOf t1 (ringBlk f 0).toNat (ringBlk f 1).toNat (s.rxStamp p sub)
    let o := s.offsetOf t1 (ringBlk f 0).toNat (ringBlk f 1).toNat (s.rxStamp p sub)
    s.timeRespRx p f sub =
      (if s.tkDrives p then (s.exchangeClosed p (dlyNs d)).exchangeDone o d else s.exchangeClosed p (dlyNs d)).domFollow := by
  simp only [State.timeRespRx, h, bne_self_eq_false, Bool.false_eq_true, if_false]
  cases p <;> rfl

/-- A response completes the exchange of its TSEQ: none stands, the delay is kept; where the exchange drives the Chronometer the offset is shown,
and otherwise CT64 is left. -/
theorem timeResp_completes {s : State} {p : Side} {f : RingFrame} {t1 : Nat} (sub : Nat) (h : s.xchgOf p = some (f.cspec % 256, t1)) :
    let d := delayOf t1 (ringBlk f 0).toNat (ringBlk f 1).toNat (s.rxStamp p sub)
    let o := s.offsetOf t1 (ringBlk f 0).toNat (ringBlk f 1).toNat (s.rxStamp p sub)
    let t := (s.timeRespRx p f sub).sextAuto
    t.xchgOf p = none ∧ t.dlyOf p = dlyNs d ∧
      (s.tkDrives p = true → t.reg R.CHRONO_OFFSET = BitVec.ofInt 32 (quantize (o * 625 / 2))) ∧
      (s.tkDrives p = false → t.chrono = s.chrono) := by
  intro d o t
  have ht : t = _ := congrArg State.sextAuto (timeRespRx_eq sub h)
  have hafter : ∀ u : State, ExchangeHeld u u.domFollow.sextAuto := fun u => (domFollow_exchangeHeld u).trans (sextAuto_exchangeHeld _)
  have hring : RingHeld (s.exchangeClosed p (dlyNs d)) t := by
    rw [ht]
    exact RingHeld.trans (.ite (exchangeDone_held _ _ _).1 (.refl _)) (hafter _).1
  refine ⟨?_, ?_, fun hdrive => ?_, fun hdrive => ?_⟩
  · rw [hring.xchgOf]
    cases p <;> rfl
  · obtain ⟨hE, hW⟩ := hring.dly
    cases p
    · exact hE
    · exact hW
  · rw [ht, if_pos hdrive]
    exact (hafter _).2.2.trans (exchangeDone_held _ _ _).2
  · rw [ht, hdrive]
    refine (hafter _).2.1.trans ?_
    cases p <;> rfl

/-- The time limit of an exchange that does not drive the Chronometer ends it and changes no more. -/
theorem timeOut_of_open {s : State} {p : Side} (h : (s.xchgOf p).isSome = true) (hd : s.tkDrives p = false) : s.timeOut p = s.setXchg p none := by
  have hd' : (s.setXchg p none).tkDrives p = false := by cases p <;> exact hd
  simp [State.timeOut, Option.isNone_eq_false_iff.mpr h, hd']

/-! ### Beacons (R322, R323) -/

theorem broadcast_sends (s : State) {cspec : Nat} {data : List Word64} (p : Side) (hp : s.ringPort (sideNo p) = 3) :
    .ring p (Own s 0 0 cspec true 511 data) ∈ (s.ringBroadcast rcCTRL cspec data).tx := by
  have he : s.ringBroadcast rcCTRL cspec data =
      (s.ringOrig .east (Own s 0 0 cspec true 511 data)).ringOrig .west (Own s 0 0 cspec true 511 data) := rfl
  have heast := ringOrig_onPort s .east (f := Own s 0 0 cspec true 511 data) rfl
  rw [he]
  cases p with
  | east => exact (ringOrig_onPort _ .west rfl).sent.subset (ringOrig_mem rfl hp (.inr rfl))
  | west => exact ringOrig_mem rfl ((heast.ringPort _).trans hp) (.inr rfl)

theorem isBeacon_prio {f : RingFrame} (h : isBeacon f = true) : isPrio f = true := by
  simp only [isBeacon, Bool.and_eq_true, beq_iff_eq] at h
  simp [isPrio, h.1, rcCTRL]

theorem count_nodeId (s : State) {a : Nat} (h : R.RING_CFG ≠ a) (k : Nat) : (s.count a k).nodeId = s.nodeId := get_setReg_ne s a _ _ h

/-- Reception does not change the node's ID. -/
theorem ringRx_nodeId (s : State) (p : Side) {f : RingFrame} (hf : isPrio f = true) : (s.ringRx p f).2.nodeId = s.nodeId := by
  have hf' : isPrio { f with ttl := f.ttl - 1 } = true := hf
  have hfwd : (s.forward p f).nodeId = s.nodeId := by
    unfold State.forward
    dsimp only
    split
    · rw [count_nodeId _ (by decide)]
      exact (ringEmit_onPort s (otherSide p) false hf').nodeId
    · rfl
  have hcrc : ((s.forward p f).count R.RING_CRCERR 1).nodeId = s.nodeId := by
    rw [count_nodeId _ (by decide), hfwd]
  unfold State.ringRx
  split
  · rfl
  · split
    · exact hcrc
    · dsimp only
      split
      · exact hfwd
      · split
        · split <;> exact hfwd
        · exact hfwd

theorem beaconRx_of_other {s : State} {p : Side} {f : RingFrame} (hgot : RingGot s p f) (hb : isBeacon f = true) (hsrc : f.src ≠ s.nodeId) :
    s.beaconRx p f = (s.ringRx p f).2.noteBeacon p f := by
  obtain ⟨htakes, hvalid⟩ := hgot
  simp [State.beaconRx, htakes, hvalid, hb, ringRx_nodeId s p (isBeacon_prio hb), hsrc]

theorem beaconRx_of_own {s : State} {p : Side} {f : RingFrame} (hgot : RingGot s p f) (hb : isBeacon f = true) (hsrc : f.src = s.nodeId)
    (hown : hi32 (ringBlk f 0) ≠ s.regN R.SYS_SERIAL) :
    s.beaconRx p f = ({ s with ring := { s.ring with quiet := true } } : State).faultNew F.RING_STAT_DUPID Q.RING_DUPID (hw 0) := by
  have hrx := ringRx_of_own hgot hsrc
  obtain ⟨htakes, hvalid⟩ := hgot
  simp [State.beaconRx, htakes, hvalid, hb, hrx, hsrc, State.serial, hown]

/-- The table reads at an ID what a search for it finds. -/
theorem node_insert (s : State) (id j : Nat) (e : NodeEnt) :
    ({ s with ring := { s.ring with nodes := spIns s.ring.nodes id e } } : State).node j = if j = id then some e else s.node j := by
  simp only [State.node, find?_spIns]
  split <;> rfl

theorem node_delete (s : State) (id j : Nat) :
    ({ s with ring := { s.ring with nodes := spDel s.ring.nodes id } } : State).node j = if j = id then none else s.node j := by
  simp only [State.node, find?_spDel]
  split <;> rfl

theorem setTk_ringHeld (s : State) (tk : Bool) : RingHeld s (s.setTk tk) := by
  unfold State.setTk
  refine .ite (.refl s) ?_
  exact (((RingHeld.set (f := F.CHRONO_CTRL_TK) (by decide) _ _).trans (.set (f := F.CHRONO_STAT_TSTATE) (by decide) _ _)).trans
    (.same rfl rfl)).trans (.set (f := F.CHRONO_STAT_SYNC) (by decide) _ _)

/-- The election and the domain check leave the table (R324, R341). -/
theorem electTk_ringHeld (s : State) : RingHeld s s.electTk := by
  unfold State.electTk
  extract_lets en tk old s1 s2 hops s3 s4
  have h1 : RingHeld s s1 := (RingHeld.set (f := F.RING_TOPO_COUNT) (by decide) _ _).trans (.set (f := F.RING_TOPO_ISTK) (by decide) _ _)
  have h2 : RingHeld s s2 := (h1.trans (.set (f := F.RING_TOPO_TKKNOWN) (by decide) _ _)).trans (.set (f := F.RING_TOPO_TKID) (by decide) _ _)
  have h3 : RingHeld s s3 := (h2.trans (.set (f := F.RING_HOPS_E) (by decide) _ _)).trans (.set (f := F.RING_HOPS_W) (by decide) _ _)
  have h4 : RingHeld s s4 := .ite (h3.trans (faultNew_ringHeld (f := F.RING_STAT_TKCHG) (by decide) _ _ _)) h3
  exact .ite (h4.trans (setTk_ringHeld _ _)) h4

theorem electTk_domFollow_node (s : State) (j : Nat) : s.electTk.domFollow.node j = s.node j := by
  rw [State.node, ((electTk_ringHeld s).trans (domFollow_exchangeHeld _).1).nodes, State.node]

/-- A beacon refreshes the entry of its node. -/
theorem noteBeacon_node (s : State) (p : Side) (f : RingFrame) : ∃ e, (s.noteBeacon p f).node f.src = some e ∧
    e.serial.toNat = hi32 (ringBlk f 0) ∧ e.tkpri = bitsOf (lo32 (ringBlk f 0)) 24 8 ∧ e.pair = (lo32 (ringBlk f 0)).testBit 23 ∧
      (p = .east → e.hopE = 512 - f.ttl) ∧ (p = .west → e.hopW = 512 - f.ttl) := by
  unfold State.noteBeacon
  refine ⟨_, (electTk_domFollow_node _ _).trans ((node_insert s _ _ _).trans (if_pos rfl)), ?_, rfl, rfl, fun h => if_pos h, fun h => if_pos h⟩
  have hlt : hi32 (ringBlk f 0) < 2 ^ 32 := Nat.div_lt_of_lt_mul (ringBlk f 0).isLt
  exact BitVec.toNat_ofNat _ _ |>.trans (Nat.mod_eq_of_lt hlt)

/-- A duplicate ID silences the node and is shown (R323). -/
theorem dupId_shown (s : State) (a : Acc) :
    let t := ({ s with ring := { s.ring with quiet := true } } : State).faultNew F.RING_STAT_DUPID Q.RING_DUPID a
    t.ring.quiet = true ∧ t.on F.RING_STAT_DUPID = true := by
  unfold State.faultNew
  split
  · next h => exact ⟨rfl, h⟩
  · have hraise := fun u : State => raise_ringHeld u Q.RING_DUPID a
    refine ⟨(hraise _).quiet.trans ?_, ?_⟩
    · rw [flag_ring]
    · rw [State.on, (hraise _).2, get_flag_self _ _ (by decide) (by decide)]
      rfl

/-- An entry expires alone. -/
theorem beaconGone_node {s : State} {id : Nat} (h : (s.node id).isSome = true) (j : Nat) :
    (s.beaconGone id).node j = if j = id then none else s.node j := by
  rw [State.beaconGone, if_pos h, electTk_domFollow_node, node_delete]

/-! ### Port states (R327, R328) -/

theorem ringHello_sends {s : State} {p : Side} (h : s.ringPort (sideNo p) ≠ 0) (hup : s.portUp (sideNo p) = true) :
    (s.ringHello p).tx.getLast? = some (.ring p (Own s 0 0 (2 ^ 12) true 1 [blk (s.regN R.SYS_SERIAL) (2 ^ 24 * 0x10 + s.nodeId), 0])) := by
  rw [State.ringHello, if_neg h, State.sendDirect, if_pos hup, putOn_tx]
  exact List.getLast?_concat

theorem ringHello_silent {s : State} {p : Side} (h : s.ringPort (sideNo p) = 0 ∨ s.portUp (sideNo p) = false) : s.ringHello p = s := by
  unfold State.ringHello State.sendDirect
  split
  · rfl
  · next h0 => simp [h.resolve_left h0]

theorem setRingPort_self (s : State) (p : Side) {n : Nat} (h : n < 8) : (s.setRingPort (sideNo p) n).ringPort (sideNo p) = n := by
  cases p <;> exact (get_set_self s _ n (by decide)).trans (Nat.mod_eq_of_lt h)

theorem setRingPort_rest (s : State) (p : Side) (n : Nat) : (s.setRingPort (sideNo p) n).mem = s.mem ∧ (s.setRingPort (sideNo p) n).tx = s.tx := by
  cases p <;> exact ⟨rfl, rfl⟩

/-- A HELLO of the ring moves its port as Table 3 says. -/
theorem ringHelloRx_port (s : State) (p : Side) {f : RingFrame} (hv : bitsOf (lo32 (ringBlk f 0)) 24 8 = 0x10) :
    let own := hi32 (ringBlk f 0) = s.regN R.SYS_SERIAL
    let port (t : State) := t.ringPort (sideNo p)
    port (s.ringHelloRx p f) = (if port s = 1 ∧ own then 2 else if (port s = 2 ∨ port s = 4) ∧ ¬ own then 3 else port s) ∧
      (s.ringHelloRx p f).mem = s.mem ∧ (s.ringHelloRx p f).tx = s.tx := by
  intro own port
  have he : s.ringHelloRx p f = if port s = 1 ∧ own then s.setRingPort (sideNo p) 2
      else if (port s = 2 ∨ port s = 4) ∧ ¬ own then s.setRingPort (sideNo p) 3 else s := by
    simp [State.ringHelloRx, hv, own, port, State.serial]
  rw [he]
  split
  · exact ⟨setRingPort_self s p (by decide), setRingPort_rest s p 2⟩
  · split
    · exact ⟨setRingPort_self s p (by decide), setRingPort_rest s p 3⟩
    · exact ⟨rfl, rfl, rfl⟩

theorem insertEnd_of_due {s : State} {p : Side} (h : s.ringPort (sideNo p) = 2) (hb : s.on F.RING_STAT_BYPE = true) :
    s.insertEnd p = s.setRingPort (sideNo p) 4 := by simp [State.insertEnd, h, hb]

theorem insertEnd_of_not_due {s : State} {p : Side} (h : s.ringPort (sideNo p) ≠ 2 ∨ s.on F.RING_STAT_BYPE = false) : s.insertEnd p = s := by
  rcases h with h | h <;> simp [State.insertEnd, h]

theorem isTime_cls {f : RingFrame} {k : Nat} (h : isTime f k = true) : f.cls = rcTIME := by
  simp only [isTime, Bool.and_eq_true, beq_iff_eq] at h
  exact h.1

/-- A port that takes a TIME frame is UP. -/
theorem ringPort_of_takes {s : State} {p : Side} {f : RingFrame} (h : s.ringTakes p f = true) (hf : f.cls = rcTIME) : s.ringPort (sideNo p) = 3 := by
  have hhello : isHello f = false := by simp [isHello, hf, rcTIME, rcCTRL]
  simpa [State.ringTakes, hhello] using h

/-- The events that a port's frames bring, where the port takes no such frame. -/
theorem frame_not_taken {s : State} {p : Side} {f : RingFrame} (h : s.ringTakes p f = false) (sub : Fin 16) :
    ∀ i ∈ [Instr.timeReqRx p f sub, .timeRespRx p f sub, .beaconRx p f, .ringHelloRx p f, .schedRx p f, .fixRx p f, .guarDataRx p f,
      .guarAckRx p f, .logExportRx p f, .logGapRequestRx p f], Gives i s (fun t => t = s) := by
  have hin : ∀ kind act, s.ringIn p f kind act = s := ringIn_of_not_taken h
  simp only [List.forall_mem_cons]
  exact ⟨⟨_, rfl, hin _ _⟩, ⟨_, rfl, hin _ _⟩, ⟨_, rfl, beaconRx_of_not_taken h⟩, ⟨_, rfl, hin _ _⟩, ⟨_, rfl, hin _ _⟩,
    ⟨_, rfl, hin _ _⟩, ⟨_, rfl, hin _ _⟩, ⟨_, rfl, hin _ _⟩, ⟨_, rfl, hin _ _⟩, ⟨_, rfl, hin _ _⟩, fun _ hi => absurd hi List.not_mem_nil⟩

/-- Settles O24: each clause is what is said above of the meaning that the event has. -/
theorem ringTimeBeaconAndPortEventsAct : Obligations.RingTimeBeaconAndPortEventsAct := by
  intro s p f sub xch tsq port own hello
  have hxch : ∀ t, xch t p = t.xchgOf p := fun t => by cases p <;> rfl
  have htsq : ∀ t, tsq t p = t.tseqOf p := fun t => by cases p <;> rfl
  simp only [hxch, htsq]
  refine ⟨fun hr => ⟨_, rfl, syncStart_exchanges hr p⟩, fun hr => ⟨s.syncStart, rfl, by simp [State.syncStart, hr]⟩,
    fun hgot hk hq => ⟨_, rfl, ?timeReq⟩, fun t1 hgot hk hx => ⟨_, rfl, ?timeResp⟩,
    fun hx hd => ⟨_, rfl, ?timeOut⟩, fun hx => ⟨s.timeOut p, rfl, by simp [State.timeOut, hx]⟩, ⟨_, rfl, broadcast_sends s p⟩,
    fun hgot hb hsrc => ⟨_, rfl, ?beacon⟩, fun hgot hb hsrc hown => ⟨_, rfl, ?dupId⟩,
    fun id hid => ⟨_, rfl, ?expiry⟩, fun id hid => ⟨s.beaconGone id, rfl, by simp [State.beaconGone, hid]⟩,
    fun hp hup => ⟨_, rfl, ringHello_sends hp hup⟩, fun hp => ⟨_, rfl, ringHello_silent hp⟩, fun hgot hh => ⟨_, rfl, ?hello⟩,
    fun hp hb => ⟨_, rfl, ?insert⟩, fun hp => ⟨_, rfl, insertEnd_of_not_due hp⟩, fun hno => frame_not_taken hno sub⟩
  case timeReq =>
    have htime := isTime_cls hk
    rw [ringIn_of_stays hgot hk (.inl htime)]
    exact ringOrig_last rfl (ringPort_of_takes hgot.1 htime) (.inl hq)
  case timeResp =>
    rw [ringIn_of_stays hgot hk (.inl (isTime_cls hk))]
    obtain ⟨hnone, hdly, hoff, hct⟩ := timeResp_completes sub hx
    refine ⟨hnone, Eq.trans ?_ hdly, hoff, hct⟩
    cases p <;> rfl
  case timeOut =>
    rw [timeOut_of_open hx hd]
    cases p <;> exact ⟨rfl, rfl, rfl⟩
  case beacon =>
    rw [beaconRx_of_other hgot hb hsrc]
    exact noteBeacon_node _ p f
  case dupId =>
    rw [beaconRx_of_own hgot hb hsrc hown]
    exact dupId_shown s (hw 0)
  case expiry =>
    refine ⟨(beaconGone_node hid _).trans (if_pos rfl), fun j hj => (beaconGone_node hid j).trans (if_neg hj)⟩
  case hello =>
    obtain ⟨hkind, hver⟩ := hh
    rw [ringIn_of_stays hgot hkind (.inr hkind)]
    exact ringHelloRx_port s p hver
  case insert =>
    rw [insertEnd_of_due hp hb]
    exact ⟨setRingPort_self s p (by decide), (setRingPort_rest s p 4).1⟩

end Sys2Proof.Machine

/-! ## O33: the Sextant's update, grid points, local edges and the capture agent. A capture counts its record with the record size that a
BLOCK_STACK raise of LOG_DROP leaves, and a finished command's slot of any number may share its status word with LOG_SIG. -/
namespace Sys2Proof.Machine
open Sys2Proof.Stmt

/-! ### What follows from a command counts no record -/

/-- `t` counts as many records of the Log as `s`. -/
def CountSame (s t : State) : Prop := t.log.count = s.log.count

namespace CountSame

theorem refl (s : State) : CountSame s s := rfl

theorem trans {s t u : State} (h : CountSame s t) (k : CountSame t u) : CountSame s u := Eq.trans k h

theorem of_log {s t : State} (h : t.log = s.log) : CountSame s t := congrArg LogSt.count h

theorem ite {s t u : State} {c : Prop} [Decidable c] (h : CountSame s t) (k : CountSame s u) : CountSame s (if c then t else u) := by
  split <;> assumption

theorem fold {α : Type} {f : State → α → State} (h : ∀ s x, CountSame s (f s x)) (l : List α) (s : State) : CountSame s (l.foldl f s) := by
  induction l generalizing s with
  | nil => exact refl s
  | cons x l ih => exact (h s x).trans (ih (f s x))

theorem set (s : State) (f : Fld) (n : Nat) : CountSame s (s.set f n) := rfl
theorem setReg (s : State) (a : Nat) (v : Word) : CountSame s (s.setReg a v) := rfl
theorem ocl (s : State) (x : OclSt) : CountSame s { s with ocl := x } := rfl
theorem safe (s : State) (x : SafeSt) : CountSame s { s with safe := x } := rfl
theorem setLane (s : State) (l : Nat) (x : OclLane) : CountSame s (s.setLane l x) := rfl
theorem setPairBit (s : State) (lo l : Nat) (b : Bool) : CountSame s (s.setPairBit lo l b) := rfl
theorem setFbit (s : State) (f : Fld) (i : Nat) (b : Bool) : CountSame s (s.setFbit f i b) := of_log (setFbit_log s f i b)
theorem flag (s : State) (f : Fld) : CountSame s (s.flag f) := of_log (flag_log s f)
theorem raise (s : State) (q : Src) (a : Acc) : CountSame s (s.raise q a) := of_log (raise_log s q a)
theorem faultNew (s : State) (f : Fld) (q : Src) (a : Acc) : CountSame s (s.faultNew f q a) := of_log (faultNew_log s f q a)
theorem faultBit (s : State) (f : Fld) (i : Nat) (q : Src) (a : Acc) : CountSame s (s.faultBit f i q a) :=
  ite (refl s) ((setFbit s f i true).trans (raise _ q a))

end CountSame

theorem lanePump_countSame (s : State) (l : Nat) : CountSame s (s.lanePump l) := by
  obtain ⟨_, _, _, _, _, h⟩ := lanePump_wireWork s l
  rw [h]
  rfl

theorem issueCmd_countSame (s : State) (l opc src : Nat) (data : List Word64) : CountSame s (s.issueCmd l opc src data) :=
  (CountSame.setLane s l _).trans (lanePump_countSame _ l)

theorem laneSend_countSame (s : State) (l : Nat) (f : LinkFrame) : CountSame s (s.laneSend l f) :=
  (CountSame.setLane s l _).trans (lanePump_countSame _ l)

theorem sendCapq_countSame (s : State) (l : Nat) : CountSame s (s.sendCapq l) := by
  unfold State.sendCapq State.newFrame
  exact ((CountSame.setLane s l _).trans (.setLane _ l _)).trans (laneSend_countSame _ l _)

theorem nextCmd_countSame (s : State) (l : Nat) : CountSame s (s.nextCmd l) := by
  unfold State.nextCmd
  refine .ite (.refl s) (.ite (issueCmd_countSame ..) ?_)
  split
  · exact (CountSame.setLane s l _).trans (issueCmd_countSame ..)
  · exact .refl s

theorem lcmdFailed_countSame (s : State) : CountSame s s.lcmdFailed := (CountSame.set s _ _).trans (.flag _ _)

theorem cmdFail_countSame (s : State) (l : Nat) (c : OclCmd) : CountSame s (s.cmdFail l c) := by
  have h := (CountSame.setLane s l { s.lane l with cmd := none }).trans (.faultNew _ (F.OCL_LSTAT_CMDFAIL l) Q.OCL_CMDFAIL (hw (oclBase l)))
  exact .ite (h.trans (lcmdFailed_countSame _)) h

theorem leaveReady_countSame (s : State) (l : Nat) : CountSame s (s.leaveReady l) := by
  unfold State.leaveReady
  extract_lets t u
  have ht : CountSame s t := (CountSame.setPairBit s _ l false).trans (.faultNew _ _ _ _)
  have hu : CountSame t u := by
    unfold u
    split
    · exact cmdFail_countSame t l _
    · exact .refl t
  refine (ht.trans hu).trans (.ite ?_ (.refl u))
  exact ((CountSame.setLane u l _).trans (.faultNew _ _ _ _)).trans (lcmdFailed_countSame _)

theorem toState_countSame (s : State) (l st : Nat) : CountSame s (s.toState l st) := by
  unfold State.toState
  extract_lets t u x quiet
  have ht : CountSame s t := .ite (leaveReady_countSame s l) (.refl s)
  have hu : CountSame s u := ht.trans (.set t _ st)
  have hquiet : ∀ v, CountSame v (quiet v) := fun v => (CountSame.setLane v l _).trans (.set _ _ 0)
  clear_value u quiet
  refine hu.trans (.ite ?off (.ite ?down (.ite ?query (.ite ?config (.ite ?tsync (.ite ?ready ?other))))))
  case off =>
    refine .trans ?_ (.setPairBit _ _ l false)
    exact ((((hquiet u).trans (.ocl _ _)).trans (.set _ _ 0)).trans (.set _ _ 0)).trans (.set _ _ 0)
  case down => exact (hquiet u).trans (.set _ _ 0)
  case query => exact ((hquiet u).trans (.set _ _ 0)).trans (sendCapq_countSame _ l)
  case config => exact issueCmd_countSame u l 2 0 _
  case tsync => exact .setLane u l _
  case ready => exact .setPairBit u _ l true
  case other => exact .setLane u l _

theorem laneFollow_countSame (s : State) (l : Nat) : CountSame s (s.laneFollow l) := by
  unfold State.laneFollow
  refine .ite (.ite (.refl s) (toState_countSame s l _)) ?_
  extract_lets t
  have ht : CountSame s t := .ite (toState_countSame s l _) (.refl s)
  exact ht.trans (.ite (toState_countSame t l _) (.ite (toState_countSame t l _) (nextCmd_countSame t l)))

theorem setRmax_countSame (s : State) (l : Nat) : CountSame s (s.setRmax l) := by
  unfold State.setRmax
  extract_lets t
  have ht : CountSame s t := .set s _ _
  exact ht.trans (.ite (.ite ((CountSame.set t _ 7).trans (.faultNew _ _ _ _)) (.refl t)) (.ite (.set t _ 0) (.refl t)))

theorem lanesFollow_countSame (s t : State) : CountSame t (s.lanesFollow t) := by
  unfold State.lanesFollow
  extract_lets t1 t2
  have h1 : CountSame t t1 := .fold laneFollow_countSame _ t
  have hf : ∀ (u : State) (e : Nat × OclLane), CountSame u (u.setFollow e.1) := fun u e => (CountSame.set u _ _).trans (.setPairBit _ _ e.1 _)
  have h2 : CountSame t1 t2 := .ite (.fold hf _ t1) (.refl t1)
  exact (h1.trans h2).trans (.ite (.fold setRmax_countSame _ t2) (.refl t2))

theorem evalStoCh_countSame (s : State) (a : Nat) : CountSame s (s.evalStoCh a) := by
  unfold State.evalStoCh
  refine .ite (.ite (.refl s) ?_) (.set s _ 0)
  extract_lets t u
  have ht : CountSame s t := (CountSame.flag s _).trans (.set _ _ 0)
  have hu : CountSame t u := .ite (.flag t _) (.refl t)
  exact (ht.trans hu).trans (.faultBit u _ a _ _)

theorem ss1Start_countSame (s : State) (new a : Nat) : CountSame s (s.ss1Start new a) := by
  unfold State.ss1Start
  refine .ite ?_ (.refl s)
  exact (((CountSame.safe s _).trans (.flag _ _)).trans (.set _ _ _)).trans (.set _ _ _)

theorem demandEdges_countSame (s : State) (old : Nat) : CountSame s (s.demandEdges old) := by
  unfold State.demandEdges
  extract_lets new t
  have ht : CountSame s t := .fold (fun s n => .ite (.faultBit s _ n _ _) (.refl s)) _ s
  exact ht.trans (.fold (fun s a => ss1Start_countSame s new a) _ t)

theorem gateCh_countSame (s : State) (a : Nat) : CountSame s (s.gateCh a) := by
  unfold State.gateCh
  extract_lets hold
  have h : ∀ b u, CountSame u (hold b u) := fun _ _ => rfl
  exact .ite (.ite (.refl s) ((CountSame.flag s _).trans (h true _))) (h false _)

theorem soutCh_countSame (s : State) (n : Nat) : CountSame s (s.soutCh n) := by
  unfold State.soutCh
  extract_lets due _ t on
  have ht : CountSame s t := .ite rfl rfl
  exact (ht.trans (.set t _ _)).trans (.setFbit _ _ n on)

theorem startDeferred_countSame (s : State) : CountSame s s.startDeferred := by
  unfold State.startDeferred
  refine .fold (fun s a => .ite ?_ (.refl s)) _ s
  exact (CountSame.safe s _).trans (.flag _ _)

theorem pairAt_countSame (s : State) (t j : Nat) (high : Bool) : CountSame s (s.pairAt t j high) := .ite rfl rfl
theorem gateAt_countSame (s : State) (t k : Nat) (high : Bool) : CountSame s (s.gateAt t k high) := .ite rfl (.ite rfl rfl)

theorem pinsAt_countSame (s : State) (t : Nat) : CountSame s (s.pinsAt t) := by
  unfold State.pinsAt
  extract_lets s1 s2
  have h1 : CountSame s s1 := .ite rfl (.ite rfl rfl)
  have h2 : CountSame s1 s2 := .fold (fun s j => (pairAt_countSame s t j true).trans (pairAt_countSame _ t j false)) _ s1
  refine (h1.trans h2).trans (.fold (fun s k => ?_) _ s2)
  extract_lets u
  have hu : CountSame s u := .ite (.faultNew s _ _ _) (.refl s)
  exact hu.trans (.ite ((gateAt_countSame u t k false).trans (gateAt_countSame _ t k true))
    ((gateAt_countSame u t k true).trans (gateAt_countSame _ t k false)))

theorem follow_countSame (s : State) : CountSame s s.follow := by
  have h1 : CountSame s s.evalSto := .fold evalStoCh_countSame _ s
  have h2 : CountSame s.evalSto s.evalSto.gates := .fold gateCh_countSame _ _
  have h3 : CountSame s.evalSto.gates s.evalSto.gates.souts := .fold soutCh_countSame _ _
  exact (((h1.trans h2).trans h3).trans (startDeferred_countSame _)).trans (pinsAt_countSame _ _)

theorem setRingPort_countSame (s : State) (p st : Nat) : CountSame s (s.setRingPort p st) := .ite rfl rfl

theorem ringPorts_countSame (s : State) : CountSame s s.ringPorts := by
  unfold State.ringPorts
  extract_lets t both on
  have ht : CountSame s t := (setRingPort_countSame s 0 _).trans (setRingPort_countSame _ 1 _)
  exact (ht.trans (.set t _ _)).trans (.set _ _ _)

theorem trips_countSame (s t : State) : CountSame t (s.trips t) := by
  have hburst : ∀ (u : State) (l : Nat), CountSame u (u.tripBurst l) := fun _ _ => .ite rfl rfl
  have h : CountSame t ((t.count R.TRIP_CNT ((List.range 20).filter fun i => t.tripped i && !s.tripped i).length).setRegN R.TRIP_ACT t.tripAct) := rfl
  exact h.trans (.fold hburst _ _)

theorem noteEvents_countSame (s t : State) : CountSame t (s.noteEvents t) := by
  unfold State.noteEvents
  exact .ite rfl rfl

theorem event_countSame (s : State) : CountSame s s.event := by
  unfold State.event
  extract_lets e s1 body
  have h1 : CountSame s s1 := .setReg s _ _
  refine h1.trans (.fold (fun s f => .ite ?_ (.refl s)) _ s1)
  exact .of_log ((setFlow_kept _ _ _).trans (toHost_kept _ _)).log

/-- What follows from a command in its tick counts no record of the Log. -/
theorem settle_countSame (s t : State) : CountSame t (settle s t) := by
  unfold settle
  extract_lets t1 t2 t3 t4 t5 t6
  have h1 : CountSame t t1 := .ite rfl (.refl t)
  have hd : CountSame t1 (t1.demandEdges s.demands).dropSs1 := (demandEdges_countSame t1 _).trans rfl
  have h2 : CountSame t1 t2 := ((hd.trans (follow_countSame _)).trans (ringPorts_countSame _)).trans (.ite (.faultNew _ _ _ _) (.refl _))
  have h3 : CountSame t2 t3 := lanesFollow_countSame s t2
  have h4 : CountSame t3 t4 := follow_countSame t3
  have h5 : CountSame t4 t5 := (trips_countSame s t4).trans (noteEvents_countSame s _)
  have h6 : CountSame t5 t6 := .ite (.raise t5 _ _) (.refl t5)
  have h7 : CountSame t6 (if newEvent s t6 then t6.event else t6) := .ite (event_countSame t6) (.refl t6)
  exact (((((h1.trans h2).trans h3).trans h4).trans h5).trans h6).trans h7

/-! ### A record whose capture blocks the stack -/

/-- A command of flow 4 on the QSPI port. -/
def sharedCmd : HCmd := { key := ⟨4, 1⟩, hseq := 1, opc := 0x10, cls := 0, node := 0, body := [], src := 0, port := .qspi }

/-- Its record, taken in and started. -/
def sharedRec : HRec :=
  { cmd := sharedCmd, nvmWait := false, jackWait := false, started := true, accepted := false, unmirrored := false, partner := false, remote := false,
    apply := false, tick := 0, prio := 0, order := 0 }

/-- The device in RUN at the deadline of a period, the Log armed with one signal of four bytes, 32768 slots and 32767 records, streaming to a port
that is down; LOG_DROP blocks the stack, and the command that a block cancels has the slot 0xFFFF0, whose status word has the address of LOG_SIG 0. -/
def sSharedSlot : State :=
  { State.reset with
    regs := [(R.SYS_STATE, 7), (R.ENG_STAT, 4), (R.HOST_LOGCFG, 0x80000000), (R.LOG_CTRL, 2), (R.LOG_STAT, 1), (R.LOG_CFG, 1),
      (R.LOG_SIG 0, 0xC000003F)]
    faults := { State.reset.faults with src := [(srcKey Q.LOG_DROP, { pend := false, ie := true, rlvl := 0, react := 4 })] }
    sys := { State.reset.sys with move := some ⟨stRUN, [sharedCmd.key]⟩ }
    log := { State.reset.log with count := 32767 }
    host := { State.reset.host with flows := [(4, { flowInit with taken := [sharedRec] })], ops := [(0xFFFF0, ⟨sharedCmd, [], []⟩)] } }

theorem sSharedSlot_nslot : sSharedSlot.nslot = 32768 := by decide

/-- Releasing the slot clears the top bit of LOG_SIG 0: the signal becomes one of 64 lanes, and 10922 records fit. -/
theorem sSharedSlot_captured : sSharedSlot.logCapture.log.count = 10922 := by decide

/-- Refutes O33, in its clause of a capture in PRE without a trigger: in `sSharedSlot` the record fills the last of 32768 slots, but its LOG_DROP
blocks the stack and so changes LOG_SIG 0 before the record is counted, and 10922 are counted. The state is none that a run leaves, but the clause
speaks of every state. -/
theorem not_gridEdgeAndCaptureEventsAct : ¬ Obligations.GridEdgeAndCaptureEventsAct := by
  intro h
  obtain ⟨-, -, -, -, -, -, -, hCapture, -⟩ := h sSharedSlot 0
  obtain ⟨t, hExec, -, -, -, -, hCount⟩ := hCapture (by decide) (by decide) (by decide)
  have hSettle : settle sSharedSlot sSharedSlot.logCapture = settle sSharedSlot t := Host.Outcome.next.inj hExec
  have hSame : t.log.count = sSharedSlot.logCapture.log.count := by
    rw [← settle_countSame sSharedSlot t, ← hSettle, settle_countSame]
  have hFull : t.log.count = min (sSharedSlot.log.count + 1) sSharedSlot.nslot := hCount (by decide) (by decide) (by decide)
  rw [hSame, sSharedSlot_captured, sSharedSlot_nslot] at hFull
  exact absurd hFull (by decide)

end Sys2Proof.Machine

/-! ## The engine's registers after a write-back (03 R111, R112; 04 R148, R150) -/
namespace Sys2Proof.Machine

/-! ### Lanes of a table -/

/-- The table `m` with `x n` at lane `n` of row `r` for the lanes of `l` that `c` selects. -/
def tableLanes {α : Type} [DecidableEq α] (d : α) (r : Nat) (c : Nat → Bool) (x : Nat → α) (l : List Nat) (m : List (Nat × α)) : List (Nat × α) :=
  l.foldl (fun m n => if c n then spPut d m (64 * r + n) (x n) else m) m

/-- A selected lane reads its new value, any other key what it read before. -/
theorem spGet_tableLanes {α : Type} [DecidableEq α] (d : α) (r : Nat) (c : Nat → Bool) (x : Nat → α) (l : List Nat) (m : List (Nat × α)) (k : Nat) :
    spGet d (tableLanes d r c x l m) k = if 64 * r ≤ k ∧ k - 64 * r ∈ l ∧ c (k - 64 * r) = true then x (k - 64 * r) else spGet d m k := by
  unfold tableLanes
  induction l generalizing m with
  | nil => simp
  | cons n l ih =>
    rw [List.foldl_cons, ih]
    by_cases hl : 64 * r ≤ k ∧ k - 64 * r ∈ l ∧ c (k - 64 * r) = true
    · rw [if_pos hl, if_pos ⟨hl.1, List.mem_cons_of_mem _ hl.2.1, hl.2.2⟩]
    · rw [if_neg hl]
      by_cases hk : k = 64 * r + n
      · subst hk
        cases hc : c n <;> simp [hc, spGet_spPut]
      · have hn : ¬ (64 * r ≤ k ∧ k - 64 * r ∈ n :: l ∧ c (k - 64 * r) = true) := by
          rintro ⟨h1, h2, h3⟩
          rcases List.mem_cons.mp h2 with h2 | h2
          · exact hk (by omega)
          · exact hl ⟨h1, h2, h3⟩
        rw [if_neg hn]
        split
        · rw [spGet_spPut, if_neg hk]
        · rfl

/-- The same for lane `n` of row `q` when every lane of the row may be selected. -/
theorem spGet_tableLanes_lane {α : Type} [DecidableEq α] (d : α) (r q : Nat) (c : Nat → Bool) (x : Nat → α) (m : List (Nat × α)) {n : Nat} (hn : n < 64) :
    spGet d (tableLanes d r c x (List.range 64) m) (64 * q + n) = if q = r ∧ c n = true then x n else spGet d m (64 * q + n) := by
  rw [spGet_tableLanes]
  by_cases hq : q = r
  · subst hq; simp [hn]
  · have : ¬ (64 * r ≤ 64 * q + n ∧ 64 * q + n - 64 * r < 64) := by omega
    simp only [List.mem_range, hq, false_and, if_false]
    rw [if_neg]; rintro ⟨h1, h2, -⟩; exact this ⟨h1, h2⟩

/-! ### Changes of registers -/

theorem foldl_setV (r : Nat) (c : Nat → Bool) (x : Nat → BitVec 16) (l : List Nat) (s : State) :
    l.foldl (fun s n => if c n then s.setV r n (x n) else s) s = { s with eng := { s.eng with v := tableLanes 0 r c x l s.eng.v } } := by
  unfold tableLanes
  induction l generalizing s with
  | nil => rfl
  | cons n l ih => rw [List.foldl_cons, ih]; cases h : c n <;> simp [h, State.setV]

theorem foldl_setA (r : Nat) (c : Nat → Bool) (x : Nat → BitVec 40) (l : List Nat) (s : State) :
    l.foldl (fun s n => if c n then s.setA r n (x n) else s) s = { s with eng := { s.eng with a := tableLanes 0 r c x l s.eng.a } } := by
  unfold tableLanes
  induction l generalizing s with
  | nil => rfl
  | cons n l ih => rw [List.foldl_cons, ih]; cases h : c n <;> simp [h, State.setA]

/-- A change with no overflow lands as it applies. -/
theorem land_single (s : State) (lat : Nat) (a : WbAct) (h : (s.applyAct a).2 = 0) :
    s.land { left := lat, acts := [a], flags := [], ssat := false, sdz := false } = (s.applyAct a).1 := by
  simp [State.land, h, State.setFlags, State.setScalarFlags]

/-- Setting a lane flag leaves the engine's registers and pages as a raise does. -/
theorem setLaneFlag_regs (s : State) (f : Nat) (lanes : Word64) : (s.setLaneFlag f lanes).eng.v = s.eng.v ∧ (s.setLaneFlag f lanes).eng.a = s.eng.a ∧
    (s.setLaneFlag f lanes).eng.k = s.eng.k ∧ (s.setLaneFlag f lanes).eng.sr = s.eng.sr := by
  unfold State.setLaneFlag
  dsimp only
  split
  · exact ⟨rfl, rfl, rfl, rfl⟩
  · split
    · simp
    · obtain ⟨x, h⟩ := raise_but_faults (((((s.mark (flagReg f) (lanes.truncate 32)).mark (flagReg f + 4) ((lanes >>> 32).truncate 32)).setReg64
        (flagReg f) _).flgSum).seenFlag f) (flagSrc f) (hw 0)
      exact ⟨h.v.trans (by simp [State.seenFlag, State.flgSum]), h.a.trans (by simp [State.seenFlag, State.flgSum]),
        h.k.trans (by simp [State.seenFlag, State.flgSum]), h.sr.trans (by simp [State.seenFlag, State.flgSum])⟩

/-! ### The cycles of a write-back -/

theorem cycle_of_waiting (s : State) {w : Wb} (h : 1 < w.left) :
    State.cycle { s with eng := { s.eng with pend := [w] } } = { s with eng := { s.eng with pend := [{ w with left := w.left - 1 }] } } := by
  have : ¬ w.left ≤ 1 := by omega
  simp [State.cycle, h, this]

theorem cycle_of_due (s : State) {w : Wb} (h : w.left ≤ 1) :
    State.cycle { s with eng := { s.eng with pend := [w] } } = ({ s with eng := { s.eng with pend := [] } } : State).land w := by
  have : ¬ 1 < w.left := by omega
  simp [State.cycle, h, this]

/-- Before its last cycle a write-back alone in flight only counts down. -/
theorem cycles_before_due (s : State) (n : Nat) {w : Wb} (h : n < w.left) :
    State.cycles n { s with eng := { s.eng with pend := [w] } } = { s with eng := { s.eng with pend := [{ w with left := w.left - n }] } } := by
  induction n generalizing w with
  | zero => rfl
  | succ n ih =>
    rw [State.cycles, cycle_of_waiting s (by omega), ih (by simp only; omega)]
    simp only [Nat.sub_sub, Nat.add_comm 1 n]

/-- In its last cycle it lands. -/
theorem cycles_land (s : State) {w : Wb} (h : 1 ≤ w.left) :
    State.cycles w.left { s with eng := { s.eng with pend := [w] } } = ({ s with eng := { s.eng with pend := [] } } : State).land w := by
  obtain ⟨n, hn⟩ : ∃ n, w.left = n + 1 := ⟨w.left - 1, by omega⟩
  have split : ∀ k t, State.cycles (k + 1) t = (State.cycles k t).cycle := by
    intro k
    induction k with
    | zero => intro t; rfl
    | succ k ih => intro t; exact ih t.cycle
  rw [hn, split, cycles_before_due s n (by omega), cycle_of_due s (by simp only; omega)]
  rfl

theorem sat40_eq (x : Int) : sat40 x = BitVec.ofInt 40 (max (-(2 ^ 39)) (min (2 ^ 39 - 1) x)) := by
  simp only [sat40, satS, minS, maxS]; rw [clampInt_eq _ _ _ (by norm_num)]; norm_num

section
variable (s : State) (lat : Nat)

theorem land_vec (r : Nat) (m : Word64) (vals : List (BitVec 16)) : s.land { left := lat, acts := [.vec r m vals], flags := [], ssat := false, sdz := false }
    = { s with eng := { s.eng with v := tableLanes 0 r (inMask m) (fun n => vals.getD n 0) (List.range 64) s.eng.v } } := by
  rw [land_single s lat _ rfl]; exact foldl_setV r (inMask m) (fun n => vals.getD n 0) _ s

/-- A write of a vector register changes the selected lanes of it alone. -/
theorem land_vec_lane (r q : Nat) (m : Word64) (vals : List (BitVec 16)) {n : Nat} (hn : n < 64) :
    (s.land { left := lat, acts := [.vec r m vals], flags := [], ssat := false, sdz := false }).vLane q n =
      if q = r ∧ m.getLsbD n = true then vals.getD n 0 else s.vLane q n := by
  rw [land_vec, State.vLane, spGet_tableLanes_lane 0 r q (inMask m) (fun n => vals.getD n 0) s.eng.v hn, inMask_eq]; rfl

/-- The state in which an accumulation sets its flags. -/
theorem land_accum (r : Nat) (m : Word64) (adds : List Int) : ∃ lanes, s.land { left := lat, acts := [.accum r m adds], flags := [], ssat := false, sdz := false } =
    ({ s with eng := { s.eng with a := tableLanes 0 r (inMask m) (fun n => sat40 (s.aS r n + adds.getD n 0)) (List.range 64) s.eng.a } } : State).setFlags lanes false false :=
  ⟨_, congrArg (fun t : State => t.setFlags _ false false) (foldl_setA r (inMask m) (fun n => sat40 (s.aS r n + adds.getD n 0)) (List.range 64) s)⟩

theorem setFlags_regs (lanes : List Word64) : (s.setFlags lanes false false).eng.v = s.eng.v ∧ (s.setFlags lanes false false).eng.a = s.eng.a ∧
    (s.setFlags lanes false false).eng.k = s.eng.k ∧ (s.setFlags lanes false false).eng.sr = s.eng.sr := by
  simp only [State.setFlags, State.setScalarFlags, Bool.false_eq_true, if_false]
  induction (List.range lanes.length).zip lanes generalizing s with
  | nil => exact ⟨rfl, rfl, rfl, rfl⟩
  | cons e l ih =>
    obtain ⟨hv, ha, hk, hs⟩ := ih (s.setLaneFlag e.1 e.2)
    obtain ⟨hv', ha', hk', hs'⟩ := setLaneFlag_regs s e.1 e.2
    exact ⟨hv.trans hv', ha.trans ha', hk.trans hk', hs.trans hs'⟩

/-- An accumulation changes the selected lanes of its accumulator alone, by the sum as it then stands. -/
theorem land_accum_lane (r q : Nat) (m : Word64) (adds : List Int) {n : Nat} (hn : n < 64) :
    (s.land { left := lat, acts := [.accum r m adds], flags := [], ssat := false, sdz := false }).aLane q n =
      if q = r ∧ m.getLsbD n = true then BitVec.ofInt 40 (max (-(2 ^ 39)) (min (2 ^ 39 - 1) (s.aS r n + adds.getD n 0))) else s.aLane q n := by
  obtain ⟨lanes, h⟩ := land_accum s lat r m adds
  rw [h, State.aLane, (setFlags_regs _ lanes).2.1, ← sat40_eq]
  rw [spGet_tableLanes_lane 0 r q (inMask m) (fun n => sat40 (s.aS r n + adds.getD n 0)) s.eng.a hn, inMask_eq]; rfl

theorem land_accum_others (r : Nat) (m : Word64) (adds : List Int) :
    let u := s.land { left := lat, acts := [.accum r m adds], flags := [], ssat := false, sdz := false }
    u.eng.v = s.eng.v ∧ u.eng.k = s.eng.k ∧ u.eng.sr = s.eng.sr := by
  obtain ⟨lanes, h⟩ := land_accum s lat r m adds
  rw [h]
  obtain ⟨hv, -, hk, hs⟩ := setFlags_regs ({ s with eng := { s.eng with a := _ } } : State) lanes
  exact ⟨hv, hk, hs⟩

theorem land_mask {k : Nat} (hk : 1 ≤ k) (sel val : Word64) :
    s.land { left := lat, acts := [.mask k sel val], flags := [], ssat := false, sdz := false } =
      { s with eng := { s.eng with k := spPut 0 s.eng.k k ((s.kReg k &&& ~~~ sel) ||| (val &&& sel)) } } := by
  rw [land_single s lat _ rfl]; simp only [State.applyAct, State.setK]; rw [if_neg (by omega)]

theorem land_scal (r : Nat) (v : Word) :
    s.land { left := lat, acts := [.scal r v], flags := [], ssat := false, sdz := false } = { s with eng := { s.eng with sr := spPut 0 s.eng.sr r v } } := by
  rw [land_single s lat _ rfl]; rfl

end

/-- Settles O9, by `cycles_before_due`, `cycles_land` and what a write-back of each kind lands as. -/
theorem writeBackLandsAfterItsLatency : Obligations.WriteBackLandsAfterItsLatency := by
  unfold Obligations.WriteBackLandsAfterItsLatency
  intro s w hw
  refine ⟨fun n hn => cycles_before_due s n hn, cycles_land s hw, ?_, ?_, ?_, ?_⟩
  · intro r m vals lat
    refine ⟨fun n hn => ?_, fun q n hq hn => ?_, _, land_vec s lat r m vals⟩
    · rw [land_vec_lane s lat r r m vals hn]; simp
    · rw [land_vec_lane s lat r q m vals hn, if_neg (fun h => hq h.1)]
  · intro r m adds lat
    refine ⟨fun n hn => ?_, fun q n hq hn => ?_, land_accum_others s lat r m adds⟩
    · rw [land_accum_lane s lat r r m adds hn]; simp
    · rw [land_accum_lane s lat r q m adds hn, if_neg (fun h => hq h.1)]
  · intro k sel val lat hk
    dsimp only
    rw [land_mask s lat hk]
    refine ⟨?_, fun q hq => ?_, _, rfl⟩
    · simp only [State.kReg]; rw [if_neg (by omega), if_neg (by omega), spGet_spPut, if_pos rfl]
    · simp only [State.kReg]; rw [spGet_spPut, if_neg hq]; rfl
  · intro r v lat
    dsimp only
    rw [land_scal]
    exact ⟨by simp [State.sReg, spGet_spPut], fun q hq => by simp [State.sReg, spGet_spPut, hq], _, rfl⟩

end Sys2Proof.Machine

/-! ## Loads and stores of the engine memories (03 R123 to R128; 04 R155 to R157) -/
namespace Sys2Proof.Machine
open Stmt

/-! ### Memory -/

theorem memRead_lt (m : List Host.Cell) (a n : Nat) : memRead m a n < 256 ^ n := by
  induction n generalizing a with
  | zero => simp [memRead]
  | succ n ih =>
    have := ih (a + 1)
    have := (memGet m a).isLt
    rw [memRead, pow_succ]; omega

/-- Bytes read back as they were written. -/
theorem memRead_memWrite_self (m : List Host.Cell) (a n v : Nat) : memRead (memWrite m a n v) a n = v % 256 ^ n := by
  induction n generalizing m a v with
  | zero => simp [memRead, Nat.mod_one]
  | succ n ih =>
    rw [memRead, memWrite, ih, memGet_memWrite_ne _ _ _ _ (by omega), memGet_memPut, if_pos rfl, BitVec.toNat_ofNat, pow_succ 256 n,
      Nat.mul_comm (256 ^ n), Nat.mod_mul]

/-- A stored lane or word reads back. -/
theorem load_store_self (s : State) (a n : Nat) {v : Nat} (h : v < 256 ^ n) : (s.store a n v).load a n = v := by
  rw [State.load, State.store, memRead_memWrite_self, Nat.mod_eq_of_lt h]

theorem load_store_ne (s : State) (a n v : Nat) {b k : Nat} (h : b + k ≤ a ∨ a + n ≤ b) : (s.store a n v).load b k = s.load b k :=
  memRead_memWrite_ne _ _ _ _ h

/-! ### The lanes of a row -/

theorem putLanes_eq (s : State) (r : Nat) (mask : Word64) (vals : List (BitVec 16)) : ∃ mem, s.putLanes r mask vals = { s with mem } := by
  unfold State.putLanes
  induction List.range 64 generalizing s with
  | nil => exact ⟨s.mem, rfl⟩
  | cons n l ih =>
    rw [List.foldl_cons]
    split
    · obtain ⟨mem, h⟩ := ih (s.store (vdmAddr r n) 2 (vals.getD n 0).toNat)
      exact ⟨mem, h⟩
    · exact ih s

@[simp] theorem putLanes_eng (s : State) (r : Nat) (mask : Word64) (vals : List (BitVec 16)) : (s.putLanes r mask vals).eng = s.eng := by
  obtain ⟨mem, h⟩ := putLanes_eq s r mask vals
  rw [h]

/-- The lanes of a list are stored one by one, each in its own two bytes. -/
theorem load_foldl_store (r : Nat) (c : Nat → Bool) (x : Nat → BitVec 16) (l : List Nat) (s : State) (n : Nat) :
    (l.foldl (fun s n => if c n then s.store (vdmAddr r n) 2 (x n).toNat else s) s).load (vdmAddr r n) 2 =
      if n ∈ l ∧ c n = true then (x n).toNat else s.load (vdmAddr r n) 2 := by
  induction l generalizing s with
  | nil => simp
  | cons q l ih =>
    rw [List.foldl_cons, ih]
    by_cases hl : n ∈ l ∧ c n = true
    · rw [if_pos hl, if_pos ⟨List.mem_cons_of_mem _ hl.1, hl.2⟩]
    · rw [if_neg hl]
      by_cases hq : n = q
      · subst hq
        cases hc : c n
        · simp
        · simp [load_store_self _ _ 2 (x n).isLt]
      · have hne : vdmAddr r n + 2 ≤ vdmAddr r q ∨ vdmAddr r q + 2 ≤ vdmAddr r n := by unfold vdmAddr; omega
        have hn : ¬ (n ∈ q :: l ∧ c n = true) := by simpa only [List.mem_cons, hq, false_or] using hl
        rw [if_neg hn]
        cases c q
        · rfl
        · exact load_store_ne _ _ _ _ hne

/-- Writing lanes of a row changes the selected lanes. -/
theorem putLanes_load (s : State) (r : Nat) (mask : Word64) (vals : List (BitVec 16)) {n : Nat} (hn : n < 64) :
    (s.putLanes r mask vals).load (vdmAddr r n) 2 = if mask.getLsbD n then (vals.getD n 0).toNat else s.load (vdmAddr r n) 2 := by
  unfold State.putLanes
  rw [load_foldl_store r (fun n => mask.toNat.testBit n) (fun n => vals.getD n 0)]
  simp only [List.mem_range, hn, true_and]
  rfl

/-- Writing lanes of a row keeps every byte outside the row. -/
theorem putLanes_bytes (s : State) (r : Nat) (mask : Word64) (vals : List (BitVec 16)) : BytesKept s (s.putLanes r mask vals) (vdmAddr r 0) 128 := by
  unfold State.putLanes
  have key : ∀ (l : List Nat) (s : State), (∀ n ∈ l, n < 64) → BytesKept s
      (l.foldl (fun s n => if mask.toNat.testBit n then s.store (vdmAddr r n) 2 (vals.getD n 0).toNat else s) s) (vdmAddr r 0) 128 := by
    intro l
    induction l with
    | nil => exact fun s _ x _ => rfl
    | cons n l ih =>
      intro s hl x hx
      rw [List.foldl_cons, ih _ (fun q hq => hl q (List.mem_cons_of_mem _ hq)) x hx]
      split
      · have hn := hl n List.mem_cons_self
        exact memGet_memWrite_ne _ _ _ _ (by unfold vdmAddr at hx ⊢; omega)
      · rfl
  exact key _ s fun n hn => List.mem_range.mp hn

/-! ### Writes of the Crucible -/

/-- A row that is no state row and no row of page 1 is written where it lies. -/
theorem putLanes_rowStored (s : State) (r : Nat) (m : Word64) (x : Nat → BitVec 16) :
    RowStored s (s.putLanes r m (perLane x)) r m x (fun n => s.load (vdmAddr r n) 2) :=
  ⟨fun n hn => by rw [putLanes_load s r m _ hn, perLane_getD x 0 hn], putLanes_bytes s r m _⟩

theorem crucV_eq (s : State) (row : Nat) (m : Word64) (vals : List (BitVec 16)) :
    ∃ mem wV, s.crucV row m vals = { s with mem, eng := { s.eng with wV } } := by
  unfold State.crucV
  split
  · next i _ =>
    dsimp only
    by_cases hw : s.eng.wV.testBit i
    · simp only [hw, if_true]
      generalize (if s.eng.pV.testBit i then row else row + s.vRows) = oth
      obtain ⟨mem, h⟩ := putLanes_eq s oth m vals
      exact ⟨mem, _, by rw [h]⟩
    · simp only [hw]
      generalize (if s.eng.pV.testBit i then row else row + s.vRows) = oth
      generalize (if s.eng.pV.testBit i then row + s.vRows else row) = cur
      generalize (List.range 64).map _ = old
      obtain ⟨mem, h⟩ := putLanes_eq s oth (~~~ m) old
      obtain ⟨mem', h'⟩ := putLanes_eq (s.putLanes oth (~~~ m) old) oth m vals
      exact ⟨mem', s.eng.wV ||| 2 ^ i, by simp only [h, Bool.false_eq_true, if_false] at h' ⊢; rw [h']⟩
  · split
    · exact ⟨s.mem, s.eng.wV, rfl⟩
    · obtain ⟨mem, h⟩ := putLanes_eq s row m vals
      exact ⟨mem, s.eng.wV, h⟩

/-- A row outside the state region. -/
theorem crucV_of_none {s : State} {row : Nat} (h : s.vState row = none) (m : Word64) (vals : List (BitVec 16)) :
    s.crucV row m vals = if s.vPage1 row then s else s.putLanes row m vals := by
  unfold State.crucV; rw [h]

/-- A state row takes the lanes in the page that is not current; its other lanes hold what they held there once it has been written in
the period, and otherwise what the current page holds (R124). -/
theorem crucV_rowStored {s : State} {row i : Nat} (h : s.vState row = some i) (m : Word64) (x : Nat → BitVec 16) :
    let cur := if s.eng.pV.testBit i then row + s.vRows else row
    let oth := if s.eng.pV.testBit i then row else row + s.vRows
    (s.crucV row m (perLane x)).eng.wV = s.eng.wV ||| 2 ^ i ∧
      RowStored s (s.crucV row m (perLane x)) oth m x (fun n => s.load (vdmAddr (if s.eng.wV.testBit i then oth else cur) n) 2) := by
  intro cur oth
  let old : List (BitVec 16) := (List.range 64).map fun n => BitVec.ofNat 16 (s.load (vdmAddr cur n) 2)
  have hc : s.crucV row m (perLane x) =
      let u := (if s.eng.wV.testBit i then s else s.putLanes oth (~~~ m) old).putLanes oth m (perLane x)
      { u with eng := { u.eng with wV := u.eng.wV ||| 2 ^ i } } := by
    unfold State.crucV; rw [h]
  rw [hc]
  have hold : ∀ n, n < 64 → (old.getD n 0).toNat = s.load (vdmAddr cur n) 2 := fun n hn => by
    rw [show old.getD n 0 = _ from perLane_getD (fun n => BitVec.ofNat 16 (s.load (vdmAddr cur n) 2)) 0 hn, BitVec.toNat_ofNat]
    exact Nat.mod_eq_of_lt (memRead_lt s.mem _ 2)
  by_cases hw : s.eng.wV.testBit i
  · simp only [hw, if_true]
    exact ⟨by rw [putLanes_eng], putLanes_rowStored s oth m x⟩
  · simp only [hw]
    obtain ⟨hl, hb⟩ := putLanes_rowStored (s.putLanes oth (~~~ m) old) oth m x
    refine ⟨by simp, fun n hn => ?_, fun a ha => (hb a ha).trans (putLanes_bytes s oth _ _ a ha)⟩
    refine (hl n hn).trans ?_
    cases hm : m.getLsbD n
    · simp only [Bool.false_eq_true, if_false]
      rw [putLanes_load s oth _ _ hn, BitVec.getLsbD_not, hm]
      simpa [hn] using hold n hn
    · rfl

/-- The engine's write of a scalar (R128, R157). -/
theorem crucS_storesWord (s : State) (w : Nat) (v : Word) : StoresWord s (s.crucS w v) w v := by
  have stored : ∀ p, WordStored s (s.store (sdmAddr p) 4 v.toNat) p v := fun p =>
    ⟨load_store_self _ _ 4 v.isLt, fun x hx => memGet_memWrite_ne _ _ _ _ hx⟩
  unfold State.crucS
  by_cases hw : 0x3FF0 ≤ w
  · rw [if_pos hw]
    exact ⟨⟨s.mem, s.eng.wS, rfl⟩, fun _ => rfl, fun h => absurd h (by omega), fun i h => absurd h (by omega)⟩
  · rw [if_neg hw]
    cases hs : s.sState w with
    | some i =>
      refine ⟨⟨_, _, rfl⟩, fun h => absurd h hw, fun _ h => ?_, fun j _ hj => ?_⟩
      · rw [hs] at h; cases h
      · rw [hs] at hj; cases hj; exact ⟨rfl, stored _⟩
    | none =>
      have none_ne : ∀ j, s.sState w ≠ some j := fun j h => by rw [hs] at h; cases h
      by_cases hp : s.sPage1 w
      · simp only [hp, if_true]
        exact ⟨⟨s.mem, s.eng.wS, rfl⟩, fun h => absurd h hw, fun _ _ => ⟨rfl, by simp [hp]⟩, fun j _ hj => absurd hj (none_ne j)⟩
      · simp only [hp]
        exact ⟨⟨_, s.eng.wS, rfl⟩, fun h => absurd h hw, fun _ _ => ⟨rfl, by simpa [hp] using stored w⟩, fun j _ hj => absurd hj (none_ne j)⟩

/-! ### Words of the M-slot -/

/-- An M-slot instruction acts in the state that its claims leave. -/
theorem actsM_of_exec {i : Instr} {s : State} {keys : List Nat} {act : State → State} {P : State → State → Prop}
    (h : exec i s = .next (settle s (s.issueM keys act))) (hp : P (wordM s keys) (act (wordM s keys))) : ActsM i s keys P := ⟨_, h, hp⟩

/-- A write-back of values that fit. -/
theorem wbV_plain (lat r : Nat) (m : Word64) (f : Nat → BitVec 16) : Plain lat r m f (wbV lat r m f) := ⟨_, rfl, fun _ hn => perLane_get f hn⟩

/-- The halves of a lane mask. -/
theorem fxKst_eq (s : State) (k w : Nat) :
    s.fxKst k w = (s.crucS w ((s.kReg k).extractLsb' 0 32)).crucS (w + 1) ((s.kReg k).extractLsb' 32 32) := by
  have lo : (s.kReg k).truncate 32 = (s.kReg k).extractLsb' 0 32 := by simp [BitVec.truncate_eq_setWidth, BitVec.setWidth_eq_extractLsb']
  have hi : (s.kReg k >>> 32).truncate 32 = (s.kReg k).extractLsb' 32 32 := by
    apply BitVec.eq_of_toNat_eq; simp [Nat.shiftRight_eq_div_pow]
  rw [State.fxKst, lo, hi]

/-- Settles O4, by `crucV_rowStored` and `crucS_storesWord`. -/
theorem engineMemoryInstructionsLoadAndStore : Obligations.EngineMemoryInstructionsLoadAndStore := by
  unfold Obligations.EngineMemoryInstructionsLoadAndStore
  intro s v r sb row off am im k p w e
  refine ⟨actsM_of_exec rfl ⟨_, rfl, wbV_plain ..⟩, actsM_of_exec rfl ⟨_, rfl, rfl⟩, fun kd => actsM_of_exec rfl ⟨_, rfl, rfl⟩,
    actsM_of_exec rfl (crucS_storesWord ..), actsM_of_exec rfl ⟨_, crucS_storesWord .., ?_⟩, actsM_of_exec rfl ⟨crucV_eq .., ?_, ?_⟩⟩
  · show StoresWord _ ((wordM s _).fxKst k e) _ _
    rw [fxKst_eq]
    exact crucS_storesWord ..
  · intro hn
    rw [State.fxVst, crucV_of_none hn]
    split
    · exact ⟨rfl, rfl⟩
    · exact ⟨by rw [putLanes_eng], putLanes_rowStored ..⟩
  · intro i hi
    exact crucV_rowStored hi ..

end Sys2Proof.Machine

/-! ## Flags, the ladle, load groups and the staged slot (03 R115; 04 R166 to R173) -/
namespace Sys2Proof.Machine
open Stmt

/-! ### A word without claims -/

/-- Without claims the word waits for nothing and acts in the state it finds. -/
theorem wordM_nil (s : State) : wordM s [] = s := by
  have hf : s.bus.deferred.filter (fun c => !([] : List Nat).contains (engKey c.addr)) = s.bus.deferred := List.filter_eq_self.mpr fun _ _ => rfl
  have hm : s.bus.deferred.filter (fun c => ([] : List Nat).contains (engKey c.addr)) = [] := List.filter_eq_nil_iff.mpr fun _ _ => Bool.false_ne_true
  have hc : s.engClaim [] = s := by
    unfold State.engClaim
    rw [hf, hm]
    rfl
  unfold wordM
  rw [if_pos (show s.engWaits [] = 0 from rfl), hc]

/-! ### Lane flags -/

/-- The lane flags are in the registers of five pairs. -/
theorem laneFlag_setReg64_self (s : State) (f : Nat) (l : Word64) : (s.setReg64 (flagReg f) l.toNat).laneFlag f = l := by
  rw [State.laneFlag, reg64_setReg64_self _ _ l.isLt, BitVec.ofNat_toNat, BitVec.setWidth_eq]

theorem laneFlag_congr {s t : State} {f : Nat} (h : ∀ a, a = flagReg f ∨ a = flagReg f + 4 → s.reg a = t.reg a) : s.laneFlag f = t.laneFlag f := by
  simp only [State.laneFlag, State.reg64, State.regN, h _ (Or.inl rfl), h _ (Or.inr rfl)]

theorem laneFlag_setReg64_ne (s : State) {f q : Nat} (h : q ≠ f) (n : Nat) : (s.setReg64 (flagReg f) n).laneFlag q = s.laneFlag q := by
  refine laneFlag_congr fun a ha => ?_
  unfold flagReg at ha ⊢
  rw [State.setReg64, reg_setRegN_ne _ (by omega), reg_setRegN_ne _ (by omega)]

theorem laneFlag_set (s : State) (g : Fld) (n f : Nat) (h : g.addr < flagReg f ∨ flagReg f + 4 < g.addr) : (s.set g n).laneFlag f = s.laneFlag f :=
  laneFlag_congr fun a ha => reg_set_ne _ _ (by omega) _

/-- FLGSUM shows which lane flags are set. -/
def Summed (s : State) : Prop := ∀ f, f < 5 → (s.fbit F.ENG_STAT_FLGSUM f = true ↔ s.laneFlag f ≠ 0)

/-- FLGSUM's register is below those of the flags. -/
theorem flgSum_laneFlag (s : State) (f : Nat) : s.flgSum.laneFlag f = s.laneFlag f :=
  laneFlag_set _ _ _ _ (Or.inl (show (0x10100004 : Nat) < 0x10100070 + 8 * f by omega))

theorem flgSum_summed (s : State) : Summed s.flgSum := by
  intro f hf
  have hsum : (List.range 5).foldl (fun n f => if s.laneFlag f = 0 then n else n + 2 ^ f) 0 =
      (List.range 5).foldl (fun n f => if !decide (s.laneFlag f = 0) then n + 2 ^ f else n) 0 := by
    congr 1; funext n f; by_cases h : s.laneFlag f = 0 <;> simp [h]
  obtain ⟨hbit, hlt⟩ := sumBits_testBit (fun f => !decide (s.laneFlag f = 0)) 5 f
  rw [flgSum_laneFlag, State.fbit, State.flgSum, get_set_self _ _ _ (by decide), hsum,
    show (2 : Nat) ^ F.ENG_STAT_FLGSUM.width = 2 ^ 5 from rfl, Nat.mod_eq_of_lt hlt, hbit]
  simp [hf]

/-- Clearing one lane flag changes it alone, and FLGSUM follows. -/
theorem clearLaneFlag_laneFlag (s : State) (f q : Nat) (l : Word64) :
    (s.clearLaneFlag f l).laneFlag q = if q = f then s.laneFlag q &&& ~~~ l else s.laneFlag q := by
  rw [State.clearLaneFlag, flgSum_laneFlag]
  split
  · next h => subst h; exact laneFlag_setReg64_self ..
  · next h => exact laneFlag_setReg64_ne s h _

/-- Clearing a lane flag changes registers, and of the scalar flags none. -/
theorem clearLaneFlag_regs (s : State) {f : Nat} (hf : f < 5) (l : Word64) :
    (∃ regs, s.clearLaneFlag f l = { s with regs }) ∧ (s.clearLaneFlag f l).reg R.ENG_SFLG = s.reg R.ENG_SFLG := by
  refine ⟨⟨_, rfl⟩, ?_⟩
  unfold State.clearLaneFlag State.flgSum State.setReg64
  rw [reg_set_ne _ _ (by decide), reg_setRegN_ne _ (by unfold flagReg; show (0x10100098 : Nat) ≠ 0x10100070 + 8 * f + 4; omega),
    reg_setRegN_ne _ (by unfold flagReg; show (0x10100098 : Nat) ≠ 0x10100070 + 8 * f; omega)]

/-- FLGCLR's step for one lane flag. -/
def State.clearNamed (fm : Nat) (l : Word64) (s : State) (f : Nat) : State := if fm.testBit f then s.clearLaneFlag f l else s

/-- Clearing the lane flags of a list that `fm` names. -/
theorem foldl_clearNamed (fm : Nat) (l : Word64) (fs : List Nat) (hfs : ∀ f ∈ fs, f < 5) (s : State) :
    (∃ regs, fs.foldl (State.clearNamed fm l) s = { s with regs }) ∧
    (fs.foldl (State.clearNamed fm l) s).reg R.ENG_SFLG = s.reg R.ENG_SFLG ∧
    (∀ q, (fs.foldl (State.clearNamed fm l) s).laneFlag q = if q ∈ fs ∧ fm.testBit q = true then s.laneFlag q &&& ~~~ l else s.laneFlag q) ∧
    ((∃ f ∈ fs, fm.testBit f = true) ∨ Summed s → Summed (fs.foldl (State.clearNamed fm l) s)) := by
  induction fs generalizing s with
  | nil => exact ⟨⟨s.regs, rfl⟩, rfl, fun q => by simp, fun h => h.elim (fun ⟨f, hf, _⟩ => absurd hf List.not_mem_nil) id⟩
  | cons f fs ih =>
    obtain ⟨⟨regs, hr⟩, hflg, hlane, hsum⟩ := ih (fun q hq => hfs q (List.mem_cons_of_mem _ hq)) (s.clearNamed fm l f)
    rw [List.foldl_cons]
    by_cases hf : fm.testBit f
    · have hstep : s.clearNamed fm l f = s.clearLaneFlag f l := if_pos hf
      rw [hstep] at hr hflg hlane hsum ⊢
      obtain ⟨⟨regs', hr'⟩, hflg'⟩ := clearLaneFlag_regs s (hfs f List.mem_cons_self) l
      refine ⟨⟨regs, by rw [hr, hr']⟩, hflg.trans hflg', fun q => ?_, fun _ => hsum (Or.inr (flgSum_summed _))⟩
      rw [hlane, clearLaneFlag_laneFlag]
      by_cases hq : q = f
      · subst hq; simp [hf, BitVec.and_assoc]
      · simp [hq]
    · have hstep : s.clearNamed fm l f = s := if_neg hf
      rw [hstep] at hr hflg hlane hsum ⊢
      refine ⟨⟨regs, hr⟩, hflg, fun q => ?_, fun h => hsum (h.imp_left ?_)⟩
      · rw [hlane]
        by_cases hq : q = f
        · subst hq; simp [hf]
        · simp [hq]
      · rintro ⟨q, hq, hb⟩
        rcases List.mem_cons.mp hq with rfl | hq
        · exact absurd hb hf
        · exact ⟨q, hq, hb⟩

/-- FLGCLR's last step: the scalar flags that `fm` names. -/
def State.clearScalars (s : State) (fm : Nat) : State :=
  let s := if fm.testBit 5 then s.set F.ENG_SFLG_SSAT 0 else s
  if fm.testBit 6 then s.set F.ENG_SFLG_SDZ 0 else s

/-- It changes their register alone. -/
theorem clearScalars_clears (s : State) (fm : Nat) :
    (∃ regs, s.clearScalars fm = { s with regs }) ∧ (∀ a, a ≠ R.ENG_SFLG → (s.clearScalars fm).reg a = s.reg a) ∧
    (s.clearScalars fm).get F.ENG_SFLG_SSAT = (if fm.testBit 5 then 0 else s.get F.ENG_SFLG_SSAT) ∧
    (s.clearScalars fm).get F.ENG_SFLG_SDZ = (if fm.testBit 6 then 0 else s.get F.ENG_SFLG_SDZ) := by
  have hne : ∀ (t : State) (f : Fld) {a : Nat}, f.addr = R.ENG_SFLG → a ≠ R.ENG_SFLG → (t.set f 0).reg a = t.reg a :=
    fun t f a hf ha => reg_set_ne t f (hf ▸ ha) 0
  unfold State.clearScalars
  cases fm.testBit 5 <;> cases fm.testBit 6
  · exact ⟨⟨s.regs, rfl⟩, fun a _ => rfl, rfl, rfl⟩
  · exact ⟨⟨_, rfl⟩, fun a ha => hne s _ rfl ha, get_set_disjoint _ _ _ _ (by decide), get_set_self _ _ _ (by decide)⟩
  · exact ⟨⟨_, rfl⟩, fun a ha => hne s _ rfl ha, get_set_self _ _ _ (by decide), get_set_disjoint _ _ _ _ (by decide)⟩
  · exact ⟨⟨_, rfl⟩, fun a ha => (hne _ _ rfl ha).trans (hne s _ rfl ha),
      (get_set_disjoint _ _ _ _ (by decide)).trans (get_set_self _ _ _ (by decide)), get_set_self _ _ _ (by decide)⟩

/-- FLGCLR clears the lane flags it names in its lanes and the scalar flags it names; FLGSUM follows the lane flags (R166). -/
theorem flgClr_clears (s : State) (fm : Nat) (l : Word64) :
    (∃ regs, s.flgClr fm l = { s with regs }) ∧
    (∀ f, f < 5 → (s.flgClr fm l).laneFlag f = if fm.testBit f then s.laneFlag f &&& ~~~ l else s.laneFlag f) ∧
    (s.flgClr fm l).get F.ENG_SFLG_SSAT = (if fm.testBit 5 then 0 else s.get F.ENG_SFLG_SSAT) ∧
    (s.flgClr fm l).get F.ENG_SFLG_SDZ = (if fm.testBit 6 then 0 else s.get F.ENG_SFLG_SDZ) ∧
    ((∃ f, f < 5 ∧ fm.testBit f = true) → Summed (s.flgClr fm l)) := by
  obtain ⟨⟨regs, hr⟩, hflg, hlane, hsum⟩ := foldl_clearNamed fm l (List.range 5) (fun f hf => List.mem_range.mp hf) s
  let t := (List.range 5).foldl (State.clearNamed fm l) s
  obtain ⟨⟨regs', hr'⟩, hne, hssat, hsdz⟩ := clearScalars_clears t fm
  have hfl : ∀ f, f < 5 → (s.flgClr fm l).laneFlag f = t.laneFlag f := fun f hf =>
    laneFlag_congr fun a ha => hne a (by unfold flagReg at ha; show a ≠ 0x10100098; change a = 0x10100070 + 8 * f ∨ a = 0x10100070 + 8 * f + 4 at ha; omega)
  have hget : ∀ g : Fld, g.addr = R.ENG_SFLG → t.get g = s.get g := fun g hg => congrArg (fldOf g) (by rw [hg]; exact hflg)
  refine ⟨⟨regs', hr'.trans (by rw [show t = _ from hr])⟩, fun f hf => ?_, ?_, ?_, fun h f hf => ?_⟩
  · rw [hfl f hf, hlane]; simp [hf]
  · rw [← hget F.ENG_SFLG_SSAT rfl]; exact hssat
  · rw [← hget F.ENG_SFLG_SDZ rfl]; exact hsdz
  · obtain ⟨q, hq, hb⟩ := h
    have hs := hsum (Or.inl ⟨q, List.mem_range.mpr hq, hb⟩) f hf
    have hsame : (s.flgClr fm l).get F.ENG_STAT_FLGSUM = t.get F.ENG_STAT_FLGSUM := congrArg (fldOf _) (hne _ (by decide))
    rw [hfl f hf, ← hs, State.fbit, hsame]; rfl

/-! ### The ladle and the staged slot -/

/-- MWR stages its entry while fewer than 512 stand, and sets SAT where its value exceeds the field (R115, R168). -/
theorem fxMwr_eq (s : State) (p : Nat) (tgt : MwrTarget) (fld k : Nat) :
    let val (n : Nat) := (s.vLane (2 * p + 1) n).toNat * 65536 + (s.vLane (2 * p) n).toNat
    let e : LadleEntry := { tgt := (mwrTgt tgt).1, ch := (mwrTgt tgt).2, fld,
                            vals := (s.selected k).map fun n => (n, min (val n) (fieldMax fld)) }
    s.fxMwr p tgt fld k = { s with eng := { s.eng with
      ladle := if s.eng.ladle.length < 512 then s.eng.ladle ++ [e] else s.eng.ladle,
      pend := s.eng.pend ++ [wbSat 1 [] (s.inK k fun n => decide (fieldMax fld < val n))] } } := by
  intro val e
  unfold State.fxMwr
  dsimp only
  split <;> rfl

/-- RSST writes the selected lanes of its row alone (R172). -/
theorem spGet_rsst (s : State) (v row k x : Nat) :
    spGet 0 ((s.selected k).foldl (fun m n => spPut 0 m (64 * row + n) (s.vLane v n)) s.eng.slot) x =
      if 64 * row ≤ x ∧ x < 64 * row + 64 ∧ (s.kReg k).getLsbD (x - 64 * row) = true then s.vLane v (x - 64 * row) else spGet 0 s.eng.slot x := by
  rw [State.selected, List.foldl_filter]
  refine (spGet_tableLanes 0 row (inMask (s.kReg k)) (s.vLane v) (List.range 64) s.eng.slot x).trans ?_
  simp only [List.mem_range, inMask_eq]
  exact if_congr (and_congr_right fun h => and_congr_left fun _ => by omega) rfl rfl

/-- Settles O8, by `flgClr_clears`, the entry that `fxMwr` forms and `spGet_tableLanes`. -/
theorem flagLadleAndSlotInstructionsAct : Obligations.FlagLadleAndSlotInstructionsAct := by
  unfold Obligations.FlagLadleAndSlotInstructionsAct
  intro s k
  refine ⟨wordM_nil s, actsM_of_exec rfl rfl, actsM_of_exec rfl rfl, fun fm => actsM_of_exec rfl (flgClr_clears ..), fun p tgt fld => ?_,
    fun g => actsM_of_exec rfl rfl, fun v row => ?_⟩
  · refine actsM_of_exec (act := fun s => s.fxMwr p tgt fld k) rfl ?_
    generalize wordM s [] = b
    refine ⟨b.inK k fun n => decide (fieldMax fld < (b.vLane (2 * p.val + 1) n).toNat * 65536 + (b.vLane (2 * p.val) n).toNat),
      fun n hn => ?_, (fxMwr_eq b p tgt fld k).trans ?_⟩
    · rw [State.inK, BitVec.getLsbD_and, lanesWhere_getLsbD]
      simp [hn, fieldMax]
    · cases tgt <;> rfl
  · refine actsM_of_exec (act := fun s => s.fxRsst v row k) rfl ?_
    generalize wordM s [] = b
    unfold State.fxRsst
    by_cases hr : row.val < b.slotLen
    · rw [if_pos hr]
      refine ⟨_, rfl, fun x => (spGet_rsst b v row k x).trans (if_congr ?_ rfl rfl)⟩
      exact ⟨fun h => ⟨hr, h⟩, fun h => h.2⟩
    · rw [if_neg hr]
      exact ⟨b.eng.slot, rfl, fun x => (if_neg fun h => hr h.1).symm⟩

end Sys2Proof.Machine

/-! ## What the work of a period leaves alone (03 R116, R133): the row, the state pages, the period's counts -/
namespace Sys2Proof.Machine

/-- The registers that follow the period: the engine's state, its counts and times, the trial's count of periods and the Almanac's flags. -/
def periodRegs : List Nat :=
  [R.ENG_STAT, R.ENG_LASTCYC, R.ENG_STALL, R.ENG_OVR_CNT, R.ENG_OVR_RUN, R.ENG_OVR_T_LO, R.ENG_OVR_T_HI, R.ENG_PCNT_LO, R.ENG_PCNT_HI, R.UPD_OKRUN,
   R.ALM_STAT]

/-- The counts and times of the engine among them. -/
def periodCounts : List Nat :=
  [R.ENG_LASTCYC, R.ENG_STALL, R.ENG_OVR_CNT, R.ENG_OVR_RUN, R.ENG_OVR_T_LO, R.ENG_OVR_T_HI, R.ENG_PCNT_LO, R.ENG_PCNT_HI]

/-- The engine is where it was in its row. -/
def RowSame (s t : State) : Prop :=
  t.get F.ENG_STAT_ESTATE = s.get F.ENG_STAT_ESTATE ∧ t.eng.blocks = s.eng.blocks ∧ t.eng.doneBlks = s.eng.doneBlks ∧ t.eng.vOpen = s.eng.vOpen

/-- Current state pages, claims, the time and the Sextant stay; what is cleared of the pages written and the ladle stays clear. -/
structure PagesKept (s t : State) : Prop where
  pV : t.eng.pV = s.eng.pV
  pS : t.eng.pS = s.eng.pS
  wV : s.eng.wV = 0 → t.eng.wV = 0
  wS : s.eng.wS = 0 → t.eng.wS = 0
  ladle : s.eng.ladle = [] → t.eng.ladle = []
  deferred : t.bus.deferred = s.bus.deferred
  held : t.bus.held = s.bus.held
  sext : t.sext = s.sext
  chrono : t.chrono = s.chrono

/-- `t` comes from `s` by work that leaves the engine in its row or, where `stop` holds, may stop it. The pages and the counts of the
period stay; where `ok` holds, a trial's count of 0 stays 0 and OFSLATE stays set. -/
structure PeriodKept (stop ok : Prop) (s t : State) : Prop extends PagesKept s t where
  row : RowSame s t ∨ stop ∧ t.get F.ENG_STAT_ESTATE = 0
  overrun : s.on F.ENG_STAT_OVERRUN = true → t.on F.ENG_STAT_OVERRUN = true
  counts : ∀ a ∈ periodCounts, t.reg a = s.reg a
  okrun : ok → s.reg R.UPD_OKRUN = 0 → t.reg R.UPD_OKRUN = 0
  late : ok → s.on F.ALM_STAT_OFSLATE = true → t.on F.ALM_STAT_OFSLATE = true

namespace PagesKept
variable {s t u : State}

theorem trans (h : PagesKept s t) (k : PagesKept t u) : PagesKept s u where
  pV := k.pV.trans h.pV
  pS := k.pS.trans h.pS
  wV := fun hs => k.wV (h.wV hs)
  wS := fun hs => k.wS (h.wS hs)
  ladle := fun hs => k.ladle (h.ladle hs)
  deferred := k.deferred.trans h.deferred
  held := k.held.trans h.held
  sext := k.sext.trans h.sext
  chrono := k.chrono.trans h.chrono

/-- Work that leaves the engine's own state. -/
theorem of_same (he : t.eng = s.eng) (hd : t.bus.deferred = s.bus.deferred) (hh : t.bus.held = s.bus.held) (hx : t.sext = s.sext)
    (hc : t.chrono = s.chrono) : PagesKept s t where
  pV := by rw [he]
  pS := by rw [he]
  wV := fun h => by rw [he]; exact h
  wS := fun h => by rw [he]; exact h
  ladle := fun h => by rw [he]; exact h
  deferred := hd
  held := hh
  sext := hx
  chrono := hc

/-- A change of registers. -/
theorem regs (s : State) {regs : List (Nat × Word)} : PagesKept s { s with regs } := of_same rfl rfl rfl rfl rfl

end PagesKept

namespace PeriodKept
variable {stop ok : Prop} {s t u : State}

/-- Work on the parts that `PeriodKept` does not name. -/
theorem of_same (hr : t.regs = s.regs) (he : t.eng = s.eng) (hd : t.bus.deferred = s.bus.deferred) (hh : t.bus.held = s.bus.held)
    (hx : t.sext = s.sext) (hc : t.chrono = s.chrono) : PeriodKept stop ok s t where
  toPagesKept := .of_same he hd hh hx hc
  row := .inl ⟨get_congr hr _, by rw [he], by rw [he], by rw [he]⟩
  overrun := fun h => by rw [State.on, get_congr hr]; exact h
  counts := fun a _ => reg_congr hr a
  okrun := fun _ h => by rw [reg_congr hr]; exact h
  late := fun _ h => by rw [State.on, get_congr hr]; exact h

/-- An update of the parts named. -/
theorem parts (s : State) {mem : List Host.Cell} {faults : FaultSt} {sys : SysSt} {mod : ModSt} {adc : AdcSt} {log : LogSt} {ocl : OclSt} {ring : RingSt}
    {twin : TwinSt} {nvm : NvmSt} {host : HostSt} {tx : List OutMsg} {free : Nat} :
    PeriodKept stop ok s { s with mem, faults, sys, mod, adc, log, ocl, ring, twin, nvm, host, tx, free } := of_same rfl rfl rfl rfl rfl rfl

theorem refl (s : State) : PeriodKept stop ok s s := of_same rfl rfl rfl rfl rfl rfl

theorem trans (h : PeriodKept stop ok s t) (k : PeriodKept stop ok t u) : PeriodKept stop ok s u where
  row := by
    rcases k.row with ⟨ke, kb, kd, kv⟩ | ⟨hs, ke⟩
    · rcases h.row with ⟨he, hb, hd, hv⟩ | ⟨hs, he⟩
      · exact .inl ⟨ke.trans he, kb.trans hb, kd.trans hd, kv.trans hv⟩
      · exact .inr ⟨hs, ke.trans he⟩
    · exact .inr ⟨hs, ke⟩
  overrun := fun hs => k.overrun (h.overrun hs)
  counts := fun a ha => (k.counts a ha).trans (h.counts a ha)
  okrun := fun ho hs => k.okrun ho (h.okrun ho hs)
  late := fun ho hs => k.late ho (h.late ho hs)
  toPagesKept := h.toPagesKept.trans k.toPagesKept

theorem ite {c : Prop} [Decidable c] (h : PeriodKept stop ok s t) (k : PeriodKept stop ok s u) : PeriodKept stop ok s (if c then t else u) := by
  split <;> assumption

theorem fold {α : Type} {f : State → α → State} (h : ∀ s x, PeriodKept stop ok s (f s x)) (l : List α) (s : State) :
    PeriodKept stop ok s (l.foldl f s) := by
  induction l generalizing s with
  | nil => exact refl s
  | cons x l ih => exact (h s x).trans (ih (f s x))

/-- A change of registers that leaves the engine's state, the counts and, where `ok` holds, a trial's count of 0 and OFSLATE. -/
theorem of_regs {regs : List (Nat × Word)} (hc : ∀ a ∈ periodCounts, ({ s with regs } : State).reg a = s.reg a)
    (hst : ({ s with regs } : State).get F.ENG_STAT_ESTATE = s.get F.ENG_STAT_ESTATE)
    (hov : s.on F.ENG_STAT_OVERRUN = true → ({ s with regs } : State).on F.ENG_STAT_OVERRUN = true)
    (hok : ok → s.reg R.UPD_OKRUN = 0 → ({ s with regs } : State).reg R.UPD_OKRUN = 0)
    (hl : ok → s.on F.ALM_STAT_OFSLATE = true → ({ s with regs } : State).on F.ALM_STAT_OFSLATE = true) : PeriodKept stop ok s { s with regs } where
  row := .inl ⟨hst, rfl, rfl, rfl⟩
  overrun := hov
  counts := hc
  okrun := hok
  late := hl
  toPagesKept := .regs s

/-- A flag in another register stays set. -/
theorem on_setReg_ne {f : Fld} {a : Nat} (v : Word) (h : f.addr ≠ a) (hs : s.on f = true) : (s.setReg a v).on f = true := by
  rw [State.on, get_setReg_ne s a v f h]; exact hs

/-- A flag beside the field written stays set. -/
theorem on_set_disjoint {f g : Fld} (n : Nat) (h : g.addr ≠ f.addr ∨ g.lo + g.width ≤ f.lo ∨ f.lo + f.width ≤ g.lo) (hs : s.on g = true) :
    (s.set f n).on g = true := by
  rw [State.on, get_set_disjoint s f g n h]; exact hs

/-- A write of a register outside the engine's own leaves ENG_STAT and the counts. -/
theorem of_setReg {a : Nat} {v : Word} (hst : R.ENG_STAT ≠ a) (hc : a ∉ periodCounts) (hok : ok → s.reg R.UPD_OKRUN = 0 → a = R.UPD_OKRUN → v = 0)
    (hl : ok → R.ALM_STAT ≠ a) : PeriodKept stop ok s (s.setReg a v) :=
  of_regs (fun b hb => reg_setReg_ne s (ne_of_mem_of_not_mem hb hc) v) (get_setReg_ne s a v _ hst) (on_setReg_ne v hst)
    (fun ho h => by
      by_cases ha : R.UPD_OKRUN = a
      · subst ha; exact (reg_setReg_self ..).trans (hok ho h rfl)
      · exact (reg_setReg_ne s ha v).trans h)
    fun ho => on_setReg_ne v (hl ho)

theorem setReg {a : Nat} (h : a ∉ periodRegs) (s : State) (v : Word) : PeriodKept stop ok s (s.setReg a v) := by
  simp only [periodRegs, List.mem_cons, List.not_mem_nil, or_false, not_or] at h
  obtain ⟨h0, h1, h2, h3, h4, h5, h6, h7, h8, h9, h10⟩ := h
  refine of_setReg (Ne.symm h0) ?_ (fun _ _ h => absurd h h9) fun _ => Ne.symm h10
  simp only [periodCounts, List.mem_cons, List.not_mem_nil, or_false, not_or]
  exact ⟨h1, h2, h3, h4, h5, h6, h7, h8⟩

theorem set {f : Fld} (h : f.addr ∉ periodRegs) (s : State) (n : Nat) : PeriodKept stop ok s (s.set f n) := setReg h s _

theorem mark (s : State) (a : Nat) (m : Word) : PeriodKept stop ok s (s.mark a m) := by
  unfold State.mark
  exact ite (of_same rfl rfl rfl rfl rfl rfl) (of_same rfl rfl rfl rfl rfl rfl)

theorem flag {f : Fld} (h : f.addr ∉ periodRegs) (s : State) : PeriodKept stop ok s (s.flag f) := (mark s _ _).trans (set h _ _)

theorem orFld {f : Fld} (h : f.addr ∉ periodRegs) (s : State) (n : Nat) : PeriodKept stop ok s (s.orFld f n) := (mark s _ _).trans (set h _ _)

/-- An address of the HOST block or beyond, beside the trial's count. -/
theorem not_period {a : Nat} (h : 0x16000000 ≤ a) (hu : a ≠ R.UPD_OKRUN) : a ∉ periodRegs := by
  intro hm
  have hlow : ∀ b ∈ periodRegs, b < 0x16000000 ∨ b = R.UPD_OKRUN := by decide
  rcases hlow a hm with hl | hl
  · omega
  · exact hu hl

/-- A 0 written to a field of a register of the HOST block or beyond. -/
theorem set_zero {f : Fld} (h : 0x16000000 ≤ f.addr) (s : State) : PeriodKept stop ok s (s.set f 0) := by
  by_cases hu : f.addr = R.UPD_OKRUN
  · refine of_setReg (show (0x10100004 : Nat) ≠ f.addr by omega) ?_ (fun _ hz _ => ?_) fun _ => show (0x110E8020 : Nat) ≠ f.addr by omega
    · rw [hu]; decide
    · rw [hu, hz]; simp [withFld]
  · exact set (not_period h hu) s 0

/-- A field of ENG_STAT beside ESTATE and OVERRUN. -/
theorem set_stat {f : Fld} (ha : f.addr = R.ENG_STAT) (he : 3 ≤ f.lo) (ho : f.lo + f.width ≤ 8 ∨ 9 ≤ f.lo) (s : State) (n : Nat) :
    PeriodKept stop ok s (s.set f n) := by
  refine of_regs (fun a hm => reg_set_ne s f (fun h => ?_) n) (get_set_disjoint s f _ n (.inr (.inl he)))
    (on_set_disjoint n (.inr ho.symm)) (fun _ h => ?_) fun _ => on_set_disjoint n (.inl (by rw [ha]; decide))
  · rw [h, ha] at hm; exact absurd hm (by decide)
  · exact (reg_set_ne s f (by rw [ha]; decide) n).trans h

/-- A flag of the Almanac beside OFSLATE. -/
theorem flag_alm {f : Fld} (ha : f.addr = R.ALM_STAT) (hl : 1 ≤ f.lo) (s : State) : PeriodKept stop ok s (s.flag f) := by
  refine (mark s _ _).trans (of_regs (fun a hm => reg_set_ne _ f (fun h => ?_) 1) (get_set_disjoint _ f _ 1 (.inl (by rw [ha]; decide)))
    (on_set_disjoint 1 (.inl (by rw [ha]; decide))) (fun _ h => ?_) fun _ => on_set_disjoint 1 (.inr (.inl hl)))
  · rw [h, ha] at hm; exact absurd hm (by decide)
  · exact (reg_set_ne _ f (by rw [ha]; decide) 1).trans h

/-- An update of the engine's parts that `PeriodKept` does not name. -/
theorem eng (s : State) (x : EngSt) (h1 : x.blocks = s.eng.blocks) (h2 : x.doneBlks = s.eng.doneBlks) (h3 : x.vOpen = s.eng.vOpen)
    (h4 : x.pV = s.eng.pV) (h5 : x.pS = s.eng.pS) (h6 : x.wV = s.eng.wV) (h7 : x.wS = s.eng.wS) (h8 : x.ladle = s.eng.ladle) :
    PeriodKept stop ok s { s with eng := x } where
  row := .inl ⟨rfl, h1, h2, h3⟩
  overrun := id
  counts := fun _ _ => rfl
  okrun := fun _ => id
  late := fun _ => id
  pV := h4
  pS := h5
  wV := fun h => h6.trans h
  wS := fun h => h7.trans h
  ladle := fun h => h8.trans h
  deferred := rfl
  held := rfl
  sext := rfl
  chrono := rfl

/-- Where nothing may stop the engine, its state stays. -/
theorem estate (h : PeriodKept False ok s t) : t.get F.ENG_STAT_ESTATE = s.get F.ENG_STAT_ESTATE := by
  rcases h.row with ⟨he, -⟩ | ⟨hf, -⟩
  · exact he
  · exact hf.elim

/-- Otherwise it stays or is 0. -/
theorem estate_or (h : PeriodKept stop ok s t) : t.get F.ENG_STAT_ESTATE = s.get F.ENG_STAT_ESTATE ∨ t.get F.ENG_STAT_ESTATE = 0 :=
  h.row.imp (·.1) (·.2)

/-- The period count is among the counts. -/
theorem pcnt (h : PeriodKept stop ok s t) : t.pcnt = s.pcnt := by
  simp only [State.pcnt, State.reg64, State.regN]
  rw [h.counts R.ENG_PCNT_LO (by decide), h.counts (R.ENG_PCNT_LO + 4) (by decide)]

end PeriodKept

section
variable {stop ok : Prop}

/-! ### Finishing a command -/

theorem respond_periodKept (s : State) (c : HCmd) (w f : Nat) (d : List Word) : PeriodKept stop ok s (s.respond c w f d) := by
  unfold State.respond State.toHost
  split
  · refine .ite ?_ (.flag (by decide) s)
    exact ((PeriodKept.parts _).trans (.set (by decide) _ _)).trans (.set (by decide) _ _)
  · exact .parts _

theorem twinSend_periodKept (s : State) (f t : Nat) (d : List Word64) : PeriodKept stop ok s (s.twinSend f t d) := by
  unfold State.twinSend
  exact .ite (.parts _) (.refl s)

theorem nvmRecord_periodKept (s : State) (r : JRec) (sec : JSec) (j : Option Nat) : PeriodKept stop ok s (s.nvmRecord r sec j) := by
  unfold State.nvmRecord State.nvmStart
  refine .ite (.parts _) ?_
  exact (((PeriodKept.parts _).trans (.setReg (by decide) _ _)).trans (.parts _)).trans (.flag (by decide) _)

theorem journal_periodKept (s : State) (nvm : Bool) (sec : JSec) (kind flow cls flags seq opc : Nat) (body : List Word) :
    PeriodKept stop ok s (s.journal nvm sec kind flow cls flags seq opc body) := by
  unfold State.journal
  extract_lets pos flags r s1 _ s2
  have h1 : PeriodKept stop ok s s1 := .setReg (by decide) s _
  have h2 : PeriodKept stop ok s s2 := h1.trans (.ite (nvmRecord_periodKept s1 r sec none) (.parts _))
  exact .ite (h2.trans ((PeriodKept.parts _).trans (twinSend_periodKept _ _ _ _))) h2

theorem guarSend_periodKept (s : State) (dst : Nat) (p : List Word) : PeriodKept stop ok s (s.guarSend dst p) := by
  unfold State.guarSend State.guarCount
  exact (((PeriodKept.parts _).trans (journal_periodKept ..)).trans (.set (by decide) _ _)).trans (.set (by decide) _ _)

theorem freeSlot_periodKept (s : State) (k : CmdKey) (o : Nat) : PeriodKept stop ok s (s.freeSlot k o) := by
  unfold State.freeSlot
  split
  · exact PeriodKept.trans (.parts _) (.set_zero (by simp only [F.HOST_OP_STAT_BUSY]; omega) _)
  · exact .refl s

theorem finalRec_periodKept (s : State) (f : Nat) (c : HCmd) (w : List Word) : PeriodKept stop ok s (s.finalRec f c w) :=
  .ite (journal_periodKept ..) (.refl s)

theorem finishOwn_periodKept (s : State) {k : CmdKey} (hk : k.flow < 5) (w : Nat) (d : List Word) : PeriodKept stop ok s (s.finishOwn k w d) := by
  unfold State.finishOwn
  extract_lets fl
  split
  · exact .refl s
  · rename_i r _
    extract_lets fin s1 s2 s3 s4
    have h2 : PeriodKept stop ok s s2 :=
      (PeriodKept.trans (.parts _) (.setReg (PeriodKept.not_period (by simp only [R.HOST_FLOW_D]; omega)
        (by simp only [R.HOST_FLOW_D, R.UPD_OKRUN]; omega)) _ _)).trans (freeSlot_periodKept _ _ _)
    have h4 : PeriodKept stop ok s s4 := (h2.trans (finalRec_periodKept _ _ _ _)).trans (.ite (.refl _) (respond_periodKept _ _ _ _ _))
    exact (h4.trans (.parts _)).trans (.setReg (by decide) _ _)

theorem finishRing_periodKept (s : State) (r : HRec) (w : Nat) (d : List Word) : PeriodKept stop ok s (s.finishRing r w d) := by
  unfold State.finishRing
  extract_lets ws s1
  have h : PeriodKept stop ok s s1 := ((finalRec_periodKept s _ _ _).trans (.parts _)).trans (.setReg (by decide) _ _)
  exact .ite h (h.trans (guarSend_periodKept _ _ _))

theorem finishPartner_periodKept (s : State) (k : CmdKey) (r : HRec) (w : Nat) (d : List Word) : PeriodKept stop ok s (s.finishPartner k r w d) := by
  unfold State.finishPartner
  extract_lets s1
  have h : PeriodKept stop ok s s1 := journal_periodKept ..
  split
  · next hk => exact h.trans (finishOwn_periodKept _ (by simp only; omega) _ _)
  · split
    · exact (h.trans (.parts _)).trans (finishRing_periodKept ..)
    · exact h

theorem finish_periodKept (s : State) (k : CmdKey) (r : Nat) (d : List Word) (o : Bool) : PeriodKept stop ok s (s.finish k r d o) := by
  unfold State.finish
  extract_lets w
  split
  · next hk => exact finishOwn_periodKept s hk _ _
  · split
    · exact .refl s
    · extract_lets s1
      have h : PeriodKept stop ok s s1 := PeriodKept.trans (.parts _) (freeSlot_periodKept ..)
      exact .ite (h.trans (finishPartner_periodKept ..)) (h.trans (finishRing_periodKept ..))

theorem doneOpt_periodKept (s : State) (k : Option CmdKey) (d : List Word) : PeriodKept stop ok s (s.doneOpt k d) := by
  cases k with
  | none => exact .refl s
  | some k => exact finish_periodKept ..

theorem failedOpt_periodKept (s : State) (k : Option CmdKey) (r : Nat) : PeriodKept stop ok s (s.failedOpt k r) := by
  cases k with
  | none => exact .refl s
  | some k => exact finish_periodKept ..

/-! ### Moves of the device and raises -/

theorem cancelMove_periodKept (s : State) : PeriodKept stop ok s s.cancelMove := by
  unfold State.cancelMove
  split
  · exact .refl s
  · exact PeriodKept.trans (.parts _) (.fold (fun _ _ => finish_periodKept ..) _ _)

theorem modeStopped_periodKept (s : State) (m : Nat) (k : Option CmdKey) : PeriodKept stop ok s (s.modeStopped m k) := by
  unfold State.modeStopped
  exact (((PeriodKept.set (by decide) _ _).trans (.set (by decide) _ _)).trans (.set (by decide) _ _)).trans (doneOpt_periodKept ..)

theorem exchangeBanks_periodKept (s : State) : PeriodKept stop ok s s.exchangeBanks := by
  unfold State.exchangeBanks
  extract_lets sel one
  have hone : ∀ (i : Nat) (bank ver : Fld) (t : State), bank.addr = R.ENG_STAT → 3 ≤ bank.lo → bank.lo + bank.width ≤ 8 → ver.addr ∉ periodRegs →
      PeriodKept stop ok t (one i bank ver t) := fun i bank ver t ha hl hu hv =>
    .ite ((PeriodKept.trans (by exact .eng t _ rfl rfl rfl rfl rfl rfl rfl rfl) (.set_stat ha hl (.inl hu) _ _)).trans (.set hv _ _)) (.refl t)
  have h1 := (hone 0 F.ENG_STAT_PBANK F.ALM_SWAP_VERP s rfl (by decide) (by decide) (by decide)).trans
    (hone 1 F.ENG_STAT_ABANK F.ALM_SWAP_VERA _ rfl (by decide) (by decide) (by decide))
  refine PeriodKept.trans ?_ (doneOpt_periodKept ..)
  refine PeriodKept.trans ?_ (.flag_alm rfl (by decide) _)
  refine ((PeriodKept.trans ?_ (.set (by decide) _ _)).trans (.set (by decide) _ _)).trans (.set (by decide) _ _)
  exact h1.trans (by exact .eng _ _ rfl rfl rfl rfl rfl rfl rfl rfl)

/-- The mode asked for when the Helm stops. -/
theorem modeAsked_periodKept (t : State) : PeriodKept stop ok t (match t.eng.modeNext with
    | some m => ({ t with eng := { t.eng with modeNext := none, modeTaken := none, entryDue := false } } : State).modeStopped m t.eng.modeTaken
    | none => ({ t with eng := { t.eng with modeNext := none, modeTaken := none, entryDue := false } } : State).doneOpt t.eng.modeTaken []) := by
  split
  · exact PeriodKept.trans (by exact .eng t _ rfl rfl rfl rfl rfl rfl rfl rfl) (modeStopped_periodKept _ _ _)
  · exact PeriodKept.trans (by exact .eng t _ rfl rfl rfl rfl rfl rfl rfl rfl) (doneOpt_periodKept _ _ _)

theorem settleStopped_periodKept (s : State) : PeriodKept stop ok s s.settleStopped := by
  have h0 : PeriodKept stop ok s (if s.on F.ALM_SWAP_PEND then s.exchangeBanks else s) := .ite (exchangeBanks_periodKept s) (.refl s)
  unfold State.settleStopped
  refine .ite ?_ ?_
  · exact (h0.trans (modeAsked_periodKept _)).trans
      (PeriodKept.trans (by exact .eng _ _ rfl rfl rfl rfl rfl rfl rfl rfl) (modeStopped_periodKept _ _ _))
  · exact h0.trans (modeAsked_periodKept _)

/-- The Helm that stops clears what the engine has staged. -/
theorem helmStop_periodKept (s : State) (h : stop) : PeriodKept stop ok s s.helmStop := by
  unfold State.helmStop
  split
  · exact .refl s
  · refine PeriodKept.trans ?_ (settleStopped_periodKept _)
    exact {
      row := .inr ⟨h, get_set_self _ _ _ (by decide)⟩
      overrun := PeriodKept.on_set_disjoint 0 (by decide)
      late := fun _ => PeriodKept.on_set_disjoint 0 (by decide)
      counts := fun a ha => reg_set_ne _ _ (fun h => absurd (h ▸ ha) (by decide)) _
      okrun := fun _ hz => (reg_set_ne _ _ (by decide) _).trans hz
      pV := rfl, pS := rfl, wV := fun _ => rfl, wS := fun _ => rfl, ladle := fun _ => rfl, deferred := rfl, held := rfl, sext := rfl, chrono := rfl }

theorem helmStop_stopped (s : State) : s.helmStop.get F.ENG_STAT_ESTATE = 0 := by
  unfold State.helmStop
  split
  · assumption
  · exact (settleStopped_periodKept (ok := False) _).estate.trans (get_set_self _ _ _ (by decide))

theorem stopDeep_periodKept (s : State) : PeriodKept True ok s s.stopDeep :=
  ((helmStop_periodKept s trivial).trans (.set (f := F.RING_STAT_BYPE) (by decide) _ _)).trans (.set (f := F.RING_STAT_BYPW) (by decide) _ _)

theorem yield_periodKept (s : State) (c : Nat) : PeriodKept stop ok s (s.yield c) :=
  .ite ((twinSend_periodKept s _ _ _).trans (.flag (f := F.TWIN_STAT_YIELDED) (by decide) _)) (.refl s)

theorem enterStop_periodKept (s : State) (t : Nat) (c : Option Src) : PeriodKept True ok s (s.enterStop t c) := by
  have h : ∀ x, PeriodKept True ok s ({ s.cancelMove.setDev t with sys := x } : State) := fun x =>
    ((cancelMove_periodKept s).trans (.set (f := F.SYS_STATE_STATE) (by decide) _ _)).trans (.parts _)
  unfold State.enterStop
  refine .ite (.ite ?_ (.ite ?_ ?_)) (.refl s)
  · exact ((h _).trans (yield_periodKept _ _)).trans (stopDeep_periodKept _)
  · exact (h _).trans (stopDeep_periodKept _)
  · exact h _

theorem raise_periodKept (s : State) (q : Src) (a : Acc) : PeriodKept True ok s (s.raise q a) := by
  unfold State.raise
  extract_lets w r s1 s2 s3
  have h3 : PeriodKept True ok s s3 := .parts _
  refine .ite (.refl s) (h3.trans ?_)
  unfold State.applyReact
  extract_lets s4
  have h4 : PeriodKept True ok s3 s4 := by
    refine .ite ?_ (.refl _)
    rw [holdLocal_eq]
    exact .parts _
  exact .ite (h4.trans (enterStop_periodKept ..)) (.ite (h4.trans (enterStop_periodKept ..)) (.ite (h4.trans (enterStop_periodKept ..)) h4))

theorem faultNew_periodKept {f : Fld} (h : f.addr ∉ periodRegs) (s : State) (q : Src) (a : Acc) : PeriodKept True ok s (s.faultNew f q a) :=
  .ite (.refl s) ((PeriodKept.flag h s).trans (raise_periodKept ..))

end
end Sys2Proof.Machine

/-! ## The work of a deadline leaves the row, the state pages and the period's counts (03 R116, R133) -/
namespace Sys2Proof.Machine

namespace PeriodKept
variable {stop ok : Prop}

/-- A write of a register after those of the period, where a trial's count is not followed. -/
theorem setHigh {a : Nat} (h : 0x10100070 ≤ a) (s : State) (v : Word) : PeriodKept stop False s (s.setReg a v) := by
  refine of_setReg (show (0x10100004 : Nat) ≠ a by omega) (fun hm => ?_) (fun hf => hf.elim) fun hf => hf.elim
  have hlow : ∀ b ∈ periodCounts, b < 0x10100070 := by decide
  exact absurd (hlow a hm) (by omega)

theorem setFldHigh {f : Fld} (h : 0x10100070 ≤ f.addr) (s : State) (n : Nat) : PeriodKept stop False s (s.set f n) := setHigh h s _

theorem flagHigh {f : Fld} (h : 0x10100070 ≤ f.addr) (s : State) : PeriodKept stop False s (s.flag f) := (mark s _ _).trans (setHigh h _ _)

end PeriodKept

section
variable {stop ok : Prop}

/-! ### Modulation -/

/-- A flag of a channel, set and raised. -/
theorem chFault_periodKept {f : Nat → Fld} (h : ∀ n, 0x10100070 ≤ (f n).addr) (s : State) (c : Nat) (q : Src) (a : Acc) :
    PeriodKept True False s (s.chFault c f q a) :=
  .ite (.refl s) ((PeriodKept.flagHigh (h _) s).trans (raise_periodKept ..))

theorem CHST_high (n : Nat) : 0x10100070 ≤ 0x12000034 + 0x40 * n := by omega

theorem showAct_periodKept (s : State) (c : Nat) (act : List Nat) : PeriodKept stop False s (s.showAct c act) := by
  unfold State.showAct
  refine PeriodKept.trans (PeriodKept.trans (PeriodKept.trans (PeriodKept.trans (PeriodKept.trans ?_ (.setHigh ?_ _ _)) (.setHigh ?_ _ _))
    (.setHigh ?_ _ _)) (.setHigh ?_ _ _)) (.setHigh ?_ _ _)
  · exact .setHigh (by simp only [R.MOD_ACT_PERIOD]; omega) _ _
  · simp only [R.MOD_ACT_CMPA]; omega
  · simp only [R.MOD_ACT_CMPB]; omega
  · simp only [R.MOD_ACT_PHASE]; omega
  · simp only [R.MOD_ACT_DT]; omega
  · simp only [R.MOD_ACT_MINP]; omega

theorem directLoad_periodKept (s : State) (c : Nat) (fs : List (Nat × Nat)) : PeriodKept True False s (s.directLoad c fs) := by
  unfold State.directLoad
  extract_lets x s1 fs' act s2
  have h1 : PeriodKept True False s s1 := .ite (chFault_periodKept (CHST_high ·) s c _ _) (.refl s)
  have h2 : PeriodKept True False s1 s2 := .parts _
  exact ((h1.trans h2).trans (showAct_periodKept ..)).trans (.setFldHigh (CHST_high _) _ _)

theorem loadCh_periodKept (s : State) (c : Nat) : PeriodKept True False s (s.loadCh c) := by
  unfold State.loadCh
  extract_lets r wrm lset part s1 fs s2 x
  have h1 : PeriodKept True False s s1 := .ite (chFault_periodKept (CHST_high ·) s c _ _) (.refl s)
  have h2 : PeriodKept True False s1 s2 := .setFldHigh (CHST_high _) _ _
  refine .ite (.refl s) (.ite (h1.trans (chFault_periodKept (CHST_high ·) _ c _ _)) (.ite ?_ ?_))
  · exact ((h1.trans h2).trans (PeriodKept.parts s2)).trans (.flagHigh (CHST_high _) _)
  · exact (h1.trans h2).trans (directLoad_periodKept ..)

theorem loadArmed_periodKept (s : State) (groups : Nat) : PeriodKept True False s (s.loadArmed groups) := by
  refine PeriodKept.trans (.ite (.refl s) (.fold (fun t c => ?_) _ s)) (.setFldHigh (by decide) _ _)
  exact .ite (loadCh_periodKept t c) (.refl t)

theorem writeShadow_periodKept (s : State) (c f v : Nat) : PeriodKept stop False s (s.writeShadow c f v) := by
  unfold State.writeShadow
  extract_lets s1
  have h1 : PeriodKept stop False s s1 := by
    unfold s1
    split <;> refine .setFldHigh ?_ _ _
    · simp only [F.MOD_PERIOD_V]; omega
    · simp only [F.MOD_CMPA_V]; omega
    · simp only [F.MOD_CMPB_V]; omega
    · simp only [F.MOD_PHASE_V]; omega
    · simp only [F.MOD_DT_DTR]; omega
    · simp only [F.MOD_DT_DTF]; omega
    · simp only [F.MOD_MINP_MINP]; omega
  exact h1.trans ((PeriodKept.mark _ _ _).trans (.setFldHigh (CHST_high _) _ _))

theorem served_periodKept (s : State) (key : Nat) (m : Master) : PeriodKept stop ok s (s.served key m) :=
  .ite (.of_same rfl rfl rfl rfl rfl rfl) (.of_same rfl rfl rfl rfl rfl rfl)

/-- The ladle's values go to the shadows. -/
theorem pourAll_periodKept (s : State) (l : List LadleEntry) : PeriodKept stop False s (l.foldl State.pourOne (l.foldl State.pourClaims s)) := by
  refine PeriodKept.trans (.fold (fun t e => ?_) l s) (.fold (fun t e => ?_) l _)
  · refine .fold (fun t v => ?_) e.vals t
    split
    · exact served_periodKept ..
    · exact .refl t
  · refine .fold (fun t v => ?_) e.vals t
    split
    · exact writeShadow_periodKept ..
    · exact .refl t

theorem genFlags_periodKept (s : State) (c : Nat) (g : GenRes) : PeriodKept True False s (s.genFlags c g) := by
  unfold State.genFlags
  extract_lets s1 s2
  have h1 : PeriodKept True False s s1 :=
    .ite (.refl s) ((PeriodKept.setHigh (by decide) s _).trans (chFault_periodKept (CHST_high ·) _ c _ _))
  have h2 : PeriodKept True False s1 s2 := .ite (chFault_periodKept (CHST_high ·) s1 c _ _) (.refl s1)
  exact .ite ((h1.trans h2).trans (.setHigh (by simp only [R.AXD_REFCNT]; omega) _ _)) (h1.trans h2)

theorem genLocal_periodKept (s : State) (c k t0 t1 : Nat) : PeriodKept True False s (s.genLocal c k t0 t1) := by
  unfold State.genLocal
  extract_lets wasOff g s1 ovf offs es _ x s2 _ s3
  have h1 : PeriodKept True False s s1 := genFlags_periodKept ..
  have h3 : PeriodKept True False s1 s3 := .parts _
  exact .ite ((h1.trans h3).trans (chFault_periodKept (CHST_high ·) _ c _ _)) (h1.trans h3)

/-- EQOVF of each channel of a lane with edges. -/
theorem laneEqovf_periodKept (s : State) (l : Nat) (chans : List Nat) : PeriodKept True False s (chans.foldl (fun s c =>
    if (s.chan (8 * l + c)).edges.isEmpty then s else s.chFault (8 * l + c) F.MOD_CHST_EQOVF Q.MOD_EQOVF (hw (chBase (8 * l + c)))) s) :=
  .fold (fun t _ => .ite (.refl t) (chFault_periodKept (CHST_high ·) t _ _ _)) chans s

theorem genLane_periodKept (s : State) (l k t0 t1 : Nat) : PeriodKept True False s (s.genLane l k t0 t1) := by
  unfold State.genLane
  extract_lets chans _ s1 recs slvl ovf _ s2
  have h1 : PeriodKept True False s s1 := .fold (fun t c => (PeriodKept.parts t).trans (genFlags_periodKept ..)) chans s
  have h2 : PeriodKept True False s1 s2 := .parts _
  exact .ite (.parts s) (.ite ((h1.trans h2).trans (laneEqovf_periodKept ..)) (h1.trans h2))

/-- Edge generation. -/
theorem generate_periodKept (s : State) (k t0 t1 : Nat) : PeriodKept True False s (s.generate k t0 t1) := by
  unfold State.generate
  extract_lets s1 run s2
  have h1 : PeriodKept True False s s1 := .fold (fun t l => genLane_periodKept t l k t0 t1) _ s
  have h2 : PeriodKept True False s1 s2 := .fold (fun t j => .ite (genLocal_periodKept t _ k t0 t1) (.refl t)) _ s1
  exact ((h1.trans h2).trans (PeriodKept.parts s2)).trans (.setFldHigh (by decide) _ _)

/-! ### The mode of the next period -/

theorem modeRej_periodKept (s : State) : PeriodKept True ok s (s.faultNew F.ALM_STAT_MODEREJ Q.ALM_MODEREJ (hw 0)) :=
  .ite (.refl s) ((PeriodKept.flag_alm rfl (by decide) s).trans (raise_periodKept ..))

theorem takeHostMode_periodKept (s : State) : PeriodKept True ok s s.takeHostMode := by
  unfold State.takeHostMode
  extract_lets m k _ s1
  have h1 : PeriodKept True ok s s1 := PeriodKept.trans (by exact .eng s _ rfl rfl rfl rfl rfl rfl rfl rfl) (.set (by decide) _ _)
  refine .ite (.ite ((h1.trans (modeRej_periodKept _)).trans (failedOpt_periodKept ..)) (.ite (h1.trans ?_) (h1.trans ?_))) (.refl s)
  · exact .eng s1 _ rfl rfl rfl rfl rfl rfl rfl rfl
  · exact .eng s1 _ rfl rfl rfl rfl rfl rfl rfl rfl

theorem chooseMode_periodKept (s : State) : PeriodKept True ok s s.chooseMode := by
  unfold State.chooseMode
  split
  · refine .ite (takeHostMode_periodKept s) (.ite ((modeRej_periodKept s).trans (takeHostMode_periodKept _)) ?_)
    refine PeriodKept.trans ?_ (failedOpt_periodKept ..)
    exact PeriodKept.trans (by exact .eng s _ rfl rfl rfl rfl rfl rfl rfl rfl) (.set (by decide) _ _)
  · exact takeHostMode_periodKept s

theorem ripenSwap_periodKept (s : State) : PeriodKept stop ok s s.ripenSwap := .eng s _ rfl rfl rfl rfl rfl rfl rfl rfl

/-! ### Frames on the ring and to the partner -/

theorem putOn_periodKept (s : State) (p : Side) (f : RingFrame) : PeriodKept stop ok s (s.putOn p f) := .parts s

theorem ringEmit_periodKept (s : State) (p : Side) (own : Bool) (f : RingFrame) : PeriodKept stop ok s (s.ringEmit p own f) := by
  have hb : PeriodKept stop ok s (s.breakOff p) := by
    unfold State.breakOff
    split
    · exact .ite (.refl s) (((PeriodKept.parts s).trans (.setReg (by decide) _ _)).trans (.parts _))
    · exact .refl s
  have hp : ∀ t : State, PeriodKept stop ok t (t.pumpPort p) := fun t => by
    unfold State.pumpPort
    refine .ite (.refl t) ?_
    split
    · exact (PeriodKept.parts t).trans (putOn_periodKept ..)
    · exact .refl t
  exact .ite (.refl s) (.ite (hb.trans (putOn_periodKept ..)) ((PeriodKept.parts s).trans (hp _)))

theorem ringOrig_periodKept (s : State) (p : Side) (f : RingFrame) : PeriodKept stop ok s (s.ringOrig p f) := .ite (.refl s) (ringEmit_periodKept ..)

theorem schedSend_periodKept (s : State) (abandoned : Bool) (slot : Option (List (Nat × BitVec 16))) :
    PeriodKept stop ok s (s.schedSend abandoned slot) := by
  unfold State.schedSend
  extract_lets body cspec f _ s1
  have h1 : PeriodKept stop ok s s1 := .parts s
  have h2 : ∀ e, PeriodKept stop ok s1 (if e = 0 then s1 else s1.ringOrig .east { f with ttl := e }) := fun e =>
    .ite (.refl s1) (ringOrig_periodKept ..)
  exact .ite (.ite (h1.trans (h2 _)) ((h1.trans (h2 _)).trans (ringOrig_periodKept ..))) (.refl s)

theorem hbSend_periodKept (s : State) : PeriodKept stop ok s s.hbSend :=
  .ite ((twinSend_periodKept s _ _ _).trans (.parts _)) (.refl s)

theorem mirrorSend_periodKept (s : State) : PeriodKept True ok s s.mirrorSend := by
  unfold State.mirrorSend
  extract_lets mods rest st rows mf all crc s1 s2 s3 s4
  dsimp only [State.draw]
  have h1 : PeriodKept True ok s s4 := (((twinSend_periodKept s 3 0 st).trans (.fold (fun t d => twinSend_periodKept t 4 0 d) rows s1)).trans
    (.fold (fun t d => twinSend_periodKept t 5 0 d) mf s2)).trans (twinSend_periodKept s3 6 0 _)
  have shown : ∀ {t : State} {n v : Nat}, PeriodKept True ok s4 t →
      PeriodKept True ok s ((t.set F.TWIN_MLAST_BLOCKS n).set F.TWIN_MLAST_NS v) := fun h =>
    ((h1.trans h).trans (.set (by decide) _ _)).trans (.set (by decide) _ _)
  exact .ite (.ite (shown (.parts s4)) ((shown (.parts s4)).trans (faultNew_periodKept (by decide) ..))) (.refl s)

theorem twinDeadline_periodKept (s : State) : PeriodKept True ok s s.twinDeadline :=
  ((hbSend_periodKept s).trans (PeriodKept.parts s.hbSend)).trans (mirrorSend_periodKept _)

/-! ### Fix rows -/

theorem fixAnswer_periodKept (s : State) : PeriodKept stop ok s s.fixAnswer := by
  refine .fold (fun t c => ?_) _ s
  split
  · exact finish_periodKept ..
  · exact .refl t

theorem fixWord_periodKept (s : State) (b ofs v : Nat) : PeriodKept stop False s (s.fixWord b ofs v) :=
  .setHigh (by simp only [R.RING_FIXBANK]; omega) _ _

theorem fixRows_periodKept (s : State) : PeriodKept stop False s s.fixRows := by
  refine PeriodKept.trans (.fold (fun t b => ?_) _ s) (fixAnswer_periodKept _)
  extract_lets x t1
  have h1 : PeriodKept stop False t t1 := .fold (fun u i => .fold (fun w j => fixWord_periodKept w _ _ _) _ u) _ t
  have h2 : PeriodKept stop False t1 (t1.fixWide b 0x18 s.now) := (fixWord_periodKept ..).trans (fixWord_periodKept ..)
  refine .ite ((h1.trans h2).trans ?_) (.refl t)
  exact ((PeriodKept.parts _).trans (fixWord_periodKept ..)).trans (.setFldHigh (show (0x10100070 : Nat) ≤ R.RING_FIXSTAT by decide) _ _)

/-! ### The windows of the lanes -/

theorem lanePump_periodKept (s : State) (l : Nat) : PeriodKept stop ok s (s.lanePump l) := by
  have hw : ∀ (t : State) (f : LinkFrame), PeriodKept stop ok t (t.wire l f) := fun t f => .parts t
  unfold State.lanePump
  extract_lets x
  refine .ite (.refl s) ?_
  split
  · exact .ite (.parts s) ((PeriodKept.parts s).trans (hw _ _))
  · split
    · exact .ite ((PeriodKept.parts s).trans (hw _ _)) (.refl s)
    · exact .refl s

theorem laneSend_periodKept (s : State) (l : Nat) (f : LinkFrame) : PeriodKept stop ok s (s.laneSend l f) := (PeriodKept.parts s).trans (lanePump_periodKept _ _)

theorem sendKeep_periodKept (s : State) (l a w : Nat) : PeriodKept stop ok s (s.sendKeep l a w) := (PeriodKept.parts s).trans (laneSend_periodKept _ _ _)

theorem sendEdge_periodKept (s : State) (l t0 t1 slvl : Nat) (trip empty : Bool) (recs : List Word) :
    PeriodKept stop ok s (s.sendEdge l t0 t1 slvl trip empty recs) := (PeriodKept.parts s).trans (laneSend_periodKept _ _ _)

theorem sendTime_periodKept (s : State) (l : Nat) : PeriodKept stop ok s (s.sendTime l) :=
  ((PeriodKept.parts s).trans (PeriodKept.parts _)).trans (laneSend_periodKept _ _ _)

theorem sendTimes_periodKept (s : State) (ready : Bool) : PeriodKept stop ok s (s.sendTimes ready) :=
  .ite ((PeriodKept.fold sendTime_periodKept _ s).trans (.fold sendTime_periodKept _ _)) (.fold sendTime_periodKept _ s)

/-- A change of a lane's channels, one by one, and of the replays. -/
theorem laneChans_periodKept {g : State → Nat → ChSt} (l : Nat) (chans : List Nat) (s : State) :
    PeriodKept stop ok s (chans.foldl (fun s c => s.setChan (8 * l + c) (g s c)) s) := .fold (fun t _ => .parts t) chans s

theorem laneEmpty_periodKept (s : State) (l : Nat) : PeriodKept stop ok s (s.laneEmpty l) := (laneChans_periodKept l _ s).trans (.parts _)
theorem laneSent_periodKept (s : State) (l : Nat) : PeriodKept stop ok s (s.laneSent l) := (laneChans_periodKept l _ s).trans (.parts _)
theorem laneReplay_periodKept (s : State) (l : Nat) : PeriodKept stop ok s (s.laneReplay l) :=
  .ite ((laneEmpty_periodKept s l).trans (.parts _)) ((laneChans_periodKept l _ s).trans (.parts _))

/-- The frame of an abandoned period: a KEEP, whose edges are replayed. -/
theorem windowFrame_abandoned_periodKept (s : State) (t0 t1 l : Nat) : PeriodKept stop ok s (s.windowFrame true t0 t1 l) := by
  unfold State.windowFrame
  simp only [Bool.or_true, if_true]
  exact .ite ((sendKeep_periodKept ..).trans (laneReplay_periodKept ..)) (sendKeep_periodKept ..)

theorem windowFrame_periodKept (s : State) (abandoned : Bool) (t0 t1 l : Nat) : PeriodKept True False s (s.windowFrame abandoned t0 t1 l) := by
  unfold State.windowFrame
  extract_lets edgeState win s1 trip runs
  have h1 : PeriodKept True False s s1 := sendKeep_periodKept ..
  refine .ite (.ite (h1.trans (laneReplay_periodKept ..)) h1) ?_
  clear_value win
  rcases win with _ | ⟨_, slvl, ovf, recs⟩
  · exact sendEdge_periodKept ..
  · refine .ite ((sendEdge_periodKept ..).trans (laneEmpty_periodKept ..)) (.ite ?_ ((sendEdge_periodKept ..).trans (laneSent_periodKept ..)))
    exact ((laneEqovf_periodKept s l _).trans (sendKeep_periodKept ..)).trans (laneReplay_periodKept ..)

/-- The frames of all lanes, from the frame of each. -/
theorem windowFrames_of {abandoned : Bool} {t0 t1 : Nat} (h : ∀ t l, PeriodKept stop ok t (State.windowFrame t abandoned t0 t1 l)) (s : State) :
    PeriodKept stop ok s (s.windowFrames abandoned t0 t1) := by
  unfold State.windowFrames
  extract_lets s1 _ s2 s3 p
  have h2 : PeriodKept stop ok s s2 := PeriodKept.trans (.fold (fun t e => .ite (.refl t) (laneReplay_periodKept ..)) _ s) (.parts s1)
  have h3 : PeriodKept stop ok s2 s3 := .fold (fun t l => h t l) _ s2
  exact .ite (h2.trans (.fold (fun t l => .ite (laneReplay_periodKept ..) (.refl t)) _ s2)) ((h2.trans h3).trans (sendTimes_periodKept ..))

theorem windowsWithBypass_periodKept (s : State) (t0 t1 : Nat) : PeriodKept True False s (s.windowsWithBypass t0 t1) := by
  unfold State.windowsWithBypass
  extract_lets wants s1
  have h1 : PeriodKept True False s s1 := .fold (fun t w => .ite (.parts t) (.refl t)) wants s
  refine (h1.trans (windowFrames_of (fun t l => windowFrame_periodKept t _ _ _ l) s1)).trans (.fold (fun t w => ?_) wants _)
  exact (PeriodKept.parts t).trans (lanePump_periodKept _ _)

/-! ### The Log -/

theorem storeRec_periodKept (s : State) (bytes : List Byte) : PeriodKept stop ok s (s.storeRec bytes) := by
  unfold State.storeRec
  extract_lets slot n s1 cnt nx
  have h1 : PeriodKept stop ok s s1 := .fold (fun t i => .parts t) _ s
  exact ((h1.trans (.parts s1)).trans (.set (f := F.LOG_FIRST_SLOT) (by decide) _ _)).trans (.set (f := F.LOG_FIRST_HELD) (by decide) _ _)

theorem logDone_periodKept (s : State) : PeriodKept True ok s s.logDone := by
  unfold State.logDone
  extract_lets n pre s1
  have h1 : PeriodKept True ok s s1 := .ite (.flag (by decide) s) (.refl s)
  refine PeriodKept.trans ?_ (raise_periodKept ..)
  exact ((h1.trans (.set (by decide) _ _)).trans (.set (f := F.LOG_FIRST_SLOT) (by decide) _ _)).trans (.set (f := F.LOG_FIRST_HELD) (by decide) _ _)

theorem exportRec_periodKept (s : State) (dst num : Nat) (bytes : List Byte) : PeriodKept stop ok s (s.exportRec dst num bytes) :=
  .fold (fun _ _ => ringOrig_periodKept ..) _ s

theorem streamOut_periodKept (s : State) (bytes : List Byte) : PeriodKept True ok s (s.streamOut bytes) := by
  unfold State.streamOut
  extract_lets num _ s1 s2
  have h1 : PeriodKept True ok s s1 := .parts s
  have hd : PeriodKept True ok s1 ((s1.count R.LOG_DROP 1).raise Q.LOG_DROP (hw 0)) :=
    PeriodKept.trans (.setReg (by decide) _ _) (raise_periodKept ..)
  have h2 : PeriodKept True ok s1 s2 := .ite (.ite (.parts s1) hd) (.refl s1)
  refine .ite (.ite ?_ (h1.trans h2)) h1
  exact (h1.trans h2).trans (PeriodKept.trans (.parts s2) (exportRec_periodKept ..))

theorem finishRec_periodKept (s : State) (data : List Byte) (split : Bool) : PeriodKept True ok s (s.finishRec data split) := by
  unfold State.finishRec
  extract_lets pre f trig bytes s1 _ s2 kept s3 s4 _ s5 s6 s7 _ s8
  have h2 : PeriodKept True ok s s2 := (streamOut_periodKept s bytes).trans (.parts s1)
  have h3 : PeriodKept True ok s2 s3 := ((((PeriodKept.set (by decide) _ _).trans (.set (by decide) _ _)).trans (.setReg (by decide) _ _)).trans
    (.setReg (by decide) _ _))
  have h4 : PeriodKept True ok s3 s4 := (storeRec_periodKept ..).trans (.set (by decide) _ _)
  have h6 : PeriodKept True ok s4 s6 := (PeriodKept.parts s4).trans (raise_periodKept ..)
  have ht := ((h2.trans h3).trans h4).trans h6
  have h8 : PeriodKept True ok s2 s8 := (storeRec_periodKept ..).trans (.parts s7)
  exact .ite (.ite (ht.trans (logDone_periodKept _)) ht) (.ite (h2.trans (storeRec_periodKept ..))
    (.ite (.ite ((h2.trans h8).trans (logDone_periodKept _)) (h2.trans h8)) h2))

theorem logDeadline_periodKept (s : State) : PeriodKept True ok s s.logDeadline := by
  unfold State.logDeadline
  split
  · exact finishRec_periodKept ..
  · exact .refl s

end
end Sys2Proof.Machine

/-! ## The deadline of a period (03 R116, R125, R126, R133) -/
namespace Sys2Proof.Machine
open Stmt

/-! ### The end of a deadline -/

/-- Without claims to serve, leaving RUN changes the engine's state alone. -/
theorem leaveRun_of_none {s : State} (hd : s.bus.deferred = []) (hh : s.bus.held = []) (es : Nat) : s.leaveRun es = s.set F.ENG_STAT_ESTATE es :=
  serveDeferred_of_none hd hh

/-- Where the deadline of a period ends: the engine waits for the boundary, unless a fault stopped it. -/
def State.deadlineEnd (s : State) : State := if s.get F.ENG_STAT_ESTATE = 0 then s else (s.leaveRun 4).logDeadline

theorem deadlineEnd_kept {s : State} (hd : s.bus.deferred = []) (hh : s.bus.held = []) :
    PagesKept s s.deadlineEnd ∧ (s.deadlineEnd.get F.ENG_STAT_ESTATE = 4 ∨ s.deadlineEnd.get F.ENG_STAT_ESTATE = 0) ∧
    (∀ a ∈ periodCounts, s.deadlineEnd.reg a = s.reg a) ∧ (s.on F.ENG_STAT_OVERRUN = true → s.deadlineEnd.on F.ENG_STAT_OVERRUN = true) ∧
    (s.reg R.UPD_OKRUN = 0 → s.deadlineEnd.reg R.UPD_OKRUN = 0) := by
  unfold State.deadlineEnd
  split
  · next h => exact ⟨.of_same rfl rfl rfl rfl rfl, .inr h, fun _ _ => rfl, id, id⟩
  · rw [leaveRun_of_none hd hh]
    have hk := logDeadline_periodKept (ok := True) (s.set F.ENG_STAT_ESTATE 4)
    refine ⟨PagesKept.trans (.regs s) hk.toPagesKept, hk.row.imp (fun hr => hr.1.trans (get_set_self s _ 4 (by decide))) (·.2), fun a ha => ?_,
      fun ho => hk.overrun ?_, fun hz => hk.okrun trivial ?_⟩
    · exact (hk.counts a ha).trans (reg_set_ne s _ (ne_of_mem_of_not_mem ha (by decide)) 4)
    · rw [State.on, get_set_disjoint s F.ENG_STAT_ESTATE F.ENG_STAT_OVERRUN 4 (by decide)]; exact ho
    · exact (reg_set_ne s _ (by decide) 4).trans hz

/-! ### A period whose blocks are all complete -/

theorem showCycles_periodKept (s : State) : PeriodKept True False (s.setRegN R.ENG_LASTCYC s.lastCyc) s.showCycles := by
  unfold State.showCycles
  refine .ite ?_ (.refl _)
  unfold State.setRC
  extract_lets old first s1 _ s2
  have h1 : PeriodKept True False (s.setRegN R.ENG_LASTCYC s.lastCyc) s1 := .mark _ _ _
  have h2 : PeriodKept True False s1 s2 := .ite (.of_same rfl rfl rfl rfl rfl rfl) (.refl s1)
  exact (h1.trans h2).trans (.setReg (by decide) s2 _)

theorem showCycles_eng (s : State) : s.showCycles.eng = s.eng := by
  unfold State.showCycles
  extract_lets n s1
  split
  · unfold State.setRC
    extract_lets old first s2 _ s3
    have h3 : s3.eng = s2.eng := by unfold s3; split <;> rfl
    exact h3.trans (mark_eng ..)
  · rfl

/-- The state pages written become current, and the ladle is empty. -/
def State.flipped (s : State) : State :=
  { s with eng := { s.eng with pV := s.eng.pV ^^^ s.eng.wV, wV := 0, pS := s.eng.pS ^^^ s.eng.wS, wS := 0, ladle := [] } }

/-- What follows the pour, up to the end of the run of overruns. -/
theorem deadlineDone_result (s : State) :
    PagesKept s.flipped s.deadlineDone ∧
    (s.deadlineDone.get F.ENG_STAT_ESTATE = s.get F.ENG_STAT_ESTATE ∨ s.deadlineDone.get F.ENG_STAT_ESTATE = 0) ∧
    s.deadlineDone.reg R.ENG_OVR_RUN = 0 ∧ s.deadlineDone.reg R.ENG_LASTCYC = BitVec.ofNat 32 s.lastCyc ∧
    (∀ a ∈ periodCounts, a ≠ R.ENG_OVR_RUN → a ≠ R.ENG_LASTCYC → s.deadlineDone.reg a = s.reg a) := by
  have ha := showCycles_periodKept s
  have he := showCycles_eng s
  have hp : PeriodKept True False s.showCycles.flipPages _ := pourAll_periodKept s.showCycles.flipPages s.showCycles.flipPages.eng.ladle
  unfold State.deadlineDone
  extract_lets s1 s2 _ s3 s4 slot s5 s6 s7 s8
  have h5 : PeriodKept True False s1 s5 := by
    refine PeriodKept.trans ?_ (schedSend_periodKept ..)
    refine PeriodKept.trans ?_ (generate_periodKept ..)
    refine PeriodKept.trans ?_ (ripenSwap_periodKept _)
    refine PeriodKept.trans ?_ (chooseMode_periodKept _)
    have h2 : PeriodKept True False s1 s2 := loadArmed_periodKept ..
    exact h2.trans (.eng s2 _ rfl rfl rfl rfl rfl rfl rfl rfl)
  have h8 : PeriodKept True False (s5.setReg R.ENG_OVR_RUN 0) s8 :=
    ((twinDeadline_periodKept _).trans (.ite (fixRows_periodKept s6) (.refl s6))).trans (.ite (.setHigh (by decide) s7 _) (.refl s7))
  have h9 : PeriodKept True False (s5.setReg R.ENG_OVR_RUN 0) (s8.windowsWithBypass s8.sext.b1 s8.sext.b2) := h8.trans (windowsWithBypass_periodKept ..)
  have hcounts : ∀ a ∈ periodCounts, a ≠ R.ENG_OVR_RUN → (s8.windowsWithBypass s8.sext.b1 s8.sext.b2).reg a =
      (s.setRegN R.ENG_LASTCYC s.lastCyc).reg a := fun a hm hne =>
    (h9.counts a hm).trans ((reg_setReg_ne s5 hne 0).trans ((h5.counts a hm).trans ((hp.counts a hm).trans (ha.counts a hm))))
  refine ⟨?_, ?_, (h9.counts _ (by decide)).trans (reg_setReg_self ..), (hcounts _ (by decide) (by decide)).trans (reg_setReg_self ..),
    fun a hm h1 h2 => (hcounts a hm h1).trans (reg_setReg_ne s h2 _)⟩
  · have h1 : PagesKept s.flipped s1 := {
      pV := hp.pV.trans (by rw [State.flipPages, he]; rfl)
      pS := hp.pS.trans (by rw [State.flipPages, he]; rfl)
      wV := fun _ => hp.wV rfl
      wS := fun _ => hp.wS rfl
      ladle := fun _ => rfl
      deferred := hp.deferred.trans ha.deferred
      held := hp.held.trans ha.held
      sext := hp.sext.trans ha.sext
      chrono := hp.chrono.trans ha.chrono }
    exact ((h1.trans h5.toPagesKept).trans (.regs s5)).trans h9.toPagesKept
  · have e1 : s1.get F.ENG_STAT_ESTATE = s.showCycles.get F.ENG_STAT_ESTATE ∨ s1.get F.ENG_STAT_ESTATE = 0 := hp.estate_or
    have e0 := ha.estate_or
    have e5 := h5.estate_or
    have e9 := h9.estate_or
    rw [get_setReg_ne _ _ _ _ (by decide)] at e9
    rw [State.setRegN, get_setReg_ne _ _ _ _ (by decide)] at e0
    omega

/-! ### An abandoned period -/

theorem regN_count_self (s : State) (a k : Nat) : (s.count a k).regN a = min 0xFFFFFFFF (s.regN a + k) := by
  have h : min (s.regN a + k) (2 ^ 32 - 1) < 2 ^ 32 := lt_of_le_of_lt (Nat.min_le_right _ _) (by decide)
  rw [State.count, State.regN, reg_setRegN_self, BitVec.toNat_ofNat, satAdd, Nat.mod_eq_of_lt h, Nat.min_comm]
  rfl

theorem regN_count_ne (s : State) {a b : Nat} (h : b ≠ a) (k : Nat) : (s.count a k).regN b = s.regN b :=
  congrArg BitVec.toNat (reg_setRegN_ne s h _)

theorem reg_setReg64_ne (s : State) {a b : Nat} (h : b ≠ a) (h' : b ≠ a + 4) (n : Nat) : (s.setReg64 a n).reg b = s.reg b :=
  (reg_setRegN_ne _ h' _).trans (reg_setRegN_ne s h _)

theorem reg64_count_ne (s : State) {a b : Nat} (h : b ≠ a) (h' : b + 4 ≠ a) (k : Nat) : (s.count a k).reg64 b = s.reg64 b := by
  rw [State.reg64, regN_count_ne s h, regN_count_ne s h']; rfl

theorem flag_overrun_on (s : State) : (s.flag F.ENG_STAT_OVERRUN).on F.ENG_STAT_OVERRUN = true := by
  rw [State.on, get_flag_self s _ (by decide) (by decide)]; rfl

theorem flag_overrun_periodKept {stop ok : Prop} (s : State) : PeriodKept stop ok s (s.flag F.ENG_STAT_OVERRUN) := by
  refine (PeriodKept.mark s _ _).trans (.of_regs (fun a ha => reg_set_ne _ _ (ne_of_mem_of_not_mem ha (by decide)) 1)
    (get_set_disjoint _ F.ENG_STAT_OVERRUN F.ENG_STAT_ESTATE 1 (by decide)) (fun _ => flag_overrun_on s)
    (fun _ h => (reg_set_ne _ _ (by decide) 1).trans h) fun _ => PeriodKept.on_set_disjoint 1 (by decide))

/-- The counts and the time of an overrun, before its flags. -/
def State.overrunCounts (s : State) : State :=
  (((((s.set F.ENG_OVR_INFO_REMAIN s.ovrRemain).set F.ENG_OVR_INFO_ROW (s.get F.ENG_ROW_ROW)).set F.ENG_OVR_INFO_BLK s.eng.doneBlks).setReg64
    R.ENG_OVR_T_LO s.now).count R.ENG_OVR_CNT 1).count R.ENG_OVR_RUN 1

theorem overrunFlags_periodKept (s : State) : PeriodKept True True (s.overrunCounts.flag F.ENG_STAT_OVERRUN) s.overrunFlags := by
  have hr : PeriodKept True True (s.overrunCounts.flag F.ENG_STAT_OVERRUN) (s.overrunCounts.fault F.ENG_STAT_OVERRUN Q.ENG_OVERRUN (hw 0)) :=
    raise_periodKept ..
  refine .ite (hr.trans (PeriodKept.trans ?_ (raise_periodKept ..))) hr
  exact (PeriodKept.mark _ _ _).trans (.set_stat rfl (by decide) (.inr (by decide)) _ _)

/-- The record of the row and the block at the overrun. -/
def State.overrunInfo (s : State) : State :=
  ((s.set F.ENG_OVR_INFO_REMAIN s.ovrRemain).set F.ENG_OVR_INFO_ROW (s.get F.ENG_ROW_ROW)).set F.ENG_OVR_INFO_BLK s.eng.doneBlks

theorem overrunInfo_reg (s : State) {a : Nat} (h : a ≠ R.ENG_OVR_INFO) : s.overrunInfo.reg a = s.reg a := by
  unfold State.overrunInfo
  rw [reg_set_ne _ F.ENG_OVR_INFO_BLK h, reg_set_ne _ F.ENG_OVR_INFO_ROW h, reg_set_ne _ F.ENG_OVR_INFO_REMAIN h]

theorem overrunCounts_eq (s : State) :
    s.overrunCounts = ((s.overrunInfo.setReg64 R.ENG_OVR_T_LO s.now).count R.ENG_OVR_CNT 1).count R.ENG_OVR_RUN 1 := rfl

/-- Each count rises by one and stops at its largest value; the time is that of the deadline. -/
theorem overrunCounts_counts (s : State) :
    s.overrunCounts.regN R.ENG_OVR_CNT = min 0xFFFFFFFF (s.regN R.ENG_OVR_CNT + 1) ∧
    s.overrunCounts.regN R.ENG_OVR_RUN = min 0xFFFFFFFF (s.regN R.ENG_OVR_RUN + 1) ∧ s.overrunCounts.reg64 R.ENG_OVR_T_LO = s.now := by
  have hold : ∀ a, a ≠ R.ENG_OVR_INFO → a ≠ R.ENG_OVR_T_LO → a ≠ R.ENG_OVR_T_LO + 4 →
      (s.overrunInfo.setReg64 R.ENG_OVR_T_LO s.now).regN a = s.regN a := fun a h1 h2 h3 =>
    congrArg BitVec.toNat ((reg_setReg64_ne _ h2 h3 _).trans (overrunInfo_reg s h1))
  rw [overrunCounts_eq]
  refine ⟨?_, ?_, ?_⟩
  · rw [regN_count_ne _ (by decide), regN_count_self, hold _ (by decide) (by decide) (by decide)]
  · rw [regN_count_self, regN_count_ne _ (by decide), hold _ (by decide) (by decide) (by decide)]
  · rw [reg64_count_ne _ (by decide) (by decide), reg64_count_ne _ (by decide) (by decide)]
    exact reg64_setReg64_self _ _ s.chrono.ct.isLt

/-- Registers beside those of the overrun's record. -/
theorem overrunCounts_reg (s : State) {a : Nat} (h : a ∉ [R.ENG_OVR_INFO, R.ENG_OVR_T_LO, R.ENG_OVR_T_HI, R.ENG_OVR_CNT, R.ENG_OVR_RUN]) :
    s.overrunCounts.reg a = s.reg a := by
  simp only [List.mem_cons, List.not_mem_nil, or_false, not_or] at h
  obtain ⟨h1, h2, h3, h4, h5⟩ := h
  rw [overrunCounts_eq, State.count, reg_setRegN_ne _ h5, State.count, reg_setRegN_ne _ h4, reg_setReg64_ne _ h2 h3, overrunInfo_reg s h1]

theorem overrunCounts_pages (s : State) : PagesKept s s.overrunCounts := .of_same rfl rfl rfl rfl rfl

/-- What was written in an abandoned period is lost. -/
def State.dropped (s : State) : State := { s with eng := { s.eng with wV := 0, wS := 0, ladle := [] } }

theorem deadlineAbandoned_result (s : State) :
    PagesKept s.dropped s.deadlineAbandoned ∧
    (s.deadlineAbandoned.get F.ENG_STAT_ESTATE = s.get F.ENG_STAT_ESTATE ∨ s.deadlineAbandoned.get F.ENG_STAT_ESTATE = 0) ∧
    s.deadlineAbandoned.on F.ENG_STAT_OVERRUN = true ∧ s.deadlineAbandoned.regN R.ENG_OVR_CNT = min 0xFFFFFFFF (s.regN R.ENG_OVR_CNT + 1) ∧
    s.deadlineAbandoned.regN R.ENG_OVR_RUN = min 0xFFFFFFFF (s.regN R.ENG_OVR_RUN + 1) ∧ s.deadlineAbandoned.reg64 R.ENG_OVR_T_LO = s.now ∧
    s.deadlineAbandoned.reg R.UPD_OKRUN = 0 := by
  unfold State.deadlineAbandoned
  extract_lets _ s1 s2 s3 _ s4 s5
  have h0 : PagesKept s.dropped s1.dropPages := ⟨rfl, rfl, fun _ => rfl, fun _ => rfl, fun _ => rfl, rfl, rfl, rfl, rfl⟩
  have h2 : PeriodKept True False s1.dropPages s2 := (ripenSwap_periodKept _).trans (generate_periodKept ..)
  have h4 : PeriodKept True False s1.dropPages s4 :=
    h2.trans (((schedSend_periodKept s2 true none).trans (twinDeadline_periodKept _)).trans (.parts s3))
  have h5 : PeriodKept True True (s4.setReg R.UPD_OKRUN 0) s5 := windowFrames_of (fun t l => windowFrame_abandoned_periodKept t _ _ l) _
  have h6 : PeriodKept True True s5.overrunCounts s5.overrunFlags := (flag_overrun_periodKept _).trans (overrunFlags_periodKept s5)
  have hold : ∀ a ∈ periodCounts, s5.reg a = s.reg a := fun a ha =>
    (h5.counts a ha).trans ((reg_setReg_ne s4 (ne_of_mem_of_not_mem ha (by decide)) 0).trans (h4.counts a ha))
  have hcount : ∀ a ∈ periodCounts, s5.regN a = s.regN a := fun a ha => congrArg BitVec.toNat (hold a ha)
  obtain ⟨hcnt, hrun, htime⟩ := overrunCounts_counts s5
  have hpages : PagesKept s.dropped s5 := ((h0.trans h4.toPagesKept).trans (.regs s4)).trans h5.toPagesKept
  have hnew : ∀ a ∈ periodCounts, s5.overrunFlags.regN a = s5.overrunCounts.regN a := fun a ha => congrArg BitVec.toNat (h6.counts a ha)
  refine ⟨(hpages.trans (overrunCounts_pages s5)).trans h6.toPagesKept, ?_, (overrunFlags_periodKept s5).overrun (flag_overrun_on _), ?_, ?_, ?_, h6.okrun trivial ?_⟩
  · have e4 : s4.get F.ENG_STAT_ESTATE = s.get F.ENG_STAT_ESTATE ∨ s4.get F.ENG_STAT_ESTATE = 0 := h4.estate_or
    have e5 := h5.estate_or
    have e6 := h6.estate_or
    rw [get_setReg_ne _ _ _ _ (by decide)] at e5
    have e7 : s5.overrunCounts.get F.ENG_STAT_ESTATE = s5.get F.ENG_STAT_ESTATE := congrArg (fldOf _) (overrunCounts_reg s5 (by decide))
    omega
  · rw [hnew _ (by decide), hcnt, hcount _ (by decide)]
  · rw [hnew _ (by decide), hrun, hcount _ (by decide)]
  · rw [State.reg64, hnew _ (by decide), hnew (R.ENG_OVR_T_LO + 4) (by decide)]
    exact htime.trans (congrArg (fun c : ChronoSt => c.ct.toNat) hpages.chrono)
  · rw [overrunCounts_reg s5 (by decide)]
    exact h5.okrun trivial (reg_setReg_self ..)

/-! ### The two ends of a period -/

/-- The Sextant's boundary of the period has been committed. -/
def State.boundaryDue (s : State) : Prop := s.sx ≠ sxOFF ∧ s.sext.begun = true ∧ s.sext.comm = true

theorem deadline_of_not_due {s : State} (h : ¬ s.boundaryDue ∨ s.get F.ENG_STAT_ESTATE = 4) : s.deadline = s := by
  unfold State.deadline
  by_cases hd : s.boundaryDue
  · have h4 := h.resolve_left (not_not_intro hd)
    obtain ⟨hx, hb, hc⟩ := hd
    simp [hx, hb, hc, h4]
  · have : (s.sx != sxOFF && s.sext.begun && s.sext.comm) = false := by
      simp only [State.boundaryDue] at hd
      simpa [and_assoc] using hd
    rw [this]
    rfl

theorem deadline_of_running {s : State} (h : s.boundaryDue) (he : s.get F.ENG_STAT_ESTATE = 2 ∨ s.get F.ENG_STAT_ESTATE = 3) :
    s.deadline = (if s.rowDone then s.showStalls.deadlineDone else s.showStalls.deadlineAbandoned).deadlineEnd := by
  obtain ⟨hx, hb, hc⟩ := h
  have hdue : (s.sx != sxOFF && s.sext.begun && s.sext.comm) = true := by simp [hx, hb, hc]
  unfold State.deadline
  rw [hdue]
  simp only [Bool.not_true, Bool.false_eq_true, if_false]
  rw [if_neg (by omega), if_neg (by omega)]
  rfl

/-- The waits shown change registers alone, and not the engine's state. -/
theorem showStalls_reg (s : State) {a : Nat} (h : a ≠ R.ENG_STALL) (h' : a ≠ R.ENG_STALLSRC) : s.showStalls.reg a = s.reg a := by
  unfold State.showStalls
  rw [reg_set_ne _ F.ENG_STALLSRC_SRC h', reg_setRegN_ne _ h]

/-- A period whose blocks are all complete: the pages flip and the cycles are recorded (R116, R125). -/
theorem deadline_completes {s : State} (h : s.boundaryDue) (he : s.get F.ENG_STAT_ESTATE = 2 ∨ s.get F.ENG_STAT_ESTATE = 3) (hr : s.rowDone = true)
    (hn : NoClaims s) :
    PagesKept s.flipped s.deadline ∧ (s.deadline.get F.ENG_STAT_ESTATE = 4 ∨ s.deadline.get F.ENG_STAT_ESTATE = 0) ∧
    s.deadline.reg R.ENG_OVR_RUN = 0 ∧ s.deadline.regN R.ENG_LASTCYC = s.lastCyc % 2 ^ 32 ∧
    s.deadline.regN R.ENG_STALL = s.eng.waited % 2 ^ 32 ∧ s.deadline.pcnt = s.pcnt := by
  rw [deadline_of_running h he, if_pos hr]
  obtain ⟨hp, -, hrun, hlast, hcounts⟩ := deadlineDone_result s.showStalls
  obtain ⟨kp, ke, kcounts, -, -⟩ := deadlineEnd_kept (hp.deferred.trans hn.1) (hp.held.trans hn.2)
  have hpages : PagesKept s.flipped s.showStalls.deadlineDone := (PagesKept.of_same rfl rfl rfl rfl rfl : PagesKept s.flipped s.showStalls.flipped).trans hp
  have hreg : ∀ a ∈ periodCounts, a ≠ R.ENG_OVR_RUN → a ≠ R.ENG_LASTCYC → s.showStalls.deadlineDone.deadlineEnd.reg a = s.showStalls.reg a :=
    fun a ha h1 h2 => (kcounts a ha).trans (hcounts a ha h1 h2)
  have hstall : s.showStalls.reg R.ENG_STALL = BitVec.ofNat 32 s.eng.waited := by
    unfold State.showStalls
    rw [reg_set_ne _ _ (by decide), reg_setRegN_self]
  have hpcnt : ∀ a, a = R.ENG_PCNT_LO ∨ a = R.ENG_PCNT_LO + 4 → s.showStalls.deadlineDone.deadlineEnd.reg a = s.reg a := by
    rintro a (rfl | rfl)
    · exact (hreg _ (by decide) (by decide) (by decide)).trans (showStalls_reg s (by decide) (by decide))
    · exact (hreg _ (by decide) (by decide) (by decide)).trans (showStalls_reg s (by decide) (by decide))
  refine ⟨hpages.trans kp, ke, (kcounts _ (by decide)).trans hrun, ?_, ?_, ?_⟩
  · rw [State.regN, kcounts _ (by decide), hlast, BitVec.toNat_ofNat]; rfl
  · rw [State.regN, hreg _ (by decide) (by decide) (by decide), hstall, BitVec.toNat_ofNat]
  · simp only [State.pcnt, State.reg64, State.regN, hpcnt _ (.inl rfl), hpcnt _ (.inr rfl)]

/-- A period with a block that is not complete: its writes are lost and the overrun is counted (R126, R133). -/
theorem deadline_abandons {s : State} (h : s.boundaryDue) (he : s.get F.ENG_STAT_ESTATE = 2) (hr : s.rowDone = false) (hn : NoClaims s) :
    PagesKept s.dropped s.deadline ∧ (s.deadline.get F.ENG_STAT_ESTATE = 4 ∨ s.deadline.get F.ENG_STAT_ESTATE = 0) ∧
    s.deadline.on F.ENG_STAT_OVERRUN = true ∧ s.deadline.regN R.ENG_OVR_CNT = min 0xFFFFFFFF (s.regN R.ENG_OVR_CNT + 1) ∧
    s.deadline.regN R.ENG_OVR_RUN = min 0xFFFFFFFF (s.regN R.ENG_OVR_RUN + 1) ∧ s.deadline.reg64 R.ENG_OVR_T_LO = s.now ∧
    s.deadline.reg R.UPD_OKRUN = 0 := by
  rw [deadline_of_running h (.inl he), if_neg (by rw [hr]; decide)]
  obtain ⟨hp, -, hover, hcnt, hrun, htime, hok⟩ := deadlineAbandoned_result s.showStalls
  obtain ⟨kp, ke, kcounts, kover, kok⟩ := deadlineEnd_kept (hp.deferred.trans hn.1) (hp.held.trans hn.2)
  have hpages : PagesKept s.dropped s.showStalls.deadlineAbandoned := (PagesKept.of_same rfl rfl rfl rfl rfl : PagesKept s.dropped s.showStalls.dropped).trans hp
  have hnew : ∀ a ∈ periodCounts, s.showStalls.deadlineAbandoned.deadlineEnd.regN a = s.showStalls.deadlineAbandoned.regN a := fun a ha =>
    congrArg BitVec.toNat (kcounts a ha)
  have hold : ∀ {a}, a ≠ R.ENG_STALL → a ≠ R.ENG_STALLSRC → s.showStalls.regN a = s.regN a := fun h1 h2 =>
    congrArg BitVec.toNat (showStalls_reg s h1 h2)
  refine ⟨hpages.trans kp, ke, kover hover, ?_, ?_, ?_, kok hok⟩
  · rw [hnew _ (by decide), hcnt, hold (by decide) (by decide)]
  · rw [hnew _ (by decide), hrun, hold (by decide) (by decide)]
  · rw [State.reg64, hnew _ (by decide), hnew (R.ENG_OVR_T_LO + 4) (by decide)]
    exact htime

/-! ### Reads of a state row -/

/-- A state row reads its current page. -/
theorem rowLane_state {s : State} {row i : Nat} (h : s.vState row = some i) (n : Nat) :
    s.rowLane row n = BitVec.ofNat 16 (s.load (vdmAddr (row + if s.eng.pV.testBit i then s.vRows else 0) n) 2) := by
  unfold State.rowLane State.vRead
  rw [h]
  by_cases hp : s.eng.pV.testBit i
  · simp only [hp, if_true]
  · simp only [hp, if_false, Bool.false_eq_true, Nat.add_zero]

/-- A write of the Crucible to a state row keeps every byte outside the page that is not current. -/
theorem crucV_bytes {s : State} {row i : Nat} (h : s.vState row = some i) (mask : Word64) (vals : List (BitVec 16)) :
    BytesKept s (s.crucV row mask vals) (vdmAddr (if s.eng.pV.testBit i then row else row + s.vRows) 0) 128 := by
  unfold State.crucV
  rw [h]
  dsimp only
  split
  · exact fun a ha => putLanes_bytes _ _ _ _ a ha
  · exact fun a ha => (putLanes_bytes _ _ _ _ a ha).trans (putLanes_bytes _ _ _ _ a ha)

/-- A write of the Crucible to a state row goes to the other page, so that the row reads as before (R123, R124). -/
theorem rowLane_crucV {s : State} {row i n : Nat} (h : s.vState row = some i) (hn : n < 64) (mask : Word64) (vals : List (BitVec 16)) :
    (s.crucV row mask vals).rowLane row n = s.rowLane row n := by
  have hrows : 0 < s.vRows := by
    unfold State.vState at h
    split at h
    · omega
    · cases h
  obtain ⟨mem, wV, hu⟩ := crucV_eq s row mask vals
  have hstate : (s.crucV row mask vals).vState row = some i := by rw [hu]; exact h
  rw [rowLane_state h, rowLane_state hstate]
  have hkept := crucV_bytes h mask vals
  have hcur : (s.crucV row mask vals).eng.pV.testBit i = s.eng.pV.testBit i ∧ (s.crucV row mask vals).vRows = s.vRows := by
    rw [hu]; exact ⟨rfl, rfl⟩
  rw [hcur.1, hcur.2]
  refine congrArg (BitVec.ofNat 16) (memRead_congr fun a h1 h2 => hkept a ?_)
  unfold vdmAddr at h1 h2 ⊢
  cases hp : s.eng.pV.testBit i <;> simp only [hp, if_true, if_false, Bool.false_eq_true] at h1 h2 ⊢ <;> omega

/-- Settles O57, by `rowLane_crucV`, `deadline_completes` and `deadline_abandons`. -/
theorem statePagesReadAndFlip : Obligations.StatePagesReadAndFlip := by
  unfold Obligations.StatePagesReadAndFlip
  intro s es due
  have hsplit : due → s.boundaryDue ∧ NoClaims s := fun ⟨hx, hb, hc, hd, hh⟩ => ⟨⟨hx, hb, hc⟩, hd, hh⟩
  refine ⟨fun row i n h _ hn => ⟨rowLane_state h n, rowLane_crucV h hn⟩, fun hdue he hr => ⟨s.deadline, rfl, ?_⟩, fun hdue he hr => ⟨s.deadline, rfl, ?_⟩⟩
  · obtain ⟨hd, hn⟩ := hsplit hdue
    obtain ⟨hp, -⟩ := deadline_completes hd he hr hn
    exact ⟨fun r => by rw [hp.pV]; exact Nat.testBit_xor .., fun r => by rw [hp.pS]; exact Nat.testBit_xor .., hp.wV rfl, hp.wS rfl⟩
  · obtain ⟨hd, hn⟩ := hsplit hdue
    obtain ⟨hp, -⟩ := deadline_abandons hd he hr hn
    exact ⟨hp.pV, hp.pS, hp.wV rfl, hp.wS rfl⟩

end Sys2Proof.Machine

/-! ## The boundary, the engine start and the end of a block (03 R113 to R118) -/
namespace Sys2Proof.Machine
open Stmt

section
variable {stop ok : Prop}

/-! ### Write-backs that land -/

theorem setLaneFlag_periodKept (s : State) (f : Nat) (lanes : Word64) : PeriodKept True False s (s.setLaneFlag f lanes) := by
  unfold State.setLaneFlag
  extract_lets new a s1 s2
  have h1 : PeriodKept True False s s1 := (PeriodKept.mark s _ _).trans (.mark _ _ _)
  have hf : 0x10100070 ≤ flagReg f := Nat.le_add_right _ _
  have h2 : PeriodKept True False s1 s2 := PeriodKept.trans (.setHigh hf s1 _) (.setHigh (Nat.le_add_right_of_le hf) _ _)
  refine .ite (.refl s) (.ite (h1.trans h2) ((h1.trans h2).trans (PeriodKept.trans ?_ (raise_periodKept ..))))
  exact (PeriodKept.set_stat (f := F.ENG_STAT_FLGSUM) rfl (by decide) (.inr (by decide)) s2 _).trans (.parts _)

theorem setFlags_periodKept (s : State) (lanes : List Word64) (ssat sdz : Bool) : PeriodKept True False s (s.setFlags lanes ssat sdz) := by
  have scalar : ∀ (t : State) {f : Fld} (b : Nat) (q : Src), 0x10100070 ≤ f.addr →
      PeriodKept True False t (if t.on f then t.flag f else ((t.flag f).seenFlag b).raise q (hw 0)) := fun t f b q hf =>
    .ite (.flagHigh hf t) (((PeriodKept.flagHigh hf t).trans (.parts _)).trans (raise_periodKept ..))
  unfold State.setFlags State.setScalarFlags
  have h0 : PeriodKept True False s (((List.range lanes.length).zip lanes).foldl (fun s e => s.setLaneFlag e.1 e.2) s) :=
    .fold (fun t (e : Nat × Word64) => setLaneFlag_periodKept t e.1 e.2) _ s
  refine h0.trans ?_
  extract_lets s1
  have h1 : PeriodKept True False _ s1 := .ite (scalar _ _ _ (by decide)) (.refl _)
  exact h1.trans (.ite (scalar s1 _ _ (by decide)) (.refl s1))

theorem applyAct_periodKept (s : State) (a : WbAct) : PeriodKept stop ok s (s.applyAct a).1 := by
  have hv : ∀ (t : State) r n v, PeriodKept stop ok t (t.setV r n v) := fun t _ _ _ => .eng t _ rfl rfl rfl rfl rfl rfl rfl rfl
  have ha : ∀ (t : State) r n v, PeriodKept stop ok t (t.setA r n v) := fun t _ _ _ => .eng t _ rfl rfl rfl rfl rfl rfl rfl rfl
  cases a with
  | vec r m vals => exact .fold (fun t n => .ite (hv t _ _ _) (.refl t)) _ s
  | acc r m vals => exact .fold (fun t n => .ite (ha t _ _ _) (.refl t)) _ s
  | accum r m adds => exact .fold (fun t n => .ite (ha t _ _ _) (.refl t)) _ s
  | mask k sel val => exact .ite (.refl s) (.eng s _ rfl rfl rfl rfl rfl rfl rfl rfl)
  | scal r v => exact .eng s _ rfl rfl rfl rfl rfl rfl rfl rfl

theorem land_periodKept (s : State) (w : Wb) : PeriodKept True False s (s.land w) := by
  have hacts : ∀ (l : List WbAct) (p : State × Word64),
      PeriodKept True False p.1 (l.foldl (fun (p : State × Word64) a => let (t, o) := p.1.applyAct a; (t, p.2 ||| o)) p).1 := by
    intro l
    induction l with
    | nil => exact fun p => .refl p.1
    | cons a l ih => exact fun p => (applyAct_periodKept p.1 a).trans (ih ((p.1.applyAct a).1, p.2 ||| (p.1.applyAct a).2))
  unfold State.land
  exact (hacts w.acts (s, 0)).trans (setFlags_periodKept ..)

theorem cycle_periodKept (s : State) : PeriodKept True False s s.cycle := by
  unfold State.cycle
  extract_lets due rest _
  refine PeriodKept.trans ?_ (.fold land_periodKept due _)
  exact .eng s _ rfl rfl rfl rfl rfl rfl rfl rfl

theorem cycles_periodKept (n : Nat) (s : State) : PeriodKept True False s (State.cycles n s) := by
  induction n generalizing s with
  | zero => exact .refl s
  | succ n ih => exact (cycle_periodKept s).trans (ih s.cycle)

theorem drain_periodKept (s : State) : PeriodKept True False s s.drain := cycles_periodKept 8 s

/-! ### The end of a block -/

/-- The word open at the end of a block is closed: the engine is in its row with no word open, or stopped. -/
theorem newWord_row (s : State) : (s.newWord.get F.ENG_STAT_ESTATE = s.get F.ENG_STAT_ESTATE ∧ s.newWord.eng.blocks = s.eng.blocks ∧
    s.newWord.eng.doneBlks = s.eng.doneBlks ∧ s.newWord.eng.vOpen = none) ∨ s.newWord.get F.ENG_STAT_ESTATE = 0 := by
  unfold State.newWord
  split
  · unfold State.closeWord
    exact (cycle_periodKept _).row.imp id (·.2)
  · next h => exact .inl ⟨rfl, rfl, rfl, by simpa using h⟩

theorem newWord_pages (s : State) : PagesKept s s.newWord := by
  unfold State.newWord
  split
  · unfold State.closeWord
    refine PagesKept.trans ?_ (cycle_periodKept _).toPagesKept
    exact ⟨rfl, rfl, id, id, id, rfl, rfl, rfl, rfl⟩
  · exact .of_same rfl rfl rfl rfl rfl

/-- The write-backs in flight have landed at the end of a block. -/
def State.landed (s : State) : State := s.newWord.drain

theorem landed_periodKept (s : State) : PeriodKept True False s.newWord s.landed := drain_periodKept s.newWord

theorem landed_row (s : State) : (s.landed.get F.ENG_STAT_ESTATE = s.get F.ENG_STAT_ESTATE ∧ s.landed.eng.blocks = s.eng.blocks ∧
    s.landed.eng.doneBlks = s.eng.doneBlks ∧ s.landed.eng.vOpen = none) ∨ s.landed.get F.ENG_STAT_ESTATE = 0 := by
  rcases (landed_periodKept s).row with ⟨ke, kb, kd, kv⟩ | ⟨-, h⟩
  · rcases newWord_row s with ⟨he, hb, hd, hv⟩ | h
    · exact .inl ⟨ke.trans he, kb.trans hb, kd.trans hd, kv.trans hv⟩
    · exact .inr (ke.trans h)
  · exact .inr h

theorem landed_pages (s : State) : PagesKept s s.landed := (newWord_pages s).trans (landed_periodKept s).toPagesKept

/-- The block after this one. -/
def State.nextBlock (s : State) : State := { s with eng := { s.eng with doneBlks := s.eng.doneBlks + 1 } }

@[simp] theorem nextBlock_get (s : State) (f : Fld) : s.nextBlock.get f = s.get f := rfl
@[simp] theorem nextBlock_doneBlks (s : State) : s.nextBlock.eng.doneBlks = s.eng.doneBlks + 1 := rfl
@[simp] theorem nextBlock_blocks (s : State) : s.nextBlock.eng.blocks = s.eng.blocks := rfl
@[simp] theorem nextBlock_vOpen (s : State) : s.nextBlock.eng.vOpen = s.eng.vOpen := rfl

@[simp] theorem nextBlock_bus (s : State) : s.nextBlock.bus = s.bus := rfl

theorem blockComplete_eq {s : State} (h : s.get F.ENG_STAT_ESTATE = 2) : s.blockComplete =
    if s.landed.get F.ENG_STAT_ESTATE != 2 then s.landed else if s.landed.nextBlock.rowDone then s.landed.nextBlock.leaveRun 3 else s.landed.nextBlock := by
  unfold State.blockComplete State.landed State.nextBlock
  rw [if_pos h]

/-- A block with another after it ends, or the engine has stopped. -/
theorem blockComplete_goes_on {s : State} (h : s.get F.ENG_STAT_ESTATE = 2) (hb : s.eng.doneBlks + 1 < s.eng.blocks.length) :
    s.blockComplete.get F.ENG_STAT_ESTATE = 0 ∨ s.blockComplete.eng.doneBlks = s.eng.doneBlks + 1 ∧
      s.blockComplete.get F.ENG_STAT_ESTATE = 2 ∧ s.blockComplete.eng.vOpen = none := by
  rw [blockComplete_eq h]
  rcases landed_row s with ⟨he, hbl, hd, hv⟩ | h0
  · have hrow : s.landed.nextBlock.rowDone = false := by
      simp only [State.rowDone, nextBlock_blocks, nextBlock_doneBlks, hbl, hd, decide_eq_false_iff_not]; omega
    rw [if_neg (by rw [he, h]; decide), if_neg (by rw [hrow]; decide)]
    right
    simp [he, hd, hv, h]
  · rw [if_pos (by rw [h0]; decide)]
    exact .inl h0

/-- The last block of the row ends, or the engine has stopped. -/
theorem blockComplete_ends_row {s : State} (h : s.get F.ENG_STAT_ESTATE = 2) (hb : s.eng.doneBlks + 1 = s.eng.blocks.length) (hn : NoClaims s) :
    s.blockComplete.get F.ENG_STAT_ESTATE = 0 ∨ s.blockComplete.eng.doneBlks = s.eng.doneBlks + 1 ∧ s.blockComplete.get F.ENG_STAT_ESTATE = 3 := by
  rw [blockComplete_eq h]
  rcases landed_row s with ⟨he, hbl, hd, hv⟩ | h0
  · have hrow : s.landed.nextBlock.rowDone = true := by
      simp only [State.rowDone, nextBlock_blocks, nextBlock_doneBlks, hbl, hd, decide_eq_true_eq]; omega
    have hp := landed_pages s
    rw [if_neg (by rw [he, h]; decide), if_pos hrow, leaveRun_of_none (by rw [nextBlock_bus, hp.deferred, hn.1])
      (by rw [nextBlock_bus, hp.held, hn.2])]
    right
    rw [set_eng, nextBlock_doneBlks, hd, get_set_self _ _ _ (by decide)]
    exact ⟨rfl, rfl⟩
  · rw [if_pos (by rw [h0]; decide)]
    exact .inl h0

end
end Sys2Proof.Machine

/-! ## The boundary and the engine start (03 R114, R117, R118) -/
namespace Sys2Proof.Machine
open Stmt

/-! ### The row -/

theorem loadRow_reg (s : State) {a : Nat} (h : a ∉ [R.ENG_ROW, R.ENG_ROWCYC, R.ENG_LADLE]) : s.loadRow.reg a = s.reg a := by
  simp only [List.mem_cons, List.not_mem_nil, or_false, not_or] at h
  obtain ⟨h1, h2, h3⟩ := h
  unfold State.loadRow
  rw [reg_set_ne _ F.ENG_LADLE_COUNT h3, reg_setRegN_ne _ h2, reg_set_ne _ F.ENG_ROW_ROW h1]
  rfl

theorem loadRow_get (s : State) {f : Fld} (h : f.addr ∉ [R.ENG_ROW, R.ENG_ROWCYC, R.ENG_LADLE]) : s.loadRow.get f = s.get f :=
  congrArg (fldOf f) (loadRow_reg s h)

/-- The blocks that a row runs. -/
def State.rowBlocks (s : State) : List Nat := (s.rowEntries (s.arow s.aBank s.curRow)).map fun e => (s.blockCost s.pBank e).1

theorem loadRow_blocks (s : State) : s.loadRow.eng.blocks = s.rowBlocks := rfl

theorem loadRow_pcnt (s : State) : s.loadRow.pcnt = s.pcnt := by
  simp only [State.pcnt, State.reg64, State.regN]
  rw [loadRow_reg s (by decide), loadRow_reg s (by decide)]

/-- Loading the row changes nothing that SGET reads. -/
theorem loadRow_sgetValues (s : State) : s.loadRow.sgetValues = s.sgetValues := by
  have hnow : s.loadRow.now = s.now := rfl
  have hact : s.loadRow.active = s.active := by
    simp only [State.active, State.on]
    rw [loadRow_get s (by decide)]
  unfold State.sgetValues State.on
  rw [hnow, hact, loadRow_reg s (by decide), loadRow_reg s (by decide), loadRow_reg s (by decide), loadRow_get s (by decide), loadRow_get s (by decide),
    loadRow_get s (by decide)]

/-- The row begins: the SGET values are latched, no wait has been counted and the staged slot is clear. -/
def State.rowBegun (s : State) : State :=
  { s with eng := { s.eng with sget := s.sgetValues, waited := 0, stallSrc := 0, ran := 0, slot := [] } }

theorem engineStart_eq {s : State} (h : s.get F.ENG_STAT_ESTATE = 1) : s.engineStart =
    if s.rowBlocks = [] then s.loadRow.rowBegun.leaveRun 3 else s.loadRow.rowBegun.set F.ENG_STAT_ESTATE 2 := by
  unfold State.engineStart
  rw [if_pos h]
  rfl

/-- A row with blocks starts. -/
theorem engineStart_runs {s : State} (h : s.get F.ENG_STAT_ESTATE = 1) (hb : s.rowBlocks ≠ []) :
    s.engineStart.get F.ENG_STAT_ESTATE = 2 ∧ s.engineStart.eng.blocks = s.rowBlocks ∧ s.engineStart.eng.doneBlks = 0 ∧
      s.engineStart.eng.sget = s.sgetValues ∧ s.engineStart.eng.waited = 0 ∧ s.engineStart.eng.slot = [] ∧ s.engineStart.mem = s.mem := by
  rw [engineStart_eq h, if_neg hb]
  exact ⟨get_set_self _ _ _ (by decide), loadRow_blocks s, rfl, loadRow_sgetValues s, rfl, rfl, rfl⟩

/-- A row with no block is complete. -/
theorem engineStart_empty {s : State} (h : s.get F.ENG_STAT_ESTATE = 1) (hb : s.rowBlocks = []) (hn : NoClaims s) :
    s.engineStart.get F.ENG_STAT_ESTATE = 3 ∧ s.engineStart.mem = s.mem := by
  rw [engineStart_eq h, if_pos hb, leaveRun_of_none (s := s.loadRow.rowBegun) hn.1 hn.2]
  exact ⟨get_set_self _ _ _ (by decide), rfl⟩

/-! ### The Helm at a boundary -/

section
variable {stop ok : Prop}

theorem applyMode_periodKept (s : State) (m : Nat) : PeriodKept stop ok s (s.applyMode m) := by
  have hrow : ∀ (t : State) r mask vals, PeriodKept stop ok t (t.putLanes r mask vals) := fun t r mask vals => by
    obtain ⟨mem, h⟩ := putLanes_eq t r mask vals
    rw [h]; exact .parts t
  have hcopy : ∀ t : State, PeriodKept stop ok t t.copyHov := fun t => .fold (fun u e => (hrow u _ _ _).trans (served_periodKept ..)) _ t
  unfold State.applyMode
  extract_lets s1 _ _ s2
  have h1 : PeriodKept stop ok s s1 := (PeriodKept.trans (.set (by decide) _ _) (.set (by decide) _ _)).trans (hcopy _)
  have h2 : PeriodKept stop ok s1 s2 := PeriodKept.trans (t := { s1 with eng := { s1.eng with entryDue := true } })
    (by exact .eng s1 _ rfl rfl rfl rfl rfl rfl rfl rfl) (.parts _)
  exact (h1.trans h2).trans (.setReg (by decide) _ _)

theorem boundaryMode_periodKept (s : State) : PeriodKept stop ok s s.boundaryMode := by
  unfold State.boundaryMode
  extract_lets k next _ s1
  have h1 : PeriodKept stop ok s s1 := .eng s _ rfl rfl rfl rfl rfl rfl rfl rfl
  refine h1.trans (PeriodKept.trans ?_ (doneOpt_periodKept ..))
  clear_value next
  cases next with
  | some m => exact applyMode_periodKept ..
  | none => exact .refl s1

theorem acceptSwap_periodKept (s : State) (atp : Bool) (sel p : Nat) (owner : Option CmdKey) : PeriodKept stop ok s (s.acceptSwap atp sel p owner) := by
  unfold State.acceptSwap
  extract_lets s1 s2 _ s3
  have h1 : PeriodKept stop ok s s1 := ((PeriodKept.set (by decide) s _).trans (.set (by decide) _ _)).trans (.set (by decide) _ _)
  have h2 : PeriodKept stop ok s1 s2 := .ite ((PeriodKept.setReg (by decide) s1 _).trans (.setReg (by decide) _ _)) (.refl s1)
  have h3 : PeriodKept stop ok s2 s3 := .eng s2 _ rfl rfl rfl rfl rfl rfl rfl rfl
  exact .ite (((h1.trans h2).trans h3).trans (exchangeBanks_periodKept s3)) ((h1.trans h2).trans h3)

theorem mirrorBoundary_periodKept (s : State) : PeriodKept stop ok s s.mirrorBoundary := by
  refine .ite ?_ (.refl s)
  unfold State.mirrorHead
  extract_lets mode sw _ s1 s2 s3
  have h1 : PeriodKept stop ok s s1 := .parts s
  have h2 : PeriodKept stop ok s1 s2 := .ite (applyMode_periodKept ..) (.refl s1)
  have h3 : PeriodKept stop ok s2 s3 := acceptSwap_periodKept ..
  refine .ite (.refl s) (.ite (.ite ?_ ?_) (h1.trans h2))
  · exact ((h1.trans h2).trans h3).trans (exchangeBanks_periodKept s3)
  · exact (h1.trans h2).trans h3

theorem boundaryMove_periodKept (s : State) : PeriodKept True ok s s.boundaryMove := by
  have hdev : ∀ (t : State) d, PeriodKept True ok t (t.setDev d) := fun t d => .set (f := F.SYS_STATE_STATE) (by decide) t d
  have htake : PeriodKept True ok s s.takeMove.2 := by
    unfold State.takeMove
    split
    · exact .parts s
    · exact .refl s
  have harm : ∀ (t : State) l, PeriodKept True ok t (t.enterArmed l) := fun t l => by
    unfold State.enterArmed
    extract_lets s1
    have h1 : PeriodKept True ok t s1 := (hdev t _).trans (.parts _)
    split
    · exact (h1.trans (enterStop_periodKept ..)).trans (.fold (fun u k => finish_periodKept ..) l _)
    · exact h1.trans (.fold (fun u k => finish_periodKept ..) l _)
  unfold State.boundaryMove
  refine .ite (.ite (htake.trans (harm _ _)) (.refl s)) (.ite (.ite (htake.trans (harm _ _)) (.refl s)) (.ite (.ite ?_ (.refl s)) (.ite ?_ (.ite ?_ (.refl s)))))
  · exact (htake.trans (hdev _ _)).trans (.fold (fun u k => finish_periodKept ..) _ _)
  · exact .ite (hdev ..) (.refl s)
  · exact .ite (.refl s) (hdev ..)

end

/-- A 64-bit quantity reads back modulo 2^64. -/
theorem reg64_setReg64 (s : State) (a n : Nat) : (s.setReg64 a n).reg64 a = n % 2 ^ 64 := by
  have hlo : (s.setReg64 a n).reg a = BitVec.ofNat 32 n := (reg_setRegN_ne _ (by omega) _).trans (reg_setRegN_self ..)
  have hhi : (s.setReg64 a n).reg (a + 4) = BitVec.ofNat 32 (n / 2 ^ 32) := reg_setRegN_self ..
  rw [State.reg64, State.regN, State.regN, hlo, hhi, BitVec.toNat_ofNat, BitVec.toNat_ofNat]
  omega

/-- The Helm goes on: it waits for the engine start, in period 0 or the next one. -/
theorem helmBoundary_runs {s : State} (h : s.helmMay = true) :
    s.helmBoundary.get F.ENG_STAT_ESTATE = 1 ∧
      s.helmBoundary.pcnt = (if s.get F.ENG_STAT_ESTATE = 0 then 0 else (s.pcnt + 1) % 2 ^ 64) ∧ s.helmBoundary.eng.doneBlks = 0 ∧
      s.helmBoundary.sext = s.sext := by
  unfold State.helmBoundary
  rw [h]
  simp only [Bool.not_true, Bool.false_eq_true, if_false]
  set s1 := s.setReg64 R.ENG_PCNT_LO (if s.get F.ENG_STAT_ESTATE = 0 then 0 else s.pcnt + 1) with hs1
  have h2 : PeriodKept False False s1 s1.boundarySwap.boundaryMode :=
    PeriodKept.trans (.ite (exchangeBanks_periodKept s1) (.refl s1)) (boundaryMode_periodKept _)
  have h3 : PeriodKept False False (s1.boundarySwap.boundaryMode.set F.ENG_STAT_ESTATE 1) _ := mirrorBoundary_periodKept _
  refine ⟨?_, ?_, rfl, h3.sext.trans h2.sext⟩
  · rw [loadRow_get _ (by decide), h3.estate, get_set_self _ _ _ (by decide)]; rfl
  · have hset : (s1.boundarySwap.boundaryMode.set F.ENG_STAT_ESTATE 1).pcnt = s1.boundarySwap.boundaryMode.pcnt := by
      simp only [State.pcnt, State.reg64, State.regN]
      rw [reg_set_ne _ _ (by decide), reg_set_ne _ _ (by decide)]
    rw [loadRow_pcnt, h3.pcnt, hset, h2.pcnt, State.pcnt, reg64_setReg64]
    split <;> rfl

/-- The Helm that may not run stops. -/
theorem helmBoundary_stops {s : State} (h : s.helmMay = false) :
    s.helmBoundary.get F.ENG_STAT_ESTATE = 0 ∧ s.helmBoundary.pcnt = s.pcnt ∧ s.helmBoundary.sext = s.sext := by
  have hk : PeriodKept True False s s.helmStop := helmStop_periodKept s trivial
  unfold State.helmBoundary
  rw [h]
  exact ⟨helmStop_stopped s, hk.pcnt, hk.sext⟩

/-- The grid's own blocks at a boundary. -/
def State.atBoundary (s : State) : State :=
  ({ s.gridNext with adc := { s.gridNext.adc with plaus := [] } }).modBoundary.oclBoundary.logBoundary.boundaryMove

theorem periodBoundary_eq {s : State} (h : s.gridDue = true) : s.periodBoundary = s.atBoundary.helmBoundary := if_pos h

theorem atBoundary_sext (s : State) : s.atBoundary.sext = s.gridNext.sext := by
  unfold State.atBoundary
  have hocl : ∀ t : State, PeriodKept True False t t.oclBoundary := fun t => .fold (fun u e => .parts u) _ t
  rw [(boundaryMove_periodKept (ok := False) _).sext]
  exact (hocl _).sext

/-- The committed boundary becomes the present one. -/
theorem gridNext_sext {s : State} (h : s.sext.begun = true) :
    s.gridNext.sext.b0 = s.sext.b1 ∧ s.gridNext.sext.b1 = s.sext.b2 ∧ s.gridNext.sext.comm = false ∧
      s.gridNext.sext.k = if s.sext.k + 1 < s.sxN then s.sext.k + 1 else 0 := by
  unfold State.gridNext
  rw [h]
  exact ⟨rfl, rfl, rfl, rfl⟩

end Sys2Proof.Machine

/-! ## Conversion starts of the row and the commit tick (05 R180; 07 R286; 13 R503) -/
namespace Sys2Proof.Machine
open Stmt

/-! ### A conversion start -/

/-- A bit of a field that the device sets reads 1. -/
theorem fbit_setFbit_self (s : State) (f : Fld) {i : Nat} (hf : f.lo + f.width ≤ 32) (hi : i < f.width) : (s.setFbit f i true).fbit f i = true := by
  have hset : (s.setFbit f i true).get f = (s.get f ||| 2 ^ i) % 2 ^ f.width := by
    unfold State.setFbit State.orFld
    exact get_set_self _ _ _ hf
  rw [State.fbit, hset, Nat.testBit_mod_two_pow, Nat.testBit_or, Nat.testBit_two_pow_self, Bool.or_true, Bool.and_true]
  exact decide_eq_true hi

theorem rowStart_list_lt (row : Nat) (b : Bool) : (rowStart row b).2.1 < 16 := Nat.mod_lt _ (by decide)

/-- The run that a list starts with. -/
def State.firstRun (s : State) (n : Nat) : ListRun :=
  { list := n, entry := s.get (F.ADC_LIST_FIRST n), last := s.get (F.ADC_LIST_FIRST n) + s.get (F.ADC_LIST_COUNT n) - 1, conv := false, ready := s.now,
    retry := false, reserved := false }

/-- A list that does not run starts with its first entry. -/
theorem listStart_starts {s : State} {n : Nat} (hn : n < 16) (he : s.on F.ADC_CTRL_EN = true) (hb : s.fbit F.ADC_LBUSY_L n = false) :
    (s.listStart n).fbit F.ADC_LBUSY_L n = true ∧ (s.listStart n).adc = { s.adc with lists := s.adc.lists ++ [s.firstRun n] } := by
  have heq : s.listStart n = ({ s with adc := { s.adc with lists := s.adc.lists ++ [s.firstRun n] } }).setFbit F.ADC_LBUSY_L n true := by
    unfold State.listStart
    rw [he, hb]
    rfl
  rw [heq]
  exact ⟨fbit_setFbit_self _ F.ADC_LBUSY_L (by decide) hn, setFbit_adc ..⟩

section
variable {s : State} {b : Bool}

theorem almListStart_idle (h : (rowStart (s.arow s.aBank (s.get F.ENG_ROW_ROW)) b).1 = false ∨ s.get F.ENG_STAT_ESTATE = 0) :
    s.almListStart b = s := by
  unfold State.almListStart
  rcases h with h | h
  · simp only [h, Bool.false_and, Bool.false_eq_true, if_false]
  · simp only [h, bne_self_eq_false, Bool.and_false, Bool.false_eq_true, if_false]

theorem almListStart_eq (h : (rowStart (s.arow s.aBank (s.get F.ENG_ROW_ROW)) b).1 = true) (he : s.get F.ENG_STAT_ESTATE ≠ 0) :
    s.almListStart b =
      if s.sext.b1 ≤ s.sext.b0 + 320 * (rowStart (s.arow s.aBank (s.get F.ENG_ROW_ROW)) b).2.2 then s.faultNew F.ALM_STAT_OFSLATE Q.ALM_OFSLATE (hw 0)
      else s.listStart (rowStart (s.arow s.aBank (s.get F.ENG_ROW_ROW)) b).2.1 := by
  unfold State.almListStart
  simp only [h, bne_iff_ne.mpr he, Bool.and_self, if_true]

/-- OFSLATE stands after it is set, whatever its source leads to. -/
theorem faultNew_ofslate (s : State) : (s.faultNew F.ALM_STAT_OFSLATE Q.ALM_OFSLATE (hw 0)).on F.ALM_STAT_OFSLATE = true := by
  unfold State.faultNew
  split
  · assumption
  · have hflag : (s.flag F.ALM_STAT_OFSLATE).on F.ALM_STAT_OFSLATE = true := by
      rw [State.on, get_flag_self _ _ (by decide) (by decide)]; rfl
    exact (raise_periodKept (ok := True) ..).late trivial hflag

end

/-! ### What the placements of the commit leave alone -/

/-- What the commit's placements leave alone: the safety inputs, the lanes, and every register but those that a raise may move and the two that hold
DSTREJ. -/
structure CommitKept (s t : State) : Prop where
  ocl : t.ocl = s.ocl
  safe : t.safe = s.safe
  reg : ∀ a, ¬ Moved a → a ≠ R.ADC_STAT → a ≠ R.HALL_GSTAT → t.reg a = s.reg a

namespace CommitKept
variable {s t u : State}

theorem refl (s : State) : CommitKept s s := ⟨rfl, rfl, fun _ _ _ _ => rfl⟩

theorem trans (h : CommitKept s t) (k : CommitKept t u) : CommitKept s u :=
  ⟨k.ocl.trans h.ocl, k.safe.trans h.safe, fun a h1 h2 h3 => (k.reg a h1 h2 h3).trans (h.reg a h1 h2 h3)⟩

theorem ite {c : Prop} [Decidable c] (h : CommitKept s t) (k : CommitKept s u) : CommitKept s (if c then t else u) := by split <;> assumption

theorem fold {α : Type} {f : State → α → State} (h : ∀ s x, CommitKept s (f s x)) (l : List α) (s : State) : CommitKept s (l.foldl f s) := by
  induction l generalizing s with
  | nil => exact refl s
  | cons x l ih => exact (h s x).trans (ih (f s x))

/-- The memory, the ring and the converters may change. -/
theorem parts (s : State) {mem : List Host.Cell} {ring : RingSt} {adc : AdcSt} : CommitKept s { s with mem, ring, adc } := ⟨rfl, rfl, fun _ _ _ _ => rfl⟩

theorem faultNew (s : State) {f : Fld} (hf : Moved f.addr ∨ f.addr = R.ADC_STAT ∨ f.addr = R.HALL_GSTAT) (q : Src) (x : Acc) :
    CommitKept s (s.faultNew f q x) := by
  have hreg : ∀ a, ¬ Moved a → a ≠ R.ADC_STAT → a ≠ R.HALL_GSTAT → (s.faultNew f q x).reg a = s.reg a := fun a h1 h2 h3 =>
    faultNew_reg s q x (by rintro rfl; exact (or_iff_right h1).mp hf |>.elim h2 h3) h1
  obtain ⟨faults, hk⟩ := raise_but_faults (s.flag f) q x
  refine ⟨?_, ?_, hreg⟩
  · unfold State.faultNew
    split
    · rfl
    · exact hk.ocl.trans (by simp)
  · unfold State.faultNew
    split
    · rfl
    · exact hk.safe.trans (by simp)

theorem putLanes (s : State) (r : Nat) (mask : Word64) (vals : List (BitVec 16)) : CommitKept s (s.putLanes r mask vals) := by
  obtain ⟨mem, h⟩ := putLanes_eq s r mask vals
  rw [h]; exact parts s

end CommitKept

theorem commitPos_kept (s : State) (p : Nat) : CommitKept s (s.commitPos p).1 := by
  have hput : ∀ (t : State) (f : RingFrame), CommitKept t (t.putSlot p f) := fun t f => .fold (fun u r => .putLanes ..) _ t
  unfold State.commitPos
  extract_lets f bit data split stale age w _ s1 s2
  have h1 : CommitKept s s1 := .parts s
  have h2 : CommitKept s1 s2 := by
    show CommitKept s1 (match f with | some f => _ | none => _)
    cases f with
    | some f => exact .ite (hput s1 f) (.refl s1)
    | none => exact .refl s1
  exact (h1.trans h2).trans (.ite (.faultNew s2 (.inl (.inr (.inr (.inl rfl)))) _ _) (.refl s2))

theorem schedCommit_kept (s : State) : CommitKept s s.schedCommit := by
  have hpos : ∀ (l : List Nat) (x : State × List (BitVec 16)),
      CommitKept x.1 (l.foldl (fun x p => ((x.1.commitPos p).1, x.2 ++ [BitVec.ofNat 16 (x.1.commitPos p).2])) x).1 := by
    intro l
    induction l with
    | nil => exact fun x => .refl x.1
    | cons p l ih => exact fun x => (commitPos_kept x.1 p).trans (ih (_, _))
  unfold State.schedCommit
  refine .ite ?_ (.refl s)
  exact ((hpos _ (s, [])).trans (.putLanes ..)).trans (.parts _)

theorem place_kept (s : State) (v : Option (Nat × Nat)) (w : Option Nat) (stamp : Nat) (plaus : Bool) (r : Int) :
    CommitKept s (s.place v w stamp plaus r).1 := by
  have hw : ∀ (t : State) (rej : Bool), CommitKept t (match w with
      | some x => if t.inStateS x then (t, true) else (t.store (sdmAddr x) 4 (t.placeWord stamp plaus r), rej)
      | none => (t, rej)).1 := fun t rej => by
    cases w with
    | none => exact .refl t
    | some x =>
      dsimp only
      split
      · exact .refl t
      · exact .parts t
  have hv : CommitKept s (match v with
      | some (row, lane) => if s.inStateV row then (s, true) else (s.store (vdmAddr row lane) 2 (encS 16 r), false)
      | none => (s, false)).1 := by
    cases v with
    | none => exact .refl s
    | some v =>
      dsimp only
      split
      · exact .refl s
      · exact .parts s
  exact hv.trans (hw _ _)

theorem sdfPlace_kept (s : State) (n : Nat) : CommitKept s (s.sdfPlace n) := by
  unfold State.sdfPlace
  extract_lets v w
  have h := place_kept s v w (s.reg64 (R.SDF_RSTAMP_LO n)) false (signedOf 16 (s.get (F.SDF_RES_R n)))
  exact h.trans (.ite (.faultNew _ (.inr (.inl rfl)) _ _) (.refl _))

theorem sdfCommit_kept (s : State) : CommitKept s s.sdfCommit := by
  unfold State.sdfCommit
  refine .ite (.refl s) ?_
  extract_lets s1
  have h1 : CommitKept s s1 := .fold (fun t n => .ite (sdfPlace_kept t n) (.refl t)) _ s
  exact h1.trans (.parts s1)

theorem placeOne_kept (s : State) (n w v : Nat) : CommitKept s (s.placeOne n w v) :=
  .ite (.faultNew s (.inr (.inr rfl)) _ _) (.parts s)

theorem hallPlace_kept (s : State) (n : Nat) : CommitKept s (s.hallPlace n) :=
  .ite (((placeOne_kept ..).trans (placeOne_kept ..)).trans (placeOne_kept ..)) (.refl s)

theorem safePlace_kept (s : State) : CommitKept s s.safePlace := .ite (placeOne_kept ..) (.refl s)

/-! ### The lanes' part of the commit -/

/-- Writes to the inbox change the memory alone. -/
theorem inboxFold_eq (g : Nat → Nat × Nat) (l : Nat) (is : List Nat) (s : State) :
    ∃ mem, is.foldl (fun s i => s.inboxPut (g i).1 l (g i).2) s = { s with mem } := by
  induction is generalizing s with
  | nil => exact ⟨s.mem, rfl⟩
  | cons i is ih =>
    obtain ⟨mem, h⟩ := ih (s.inboxPut (g i).1 l (g i).2)
    exact ⟨mem, h⟩

/-- An enabled lane's samples are consumed. -/
def State.takeSamples (s : State) (l : Nat) : State := if s.pairBit R.OCL_EN_LO l then s.setLane l { s.lane l with samples := [] } else s

/-- The commit of a lane consumes its samples and writes the memory. -/
theorem oclCommitLane_eq (s : State) (l : Nat) : ∃ mem, s.oclCommitLane l = { s.takeSamples l with mem } := by
  unfold State.oclCommitLane State.takeSamples
  generalize hx : s.lane l = x
  generalize hf : s.get F.OCL_INMAP_F = fN
  generalize hs : s.get F.OCL_INMAP_S = sN
  by_cases he : s.pairBit R.OCL_EN_LO l = true
  · rw [he]
    simp only [Bool.not_true, Bool.false_eq_true, if_false, if_true]
    generalize hr : List.foldl _ (s, 0) x.samples = r
    have hmem : ∃ mem, r.1 = { s with mem } := by
      rw [← hr]
      refine x.samples.foldlRecOn _ (motive := fun p : State × Nat => ∃ mem, p.1 = { s with mem }) ⟨s.mem, rfl⟩ ?_
      rintro ⟨_, fresh⟩ ⟨mem, rfl⟩ sm _
      obtain ⟨mem', h⟩ := inboxFold_eq (fun i => (sN * sm.slot + i, (sm.vals.getD i 0).toNat)) l (List.range sN) { s with mem }
      dsimp only at h ⊢
      rw [h]
      exact ⟨_, rfl⟩
    obtain ⟨t, fresh⟩ := r
    obtain ⟨mem, rfl⟩ := hmem
    exact ⟨_, rfl⟩
  · rw [if_pos (by simpa using he), if_neg he]
    exact ⟨_, rfl⟩

theorem takeSamples_eq (s : State) (l : Nat) : ∃ ocl, s.takeSamples l = { s with ocl } := by
  unfold State.takeSamples
  split
  · exact ⟨_, rfl⟩
  · exact ⟨s.ocl, rfl⟩

theorem takeSamples_samples (s : State) (l q : Nat) :
    ((s.takeSamples l).lane q).samples = if s.pairBit R.OCL_EN_LO l = true ∧ q = l then [] else (s.lane q).samples := by
  unfold State.takeSamples
  by_cases hl : s.pairBit R.OCL_EN_LO l = true
  · have hlane : (s.setLane l { s.lane l with samples := [] }).lane q = if q = l then { s.lane l with samples := [] } else s.lane q := spGet_spPut ..
    rw [if_pos hl, hlane]
    by_cases hq : q = l
    · rw [if_pos hq, if_pos ⟨hl, hq⟩]
    · rw [if_neg hq, if_neg (fun h => hq h.2)]
  · rw [if_neg hl, if_neg (fun h => hl h.1)]

theorem oclCommit_eq (s : State) : ∃ mem ocl, s.oclCommit = { s with mem, ocl } := by
  unfold State.oclCommit
  refine (List.range 56).foldlRecOn State.oclCommitLane (motive := fun t => ∃ mem ocl, t = { s with mem, ocl }) ⟨s.mem, s.ocl, rfl⟩ ?_
  rintro _ ⟨mem, ocl, rfl⟩ l _
  obtain ⟨mem', h⟩ := oclCommitLane_eq { s with mem, ocl } l
  obtain ⟨ocl', ho⟩ := takeSamples_eq { s with mem, ocl } l
  exact ⟨mem', ocl', by rw [h, ho]⟩

/-- The commit consumes the samples of every enabled lane. -/
theorem oclCommit_samples {s : State} {q : Nat} (hq : q < 56) (he : s.pairBit R.OCL_EN_LO q = true) : (s.oclCommit.lane q).samples = [] := by
  refine foldl_reaches (I := fun t => t.pairBit R.OCL_EN_LO q = true) (P := fun t => (t.lane q).samples = []) ?_ ?_ ?_
    (List.mem_range.mpr hq) he
  · intro t l ht
    obtain ⟨mem, h⟩ := oclCommitLane_eq t l
    obtain ⟨ocl, ho⟩ := takeSamples_eq t l
    rw [h, ho]
    exact ht
  · intro t l _ ht
    obtain ⟨mem, h⟩ := oclCommitLane_eq t l
    rw [h]
    exact (takeSamples_samples t l q).trans (by rw [ht, ite_self])
  · intro t ht
    obtain ⟨mem, h⟩ := oclCommitLane_eq t q
    rw [h]
    exact (takeSamples_samples t q q).trans (if_pos ⟨ht, rfl⟩)

/-! ### The safety word -/

theorem bitsWhere_succ (n : Nat) (f : Nat → Bool) : bitsWhere (n + 1) f = bitsWhere n f + 2 ^ n * b2n (f n) := by
  unfold bitsWhere
  rw [List.range_succ, List.foldl_append]
  rfl

theorem bitsWhere_lt (n : Nat) (f : Nat → Bool) : bitsWhere n f < 2 ^ n := by
  induction n with
  | zero => exact Nat.one_pos
  | succ n ih =>
    have hb : b2n (f n) ≤ 1 := by cases f n <;> decide
    have hm : 2 ^ n * b2n (f n) ≤ 2 ^ n * 1 := Nat.mul_le_mul_left _ hb
    rw [bitsWhere_succ, pow_succ]
    omega

theorem bitsWhere_congr {n : Nat} {f g : Nat → Bool} (h : ∀ i, i < n → f i = g i) : bitsWhere n f = bitsWhere n g :=
  List.foldl_ext _ _ 0 fun m i hi => by rw [h i (List.mem_range.mp hi)]

/-- The safety word's fields do not overlap: it fits a word of the SDM. -/
theorem safeWord_lt (s : State) : s.safeWord < 256 ^ 4 := by
  have h1 := bitsWhere_lt 4 fun n => s.on (F.SAFE_SOUTSTAT_RBERR n)
  have h2 := bitsWhere_lt 4 fun n => s.on (F.SAFE_SOUTSTAT_ON n)
  have h3 := bitsWhere_lt 3 fun a => s.on (F.SAFE_CHSTAT_SS1 a)
  have h4 := bitsWhere_lt 3 fun a => s.on (F.SAFE_CHSTAT_STO a)
  unfold State.safeWord
  omega

/-- The safety word follows the registers of its block and the safety inputs. -/
theorem safeWord_congr {s t : State} (hr : ∀ a, 0x15020000 ≤ a → a < 0x15030000 → t.reg a = s.reg a) (hs : t.safe = s.safe) :
    t.safeWord = s.safeWord := by
  have hon : ∀ f : Fld, 0x15020000 ≤ f.addr → f.addr < 0x15030000 → t.on f = s.on f := fun f h1 h2 =>
    congrArg (fun v => fldOf f v != 0) (hr f.addr h1 h2)
  have hdem : t.demands = s.demands := by
    refine demands_congr (fun n hn => hr _ ?_ ?_) (by rw [hs]) (by rw [hs]) (by rw [hs])
    · show 0x15020000 ≤ 0x15020100 + 0x10 * n; omega
    · show 0x15020100 + 0x10 * n < 0x15030000; omega
  have hout : ∀ n, n < 4 → 0x15020000 ≤ 0x150201A4 + 0x10 * n ∧ 0x150201A4 + 0x10 * n < 0x15030000 := by omega
  have hch : ∀ n, n < 3 → 0x15020000 ≤ 0x15020148 + 0x20 * n ∧ 0x15020148 + 0x20 * n < 0x15030000 := by omega
  unfold State.safeWord
  rw [bitsWhere_congr fun n hn => hon (F.SAFE_SOUTSTAT_RBERR n) (hout n hn).1 (hout n hn).2,
    bitsWhere_congr fun n hn => hon (F.SAFE_SOUTSTAT_ON n) (hout n hn).1 (hout n hn).2,
    bitsWhere_congr fun n hn => hon (F.SAFE_CHSTAT_SS1 n) (hch n hn).1 (hch n hn).2,
    bitsWhere_congr fun n hn => hon (F.SAFE_CHSTAT_STO n) (hch n hn).1 (hch n hn).2, hs, hdem]

/-- The safety word is placed at its destination, unless that is protected. -/
theorem safePlace_places {s : State} (he : s.on F.SAFE_PLACE_EN = true) (hw : s.get F.SAFE_PLACE_SWORD < 0x4000)
    (hp : s.inStateS (s.get F.SAFE_PLACE_SWORD) = false) : s.safePlace.load (sdmAddr (s.get F.SAFE_PLACE_SWORD)) 4 = s.safeWord := by
  unfold State.safePlace State.placeOne
  rw [if_pos he, hp, if_neg (by simpa using hw)]
  exact load_store_self _ _ _ (safeWord_lt s)

/-! ### The commit tick -/

theorem inboxCommit_idle {s : State} (h : s.sx = sxOFF ∨ s.sext.begun = false) : s.inboxCommit = s := by
  unfold State.inboxCommit
  rcases h with h | h
  · simp [h]
  · simp [h]

/-- The state when the safety word is placed. -/
def State.beforeSafePlace (s : State) : State := (List.range 3).foldl State.hallPlace s.oclCommit.schedCommit.sdfCommit

theorem beforeSafePlace_kept (s : State) : CommitKept s.oclCommit s.beforeSafePlace :=
  ((schedCommit_kept _).trans (sdfCommit_kept _)).trans (.fold hallPlace_kept _ _)

/-- A register that no placement writes reads as before the commit. -/
theorem beforeSafePlace_reg (s : State) {a : Nat} (h : ¬ Moved a) (h1 : a ≠ R.ADC_STAT) (h2 : a ≠ R.HALL_GSTAT) :
    s.beforeSafePlace.reg a = s.reg a := by
  obtain ⟨mem, ocl, ho⟩ := oclCommit_eq s
  rw [(beforeSafePlace_kept s).reg a h h1 h2, ho]
  rfl

theorem beforeSafePlace_safe (s : State) : s.beforeSafePlace.safe = s.safe := by
  obtain ⟨mem, ocl, ho⟩ := oclCommit_eq s
  rw [(beforeSafePlace_kept s).safe, ho]

theorem beforeSafePlace_get (s : State) {f : Fld} (h : f.addr ∈ [R.SAFE_PLACE, R.ENG_SPAGE_S, R.TWIN_CFG]) : s.beforeSafePlace.get f = s.get f := by
  have hfix : ∀ a ∈ [R.SAFE_PLACE, R.ENG_SPAGE_S, R.TWIN_CFG], a < 0x16000000 ∧ a ≠ R.ADC_STAT ∧ a ≠ R.HALL_GSTAT ∧
      a ∉ [R.SYS_STATE, R.RING_STAT, R.RING_GQ, R.ENG_STAT, R.TWIN_STAT, R.ALM_SWAP, R.ALM_MODE, R.ALM_STAT] := by decide
  obtain ⟨hlt, h1, h2, hm⟩ := hfix _ h
  exact congrArg (fldOf f) (beforeSafePlace_reg s (not_moved hlt hm) h1 h2)

theorem beforeSafePlace_safeWord (s : State) : s.beforeSafePlace.safeWord = s.safeWord := by
  refine safeWord_congr (fun a hlo hhi => beforeSafePlace_reg s (not_moved (by omega) ?_) ?_ ?_) (beforeSafePlace_safe s)
  · intro hmem
    have hout : ∀ x ∈ [R.SYS_STATE, R.RING_STAT, R.RING_GQ, R.ENG_STAT, R.TWIN_STAT, R.ALM_SWAP, R.ALM_MODE, R.ALM_STAT], x < 0x15020000 := by decide
    exact absurd (hout a hmem) (by omega)
  · have : R.ADC_STAT < 0x15020000 := by decide
    omega
  · have : R.HALL_GSTAT < 0x15020000 := by decide
    omega

/-- Without a twin the commit ends with the safety word. -/
theorem inboxCommit_eq {s : State} (hx : s.sx ≠ sxOFF) (hb : s.sext.begun = true) (ht : s.on F.TWIN_CFG_EN = false) :
    s.inboxCommit = s.beforeSafePlace.safePlace := by
  have hget : s.beforeSafePlace.safePlace.get F.TWIN_CFG_EN = s.get F.TWIN_CFG_EN :=
    (congrArg (fldOf F.TWIN_CFG_EN) ((safePlace_kept _).reg _ (not_moved (by decide) (by decide)) (by decide) (by decide))).trans
      (beforeSafePlace_get s (by decide))
  have htwin : s.beforeSafePlace.safePlace.twinCommit = s.beforeSafePlace.safePlace := by
    unfold State.twinCommit
    rw [State.on, hget, ← State.on, ht]
    rfl
  have hdue : (s.sx != sxOFF && s.sext.begun) = true := by rw [hb, Bool.and_true]; exact bne_iff_ne.mpr hx
  exact (if_pos hdue).trans htwin

/-- The commit consumes the samples of the enabled lanes. -/
theorem inboxCommit_samples {s : State} (hx : s.sx ≠ sxOFF) (hb : s.sext.begun = true) (ht : s.on F.TWIN_CFG_EN = false) {l : Nat} (hl : l < 56)
    (he : s.pairBit R.OCL_EN_LO l = true) : (s.inboxCommit.lane l).samples = [] := by
  have hocl : s.inboxCommit.ocl = s.oclCommit.ocl := by
    rw [inboxCommit_eq hx hb ht, (safePlace_kept _).ocl, (beforeSafePlace_kept s).ocl]
  have hlane : s.inboxCommit.lane l = s.oclCommit.lane l := congrArg (fun o : OclSt => spGet lane0 o.lanes l) hocl
  rw [hlane, oclCommit_samples hl he]

/-- The commit places the safety word. -/
theorem inboxCommit_safeWord {s : State} (hx : s.sx ≠ sxOFF) (hb : s.sext.begun = true) (ht : s.on F.TWIN_CFG_EN = false)
    (he : s.on F.SAFE_PLACE_EN = true) (hw : s.get F.SAFE_PLACE_SWORD < 0x4000) (hp : s.inStateS (s.get F.SAFE_PLACE_SWORD) = false) :
    s.inboxCommit.load (sdmAddr (s.get F.SAFE_PLACE_SWORD)) 4 = s.safeWord := by
  have hword : s.beforeSafePlace.get F.SAFE_PLACE_SWORD = s.get F.SAFE_PLACE_SWORD := beforeSafePlace_get s (by decide)
  have hen : s.beforeSafePlace.on F.SAFE_PLACE_EN = true := by rw [State.on, beforeSafePlace_get s (by decide)]; exact he
  have hprot : ∀ w, s.beforeSafePlace.inStateS w = s.inStateS w := fun w => by
    unfold State.inStateS
    rw [beforeSafePlace_get s (f := F.ENG_SPAGE_S_BASE) (by decide), beforeSafePlace_get s (f := F.ENG_SPAGE_S_NWORDS) (by decide)]
  have hplace := safePlace_places hen (hword ▸ hw) (by rw [hword, hprot]; exact hp)
  rw [hword, beforeSafePlace_safeWord] at hplace
  rw [inboxCommit_eq hx hb ht, hplace]

end Sys2Proof.Machine

/-! ## O31: the events of a period -/
namespace Sys2Proof.Machine
open Stmt

/-- Settles O31, event by event: `helmBoundary_runs` and `helmBoundary_stops` at the boundary, `engineStart_runs`, `blockComplete_ends_row`,
`deadline_completes` and `deadline_abandons` in the row, `listStart_starts` at a conversion start, `inboxCommit_samples` and `inboxCommit_safeWord` at the
commit. -/
theorem periodEventsFollowTheHelm : Obligations.PeriodEventsFollowTheHelm := by
  unfold Obligations.PeriodEventsFollowTheHelm
  intro s b es m blocks row list due cyc
  refine ⟨fun h => ⟨s.periodBoundary, rfl, if_neg (by rw [h]; decide)⟩, fun h hm => ⟨s.periodBoundary, rfl, ?_⟩, fun h hm => ⟨s.periodBoundary, rfl, ?_⟩, ?_,
    fun h hb => ⟨s.engineStart, rfl, engineStart_runs h hb⟩, fun h hb hn => ⟨s.engineStart, rfl, engineStart_empty h hb hn⟩,
    fun h => ⟨s.engineStart, rfl, if_neg h⟩,
    fun h hb => ⟨s.blockComplete, rfl, blockComplete_goes_on h hb⟩, fun h hb hn => ⟨s.blockComplete, rfl, blockComplete_ends_row h hb hn⟩,
    fun h => ⟨s.blockComplete, rfl, if_neg h⟩,
    fun h => ⟨s.deadline, rfl, deadline_of_not_due h⟩, fun h he hr hn => ⟨s.deadline, rfl, ?_⟩, fun h he hr hn => ⟨s.deadline, rfl, ?_⟩,
    fun h => ⟨s.almListStart b, rfl, almListStart_idle h⟩, fun h he ho hen hbusy => ⟨s.almListStart b, rfl, ?_⟩,
    fun h he ho => ⟨s.almListStart b, rfl, ?_⟩,
    fun h => ⟨s.inboxCommit, rfl, inboxCommit_idle h⟩, fun hx hb ht => ⟨s.inboxCommit, rfl, ?_⟩⟩
  · rw [periodBoundary_eq h]
    exact helmBoundary_runs (s := s.atBoundary) hm
  · rw [periodBoundary_eq h]
    exact helmBoundary_stops (s := s.atBoundary) hm
  · intro _ hb
    have hm : m.sext = s.gridNext.sext := atBoundary_sext s
    rw [hm]
    exact gridNext_sext hb
  · obtain ⟨hp, hend, hrun, hlast, hstall, hpcnt⟩ := deadline_completes h he hr hn
    exact ⟨hend, hp.pV, hp.pS, hp.wV rfl, hp.wS rfl, hp.ladle rfl, hrun, hlast, hstall, hpcnt⟩
  · obtain ⟨hp, hend, hover, hcnt, hrun, htime, hok⟩ := deadline_abandons h he hr hn
    exact ⟨hend, hp.pV, hp.pS, hp.wV rfl, hp.wS rfl, hp.ladle rfl, hover, hcnt, hrun, htime, hok⟩
  · obtain ⟨hbit, hadc⟩ := listStart_starts (rowStart_list_lt row b) hen hbusy
    rw [almListStart_eq h he, if_neg (Nat.not_le.mpr ho)]
    exact ⟨hbit, s.firstRun list, hadc, rfl, rfl, rfl⟩
  · rw [almListStart_eq h he, if_pos ho]
    exact faultNew_ofslate s
  · exact ⟨fun l hl he => inboxCommit_samples hx hb ht hl he, fun he hw hp => inboxCommit_safeWord hx hb ht he hw hp⟩

end Sys2Proof.Machine

/-! ## The V-slot's arithmetic, logic and accumulators (04 R142 to R152) -/
namespace Sys2Proof.Machine
open Stmt

/-! ### A V-slot instruction issues one write-back -/

/-- A V-slot instruction issues the write-back that `vIssue` pushes in the state in which its word begins. -/
theorem issuesV_of_push {i : Instr} {s : State} {w : Wb} {P : State → Wb → Prop} (h : exec i s = .next (settle s (s.issueV i)))
    (hw : s.newWord.vIssue i = s.newWord.push w) (hp : P s.newWord w) : IssuesV i s P :=
  ⟨w, by rw [h, State.issueV, hw]; rfl, hp⟩

/-- Bit `n` of the mask of the lanes for which `f` holds, in a lane. -/
theorem lanesWhere_getLsbD_lane (f : Nat → Bool) {n : Nat} (hn : n < 64) : (lanesWhere f).getLsbD n = f n := by
  rw [lanesWhere_getLsbD, decide_eq_true hn, Bool.true_and]

/-- The lanes of a mask register in which a condition holds. -/
theorem inK_getLsbD (s : State) (k : Nat) (f : Nat → Bool) {n : Nat} (hn : n < 64) :
    (s.inK k f).getLsbD n = true ↔ (s.kReg k).getLsbD n = true ∧ f n = true := by
  rw [State.inK, BitVec.getLsbD_and, lanesWhere_getLsbD_lane _ hn, Bool.and_eq_true]

/-- A value outside the format of 16 bits. -/
theorem not_fitsS16_iff (x : Int) : (!fitsS 16 x) = true ↔ x < -32768 ∨ 32767 < x := by
  rw [Bool.not_eq_true', ← Bool.not_eq_true, fitsS16_iff]
  omega

/-- A write-back of the exact values `x`, saturated, with SAT in the lanes whose value does not fit (R144). -/
theorem wbV16_sat {lat r : Nat} {m : Word64} {f x : Nat → Int} (h : ∀ n, f n = x n) : Sat lat r m x (wbV16 lat r m f) := by
  obtain rfl : f = x := funext h
  refine ⟨_, _, rfl, fun n hn => ⟨?_, ?_⟩⟩
  · rw [perLane_get _ hn, sat16_eq]
  · rw [lanesWhere_getLsbD_lane _ hn, inMask_eq, Bool.and_eq_true, not_fitsS16_iff]

/-- A write-back of values that fit, in another spelling of the values. -/
theorem wbV_plain_of_eq {lat r : Nat} {m : Word64} {f x : Nat → BitVec 16} (h : ∀ n, f n = x n) : Plain lat r m x (wbV lat r m f) := by
  obtain rfl : f = x := funext h
  exact wbV_plain ..

theorem wbA_accSet {lat r : Nat} {m : Word64} {f x : Nat → BitVec 40} (h : ∀ n, f n = x n) : AccSet lat r m x (wbA lat r m f) :=
  ⟨_, rfl, fun n hn => by rw [perLane_get _ hn, h]⟩

theorem wbSum_accAdd {r : Nat} {m : Word64} {f x : Nat → Int} (h : ∀ n, f n = x n) : AccAdd r m x (wbSum r m f) :=
  ⟨_, rfl, fun n hn => by rw [perLane_get _ hn, h]⟩

/-! ### Parts of registers, and signed values -/

/-- The larger of two signed values is the register that holds it. -/
theorem ofInt_max_toInt {w : Nat} (x y : BitVec w) : BitVec.ofInt w (max x.toInt y.toInt) = if x.toInt < y.toInt then y else x := by
  split
  case isTrue h => rw [max_eq_right h.le, BitVec.ofInt_toInt]
  case isFalse h => rw [max_eq_left (not_lt.mp h), BitVec.ofInt_toInt]

theorem ofInt_min_toInt {w : Nat} (x y : BitVec w) : BitVec.ofInt w (min x.toInt y.toInt) = if y.toInt < x.toInt then y else x := by
  split
  case isTrue h => rw [min_eq_right h.le, BitVec.ofInt_toInt]
  case isFalse h => rw [min_eq_left (not_lt.mp h), BitVec.ofInt_toInt]

/-- hi16 of a scalar register (R143). -/
theorem sHi_eq (s : State) (r : Nat) : s.sHi r = ((s.sReg r).extractLsb' 16 16).toInt := by
  rw [State.sHi, signedOf, BitVec.extractLsb', Nat.shiftRight_eq_div_pow]

/-- The quotient by a power of two, cut to `v` bits, is the arithmetic shift. -/
theorem ofInt_toInt_ediv {w : Nat} (v : Nat) (x : BitVec w) (i : Nat) :
    BitVec.ofInt v (x.toInt / 2 ^ i) = (x.sshiftRight i).signExtend v := by
  rw [BitVec.signExtend, BitVec.toInt_sshiftRight, Int.shiftRight_eq_div_pow, Nat.cast_pow, Nat.cast_ofNat]

/-- A part that lies within the register. -/
theorem ofInt_toInt_ediv_of_le {w v i : Nat} (x : BitVec w) (h : i + v ≤ w) : BitVec.ofInt v (x.toInt / 2 ^ i) = x.extractLsb' i v := by
  rw [ofInt_toInt_ediv]
  ext j hj
  simp [BitVec.getElem_signExtend, BitVec.getLsbD_eq_getElem, show i + j < w by omega, show j < w by omega, BitVec.getElem_sshiftRight]

/-- The topmost part of a register holds its sign. -/
theorem toInt_extractLsb'_top {w i u : Nat} (x : BitVec w) (hu : 0 < u) (h : i + u = w) : (x.extractLsb' i u).toInt = x.toInt / 2 ^ i := by
  have hw : (2 : Int) ^ (w - 1) = 2 ^ (u - 1) * 2 ^ i := by rw [← pow_add]; congr 1; omega
  have hlo := BitVec.le_toInt x
  have hhi := BitVec.toInt_lt (x := x)
  rw [hw] at hlo hhi
  rw [← ofInt_toInt_ediv_of_le x h.le]
  refine BitVec.toInt_ofInt_eq_self hu ?_ ?_
  · rwa [Int.le_ediv_iff_mul_le (by positivity), neg_mul]
  · rwa [Int.ediv_lt_iff_lt_mul (by positivity)]

/-! ### The obligations -/

/-- Settles O1: each instruction pushes `wbV16` of its exact values (`wbV16_sat`) or `wbV` of values that fit (`wbV_plain`); the larger or smaller
lane is the lane that holds it (`ofInt_max_toInt`, `ofInt_min_toInt`). -/
theorem vectorArithmeticAndLogicIssueTheirLanes : Obligations.VectorArithmeticAndLogicIssueTheirLanes := by
  unfold Obligations.VectorArithmeticAndLogicIssueTheirLanes
  intro s vd va vb sx kc k
  have habs : ∀ n, ((s.newWord.vS va n).natAbs : Int) = max (s.newWord.vS va n) (-s.newWord.vS va n) := fun n => by
    rw [Int.natCast_natAbs, abs_eq_max_neg]
  exact ⟨
    -- VADD, VSUB, VNEG, VABS
    issuesV_of_push rfl rfl (wbV16_sat fun _ => rfl), issuesV_of_push rfl rfl (wbV16_sat fun _ => rfl),
    issuesV_of_push rfl rfl (wbV16_sat fun _ => rfl), issuesV_of_push rfl rfl (wbV16_sat habs),
    -- VMUL, VMULS, VSHL, VAWB
    issuesV_of_push rfl rfl (wbV16_sat fun _ => rfl), issuesV_of_push rfl rfl (wbV16_sat fun _ => by rw [sHi_eq]; rfl),
    fun _ => issuesV_of_push rfl rfl (wbV16_sat fun _ => rfl), fun _ _ => issuesV_of_push rfl rfl (wbV16_sat fun _ => rfl),
    -- VMAX, VMIN
    issuesV_of_push rfl rfl (wbV_plain_of_eq fun _ => (ofInt_max_toInt ..).symm),
    issuesV_of_push rfl rfl (wbV_plain_of_eq fun _ => (ofInt_min_toInt ..).symm),
    -- VMOV, VSPLAT, VAND, VOR, VXOR, VSEL, VSHR
    issuesV_of_push rfl rfl (wbV_plain ..), fun _ => issuesV_of_push rfl rfl (wbV_plain ..), issuesV_of_push rfl rfl (wbV_plain ..),
    issuesV_of_push rfl rfl (wbV_plain ..), issuesV_of_push rfl rfl (wbV_plain ..), issuesV_of_push rfl rfl (wbV_plain ..),
    fun _ => issuesV_of_push rfl rfl (wbV_plain ..)⟩

/-- Settles O2: what each instruction pushes (`wbA_accSet`, `wbSum_accAdd`); the three parts of AST are the quotients that the model takes
(`ofInt_toInt_ediv_of_le`, `toInt_extractLsb'_top`). -/
theorem accumulatorInstructionsIssueTheirSums : Obligations.AccumulatorInstructionsIssueTheirSums := by
  unfold Obligations.AccumulatorInstructionsIssueTheirSums
  intro s ad aa va vb sx k
  refine ⟨
    -- VMPY, VAZ
    issuesV_of_push rfl rfl (wbA_accSet fun _ => rfl), issuesV_of_push rfl rfl (wbA_accSet fun _ => rfl),
    -- VMAC, VMSB, VMACS, VACC
    issuesV_of_push rfl rfl (wbSum_accAdd fun _ => rfl), issuesV_of_push rfl rfl (wbSum_accAdd fun _ => rfl),
    issuesV_of_push rfl rfl (wbSum_accAdd fun _ => by rw [sHi_eq]), issuesV_of_push rfl rfl (wbSum_accAdd fun _ => rfl),
    -- AST, ALD
    fun vd => issuesV_of_push rfl rfl ⟨_, _, _, rfl, fun n hn => ⟨?_, ?_, ?_⟩⟩,
    fun v => issuesV_of_push rfl rfl (wbA_accSet fun n => ?_)⟩
  · rw [perLane_get _ hn]
    exact congrArg some (ofInt_toInt_ediv_of_le _ (by decide))
  · rw [perLane_get _ hn]
    exact congrArg some (ofInt_toInt_ediv_of_le _ (by decide))
  · rw [perLane_get _ hn, toInt_extractLsb'_top _ (by decide) (by decide)]
    rfl
  · rw [BitVec.truncate_eq_setWidth, BitVec.setWidth_eq_extractLsb' (by decide)]

end Sys2Proof.Machine

/-! ## Comparison, conversion and the functions whose value is free within a bound (04 R147, R152 to R154) -/
namespace Sys2Proof.Machine
open Stmt

/-! ### Values that the spec bounds (DESIGN CHOICE, log 2) -/

/-- A free value between the integers of an interval that holds one stays in the interval. -/
theorem ceil_add_emod_mem {a b : Rat} (h : a + 1 ≤ b) (f : Int) :
    a ≤ (a.ceil + f % (b.floor - a.ceil + 1) : Int) ∧ ((a.ceil + f % (b.floor - a.ceil + 1) : Int) : Rat) ≤ b := by
  have hle : a.ceil ≤ b.floor := Rat.le_floor_iff.mpr (Rat.ceil_lt.le.trans h)
  have h0 := Int.emod_nonneg f (by omega : b.floor - a.ceil + 1 ≠ 0)
  have h1 := Int.emod_lt_of_pos f (by omega : 0 < b.floor - a.ceil + 1)
  exact ⟨Rat.ceil_le_iff.mp (by omega), Rat.le_floor_iff.mp (by omega)⟩

/-- `within` stays within its tolerance. -/
theorem abs_within_sub_le {tol : Nat} (h : 1 ≤ tol) (x : Rat) (f : Nat) : |(within tol x f : Rat) - x| ≤ tol := by
  have ht : (1 : Rat) ≤ tol := by exact_mod_cast h
  obtain ⟨hlo, hhi⟩ := ceil_add_emod_mem (a := x - tol) (b := x + tol) (by linarith) f
  rw [within, abs_le]
  constructor <;> linarith

/-- A free value near a power of two over an integer. -/
theorem abs_within_recip_sub_le {tol : Nat} (h : 1 ≤ tol) (m : Nat) (d : Int) (f : Nat) :
    |(within tol ((2 ^ m : Nat) / (d : Rat)) f : Rat) - (2 ^ m : Rat) / d| ≤ tol := by
  have hb := abs_within_sub_le h ((2 ^ m : Nat) / (d : Rat)) f
  rwa [Nat.cast_pow, Nat.cast_ofNat] at hb ⊢

/-- The code of a sine is a clamped integer within 2 and 1/1000 of it (R154). -/
theorem sinCode_bound (v : Int) (f : Nat) : ∃ x : Int, sinCode v f = max (-32767) (min 32767 x) ∧ |(x : Rat) - v / 2 ^ 33| ≤ 2 + 1 / 1000 := by
  obtain ⟨hlo, hhi⟩ := ceil_add_emod_mem (a := (v : Rat) / 2 ^ 33 - 2 - 1 / 1000) (b := (v : Rat) / 2 ^ 33 + 2 + 1 / 1000) (by linarith) f
  refine ⟨_, clampInt_eq _ _ _ (by decide), abs_le.mpr ⟨?_, ?_⟩⟩ <;> linarith

/-! ### The square root -/

/-- `isqrt` searches the root bit by bit: with the bits from `2 ^ k` up fixed in `r`, it ends at the integer root. -/
theorem isqrt_spec (k x r : Nat) (hlo : r * r ≤ x) (hhi : x < (r + 2 ^ k) * (r + 2 ^ k)) :
    isqrt k x r * isqrt k x r ≤ x ∧ x < (isqrt k x r + 1) * (isqrt k x r + 1) := by
  induction k generalizing r with
  | zero => exact ⟨hlo, hhi⟩
  | succ k ih =>
    have hp : r + 2 ^ (k + 1) = r + 2 ^ k + 2 ^ k := by rw [pow_succ]; omega
    by_cases h : (r + 2 ^ k) * (r + 2 ^ k) ≤ x
    · rw [isqrt, if_pos h]
      exact ih _ h (hp ▸ hhi)
    · rw [isqrt, if_neg h]
      exact ih _ hlo (not_le.mp h)

/-- An integer at most 1 from the integer root `r`, limited to `top`; below `r` only where the root is exact. -/
theorem min_near_root {x : Nat} {r y top : Int} (hr : 0 ≤ r) (ht : 0 ≤ top) (hlo : r ^ 2 ≤ x) (hhi : (x : Int) < (r + 1) ^ 2)
    (hy : r - 1 ≤ y) (hy' : y ≤ r + 1) (hex : y = r - 1 → r ^ 2 = x) :
    min top y ≤ top ∧ -1 ≤ min top y ∧ (min top y ≤ 1 ∨ (min top y - 1) ^ 2 ≤ x) ∧ ((x : Int) ≤ (min top y + 1) ^ 2 ∨ min top y = top) := by
  refine ⟨min_le_left .., by omega, ?_, ?_⟩
  · by_cases h1 : min top y ≤ 1
    · exact Or.inl h1
    · exact Or.inr ((pow_le_pow_left₀ (by omega) (by omega : min top y - 1 ≤ r) 2).trans hlo)
  · rcases le_total top y with h | h
    · exact Or.inr (min_eq_left h)
    · rw [min_eq_right h]
      left
      by_cases hb : y = r - 1
      · rw [hb, sub_add_cancel, hex hb]
      · exact hhi.le.trans (pow_le_pow_left₀ (by omega) (by omega) 2)

/-- `nearRoot` is within 1 of the square root, or is limited to `top`. -/
theorem nearRoot_bounds {x top : Nat} (hx : x < 2 ^ 34) (f : Nat) :
    nearRoot x top f ≤ top ∧ -1 ≤ nearRoot x top f ∧ (nearRoot x top f ≤ 1 ∨ (nearRoot x top f - 1) ^ 2 ≤ x) ∧
      ((x : Int) ≤ (nearRoot x top f + 1) ^ 2 ∨ nearRoot x top f = top) := by
  obtain ⟨hlo, hhi⟩ := isqrt_spec 17 x 0 (Nat.zero_le _) (by simpa using hx)
  have hlo' : ((isqrt 17 x 0 : Nat) : Int) ^ 2 ≤ x := by rw [pow_two]; exact_mod_cast hlo
  have hhi' : (x : Int) < ((isqrt 17 x 0 : Nat) + 1 : Int) ^ 2 := by rw [pow_two]; exact_mod_cast hhi
  have near := fun y => min_near_root (y := y) (Int.natCast_nonneg _) (Int.natCast_nonneg top) hlo' hhi'
  by_cases h : isqrt 17 x 0 * isqrt 17 x 0 = x
  · have hsq : ((isqrt 17 x 0 : Nat) : Int) ^ 2 = x := by rw [pow_two]; exact_mod_cast h
    simp only [nearRoot, h, if_true]
    exact near _ (by omega) (by omega) fun _ => hsq
  · simp only [nearRoot, h, if_false]
    exact near _ (by omega) (by omega) fun _ => by omega

/-! ### VCMP and VETM -/

/-- The second operand of VCMP (Table 6). -/
theorem cmpB_eq (s : State) (sc : Bool) (vb sx n : Nat) :
    s.cmpB sc vb sx n = if sc then ((s.sReg sx).extractLsb' 0 16).toInt else s.vS vb n := by
  unfold State.cmpB signedOf
  congr 2
  apply BitVec.eq_of_toNat_eq
  simp

/-- The value of VETM (Table 7). -/
theorem etmOf_eq (a : Int) (p : Nat) (wrap : Bool) :
    etmOf a p wrap = if 0 ≤ a then roundShift (a * p) 15 else if wrap then p + roundShift (a * p) 15 else 0 := by
  unfold etmOf q15
  by_cases h : a < 0
  · rw [if_pos h, if_neg (not_le.mpr h)]
  · rw [if_neg h, if_pos (not_lt.mp h)]

/-! ### The functions, read in the state before their free values are drawn -/

/-- A V-slot instruction that draws `d` free values issues the write-back that `vIssue` pushes after them. -/
theorem issuesFree_of_push {d : Nat} {i : Instr} {s : State} {w : Wb} {P : State → Wb → Prop} (h : exec i s = .next (settle s (s.issueV i)))
    (hw : s.newWord.vIssue i = ({ s.newWord with free := s.newWord.free + d } : State).push w) (hp : P s.newWord w) : IssuesFree d i s P :=
  ⟨w, by rw [h, State.issueV, hw]; rfl, hp⟩

/-- VRECIP's exact result in lane `n` (Table 7): the largest value for 0, otherwise a free value near the reciprocal. -/
def State.recipCode (s : State) (va l n : Nat) : Int := if s.vS va n == 0 then 0x7FFF else s.recipLane s.free va l n

theorem recipCode_of_zero {s : State} {va n : Nat} (h : s.vS va n = 0) (l : Nat) : s.recipCode va l n = 32767 := if_pos (beq_iff_eq.mpr h)

/-- The reciprocal of a lane is within 2 of the exact one (R154). -/
theorem recipCode_bound {s : State} {va n : Nat} (h : s.vS va n ≠ 0) (l : Nat) :
    |(s.recipCode va l n : Rat) - (2 ^ (30 - l) : Rat) / s.vS va n| ≤ 2 := by
  rw [State.recipCode, if_neg (mt beq_iff_eq.mp h)]
  exact abs_within_recip_sub_le (tol := 2) (by decide) ..

/-- What VRECIP issues. -/
theorem fxVrecip_eq (s : State) (vd va l k : Nat) : s.fxVrecip vd va l k = ({ s with free := s.free + 64 } : State).push
    { wb 6 [.vec vd (s.kReg k) (perLane fun n => sat16 (s.recipCode va l n))] with
      flags := [s.inK k fun n => !(s.vS va n == 0) && !fitsS 16 (s.recipCode va l n), 0, s.inK k fun n => s.vS va n == 0] } := rfl

/-- VSQRT's result in lane `n` when the lane is not negative. -/
def State.rootCode (s : State) (va n : Nat) : Int := nearRoot ((s.vS va n).toNat * 2 ^ 15) 0x7FFF (freeLane s.free n)

/-- The root of a lane is within 1 of the exact one, or the largest value (R154). -/
theorem rootCode_bounds {s : State} {va n : Nat} (h : 0 ≤ s.vS va n) : s.rootCode va n ≤ 32767 ∧ -1 ≤ s.rootCode va n ∧
    (s.rootCode va n ≤ 1 ∨ (s.rootCode va n - 1) ^ 2 ≤ s.vS va n * 32768) ∧
      (s.vS va n * 32768 ≤ (s.rootCode va n + 1) ^ 2 ∨ s.rootCode va n = 32767) := by
  have hlt : s.vS va n < 2 ^ 15 := BitVec.toInt_lt
  have hx : (((s.vS va n).toNat * 2 ^ 15 : Nat) : Int) = s.vS va n * 32768 := by omega
  have hb := nearRoot_bounds (x := (s.vS va n).toNat * 2 ^ 15) (top := 0x7FFF) (by omega) (freeLane s.free n)
  rwa [hx] at hb

/-- What VSQRT issues. -/
theorem fxVsqrt_eq (s : State) (vd va k : Nat) : s.fxVsqrt vd va k = ({ s with free := s.free + 64 } : State).push
    (wbSat 6 [.vec vd (s.kReg k) (perLane fun n => if decide (s.vS va n < 0) then 0 else BitVec.ofInt 16 (s.rootCode va n))]
      (s.inK k fun n => decide (s.vS va n < 0))) := rfl

/-- The angle of VSINCOS in lane `n`, in parts of 2^32 of a turn. -/
def State.angle (s : State) (va sx n : Nat) : Nat := ((s.sReg sx).toNat + (s.vLane va n).toNat * 2 ^ 16) % 2 ^ 32

/-- What VSINCOS issues. -/
theorem fxVsincos_eq (s : State) (p va sx k : Nat) : s.fxVsincos p va sx k = ({ s with free := s.free + 128 } : State).push
    (wb 5 [.vec (2 * p) (s.kReg k) (perLane fun n => BitVec.ofInt 16 (sinCode (sinFix (s.angle va sx n)) (freeLane s.free n))),
      .vec (2 * p + 1) (s.kReg k) (perLane fun n =>
        BitVec.ofInt 16 (sinCode (sinFix ((s.angle va sx n + 2 ^ 30) % 2 ^ 32)) (freeLane (s.free + 64) n)))]) := rfl

/-! ### The obligation -/

/-- Settles O3: VCMP by the cases of its condition, VETM by `etmOf_eq`, and the functions by the bounds of their free values (`recipCode_bound`,
`rootCode_bounds`, `sinCode_bound`). -/
theorem compareAndFunctionInstructionsIssueTheirResults : Obligations.CompareAndFunctionInstructionsIssueTheirResults := by
  unfold Obligations.CompareAndFunctionInstructionsIssueTheirResults
  intro s vd va vb sx k
  refine ⟨rfl, fun kd cc sc => issuesV_of_push rfl rfl ⟨_, rfl, fun n hn => ?vcmp⟩,
    fun p wrap => issuesV_of_push rfl rfl ⟨_, _, _, rfl, fun n hn => ⟨?etmLow, ?etmHigh, ?etmSat⟩⟩,
    fun l => issuesFree_of_push rfl (fxVrecip_eq ..) ⟨_, _, _, rfl, fun n hn =>
      ⟨_, ?recip, (recipCode_of_zero · l), (recipCode_bound · l), ?recipDz, ?recipSat⟩⟩,
    issuesFree_of_push rfl (fxVsqrt_eq ..) ⟨_, _, rfl, fun n hn => ⟨fun h => ?rootNegative, fun h => ⟨_, ?root, rootCode_bounds h⟩, ?rootSat⟩⟩,
    fun p => issuesFree_of_push rfl (fxVsincos_eq ..) ⟨_, _, rfl, fun n hn => ?sincos⟩⟩
  case vcmp =>
    rw [lanesWhere_getLsbD_lane _ hn, cmpB_eq]
    fin_cases cc <;> simp [condHolds]
  case etmLow =>
    rw [perLane_get _ hn]
    exact congrArg (fun x => some (BitVec.ofInt 16 x)) (etmOf_eq ..)
  case etmHigh =>
    rw [perLane_get _ hn]
    exact congrArg (fun x => some (BitVec.ofInt 16 (x / 65536))) (etmOf_eq ..)
  case etmSat => rw [inK_getLsbD _ _ _ hn, Bool.and_eq_true, Bool.not_eq_true', decide_eq_true_iff]
  case recip => rw [perLane_get _ hn, sat16_eq]
  case recipDz => rw [inK_getLsbD _ _ _ hn, beq_iff_eq]
  case recipSat => rw [inK_getLsbD _ _ _ hn, Bool.and_eq_true, not_fitsS16_iff, Bool.not_eq_true', beq_eq_false_iff_ne]
  case rootNegative => rw [perLane_get _ hn, if_pos (decide_eq_true h)]
  case root => rw [perLane_get _ hn, if_neg (by rw [decide_eq_true_iff]; omega)]
  case rootSat => rw [inK_getLsbD _ _ _ hn, decide_eq_true_iff]
  case sincos =>
    obtain ⟨x, hx, hxb⟩ := sinCode_bound (sinFix (s.newWord.angle va sx n)) (freeLane s.newWord.free n)
    obtain ⟨y, hy, hyb⟩ := sinCode_bound (sinFix ((s.newWord.angle va sx n + 2 ^ 30) % 2 ^ 32)) (freeLane (s.newWord.free + 64) n)
    exact ⟨x, y, by rw [perLane_get _ hn, hx], by rw [perLane_get _ hn, hy], hxb, hyb⟩

end Sys2Proof.Machine

/-! ## Cross-lane and table operations (04 R158 to R162) -/
namespace Sys2Proof.Machine
open Stmt

/-! ### Words of the M-slot that issue one write-back -/

/-- An M-slot instruction that pushes one write-back issues it. -/
theorem issuesM_of_push {i : Instr} {s : State} {keys : List Nat} {w : State → Wb} {P : State → Wb → Prop}
    (h : exec i s = .next (settle s (s.issueM keys fun b => b.push (w b)))) (hp : ∀ b, P b (w b)) : IssuesM i s keys P :=
  actsM_of_exec h ⟨_, rfl, hp _⟩

/-! ### Table interpolation (R160 to R162) -/

/-- The interpolated entry of VLUT, with the size of the table written out (R160). -/
theorem lutLane_eq (s : State) (base va m : Nat) (sgn : Bool) (n : Nat) :
    let u := (if sgn then s.vS va n + 32768 else s.vS va n).toNat
    let sh := if sgn then 14 - m else 13 - m
    let e0 := (s.rowLane ((base + u / 2 ^ sh) % 2048) n).toInt
    let e1 := (s.rowLane ((base + u / 2 ^ sh + 1) % 2048) n).toInt
    s.lutLane base va (m + 2) sgn n = e0 + roundShift (((u % 2 ^ sh : Nat) : Int) * (e1 - e0)) sh := by
  have hs : 16 - (m + 2) = 14 - m := by omega
  have hu : 15 - (m + 2) = 13 - m := by omega
  cases sgn
  · simp only [State.lutLane, lutIndex, hu, Bool.false_eq_true, if_false]
  · simp only [State.lutLane, lutIndex, hs, if_true]

/-- Row `r` of a table at `base` in lane `n`. -/
def State.tableRow (s : State) (base n r : Nat) : BitVec 16 := s.rowLane ((base + r) % 2048) n

/-- Whether bin `j` of LUTB's band holds learned data in lane `n` (R161). -/
def State.binValid (s : State) (base band n j : Nat) : Bool := j ≤ 15 && (s.tableRow base n (64 + band)).getLsbD j

/-- The learned value of bin `j`. -/
def State.binValue (s : State) (base band n j : Nat) : Int := (s.tableRow base n (16 * band + j)).toInt

/-- The value of bin `jc` blended with that of a neighbour `jn`, when that is valid (R162). -/
def State.binBlend (s : State) (base band n jc jn : Nat) (w : Int) : Int :=
  if s.binValid base band n jn then s.binValue base band n jc + roundShift (w * (s.binValue base band n jn - s.binValue base band n jc)) 11
  else s.binValue base band n jc

/-- A row has a bit for each of the bins 0 to 15, and no other. -/
theorem binValid_eq_testBit (s : State) (base band n j : Nat) :
    s.binValid base band n j = (s.tableRow base n (64 + band)).toNat.testBit j := by
  by_cases hj : j ≤ 15
  · rw [State.binValid, decide_eq_true hj, Bool.true_and]; rfl
  · rw [State.binValid, decide_eq_false hj, Bool.false_and]
    exact (BitVec.getLsbD_of_ge _ _ (by omega)).symm

/-- No bin is above 15. -/
theorem binValid_of_gt {j : Nat} (h : 15 < j) (s : State) (base band n : Nat) : s.binValid base band n j = false := by
  rw [State.binValid, decide_eq_false (by omega), Bool.false_and]

/-- LUTB in one lane (R162): the factory default of a bin that is not valid; otherwise the bin's value, blended with the neighbour on the
side of its centre on which the load lies. -/
theorem lutbLane_eq (s : State) (base band va n : Nat) :
    let p := (s.vS va n).toNat
    let jc := p / 2048
    s.lutbLane base band va n = (if !s.binValid base band n jc then (s.tableRow base n (68 + jc)).toInt
      else if p < 2048 * jc + 1024 then
        (if jc = 0 then s.binValue base band n jc else s.binBlend base band n jc (jc - 1) (2048 * jc + 1024 - p))
      else s.binBlend base band n jc (jc + 1) (p - (2048 * jc + 1024)), s.binValid base band n jc) := by
  have hvalid : ∀ j, (s.rowLane ((base + (64 + band)) % 2048) n).toNat.testBit j = s.binValid base band n j :=
    fun j => (binValid_eq_testBit s base band n j).symm
  unfold State.lutbLane
  generalize (s.vS va n).toNat = p
  dsimp only
  generalize p / 2048 = jc
  simp only [hvalid]
  cases hv : s.binValid base band n jc
  case false => rfl
  case true =>
    simp only [Bool.not_true, Bool.false_eq_true, if_false]
    by_cases hp : p < 2048 * jc + 1024
    · have hw : ((2048 * jc + 1024 - p : Nat) : Int) = 2048 * jc + 1024 - p := by omega
      by_cases h0 : jc = 0
      · simp only [if_pos hp, if_pos h0]
        rfl
      · simp only [if_pos hp, if_neg h0, hw, State.binBlend]
        cases s.binValid base band n (jc - 1) <;> rfl
    · have hw : ((p - (2048 * jc + 1024) : Nat) : Int) = p - (2048 * jc + 1024) := by omega
      by_cases h15 : jc + 1 ≤ 15
      · simp only [if_neg hp, if_pos h15, hw, State.binBlend]
        cases s.binValid base band n (jc + 1) <;> rfl
      · simp only [if_neg hp, if_neg h15, State.binBlend, binValid_of_gt (not_le.mp h15)]
        rfl

/-- Settles O5, by `lutLane_eq` and `lutbLane_eq` in each lane. -/
theorem tableInstructionsInterpolate : Obligations.TableInstructionsInterpolate := by
  unfold Obligations.TableInstructionsInterpolate
  intro s vd va sb k
  refine ⟨fun m sgn => issuesM_of_push rfl fun b => ⟨_, _, rfl, fun n hn => ⟨?lutValue, ?lutFlag⟩⟩,
    fun kd => issuesM_of_push rfl fun b => ⟨_, _, _, _, rfl, fun n hn => ⟨?binValue, ?binKnown, ?binLut, ?binLowc⟩⟩⟩
  case lutValue =>
    rw [perLane_get _ hn, lutLane_eq]
    rfl
  case lutFlag => rw [inK_getLsbD _ _ _ hn, Bool.and_eq_true, Bool.not_eq_true', decide_eq_true_iff]
  case binValue =>
    rw [List.getElem?_map, perLane_get _ hn, lutbLane_eq]
    rfl
  case binKnown =>
    rw [lanesWhere_getLsbD_lane _ hn, perLane_getD _ _ hn, lutbLane_eq]
    rfl
  case binLut => rw [inK_getLsbD _ _ _ hn, decide_eq_true_iff]
  case binLowc =>
    rw [inK_getLsbD _ _ _ hn, Bool.not_eq_true']
    refine and_congr_right fun _ => ?_
    beta_reduce
    rw [perLane_getD _ _ hn, lutbLane_eq]
    rfl

/-! ### Ranks and reductions (R158, R159) -/

/-- The rank of a lane counts the lanes of the set that come before it (R158). -/
theorem rankOf_eq (s : State) (va : Nat) (ke : Word64) (desc : Bool) (i : Nat) : s.rankOf va ke desc i =
    if ke.getLsbD i then (List.range 64).countP fun j => ke.getLsbD j &&
      decide ((if desc then s.vS va i < s.vS va j else s.vS va j < s.vS va i) ∨ (s.vS va j = s.vS va i ∧ j < i)) else 63 := by
  have hbefore : ∀ j, s.rankBefore va desc j i =
      decide ((if desc then s.vS va i < s.vS va j else s.vS va j < s.vS va i) ∨ (s.vS va j = s.vS va i ∧ j < i)) := fun j => by
    cases desc <;> simp [State.rankBefore, Bool.decide_or, Bool.decide_and, beq_eq_decide]
  simp only [State.rankOf, inMask_eq, hbefore, List.countP_eq_length_filter]

/-- A running maximum is at least its start and every value, and is one of them. -/
theorem foldl_max_spec (f : Nat → Int) (l : List Nat) (a : Int) :
    let x := l.foldl (fun t n => max t (f n)) a
    a ≤ x ∧ (∀ n ∈ l, f n ≤ x) ∧ ((∃ n ∈ l, x = f n) ∨ x = a) := by
  induction l generalizing a with
  | nil => exact ⟨le_rfl, fun n hn => absurd hn List.not_mem_nil, Or.inr rfl⟩
  | cons m l ih =>
    obtain ⟨hstart, hall, hone⟩ := ih (max a (f m))
    refine ⟨(le_max_left ..).trans hstart, List.forall_mem_cons.mpr ⟨(le_max_right ..).trans hstart, hall⟩, ?_⟩
    rcases hone with ⟨n, hn, hx⟩ | hx
    · exact Or.inl ⟨n, List.mem_cons_of_mem _ hn, hx⟩
    · rcases max_choice a (f m) with h | h
      · exact Or.inr (hx.trans h)
      · exact Or.inl ⟨m, List.mem_cons_self, hx.trans h⟩

/-- A running minimum is the negated running maximum of the negated values. -/
theorem foldl_min_eq_neg (f : Nat → Int) (l : List Nat) (a : Int) :
    l.foldl (fun t n => min t (f n)) a = -l.foldl (fun t n => max t (-f n)) (-a) := by
  induction l generalizing a with
  | nil => exact (neg_neg a).symm
  | cons m l ih => rw [List.foldl_cons, List.foldl_cons, ih, max_neg_neg]

/-- A running minimum is at most its start and every value, and is one of them. -/
theorem foldl_min_spec (f : Nat → Int) (l : List Nat) (a : Int) :
    let x := l.foldl (fun t n => min t (f n)) a
    (∀ n ∈ l, x ≤ f n) ∧ ((∃ n ∈ l, x = f n) ∨ x = a) := by
  obtain ⟨-, hall, hone⟩ := foldl_max_spec (fun n => -f n) l (-a)
  dsimp only
  rw [foldl_min_eq_neg]
  refine ⟨fun n hn => by linarith [hall n hn], hone.imp (fun ⟨n, hn, hx⟩ => ⟨n, hn, by rw [hx, neg_neg]⟩) fun hx => by rw [hx, neg_neg]⟩

/-- A running sum from 0. -/
theorem foldl_add_eq_sum (f : Nat → Int) (l : List Nat) : l.foldl (fun t n => t + f n) 0 = (l.map f).sum := by
  rw [List.sum_eq_foldl, List.foldl_map]

/-- Settles O6: the ranks by `rankOf_eq`, the reductions by what a running sum, maximum and minimum are, the other lanes as they are read. -/
theorem crossLaneInstructionsIssueTheirResults : Obligations.CrossLaneInstructionsIssueTheirResults := by
  unfold Obligations.CrossLaneInstructionsIssueTheirResults
  intro s vd va vb sd sb j ke k sel
  have low16 : ∀ x : Word, x.truncate 16 = x.extractLsb' 0 16 := fun _ => BitVec.setWidth_eq_extractLsb' (by decide)
  refine ⟨
    -- VRANK, VRSUM, VRMAX, VRMIN
    fun desc => issuesM_of_push rfl fun b => wbV_plain_of_eq fun i => ?rank, issuesM_of_push rfl fun b => ?sum,
    issuesM_of_push rfl fun b => ⟨_, rfl, (foldl_max_spec ..).2⟩, issuesM_of_push rfl fun b => ⟨_, rfl, foldl_min_spec ..⟩,
    -- VROT, VBCAST of a scalar and of a lane, VGATH
    issuesM_of_push rfl fun b => wbV_plain .., issuesM_of_push rfl fun b => wbV_plain_of_eq fun _ => low16 _,
    issuesM_of_push rfl fun b => wbV_plain .., issuesM_of_push rfl fun b => wbV_plain ..,
    -- VEXT, VINS
    issuesM_of_push rfl fun b => rfl, issuesM_of_push rfl fun b => ⟨_, wbV_plain_of_eq fun _ => low16 _, fun n hn => ?insert⟩⟩
  case rank =>
    rw [rankOf_eq]
    split <;> rfl
  case sum =>
    rw [foldl_add_eq_sum]
    rfl
  case insert => rw [BitVec.getLsbD_and, lanesWhere_getLsbD_lane _ hn, Bool.and_eq_true, beq_iff_eq]

end Sys2Proof.Machine

/-! ## Scalar and mask operations (04 R163 to R166) -/
namespace Sys2Proof.Machine
open Stmt

/-! ### Scalar results -/

/-- A scalar result that saturates to `w` bits, with SSAT where it does not fit (R144). -/
theorem wbScal_scalSat (lat r w : Nat) (x : Int) : ScalSat lat r w x (wbScal lat r w x) := by
  have hmin : minS w = -(2 ^ (w - 1)) := by simp [minS]
  have hmax : maxS w = 2 ^ (w - 1) - 1 := by simp [maxS]
  have hpos : (0 : Int) < 2 ^ (w - 1) := by positivity
  refine ⟨!fitsS w x, ?_, ?_⟩
  · rw [wbScal, clampInt_eq _ _ _ (by omega), hmin, hmax]
    rfl
  · rw [Bool.not_eq_true', ← Bool.not_eq_true, fitsS, Bool.and_eq_true, decide_eq_true_iff, decide_eq_true_iff, hmin, hmax]
    omega

/-- A scalar result, in another spelling of the value. -/
theorem wbS_scal {lat r : Nat} {v x : Word} (h : v = x) : Scal lat r x (wbS lat r v) := by
  rw [h]
  rfl

/-! Sums, differences and products of words are those of their signed values. -/

theorem add_eq_ofInt {w : Nat} (x y : BitVec w) : x + y = BitVec.ofInt w (x.toInt + y.toInt) := by
  rw [BitVec.ofInt_add, BitVec.ofInt_toInt, BitVec.ofInt_toInt]

theorem sub_eq_ofInt {w : Nat} (x y : BitVec w) : x - y = BitVec.ofInt w (x.toInt - y.toInt) := by
  rw [sub_eq_add_neg x.toInt, BitVec.ofInt_add, BitVec.ofInt_neg, BitVec.ofInt_toInt, BitVec.ofInt_toInt, BitVec.sub_eq_add_neg]

theorem mul_eq_ofInt {w : Nat} (x y : BitVec w) : x * y = BitVec.ofInt w (x.toInt * y.toInt) := by
  rw [BitVec.ofInt_mul, BitVec.ofInt_toInt, BitVec.ofInt_toInt]

/-- A left shift multiplies. -/
theorem shiftLeft_eq_ofInt {w : Nat} (x : BitVec w) (n : Nat) : x <<< n = BitVec.ofInt w (x.toInt * 2 ^ n) := by
  have hpow : BitVec.twoPow w n = BitVec.ofInt w (2 ^ n) := by
    rw [← Nat.cast_ofNat, ← Nat.cast_pow, BitVec.ofInt_natCast]
    exact BitVec.eq_of_toNat_eq (by rw [BitVec.toNat_twoPow, BitVec.toNat_ofNat])
  rw [BitVec.ofInt_mul, BitVec.ofInt_toInt, BitVec.shiftLeft_eq_mul_twoPow, hpow]

/-- An arithmetic right shift divides, rounding down. -/
theorem sshiftRight_eq_ofInt {w : Nat} (x : BitVec w) (n : Nat) : x.sshiftRight n = BitVec.ofInt w (x.toInt / 2 ^ n) := by
  rw [ofInt_toInt_ediv, BitVec.signExtend_eq]

/-- A logical right shift divides the unsigned value. -/
theorem ushiftRight_eq_ofNat {w : Nat} (x : BitVec w) (n : Nat) : x >>> n = BitVec.ofNat w (x.toNat / 2 ^ n) := by
  rw [← Nat.shiftRight_eq_div_pow, ← BitVec.toNat_ushiftRight, BitVec.ofNat_toNat, BitVec.setWidth_eq]

/-- SRECIP draws one free value; it gives the largest value and SDZ for 0, and otherwise a value within 4 of the reciprocal (R164). -/
theorem fxSrecip_bound (s : State) (sd sa l : Nat) : ∃ w,
    s.fxSrecip sd sa l = { s with free := s.free + 1, eng := { s.eng with pend := s.eng.pend ++ [w] } } ∧
    (s.sReg sa = 0 → w = { left := 6, acts := [.scal sd 0x7FFFFFFF#32], flags := [], ssat := false, sdz := true }) ∧
    (s.sReg sa ≠ 0 → ∃ q : Int, ScalSat 6 sd 32 q w ∧ |q - (2 ^ (62 - l) : Rat) / s.sS sa| ≤ 4) := by
  by_cases h : s.sReg sa = 0
  · exact ⟨_, if_pos h, fun _ => rfl, fun hne => absurd h hne⟩
  · have hb := abs_within_recip_sub_le (tol := 4) (by decide) (62 - l) (s.sS sa) (Config.freeValue s.free).toNat
    exact ⟨_, if_neg h, fun h0 => absurd h0 h, fun _ => ⟨_, wbScal_scalSat .., hb⟩⟩

/-- Settles O7: each word operation is the operation on signed or unsigned values (`add_eq_ofInt` and its like), a saturating result is
`wbScal_scalSat`, and SRECIP is `fxSrecip_bound`. -/
theorem scalarAndMaskOperationsIssueTheirResults : Obligations.ScalarAndMaskOperationsIssueTheirResults := by
  unfold Obligations.ScalarAndMaskOperationsIssueTheirResults
  intro s sd sa sb imm kd ka kb
  exact ⟨
    -- SMOV, SADD.I, SSUB.I, SADD.Q, SSUB.Q, SMUL.I, SMUL.Q
    issuesM_of_push rfl fun _ => rfl,
    issuesM_of_push rfl fun _ => wbS_scal (add_eq_ofInt ..),
    issuesM_of_push rfl fun _ => wbS_scal (sub_eq_ofInt ..),
    issuesM_of_push rfl fun _ => wbScal_scalSat ..,
    issuesM_of_push rfl fun _ => wbScal_scalSat ..,
    issuesM_of_push rfl fun _ => wbS_scal (mul_eq_ofInt ..),
    issuesM_of_push rfl fun _ => wbScal_scalSat ..,
    -- SAND, SOR, SXOR, SSHL, SSHRA, SSHRL
    issuesM_of_push rfl fun _ => rfl, issuesM_of_push rfl fun _ => rfl, issuesM_of_push rfl fun _ => rfl,
    fun _ => issuesM_of_push rfl fun _ => wbS_scal (shiftLeft_eq_ofInt ..),
    fun _ => issuesM_of_push rfl fun _ => wbS_scal (sshiftRight_eq_ofInt ..),
    fun _ => issuesM_of_push rfl fun _ => wbS_scal (ushiftRight_eq_ofNat ..),
    -- SMIN, SMAX, SSAT16
    issuesM_of_push rfl fun _ => wbS_scal (ofInt_min_toInt ..).symm,
    issuesM_of_push rfl fun _ => wbS_scal (ofInt_max_toInt ..).symm,
    issuesM_of_push rfl fun _ => wbScal_scalSat ..,
    -- SLIL, SLIH, SGET, SRECIP
    issuesM_of_push rfl fun _ => wbS_scal (BitVec.setWidth_eq_append (by decide)),
    issuesM_of_push rfl fun _ => wbS_scal (congrArg (imm ++ ·) (BitVec.setWidth_eq_extractLsb' (by decide))),
    fun _ => issuesM_of_push rfl fun _ => rfl,
    fun _ => actsM_of_exec rfl (fxSrecip_bound ..),
    -- KMOV, KAND, KOR, KXOR, KANDN, KNOT, FLGK
    issuesM_of_push rfl fun _ => rfl, issuesM_of_push rfl fun _ => rfl, issuesM_of_push rfl fun _ => rfl,
    issuesM_of_push rfl fun _ => rfl, issuesM_of_push rfl fun _ => rfl, issuesM_of_push rfl fun _ => rfl,
    fun _ => issuesM_of_push rfl fun _ => rfl⟩

end Sys2Proof.Machine

/-! ## Commands of hosts that take a slot or end within their start, and queries (16 R587, R589, R590, R605, R606) -/
namespace Sys2Proof.Machine
open Sys2Proof.Stmt

/-! ### The state from which a command's meaning acts -/

/-- What holds of the command `c` and of the state `b` when the meaning of `c` acts: nothing but the host port has worked since `s`, no
slot is taken, and no partner is linked. -/
structure ActsFrom (s : State) (c : HCmd) (b : State) : Prop where
  work : HostWork c.key.flow s b
  flow : c.key.flow < 5
  hseq : c.hseq < 2 ^ 32
  body : bodyOk c.opc c.cls c.body = true
  ops : b.host.ops = []
  room : b.host.queue.length < 64
  linked : b.linked = false

/-- From a state with property `P` the outcome of a start answers `c` with the word `w` and the data `d`. -/
def StartAnswers (c : HCmd) (w : Nat) (d : List Word) (P : State → Prop) (e : CmdRes × State) : Prop :=
  ∃ x, P x ∧ Answers x (e.2.answerStart c e.1) c w d

theorem bodyOk_of_badCmd {s : State} {c : HCmd} (h : s.badCmd c = none) : bodyOk c.opc c.cls c.body = true := by
  by_contra hb
  have hbad : ((c.cls != 0 && c.key.seq == 0) || !bodyOk c.opc c.cls c.body || !nodeOk c.node) = true := by
    simp only [Bool.not_eq_true] at hb
    simp only [hb, Bool.not_false, Bool.or_true, Bool.true_or]
  simp only [State.badCmd, hbad, if_true] at h
  split_ifs at h

theorem frame_flow_lt {s : State} {h : HostHdr} {opc : Nat} {body : List Word} {c : HCmd} (hF : Frame s h opc body c) : c.key.flow < 5 := by
  obtain ⟨-, -, -, -, -, hqspi, heth⟩ := hF
  by_cases hp : h.port = .qspi
  · rw [(hqspi hp).1]; decide
  · exact Nat.lt_succ_of_lt (heth hp).1

/-- The frame names its opcode and its number. -/
theorem frame_cmd {s : State} {h : HostHdr} {opc : Nat} {body : List Word} {c : HCmd} (hF : Frame s h opc body c) :
    c.opc = opc ∧ c.hseq < 2 ^ 32 := by
  obtain ⟨-, -, -, -, hc, -⟩ := hF
  rw [hc]
  exact ⟨rfl, h.seq.isLt⟩

/-- Work of the host port alone brings an accepted command to where its meaning acts. -/
theorem actsFrom_of_work {s b : State} {h : HostHdr} {opc : Nat} {body : List Word} {c : HCmd} (hF : Frame s h opc body c) (hA : Accepted s c)
    (hQ : HostQuiet s) (hL : s.linked = false) (hw : QuietWork c.key.flow s b) : ActsFrom s c b := by
  obtain ⟨hbad, -⟩ := hA
  obtain ⟨-, -, hops, -, hroom, -⟩ := hQ
  exact ⟨hw.work, frame_flow_lt hF, (frame_cmd hF).2, bodyOk_of_badCmd hbad, hw.work.ops.trans hops, by rw [hw.queue]; exact hroom,
    (hostWork_linked hw.work).trans hL⟩

/-! ### Volatile commands -/

/-- ACCEPTED goes out for the command that is alone in its flow, whatever slots are taken. -/
theorem accept_answers_of_alone {b x : State} {c : HCmd} (h : RunsAlone c b) (hflows : x.host.flows = b.host.flows)
    (hqueue : x.host.queue = b.host.queue) : Answers x (x.accept c.key) c 1 [] := by
  obtain ⟨hf, hcls, -, hroom, r, ht, rfl, hacc, hun, happ⟩ := h
  rw [← flow_congr hflows] at ht
  rw [← hqueue] at hroom
  have heq : x.accept r.cmd.key = (x.updRec r.cmd.key fun r => { r with accepted := true }).respond r.cmd 1 1 [] := by
    simp [State.accept, hf, ht, hacc, happ, hun, b2n]
  have hy := updRec_quietWork (s := x) hf fun r => { r with accepted := true }
  rw [heq]
  exact answers_of_respond hcls hy.work hy.tx hy.queue hroom (.refl _ _) rfl rfl fun hn => absurd rfl hn

theorem answerStart_wait {c : HCmd} (hcls : c.cls = 1) (x : State) : x.answerStart c .wait = x.accept c.key := by
  simp [State.answerStart, HCmd.ownQuery, hcls]

/-- A meaning that leaves the host port alone is answered as its outcome says. -/
theorem startAnswers_of_hasEffect {c : HCmd} {b : State} {w : Nat} {d : List Word} {P : State → Prop} {e : CmdRes × State}
    (h : RunsAlone c b) (he : HasEffect b w d P e) : StartAnswers c w d P e := by
  obtain ⟨hw, hd, hhost, hP⟩ := he
  exact ⟨e.2, hP, hw ▸ hd ▸ answerStart_answers (h.congr hhost) e.1⟩

/-- A meaning that goes on in a slot is answered ACCEPTED. -/
theorem startAnswers_of_slot {c : HCmd} {b x : State} {P : State → Prop} (h : RunsAlone c b) (hflows : x.host.flows = b.host.flows)
    (hqueue : x.host.queue = b.host.queue) (hP : P x) : StartAnswers c 1 [] P (.wait, x) := by
  refine ⟨x, hP, ?_⟩
  rw [answerStart_wait h.cls]
  exact accept_answers_of_alone h hflows hqueue

/-- A command that is no longer in its flow is not acknowledged. -/
theorem accept_of_gone {u : State} {c : HCmd} (h : ∀ r ∈ (u.flow c.key.flow).taken, r.cmd.key ≠ c.key) : u.accept c.key = u := by
  have hfind : (u.flow c.key.flow).taken.find? (·.cmd.key == c.key) = none := by simpa using h
  simp [State.accept, hfind]

/-- A meaning that ends the command itself is answered DONE, once. -/
theorem startAnswers_of_done {c : HCmd} {b x : State} {d : List Word} {P : State → Prop} (h : RunsAlone c b) (hhost : x.host = b.host)
    (hP : P x) : StartAnswers c 2 d P (.wait, x.done c.key d) := by
  have hans := finishOwn_answers (h.congr hhost) 2 d
  have hdone : x.done c.key d = x.finishOwn c.key 2 d := by simp [State.done, State.finish, h.flow]
  obtain ⟨-, -, -, hfinal⟩ := id hans
  obtain ⟨hgone, -⟩ := hfinal (by rw [h.cls]; decide) (by decide)
  refine ⟨x, hP, ?_⟩
  rw [answerStart_wait h.cls, hdone, accept_of_gone hgone]
  exact hans

section
variable {s : State} {mk : HostHdr → List Word → Instr} {opc : Nat} {B : HCmd → Prop} {w : HCmd → State → Nat}
  {d : HCmd → State → List Word} {P : HCmd → State → State → Prop} {run : State → HCmd → CmdRes × State}

/-- A volatile command runs as its meaning is answered. -/
theorem starts_of_startAnswers (hexec : ∀ h l, exec (mk h l) s = .next (settle s (s.rxStart h opc l)))
    (hperf : ∀ (b : State) (c : HCmd), c.opc = opc → b.perform c false = if !stateAllows b.dev opc then (.failed 1, b) else run b c)
    (h : ∀ c b, c.opc = opc → ActsFrom s c b → RunsAlone c b → B c → StartAnswers c (w c b) (d c b) (P c b) (run b c)) :
    Starts mk opc 1 s B w d P := by
  intro hd body c hF hA hcls hQ hL hB
  obtain ⟨b, hw, hN, halone, hstart⟩ := rxStart_volatile hF hA hcls hQ hL
  obtain ⟨hopc, -⟩ := frame_cmd hF
  have hallow : stateAllows b.dev opc = true := by
    obtain ⟨-, -, hal, -⟩ := hA
    rw [hw.work.dev, ← hopc]; exact hal
  obtain ⟨x, hP, hans⟩ := h c b hopc (actsFrom_of_work hF hA hQ hL hw) halone hB
  rw [hperf b c hopc, hallow, Bool.not_true, if_neg Bool.false_ne_true] at hstart
  exact ⟨b, x, _, hw.work, hw.tx, hw.queue, fun _ => hN, hP, hans, by rw [hexec, hstart]⟩

end

/-! ### Queries (R589) -/

/-- A query waits for nothing in a quiet flow. -/
theorem rxCmd_query {s : State} {c : HCmd} (hA : Accepted s c) (hcls : c.cls = 0) (hQ : HostQuiet s) :
    s.rxCmd c.key.flow c = s.setFlow c.key.flow { s.flow c.key.flow with queries := [(s.host.order, c)] } := by
  obtain ⟨hbad, -⟩ := hA
  obtain ⟨hfl, -⟩ := hQ
  obtain ⟨-, -, hqueries⟩ := hfl c.key.flow
  simp [State.rxCmd, hcls, hbad, State.queryIn, hqueries]

/-- Only flow `f` holds a query, which is the command, and no flow holds another command. -/
structure OneQuery (c : HCmd) (n : Nat) (s : State) : Prop where
  taken : ∀ g, (s.flow g).taken = []
  ringCmds : s.host.ringCmds = []
  query : (s.flow c.key.flow).queries = [(n, c)]
  others : ∀ g, g ≠ c.key.flow → (s.flow g).queries = []

theorem OneQuery.waiting {c : HCmd} {n : Nat} {s : State} (h : OneQuery c n s) : s.waiting = [] := by
  simp [State.waiting, h.taken, h.ringCmds, List.range_succ]

theorem OneQuery.count {c : HCmd} {n : Nat} {s : State} (h : OneQuery c n s) (hf : c.key.flow < 5) :
    [0, 1, 2, 3, 4, 15].foldl (fun n f => n + (s.flow f).queries.length) 0 = 1 := by
  have hlen : ∀ g, (s.flow g).queries.length = if g = c.key.flow then 1 else 0 := fun g => by
    split
    · subst_vars; rw [h.query]; rfl
    · rw [h.others g ‹_›]; rfl
  simp only [List.foldl_cons, List.foldl_nil, hlen]
  interval_cases c.key.flow <;> rfl

theorem OneQuery.nextQuery {c : HCmd} {n : Nat} {s : State} (h : OneQuery c n s) (hf : c.key.flow < 5)
    (hr : s.resFree c = true) : s.nextQuery = some (c.key.flow, n, c) := by
  have hready : s.queryReady c.key.flow n c = true := by simp [State.queryReady, h.taken, hr]
  have hfirst : ∀ g, ((s.flow g).queries.find? fun e => s.queryReady g e.1 e.2).map (fun e => (g, e.1, e.2)) =
      if g = c.key.flow then some (c.key.flow, n, c) else none := fun g => by
    split
    · subst_vars; simp [h.query, hready]
    · simp [h.others g ‹_›]
  simp only [State.nextQuery, hfirst]
  clear hfirst
  generalize c.key.flow = f at *
  interval_cases f <;> rfl

/-- The only query of a quiet host port starts. -/
theorem OneQuery.startReady {c : HCmd} {n : Nat} {s : State} (h : OneQuery c n s) (hf : c.key.flow < 5) (hruns : s.hostRuns = true)
    (hr : s.resFree c = true) : s.startReady = s.startQuery c.key.flow n c := by
  simp [State.startReady, h.waiting, h.count hf, State.startMany, State.startOne, hruns, State.nextRec, h.nextQuery hf hr]

/-- The frame of a query is taken in, and the query starts, with everything but the host port as it was. -/
theorem rxStart_query {s : State} {h : HostHdr} {opc : Nat} {body : List Word} {c : HCmd} (hF : Frame s h opc body c) (hA : Accepted s c)
    (hcls : c.cls = 0) (hQ : HostQuiet s) : ∃ b, QuietWork c.key.flow s b ∧
      s.rxStart h opc body = (b.perform c false).2.answerStart c (b.perform c false).1 := by
  obtain ⟨t, hrx, hw, -, hQt, hAt⟩ := hostRx_admitted hF hA hQ
  have hf := frame_flow_lt hF
  obtain ⟨hdev, hoff, -⟩ := hF
  obtain ⟨-, hown, -⟩ := id hAt
  obtain ⟨hfl, hring, hops, -⟩ := id hQt
  let u := t.setFlow c.key.flow { t.flow c.key.flow with queries := [(t.host.order, c)] }
  have hone : OneQuery c t.host.order u := by
    refine ⟨fun g => ?_, hring, ?_, fun g hg => ?_⟩
    · rw [flow_setFlow]; split
      · exact (hfl _).2.1
      · exact (hfl g).2.1
    · rw [flow_setFlow_self]
    · rw [flow_setFlow, if_neg hg]; exact (hfl g).2.2
  have hwu : QuietWork c.key.flow s u := hw.trans (.setFlow _ _ _)
  have hruns : u.hostRuns = true := by simp [State.hostRuns, hwu.work.dev, hwu.work.sys, hdev, hoff]
  let b := u.setFlow c.key.flow { u.flow c.key.flow with queries := (u.flow c.key.flow).queries.erase (t.host.order, c) }
  have hdest : b.destOf c.node = .own := hown
  refine ⟨b, hwu.trans (.setFlow _ _ _), ?_⟩
  rw [State.rxStart, hrx, rxCmd_query hAt hcls hQt, hone.startReady hf hruns (resFree_of_no_ops hops c), State.startQuery]
  simp only [hdest, b]

/-- The answer to a query is one frame. -/
theorem answerStart_query {x : State} {c : HCmd} (hf : c.key.flow < 5) (hcls : c.cls = 0) (hroom : x.host.queue.length < 64) (res : CmdRes) :
    Answers x (x.answerStart c res) c (resWord res) (resData res) := by
  have hq : c.ownQuery = true := by simp [HCmd.ownQuery, hcls]; omega
  have heq : x.answerStart c res = x.respond c (resWord res) 0 (resData res) := by
    cases res <;> simp [State.answerStart, State.answerCmd, State.failCmd, hq, resWord, resData]
  obtain ⟨hw, he, hs⟩ := respond_sends c.key.flow x c (resWord res) 0 (resData res) hroom
  rw [hcls] at he hs
  rw [heq, Answers, hcls]
  exact ⟨hw, he, hs, fun hn => absurd rfl hn⟩

section
variable {s : State} {mk : HostHdr → List Word → Instr} {opc : Nat} {B : HCmd → Prop} {w : HCmd → State → Nat}
  {d : HCmd → State → List Word} {P : HCmd → State → State → Prop} {run : State → HCmd → CmdRes × State}

/-- A query runs as its meaning says. -/
theorem starts_query (hexec : ∀ h l, exec (mk h l) s = .next (settle s (s.rxStart h opc l)))
    (hperf : ∀ (b : State) (c : HCmd), c.opc = opc → b.perform c false = if !stateAllows b.dev opc then (.failed 1, b) else run b c)
    (h : ∀ c b, c.opc = opc → ActsFrom s c b → B c → resWord (run b c).1 = w c b ∧ resData (run b c).1 = d c b ∧
      (run b c).2.host.queue = b.host.queue ∧ P c b (run b c).2) :
    Starts mk opc 0 s B w d P := by
  intro hd body c hF hA hcls hQ hL hB
  obtain ⟨b, hw, hstart⟩ := rxStart_query hF hA hcls hQ
  obtain ⟨hopc, -⟩ := frame_cmd hF
  have hallow : stateAllows b.dev opc = true := by
    obtain ⟨-, -, hal, -⟩ := hA
    rw [hw.work.dev, ← hopc]; exact hal
  have hfrom := actsFrom_of_work hF hA hQ hL hw
  obtain ⟨hres, hdata, hqueue, hP⟩ := h c b hopc hfrom hB
  have hans := answerStart_query hfrom.flow hcls (by rw [hqueue]; exact hfrom.room) (run b c).1
  rw [hres, hdata] at hans
  rw [hperf b c hopc, hallow, Bool.not_true, if_neg Bool.false_ne_true] at hstart
  exact ⟨b, _, _, hw.work, hw.tx, hw.queue, fun hn => absurd hcls hn, hP, hans, by rw [hexec, hstart]⟩

end

end Sys2Proof.Machine

/-! ## O19: stepped commands (05 R202, R204, R205, 10 R396, 12 R467, 16 R595, R605, R606) -/
namespace Sys2Proof.Machine
open Sys2Proof.Stmt

/-! ### A slot is taken -/

theorem linked_of_get {s t : State} (h : t.get F.TWIN_STAT_TSTATE = s.get F.TWIN_STAT_TSTATE) : t.linked = s.linked := by
  rw [State.linked, h, State.linked]

/-- `x` is `b` after the command `c` has taken slot 0 with the counters `aux`; HOST_OP0 shows the command, and no register below the HOST
block is written. -/
structure SlotOpened (c : HCmd) (aux : List Nat) (total : Nat) (b x : State) : Prop where
  parts : ∃ regs, x = { b with regs, host := { b.host with ops := [(0, { cmd := c, aux, words := [] })] } }
  reg : ∀ a, a < 0x16000000 → x.reg a = b.reg a
  busy : x.on (F.HOST_OP_STAT_BUSY 0) = true
  opc : x.get (F.HOST_OP_STAT_OPC 0) = c.opc
  flow : x.get (F.HOST_OP_STAT_FLOW 0) = c.key.flow
  seq : x.regN (R.HOST_OP_SEQ 0) = c.hseq
  total : x.regN (R.HOST_OP_TOTAL 0) = total % 2 ^ 32

/-- The first slot is taken where none is. -/
theorem openSlot_opened {b : State} {c : HCmd} (hops : b.host.ops = []) (hf : c.key.flow < 5) (hseq : c.hseq < 2 ^ 32) (hopc : c.opc < 2 ^ 16)
    (aux : List Nat) (total : Nat) : SlotOpened c aux total b (b.openSlot c aux total) := by
  let t : State := ((({ b with host := { b.host with ops := [(0, { cmd := c, aux, words := [] })] } } : State).set
    (F.HOST_OP_STAT_BUSY 0) 1).set (F.HOST_OP_STAT_FLOW 0) c.key.flow).set (F.HOST_OP_STAT_OPC 0) c.opc
  have heq : b.openSlot c aux total = ((t.setRegN (R.HOST_OP_SEQ 0) c.hseq).setRegN (R.HOST_OP_DONE 0) 0).setRegN (R.HOST_OP_TOTAL 0) total := by
    have hslot : b.slotFree = some 0 := by simp [State.slotFree, hops, List.range_succ]
    have hshown : c.shownFlow = c.key.flow := if_pos hf
    simp only [State.openSlot, hslot, hops, hshown, spIns]
    rfl
  have hget : ∀ g : Fld, g.addr = R.HOST_OP_STAT 0 → (b.openSlot c aux total).get g = t.get g := fun g hg => by
    rw [heq, State.setRegN, get_setReg_ne _ _ _ _ (by rw [hg]; decide), State.setRegN, get_setReg_ne _ _ _ _ (by rw [hg]; decide),
      State.setRegN, get_setReg_ne _ _ _ _ (by rw [hg]; decide)]
  refine ⟨⟨_, heq⟩, fun a ha => ?_, ?_, ?_, ?_, ?_, ?_⟩
  · have hhigh : a ≠ R.HOST_OP_STAT 0 ∧ a ≠ R.HOST_OP_SEQ 0 ∧ a ≠ R.HOST_OP_DONE 0 ∧ a ≠ R.HOST_OP_TOTAL 0 := by
      simp only [R.HOST_OP_STAT, R.HOST_OP_SEQ, R.HOST_OP_DONE, R.HOST_OP_TOTAL]; omega
    obtain ⟨hstat, hs, hd, ht⟩ := hhigh
    rw [heq, reg_setRegN_ne _ ht, reg_setRegN_ne _ hd, reg_setRegN_ne _ hs]
    exact (reg_set_ne _ _ hstat _).trans ((reg_set_ne _ _ hstat _).trans (reg_set_ne _ _ hstat _))
  · rw [State.on, hget _ rfl, get_set_disjoint _ _ _ _ (by decide), get_set_disjoint _ _ _ _ (by decide), get_set_self _ _ _ (by decide)]
    rfl
  · rw [hget _ rfl, get_set_self _ _ _ (by decide)]
    exact Nat.mod_eq_of_lt hopc
  · rw [hget _ rfl, get_set_disjoint _ _ _ _ (by decide), get_set_self _ _ _ (by decide)]
    exact Nat.mod_eq_of_lt (lt_trans hf (by decide))
  · rw [heq, State.regN, reg_setRegN_ne _ (by decide), reg_setRegN_ne _ (by decide), reg_setRegN_self, BitVec.toNat_ofNat]
    exact Nat.mod_eq_of_lt hseq
  · rw [heq, State.regN, reg_setRegN_self, BitVec.toNat_ofNat]

namespace SlotOpened
variable {c : HCmd} {aux : List Nat} {total : Nat} {b x : State} (h : SlotOpened c aux total b x)
include h

theorem get {g : Fld} (hg : g.addr < 0x16000000) : x.get g = b.get g := congrArg (fldOf g) (h.reg _ hg)
theorem on {g : Fld} (hg : g.addr < 0x16000000) : x.on g = b.on g := by rw [State.on, h.get hg, State.on]
theorem dev : x.dev = b.dev := h.get (by decide)
theorem linked : x.linked = b.linked := linked_of_get (h.get (by decide))
theorem ops : x.host.ops = [(0, { cmd := c, aux, words := [] })] := by obtain ⟨_, rfl⟩ := h.parts; rfl
theorem flows : x.host.flows = b.host.flows := by obtain ⟨_, rfl⟩ := h.parts; rfl
theorem queue : x.host.queue = b.host.queue := by obtain ⟨_, rfl⟩ := h.parts; rfl
theorem mem : x.mem = b.mem := by obtain ⟨_, rfl⟩ := h.parts; rfl
theorem eng : x.eng = b.eng := by obtain ⟨_, rfl⟩ := h.parts; rfl
theorem adc : x.adc = b.adc := by obtain ⟨_, rfl⟩ := h.parts; rfl

theorem takesSlot {b' : State} (hmem : b.mem = b'.mem) (hdev : b.dev = b'.dev) : TakesSlot aux c b' x :=
  ⟨h.ops, h.busy, h.opc, h.flow, h.seq, h.mem.trans hmem, h.dev.trans hdev⟩

end SlotOpened

/-- Without a linked partner no checkpoint goes out. -/
theorem ckptSend_of_unlinked {s : State} (h : s.linked = false) (n : Nat) : s.ckptSend n = s := by simp [State.ckptSend, h]

/-! ### The conditions of the stepped commands after host work -/

/-- Registers of the LOG block are untouched by host work of a flow of the device. -/
theorem hostWork_logReg {f : Nat} {s t : State} (h : HostWork f s t) (hf : f < 5) {a : Nat} (ha : 0x17000000 ≤ a) : t.reg a = s.reg a := by
  refine h.2.2.2 a fun hm => ?_
  simp only [hostRegs, R.HOST_JPOS, R.HOST_JFREE, R.HOST_QSTAT, R.NVM_STAT, R.HOST_FLOW_N, R.HOST_FLOW_D, List.mem_cons, List.not_mem_nil,
    or_false] at hm
  omega

section
variable {s t : State} (h : ∀ a, 0x17000000 ≤ a → t.reg a = s.reg a)
include h

theorem logState_of_logReg : t.logState = s.logState := congrArg (fldOf F.LOG_STAT_STATE) (h _ (by decide))

theorem sigType_of_logReg (n : Nat) : t.sigType n = s.sigType n := by
  rw [State.sigType, State.regN, h _ (by simp only [R.LOG_SIG]; omega), State.sigType, State.regN]

theorem recSize_of_logReg : t.recSize = s.recSize := by
  have hsize : t.sigSize = s.sigSize := funext fun n => by
    rw [State.sigSize, State.sigSel, State.regN, h _ (by simp only [R.LOG_SIG]; omega), sigType_of_logReg h, State.sigSize, State.sigSel, State.regN]
  have hn : t.get F.LOG_CFG_NSIG = s.get F.LOG_CFG_NSIG := congrArg (fldOf F.LOG_CFG_NSIG) (h _ (by decide))
  simp only [State.recSize, State.sigs, hsize, hn]

/-- What refuses LOG_ARM is read from the registers of the LOG block. -/
theorem armBad_of_logReg : t.armBad = s.armBad := by
  have hget : ∀ g : Fld, 0x17000000 ≤ g.addr → t.get g = s.get g := fun g hg => congrArg (fldOf g) (h _ hg)
  have htrig : t.trigBad = s.trigBad := funext fun n => by
    simp only [State.trigBad, State.on, sigType_of_logReg h, hget F.LOG_CFG_NSIG (by decide),
      hget (F.LOG_TRIG_TYPE n) (by simp only [F.LOG_TRIG_TYPE]; omega), hget (F.LOG_TRIG_SIG n) (by simp only [F.LOG_TRIG_SIG]; omega),
      hget (F.LOG_TRIG_EN n) (by simp only [F.LOG_TRIG_EN]; omega)]
  have hslots : t.nslot = s.nslot := by rw [State.nslot, recSize_of_logReg h, State.nslot]
  rw [State.armBad, recSize_of_logReg h, hslots, htrig, hget F.LOG_PREPOST_PRE (by decide), hget F.LOG_PREPOST_POST (by decide), State.armBad]

end

theorem logIdle_iff (s : State) : s.logIdle = true ↔ s.logState = logIDLE ∨ s.logState = logDONE := by simp [State.logIdle]

theorem hostWork_spareOk {f : Nat} {s t : State} (h : HostWork f s t) : t.spareOk = s.spareOk := by
  simp only [State.spareOk, State.retired, State.fbit, h.get (show F.ADC_SPARE_SPARE.addr < 0x16000000 by decide),
    h.get (show F.ADC_SPARE_RETIRED.addr < 0x16000000 by decide)]

theorem hostWork_diagRefused {f : Nat} {s t : State} (h : HostWork f s t) {a : Nat} (ha : a < 3) : t.diagRefused a = s.diagRefused a := by
  have hlegs : t.legsOn a = s.legsOn a := by
    unfold State.legsOn
    rw [Bool.eq_iff_iff, List.any_eq_true, List.any_eq_true]
    refine exists_congr fun l => and_congr_right fun hl => ?_
    have hl' := List.mem_range.mp hl
    rw [h.on (by simp only [F.MOD_CFG_EN, ri]; split <;> omega)]
  have hin : t.auxIn a = s.auxIn a := funext fun i => by
    have haxd : t.axd = s.axd := by obtain ⟨⟨_, _, _, _, _, _, _, rfl⟩, -⟩ := h; rfl
    rw [State.auxIn, haxd, h.on (by simp only [F.AXD_CHCFG_INPOL]; omega), State.auxIn]
  simp only [State.diagRefused, hlegs, hin, h.on (g := F.AXD_CHCFG_SRC a) (by simp only [F.AXD_CHCFG_SRC]; omega),
    h.on (g := F.AXD_CHSTAT_FAULT a) (by simp only [F.AXD_CHSTAT_FAULT]; omega), h.get (show F.AXD_VM_VM.addr < 0x16000000 by decide),
    h.get (show F.AXD_VMLIM_VMUV.addr < 0x16000000 by decide)]

/-! ### The effects -/

section
variable {s b : State} {c : HCmd}

theorem ActsFrom.logIdle (h : ActsFrom s c b) : b.logIdle = s.logIdle := by
  rw [State.logIdle, logState_of_logReg fun _ => hostWork_logReg h.work h.flow, State.logIdle]

theorem ActsFrom.armBad (h : ActsFrom s c b) : b.armBad = s.armBad := armBad_of_logReg fun _ => hostWork_logReg h.work h.flow

/-- A slot is taken from where the meaning acts, for a meaning that has not moved the host port. -/
theorem ActsFrom.opened (h : ActsFrom s c b) {y : State} (hy : y.host = b.host) (hopc : c.opc < 2 ^ 16) (aux : List Nat) (total : Nat) :
    SlotOpened c aux total y (y.openSlot c aux total) :=
  openSlot_opened (by rw [hy]; exact h.ops) h.flow h.hseq hopc aux total

end

/-- LOG_ARM empties the buffer and enters PRE (R202, R204). -/
theorem logArmCmd_arms {b : State} {c : HCmd} (hidle : b.logIdle = true) (hok : b.armBad = false) (hL : b.linked = false) :
    HasEffect b (doneW c b) (noData c b) (fun x => x.logState = logPRE ∧
      x.log = { b.log with next := 0, count := 0, pre := 0, post := 0, force := false } ∧ x.get F.LOG_FIRST_HELD = 0 ∧
        x.get F.LOG_STAT_TRIGSRC = 0 ∧ x.mem = b.mem) b.logArmCmd := by
  have hlinked : b.logArm.linked = false := by
    refine (linked_of_get ?_).trans hL
    rw [State.logArm, State.showHeld, get_set_disjoint _ _ _ _ (by decide), get_set_disjoint _ _ _ _ (by decide),
      get_set_disjoint _ _ _ _ (by decide), get_set_disjoint _ _ _ _ (by decide)]
    rfl
  have hcmd : b.logArmCmd = (.done [], b.logArm) := by simp [State.logArmCmd, hidle, hok, ckptSend_of_unlinked hlinked]
  rw [hcmd]
  refine ⟨rfl, rfl, rfl, ?_, rfl, ?_, ?_, rfl⟩
  · rw [State.logState, State.logArm, State.showHeld, get_set_disjoint _ _ _ _ (by decide), get_set_disjoint _ _ _ _ (by decide),
      get_set_disjoint _ _ _ _ (by decide), get_set_self _ _ _ (by decide)]
    rfl
  · rw [State.logArm, State.showHeld, get_set_self _ _ _ (by decide)]
    rfl
  · rw [State.logArm, State.showHeld, get_set_disjoint _ _ _ _ (by decide), get_set_disjoint _ _ _ _ (by decide), get_set_self _ _ _ (by decide)]
    rfl

/-- CAL_ADC forces nine swaps and goes on in its slot (10 R396). -/
theorem calAdc_takesSlot {s b : State} {c : HCmd} (h : ActsFrom s c b) (hopc : c.opc = 0x50) (hspare : b.spareOk = true) :
    ∃ x, b.calAdc c = (.wait, x) ∧ x.host.flows = b.host.flows ∧ x.host.queue = b.host.queue ∧ TakesSlot [] c b x ∧
      x.adc = { b.adc with forced := 9 } ∧ x.regN (R.HOST_OP_TOTAL 0) = 9 := by
  let y : State := { b with adc := { b.adc with forced := 9 } }
  have hslot : SlotOpened c [] 9 y (y.openSlot c [] 9) :=
    h.opened (y := y) rfl (by rw [hopc]; decide) [] 9
  have hlinked : (y.openSlot c [] 9).linked = false := hslot.linked.trans h.linked
  refine ⟨y.openSlot c [] 9, ?_, hslot.flows, hslot.queue, hslot.takesSlot rfl rfl, hslot.adc, hslot.total⟩
  rw [State.calAdc, if_pos hspare, ckptSend_of_unlinked hlinked]

/-! ### OFFDIAG (12 R467) -/

/-- The lowest channel that a command names. -/
theorem find_lowest_channel {a : Nat} (ha : a < 3) {n : Nat} (hn : n.testBit a = true) (hlow : ∀ j < a, n.testBit j = false) :
    (List.range 3).find? n.testBit = some a := by
  interval_cases a <;> simp [List.range_succ, hn, hlow]

/-- A diagnosis begins on the lowest channel named, where it is not refused. -/
theorem diagNext_begins {b : State} {a n : Nat} (ha : a < 3) (hn : n.testBit a = true) (hlow : ∀ j < a, n.testBit j = false)
    (hok : b.diagRefused a = false) (outs : List Nat) :
    b.diagNext 3 n outs = ((b.set (F.AXD_CHSTAT_DIAG a) 1).showDiag a 0, n - 2 ^ a, a, outs) := by
  simp [State.diagNext, find_lowest_channel ha hn hlow, hok, putBit, hn]

/-- The channel under diagnosis and its measurement are shown. -/
theorem showDiag_shows {b : State} {a : Nat} (ha : a < 3) : let x := (b.set (F.AXD_CHSTAT_DIAG a) 1).showDiag a 0
    x.on (F.AXD_CHSTAT_DIAG a) = true ∧ x.on F.AXD_DIAGSTAT_BUSY = true ∧ x.get F.AXD_DIAGSTAT_CH = a ∧
      ∀ g : Fld, g.addr ≠ R.AXD_DIAGSTAT → g.addr ≠ R.AXD_CHSTAT a → x.get g = b.get g := by
  intro x
  have hx : x = (((b.set (F.AXD_CHSTAT_DIAG a) 1).setB F.AXD_DIAGSTAT_BUSY (a < 3)).set F.AXD_DIAGSTAT_CH a).set F.AXD_DIAGSTAT_MEAS 0 := if_pos ha
  have hne : R.AXD_CHSTAT a ≠ R.AXD_DIAGSTAT := by simp only [R.AXD_CHSTAT, R.AXD_DIAGSTAT]; omega
  have hout : ∀ g : Fld, g.addr ≠ R.AXD_DIAGSTAT → x.get g = (b.set (F.AXD_CHSTAT_DIAG a) 1).get g := fun g hg => by
    rw [hx, get_set_disjoint _ _ _ _ (.inl hg), get_set_disjoint _ _ _ _ (.inl hg), State.setB, get_set_disjoint _ _ _ _ (.inl hg)]
  refine ⟨?_, ?_, ?_, fun g hg hg' => ?_⟩
  · rw [State.on, hout _ hne, get_set_self _ _ _ (by simp only [F.AXD_CHSTAT_DIAG]; omega)]
    rfl
  · rw [hx, State.on, get_set_disjoint _ _ _ _ (by decide), get_set_disjoint _ _ _ _ (by decide), State.setB, get_set_self _ _ _ (by decide),
      decide_eq_true ha]
    rfl
  · rw [hx, get_set_disjoint _ _ _ _ (by decide), get_set_self _ _ _ (by decide)]
    exact Nat.mod_eq_of_lt (lt_trans ha (by decide))
  · rw [hout g hg, get_set_disjoint _ _ _ _ (.inl hg')]

/-- OFFDIAG begins with the lowest channel named and goes on in its slot. -/
theorem offdiag_takesSlot {s b : State} {c : HCmd} (h : ActsFrom s c b) (hopc : c.opc = 0x52) {a : Nat} (ha : a < 3)
    (hvm : b.get F.AXD_VMLIM_VMUV ≤ b.get F.AXD_VM_VM) (hn : (bw c.body 0).testBit a = true) (hlow : ∀ j < a, (bw c.body 0).testBit j = false)
    (hok : b.diagRefused a = false) :
    ∃ x, b.offdiag c = (.wait, x) ∧ x.host.flows = b.host.flows ∧ x.host.queue = b.host.queue ∧
      TakesSlot [bw c.body 0 - 2 ^ a, a, 0, b.get F.AXD_VM_VM, 0xFF000000, 0xFF000000, 0xFF000000] c b x ∧
        x.on (F.AXD_CHSTAT_DIAG a) = true ∧ x.on F.AXD_DIAGSTAT_BUSY = true ∧ x.get F.AXD_DIAGSTAT_CH = a := by
  let y : State := (b.set (F.AXD_CHSTAT_DIAG a) 1).showDiag a 0
  obtain ⟨hdiag, hbusy, hch, hkeep⟩ := showDiag_shows (b := b) ha
  have hfix : ∀ g : Fld, g.addr < 0x15000010 → y.get g = b.get g := fun g hg =>
    hkeep g (by simp only [R.AXD_DIAGSTAT]; omega) (by simp only [R.AXD_CHSTAT]; omega)
  have hvmy : y.get F.AXD_VM_VM = b.get F.AXD_VM_VM := hfix _ (by decide)
  have hhost : y.host = b.host := by simp only [y, State.showDiag, if_pos ha, set_host, setB_host]
  have hmem : y.mem = b.mem := by simp only [y, State.showDiag, if_pos ha, set_mem, setB_mem]
  let aux := [bw c.body 0 - 2 ^ a, a, 0, b.get F.AXD_VM_VM, 0xFF000000, 0xFF000000, 0xFF000000]
  let total := 9 * ((List.range 3).filter (bw c.body 0).testBit).length
  have hslot : SlotOpened c aux total y (y.openSlot c aux total) := h.opened hhost (by rw [hopc]; decide) aux total
  have hlinked : (y.openSlot c aux total).linked = false := hslot.linked.trans ((linked_of_get (hfix _ (by decide))).trans h.linked)
  refine ⟨y.openSlot c aux total, ?_, ?_, ?_, hslot.takesSlot hmem (hfix _ (by decide)), ?_, ?_, ?_⟩
  · have hne : ¬ a = 3 := by omega
    rw [State.offdiag, if_neg (not_lt.mpr hvm), diagNext_begins ha hn hlow hok]
    show (if a = 3 then _ else _) = _
    rw [if_neg hne, hvmy]
    exact congrArg (Prod.mk _) (ckptSend_of_unlinked hlinked 2)
  · rw [hslot.flows, hhost]
  · rw [hslot.queue, hhost]
  · rw [hslot.on (by simp only [F.AXD_CHSTAT_DIAG]; omega)]; exact hdiag
  · rw [hslot.on (by decide)]; exact hbusy
  · rw [hslot.get (by decide)]; exact hch

/-! ### The obligation -/

section
variable {s : State} {B : HCmd → Prop} {w : HCmd → State → Nat} {d : HCmd → State → List Word} {P : HCmd → State → State → Prop}

/-- Every volatile command with property `B` starts as `run` is answered. -/
def StartsAs (s : State) (opc : Nat) (B : HCmd → Prop) (w : HCmd → State → Nat) (d : HCmd → State → List Word) (P : HCmd → State → State → Prop)
    (run : State → HCmd → CmdRes × State) : Prop :=
  ∀ c b, c.opc = opc → ActsFrom s c b → RunsAlone c b → B c → StartAnswers c (w c b) (d c b) (P c b) (run b c)

theorem starts_logArm (h : StartsAs s 0x40 B w d P fun b _ => b.logArmCmd) : Starts .logArm 0x40 1 s B w d P :=
  starts_of_startAnswers (fun _ _ => rfl) (fun b c hopc => by simp only [State.perform, hopc]) h

theorem starts_calAdc (h : StartsAs s 0x50 B w d P State.calAdc) : Starts .calAdc 0x50 1 s B w d P :=
  starts_of_startAnswers (fun _ _ => rfl) (fun b c hopc => by simp only [State.perform, hopc]) h

theorem starts_offdiag (h : StartsAs s 0x52 B w d P State.offdiag) : Starts .offdiag 0x52 1 s B w d P :=
  starts_of_startAnswers (fun _ _ => rfl) (fun b c hopc => by simp only [State.perform, hopc]) h

end

/-- LOG_READ takes a slot in IDLE and DONE alone (R204). -/
theorem logRead_starts (s : State) : Starts .logRead 0x41 0 s (fun _ => s.logIdle = true) acceptW noData (TakesSlot [0]) ∧
    Starts .logRead 0x41 0 s (fun _ => s.logIdle = false) (failW 1) noData Same := by
  constructor
  all_goals
    refine starts_query (run := State.logReadCmd) (fun _ _ => rfl) (fun b c hopc => by simp only [State.perform, hopc]) fun c b hopc h hB => ?_
    rw [State.logReadCmd, h.logIdle, hB]
  · have hslot := h.opened (y := b) rfl (by rw [hopc]; decide) [0] 0
    exact ⟨rfl, rfl, hslot.queue, hslot.takesSlot rfl rfl⟩
  · exact ⟨rfl, rfl, rfl, rfl⟩

/-- JOURNAL_READ always takes a slot. -/
theorem journalRead_starts (s : State) : Starts .journalRead 0x72 0 s (fun _ => True) acceptW noData (TakesSlot [0, 0, 0]) := by
  refine starts_query (run := fun b c => (.wait, b.openSlot c [0, 0, 0] 0)) (fun _ _ => rfl) (fun b c hopc => by simp only [State.perform, hopc])
    fun c b hopc h _ => ?_
  have hslot := h.opened (y := b) rfl (by rw [hopc]; decide) [0, 0, 0] 0
  exact ⟨rfl, rfl, hslot.queue, hslot.takesSlot rfl rfl⟩

/-- Settles O19: LOG_ARM has the effect `logArmCmd_arms`, the others take the slot that `openSlot_opened` describes, or fail. -/
theorem hostSteppedCommandsTakeASlot : Obligations.HostSteppedCommandsTakeASlot := by
  intro s
  simp only [← logIdle_iff, Bool.not_eq_true]
  refine ⟨starts_logArm fun c b _ h halone hB => startAnswers_of_hasEffect halone ?_,
    starts_logArm fun c b _ h halone hB => startAnswers_of_hasEffect halone ?_,
    starts_logArm fun c b _ h halone hB => startAnswers_of_hasEffect halone ?_, (logRead_starts s).1, (logRead_starts s).2,
    starts_calAdc fun c b hopc h halone hB => ?_, starts_calAdc fun c b _ h halone hB => startAnswers_of_hasEffect halone ?_,
    fun a => starts_offdiag fun c b hopc h halone hB => ?_, starts_offdiag fun c b _ h halone hB => startAnswers_of_hasEffect halone ?_,
    journalRead_starts s⟩
  · obtain ⟨hidle, hok⟩ := hB
    exact logArmCmd_arms (h.logIdle.trans hidle) (h.armBad.trans hok) h.linked
  · obtain ⟨hidle, hbad⟩ := hB
    beta_reduce
    rw [State.logArmCmd, h.logIdle, hidle, h.armBad, hbad]
    exact hasEffect_failed c b 0x20
  · beta_reduce
    rw [State.logArmCmd, h.logIdle, hB]
    exact hasEffect_failed c b 1
  · obtain ⟨x, hcmd, hflows, hqueue, hP⟩ := calAdc_takesSlot h hopc ((hostWork_spareOk h.work).trans hB)
    rw [hcmd]
    exact startAnswers_of_slot halone hflows hqueue hP
  · rw [State.calAdc, hostWork_spareOk h.work, hB]
    exact hasEffect_failed c b 0x23
  · obtain ⟨hvm, hn, hlow, hok⟩ := hB
    obtain ⟨x, hcmd, hflows, hqueue, hP⟩ := offdiag_takesSlot h hopc a.isLt
      (by rw [h.work.get (by decide), h.work.get (by decide)]; exact hvm) hn hlow ((hostWork_diagRefused h.work a.isLt).trans hok)
    rw [hcmd]
    exact startAnswers_of_slot halone hflows hqueue hP
  · rw [State.offdiag, if_pos (by rw [h.work.get (by decide), h.work.get (by decide)]; exact hB)]
    exact hasEffect_failed c b 0x24

end Sys2Proof.Machine

/-! ## O17: programs, Almanacs, swaps and modes (05 R185, R191, R208, R209, R213) -/
namespace Sys2Proof.Machine
open Sys2Proof.Stmt

/-! ### Words stored one after another -/

/-- `n` words of `k` bytes from `p` on, the word `i` being `x i`. -/
def State.storeWords (s : State) (p k : Nat) (x : Nat → Nat) (n : Nat) : State := (List.range n).foldl (fun s i => s.store (p + k * i) k (x i)) s

theorem storeWords_succ (s : State) (p k : Nat) (x : Nat → Nat) (n : Nat) :
    s.storeWords p k x (n + 1) = (s.storeWords p k x n).store (p + k * n) k (x n) := by
  simp [State.storeWords, List.range_succ]

theorem storeWords_eq (s : State) (p k : Nat) (x : Nat → Nat) (n : Nat) : ∃ mem, s.storeWords p k x n = { s with mem } := by
  induction n with
  | zero => exact ⟨_, rfl⟩
  | succ n ih =>
    obtain ⟨mem, h⟩ := ih
    rw [storeWords_succ, h]
    exact ⟨_, rfl⟩

/-- Each word reads back. -/
theorem storeWords_load (s : State) (p k : Nat) {x : Nat → Nat} (hx : ∀ i, x i < 256 ^ k) {n i : Nat} (hi : i < n) :
    (s.storeWords p k x n).load (p + k * i) k = x i := by
  induction n with
  | zero => exact absurd hi (Nat.not_lt_zero i)
  | succ n ih =>
    rw [storeWords_succ]
    by_cases hin : i = n
    · rw [hin]; exact load_store_self _ _ _ (hx n)
    · have hlt : i < n := by omega
      have hspan : k * (i + 1) ≤ k * n := Nat.mul_le_mul_left k hlt
      rw [load_store_ne _ _ _ _ (.inl (by rw [Nat.mul_succ] at hspan; omega)), ih hlt]

/-- Every byte outside the words is kept. -/
theorem storeWords_bytes (s : State) (p k : Nat) (x : Nat → Nat) (n : Nat) : BytesKept s (s.storeWords p k x n) p (k * n) := by
  induction n with
  | zero => exact fun _ _ => rfl
  | succ n ih =>
    intro a ha
    rw [Nat.mul_succ] at ha
    rw [storeWords_succ]
    exact (memGet_memWrite_ne _ _ _ _ (by omega)).trans (ih a (by omega))

/-! ### Loads (R208) -/

/-- `t` is `b` after `n` words `x` of `k` bytes are written from `p` on: they read back, nothing else in memory changes, and the mark `ver` of
their bank clears. -/
def BankLoaded (ver : Fld) (p k n : Nat) (x : Nat → Nat) (b t : State) : Prop :=
  (∀ i, i < n → t.load (p + k * i) k = x i) ∧ BytesKept b t p (k * n) ∧ (n ≠ 0 → t.on ver = false) ∧ t.dev = b.dev ∧ t.eng = b.eng

/-- The words are written and, if there is any, the mark of their bank is cleared. -/
def State.loadBank (s : State) (ver : Fld) (p k : Nat) (x : Nat → Nat) (n : Nat) : State :=
  if n = 0 then s.storeWords p k x n else (s.storeWords p k x n).set ver 0

section
variable {ver : Fld} {p k n : Nat} {x : Nat → Nat} {b t u : State}

theorem loadBank_parts (hver : ver.addr = R.ALM_SWAP) : (∃ mem regs, b.loadBank ver p k x n = { b with mem, regs }) ∧
    (b.loadBank ver p k x n).mem = (b.storeWords p k x n).mem ∧ ∀ a, a ≠ R.ALM_SWAP → (b.loadBank ver p k x n).reg a = b.reg a := by
  obtain ⟨mem, h⟩ := storeWords_eq b p k x n
  unfold State.loadBank
  split
  · exact ⟨⟨mem, b.regs, h⟩, rfl, fun a _ => by rw [h]; rfl⟩
  · refine ⟨⟨mem, _, by rw [h]; rfl⟩, rfl, fun a ha => ?_⟩
    rw [reg_set_ne _ _ (by rw [hver]; exact ha), h]
    rfl

theorem loadBank_loaded (hver : ver.addr = R.ALM_SWAP) (hw : ver.lo + ver.width ≤ 32) (hx : ∀ i, x i < 256 ^ k) :
    BankLoaded ver p k n x b (b.loadBank ver p k x n) := by
  obtain ⟨⟨mem, regs, hparts⟩, hmem, hreg⟩ := loadBank_parts (b := b) (p := p) (k := k) (x := x) (n := n) hver
  refine ⟨fun i hi => ?_, fun a ha => ?_, fun hn => ?_, ?_, ?_⟩
  · rw [State.load, hmem]; exact storeWords_load b p k hx hi
  · rw [hmem]; exact storeWords_bytes b p k x n a ha
  · rw [State.loadBank, if_neg hn]; exact on_set_zero _ _ hw
  · exact congrArg (fldOf F.SYS_STATE_STATE) (hreg _ (by decide))
  · rw [hparts]

/-- What a load leaves survives work that changes neither memory, the engine, nor the registers of the marks and of the device. -/
theorem BankLoaded.congr (h : BankLoaded ver p k n x b t) (hmem : u.mem = t.mem) (heng : u.eng = t.eng) (hver : u.get ver = t.get ver)
    (hdev : u.dev = t.dev) : BankLoaded ver p k n x b u := by
  obtain ⟨hw, hb, hv, hd, he⟩ := h
  refine ⟨fun i hi => ?_, fun a ha => ?_, fun hn => ?_, hdev.trans hd, heng.trans he⟩
  · rw [State.load, hmem]; exact hw i hi
  · rw [hmem]; exact hb a ha
  · rw [State.on, hver]; exact hv hn

end

theorem bw_lt (l : List Word) (i : Nat) : bw l i < 2 ^ 32 := BitVec.isLt _

/-- Word `i` of the program that a frame brings. -/
def progWord (c : HCmd) (i : Nat) : Nat := bw c.body (2 + 2 * i) + 2 ^ 32 * bw c.body (3 + 2 * i)

/-- Word `i` of the Almanac rows that a frame brings. -/
def almWord (c : HCmd) (i : Nat) : Nat := bw c.body (2 + i)

/-- `b` with the words of a LOAD_PROGRAM frame in the inactive bank. -/
def State.progLoaded (b : State) (c : HCmd) : State :=
  b.loadBank F.ALM_SWAP_VERP (pmemAddr (1 - b.pBank) (bw c.body 0 % 8192)) 8 (progWord c) (bw c.body 1)

/-- `b` with the rows of a LOAD_ALMANAC frame in the inactive bank. -/
def State.almLoaded (b : State) (c : HCmd) : State :=
  b.loadBank F.ALM_SWAP_VERA (almAddr (1 - b.aBank) (bw c.body 0 % 1024)) 4 (almWord c) (4 * bw c.body 1)

theorem loadProgram_eq (b : State) (c : HCmd) : b.loadProgram c =
    if (bw c.body 0).testBit 31 then (.wait, (b.progLoaded c).openSlot c [] 1) else (.done [], b.progLoaded c) := by
  have haddr : ∀ i, pmemAddr (1 - b.pBank) (bw c.body 0 % 8192 + i) = pmemAddr (1 - b.pBank) (bw c.body 0 % 8192) + 8 * i := fun i => by
    simp only [pmemAddr]; omega
  simp only [State.loadProgram, State.progLoaded, State.loadBank, State.storeWords, haddr]
  rfl

/-- ALMLEN of bank `k`. -/
def lenFld (k : Nat) : Fld := if k = 0 then F.ENG_ALMLEN_LEN0 else F.ENG_ALMLEN_LEN1

/-- `b` after LOAD_ALMANAC with LAST: the length of the bank is noted as well. -/
def State.almClosed (b : State) (c : HCmd) : State := (b.almLoaded c).set (lenFld (1 - b.aBank)) (bitsOf (bw c.body 0) 16 11)

theorem loadAlmanac_eq (b : State) (c : HCmd) : b.loadAlmanac c =
    if (bw c.body 0).testBit 31 then (.wait, (b.almClosed c).openSlot c [] 1) else (.done [], b.almLoaded c) := by
  have hzero : 4 * bw c.body 1 = 0 ↔ bw c.body 1 = 0 := by omega
  simp only [State.loadAlmanac, State.almClosed, lenFld, State.almLoaded, State.loadBank, State.storeWords, hzero]
  rfl

theorem progLoaded_loaded (b : State) (c : HCmd) : BankLoaded F.ALM_SWAP_VERP (pmemAddr (1 - b.pBank) (bw c.body 0 % 8192)) 8 (bw c.body 1)
    (progWord c) b (b.progLoaded c) :=
  loadBank_loaded rfl (by decide) fun i => by
    have h1 := bw_lt c.body (2 + 2 * i)
    have h2 := bw_lt c.body (3 + 2 * i)
    simp only [progWord]; omega

theorem almLoaded_loaded (b : State) (c : HCmd) : BankLoaded F.ALM_SWAP_VERA (almAddr (1 - b.aBank) (bw c.body 0 % 1024)) 4 (4 * bw c.body 1)
    (almWord c) b (b.almLoaded c) :=
  loadBank_loaded rfl (by decide) fun i => bw_lt c.body (2 + i)

theorem progLoaded_host (b : State) (c : HCmd) : (b.progLoaded c).host = b.host := by
  obtain ⟨⟨mem, regs, h⟩, -⟩ := loadBank_parts (b := b) (ver := F.ALM_SWAP_VERP) rfl
  rw [State.progLoaded, h]

theorem almLoaded_host (b : State) (c : HCmd) : (b.almLoaded c).host = b.host := by
  obtain ⟨⟨mem, regs, h⟩, -⟩ := loadBank_parts (b := b) (ver := F.ALM_SWAP_VERA) rfl
  rw [State.almLoaded, h]

/-- A slot taken after a load leaves the load. -/
theorem BankLoaded.of_slot {ver : Fld} {p k n total : Nat} {x : Nat → Nat} {aux : List Nat} {c : HCmd} {b t u : State}
    (h : BankLoaded ver p k n x b t) (hs : SlotOpened c aux total t u) (hver : ver.addr < 0x16000000) : BankLoaded ver p k n x b u :=
  h.congr hs.mem hs.eng (hs.get hver) hs.dev

/-- Four words make a row. -/
theorem BankLoaded.rows {ver : Fld} {p n : Nat} {x : Nat → Nat} {b t : State} (h : BankLoaded ver p 4 (4 * n) x b t) :
    (∀ i, i < 4 * n → t.load (p + 4 * i) 4 = x i) ∧ BytesKept b t p (16 * n) ∧ (n ≠ 0 → t.on ver = false) ∧ t.dev = b.dev ∧ t.eng = b.eng := by
  obtain ⟨hw, hb, hv, hd, he⟩ := h
  exact ⟨hw, fun a ha => hb a (by omega), fun hn => hv (by omega), hd, he⟩

theorem lenFld_addr (k : Nat) : (lenFld k).addr = R.ENG_ALMLEN := by unfold lenFld; split <;> rfl

theorem almLen_eq (s : State) (k : Nat) : s.almLen k = s.get (lenFld k) := by unfold State.almLen lenFld; split <;> rfl

theorem almClosed_loaded (b : State) (c : HCmd) : BankLoaded F.ALM_SWAP_VERA (almAddr (1 - b.aBank) (bw c.body 0 % 1024)) 4 (4 * bw c.body 1)
    (almWord c) b (b.almClosed c) :=
  (almLoaded_loaded b c).congr rfl rfl (get_set_disjoint _ _ _ _ (.inl (by rw [lenFld_addr]; decide)))
    (get_set_disjoint _ _ F.SYS_STATE_STATE _ (.inl (by rw [lenFld_addr]; decide)))

theorem almClosed_almLen (b : State) (c : HCmd) : (b.almClosed c).almLen (1 - b.aBank) = bitsOf (bw c.body 0) 16 11 := by
  have hwidth : (lenFld (1 - b.aBank)).lo + (lenFld (1 - b.aBank)).width ≤ 32 ∧ (lenFld (1 - b.aBank)).width = 11 := by
    unfold lenFld; split <;> decide
  rw [almLen_eq, State.almClosed, get_set_self _ _ _ hwidth.1, hwidth.2]
  exact Nat.mod_mod _ _

/-! ### The judgement of a swap after host work (R209) -/

section
variable {f : Nat} {s t : State} (h : HostWork f s t)
include h

theorem hostWork_mem : t.mem = s.mem := by obtain ⟨⟨_, _, _, _, _, _, _, rfl⟩, -⟩ := h; rfl

theorem hostWork_pcnt : t.pcnt = s.pcnt := by
  simp only [State.pcnt, State.reg64, h.regN (show R.ENG_PCNT_LO < 0x16000000 by decide), h.regN (show R.ENG_PCNT_LO + 4 < 0x16000000 by decide)]

theorem hostWork_banks : t.pBank = s.pBank ∧ t.aBank = s.aBank := ⟨h.get (by decide), h.get (by decide)⟩

theorem hostWork_modeDefined (m : Nat) : t.modeDefined m = s.modeDefined m := by
  simp only [State.modeDefined, State.fbit, h.get (show F.ALM_MCFG_DEF.addr < 0x16000000 by decide)]

theorem hostWork_pword : t.pword = s.pword := by
  funext b w
  rw [State.pword, State.load, hostWork_mem h, State.pword, State.load]

theorem hostWork_scanBlock (b entry fuel i c : Nat) (pend : List (Nat × Nat)) (last mwr : Nat) :
    t.scanBlock b entry fuel i c pend last mwr = s.scanBlock b entry fuel i c pend last mwr := by
  induction fuel generalizing i c pend last mwr with
  | zero => rfl
  | succ fuel ih => simp only [State.scanBlock, hostWork_pword h, ih]

/-- What a row costs is read from the bank alone. -/
theorem hostWork_rowCost : t.rowCost = s.rowCost := by
  have hraw : t.dirRaw = s.dirRaw := by funext b e; rw [State.dirRaw, hostWork_pword h, State.dirRaw]
  have hentry : t.dirEntry = s.dirEntry := by funext b m l; rw [State.dirEntry, hraw, State.dirEntry]
  have hcost : t.blockCost = s.blockCost := by funext b e; rw [State.blockCost, State.block, hostWork_scanBlock h, State.blockCost, State.block]
  funext b m r almlen row
  simp only [State.rowCost, State.namedSlots, hentry, hcost]

theorem hostWork_rowGround (b r almlen row : Nat) : t.rowGround b r almlen row = s.rowGround b r almlen row := by
  have hmodes : t.modes = s.modes := List.filter_congr fun m _ => hostWork_modeDefined h m
  have hover : ∀ m, t.rowOver b m r almlen row = s.rowOver b m r almlen row := fun m => by
    rw [State.rowOver, h.regN (show R.ENG_LIMIT < 0x16000000 by decide), hostWork_rowCost h, State.rowOver]
  rw [State.rowGround, hmodes, hostWork_rowCost h, State.rowGround]
  simp only [hover]

theorem hostWork_checkBudget (a b : Nat) : t.checkBudget a b = s.checkBudget a b := by
  have hlen : t.almLen a = s.almLen a := by
    simp only [State.almLen, h.get (show F.ENG_ALMLEN_LEN0.addr < 0x16000000 by decide), h.get (show F.ENG_ALMLEN_LEN1.addr < 0x16000000 by decide)]
  have hrow : t.arow = s.arow := by funext a r; rw [State.arow, State.load, hostWork_mem h, State.arow, State.load]
  simp only [State.checkBudget, hlen, hrow, hostWork_rowGround h]

theorem hostWork_swapBad (atp : Bool) (sel p : Nat) : t.swapBad atp sel p = s.swapBad atp sel p := by
  obtain ⟨hp, ha⟩ := hostWork_banks h
  simp only [State.swapBad, State.afterSwap, hp, ha, hostWork_pcnt h, hostWork_checkBudget h, h.on (show F.ALM_SWAP_PEND.addr < 0x16000000 by decide),
    h.on (show F.ALM_SWAP_VERP.addr < 0x16000000 by decide), h.on (show F.ALM_SWAP_VERA.addr < 0x16000000 by decide),
    h.get (show F.ENG_STAT_ESTATE.addr < 0x16000000 by decide)]

end

/-! ### Swaps (R209 to R213) -/

/-- The swap `sel` is noted as pending for its owner. -/
def State.pendSwap (s : State) (atp : Bool) (sel p : Nat) (owner : Option CmdKey) : State :=
  let s := ((s.set F.ALM_SWAP_PEND 1).setB F.ALM_SWAP_ATP atp).set F.ALM_SWAP_SEL sel
  let s := if atp then s.setReg64 R.ALM_SWAPP_LO p else s
  { s with eng := { s.eng with swapOwner := owner, swapRipe := false } }

theorem acceptSwap_eq (s : State) (atp : Bool) (sel p : Nat) (owner : Option CmdKey) : s.acceptSwap atp sel p owner =
    if (s.pendSwap atp sel p owner).get F.ENG_STAT_ESTATE = 0 then (s.pendSwap atp sel p owner).exchangeBanks else s.pendSwap atp sel p owner := rfl

section
variable {s : State} {atp : Bool} {sel p : Nat} {owner : Option CmdKey}

/-- Beside the target a pending swap writes ALM_SWAP alone. -/
theorem pendSwap_reg {a : Nat} (h : a ≠ R.ALM_SWAP) (hlo : a ≠ R.ALM_SWAPP_LO) (hhi : a ≠ R.ALM_SWAPP_HI) :
    (s.pendSwap atp sel p owner).reg a = s.reg a := by
  have hset : (((s.set F.ALM_SWAP_PEND 1).setB F.ALM_SWAP_ATP atp).set F.ALM_SWAP_SEL sel).reg a = s.reg a := by
    rw [reg_set_ne _ _ h, State.setB, reg_set_ne _ _ h, reg_set_ne _ _ h]
  cases atp with
  | false => exact hset
  | true => exact (reg_setRegN_ne _ hhi _).trans ((reg_setRegN_ne _ hlo _).trans hset)

theorem pendSwap_get {g : Fld} (h : g.addr ≠ R.ALM_SWAP) (hlo : g.addr ≠ R.ALM_SWAPP_LO) (hhi : g.addr ≠ R.ALM_SWAPP_HI) :
    (s.pendSwap atp sel p owner).get g = s.get g := congrArg (fldOf g) (pendSwap_reg h hlo hhi)

theorem pendSwap_parts : ∃ regs, s.pendSwap atp sel p owner = { s with regs, eng := { s.eng with swapOwner := owner, swapRipe := false } } := by
  cases atp <;> exact ⟨_, rfl⟩

theorem pendSwap_shows (hsel : sel < 4) : let t := s.pendSwap atp sel p owner
    t.on F.ALM_SWAP_PEND = true ∧ t.get F.ALM_SWAP_SEL = sel ∧ t.on F.ALM_SWAP_ATP = atp := by
  intro t
  have hget : ∀ g : Fld, g.addr = R.ALM_SWAP → t.get g = (((s.set F.ALM_SWAP_PEND 1).setB F.ALM_SWAP_ATP atp).set F.ALM_SWAP_SEL sel).get g := by
    intro g hg
    cases atp with
    | false => rfl
    | true => exact congrArg (fldOf g) ((reg_setRegN_ne _ (by rw [hg]; decide) _).trans (reg_setRegN_ne _ (by rw [hg]; decide) _))
  refine ⟨?_, ?_, ?_⟩
  · rw [State.on, hget _ rfl, get_set_disjoint _ _ _ _ (by decide), State.setB, get_set_disjoint _ _ _ _ (by decide), get_set_self _ _ _ (by decide)]
    rfl
  · rw [hget _ rfl, get_set_self _ _ _ (by decide)]
    exact Nat.mod_eq_of_lt hsel
  · rw [State.on, hget _ rfl, get_set_disjoint _ _ _ _ (by decide), State.setB, get_set_self _ _ _ (by decide)]
    cases atp <;> rfl

theorem pendSwap_target (hp : p < 2 ^ 64) : (s.pendSwap true sel p owner).reg64 R.ALM_SWAPP_LO = p := by
  have hlo : (s.pendSwap true sel p owner).reg R.ALM_SWAPP_LO = BitVec.ofNat 32 p :=
    (reg_setRegN_ne _ (by decide) _).trans (reg_setRegN_self ..)
  have hhi : (s.pendSwap true sel p owner).reg R.ALM_SWAPP_HI = BitVec.ofNat 32 (p / 2 ^ 32) := reg_setRegN_self ..
  simp only [State.reg64, State.regN, show R.ALM_SWAPP_LO + 4 = R.ALM_SWAPP_HI from rfl, hlo, hhi, BitVec.toNat_ofNat]
  omega

end

/-- One bank of a swap: the other bank is active where bit `i` of `sel` names it, and the marks change places. -/
def State.turnBank (s : State) (sel i : Nat) (bank ver : Fld) : State :=
  if sel.testBit i then
    let old := s.eng.actVer
    let s := { s with eng := { s.eng with actVer := old - (if old.testBit i then 2 ^ i else 0) + s.get ver * 2 ^ i } }
    (s.set bank (1 - s.get bank)).setB ver (old.testBit i)
  else s

/-- Both turns of the pending swap. -/
def State.turnBanks (s : State) : State :=
  (s.turnBank (s.get F.ALM_SWAP_SEL) 0 F.ENG_STAT_PBANK F.ALM_SWAP_VERP).turnBank (s.get F.ALM_SWAP_SEL) 1 F.ENG_STAT_ABANK F.ALM_SWAP_VERA

/-- The banks have turned and no swap pends. -/
def State.banksTurned (s : State) : State :=
  let t := { s.turnBanks with eng := { s.turnBanks.eng with swapOwner := none, swapRipe := false, budOk := true } }
  ((t.set F.ALM_SWAP_PEND 0).set F.ALM_SWAP_ATP 0).set F.ALM_SWAP_SEL 0

/-- The swap has taken effect; its command has not been answered. -/
def State.swapped (s : State) : State := s.banksTurned.flag F.ALM_STAT_SWAPPED

section
variable {s : State} {sel i : Nat} {bank ver : Fld}

theorem turnBank_parts : ∃ regs actVer, s.turnBank sel i bank ver = { s with regs, eng := { s.eng with actVer } } := by
  unfold State.turnBank
  split
  · exact ⟨_, _, rfl⟩
  · exact ⟨_, _, rfl⟩

theorem turnBank_reg {a : Nat} (hb : a ≠ bank.addr) (hv : a ≠ ver.addr) : (s.turnBank sel i bank ver).reg a = s.reg a := by
  unfold State.turnBank
  split
  · exact (reg_set_ne _ _ hv _).trans (reg_set_ne _ _ hb _)
  · rfl

theorem turnBank_get {g : Fld} (hb : g.addr ≠ bank.addr ∨ g.lo + g.width ≤ bank.lo ∨ bank.lo + bank.width ≤ g.lo)
    (hv : g.addr ≠ ver.addr ∨ g.lo + g.width ≤ ver.lo ∨ ver.lo + ver.width ≤ g.lo) : (s.turnBank sel i bank ver).get g = s.get g := by
  unfold State.turnBank
  split
  · exact (get_set_disjoint _ _ _ _ hv).trans (get_set_disjoint _ _ _ _ hb)
  · rfl

/-- The bank that is active after its turn. -/
theorem turnBank_bank (hb : bank.lo + bank.width ≤ 32) (hw : bank.width = 1) (hv : bank.addr ≠ ver.addr) :
    (s.turnBank sel i bank ver).get bank = if sel.testBit i then 1 - s.get bank else s.get bank := by
  unfold State.turnBank
  split
  · refine (get_set_disjoint _ _ _ _ (.inl hv)).trans ((get_set_self _ _ _ hb).trans ?_)
    rw [hw]
    exact Nat.mod_eq_of_lt (by omega)
  · rfl

theorem turnBanks_parts (s : State) : ∃ regs actVer, s.turnBanks = { s with regs, eng := { s.eng with actVer } } := by
  obtain ⟨_, _, h0⟩ := turnBank_parts (s := s) (sel := s.get F.ALM_SWAP_SEL) (i := 0) (bank := F.ENG_STAT_PBANK) (ver := F.ALM_SWAP_VERP)
  obtain ⟨regs, actVer, h1⟩ := turnBank_parts (s := s.turnBank (s.get F.ALM_SWAP_SEL) 0 F.ENG_STAT_PBANK F.ALM_SWAP_VERP)
    (sel := s.get F.ALM_SWAP_SEL) (i := 1) (bank := F.ENG_STAT_ABANK) (ver := F.ALM_SWAP_VERA)
  exact ⟨regs, actVer, by rw [State.turnBanks, h1, h0]⟩

theorem turnBanks_banks (s : State) :
    s.turnBanks.get F.ENG_STAT_PBANK = (if (s.get F.ALM_SWAP_SEL).testBit 0 then 1 - s.get F.ENG_STAT_PBANK else s.get F.ENG_STAT_PBANK) ∧
      s.turnBanks.get F.ENG_STAT_ABANK = (if (s.get F.ALM_SWAP_SEL).testBit 1 then 1 - s.get F.ENG_STAT_ABANK else s.get F.ENG_STAT_ABANK) := by
  constructor
  · rw [State.turnBanks, turnBank_get (by decide) (by decide), turnBank_bank (by decide) rfl (by decide)]
  · rw [State.turnBanks, turnBank_bank (by decide) rfl (by decide), turnBank_get (by decide) (by decide)]

/-- The turn writes ENG_STAT and ALM_SWAP alone. -/
theorem banksTurned_reg {a : Nat} (he : a ≠ R.ENG_STAT) (hs : a ≠ R.ALM_SWAP) : s.banksTurned.reg a = s.reg a := by
  rw [State.banksTurned, reg_set_ne _ _ hs, reg_set_ne _ _ hs, reg_set_ne _ _ hs]
  exact (turnBank_reg he hs).trans (turnBank_reg he hs)

theorem swapped_parts (s : State) : s.swapped.host = s.host ∧ s.swapped.mem = s.mem := by
  obtain ⟨_, _, h⟩ := turnBanks_parts s
  simp only [State.swapped, State.banksTurned, flag_host, flag_mem, set_host, set_mem]
  rw [h]
  exact ⟨rfl, rfl⟩

/-- The banks named are exchanged, nothing pends, and SWAPPED is set. -/
theorem swapped_shows (s : State) : let sel := s.get F.ALM_SWAP_SEL
    s.swapped.pBank = (if sel.testBit 0 then 1 - s.pBank else s.pBank) ∧ s.swapped.aBank = (if sel.testBit 1 then 1 - s.aBank else s.aBank) ∧
      s.swapped.on F.ALM_SWAP_PEND = false ∧ s.swapped.on F.ALM_STAT_SWAPPED = true := by
  intro sel
  have hstat : ∀ g : Fld, g.addr = R.ENG_STAT → s.swapped.get g = s.turnBanks.get g := fun g hg => by
    have hne : ∀ a, a ≠ R.ENG_STAT → g.addr ≠ a := fun a ha => by rw [hg]; exact ha.symm
    rw [State.swapped, get_flag_disjoint _ _ _ (.inl (hne _ (by decide))), State.banksTurned, get_set_disjoint _ _ _ _ (.inl (hne _ (by decide))),
      get_set_disjoint _ _ _ _ (.inl (hne _ (by decide))), get_set_disjoint _ _ _ _ (.inl (hne _ (by decide)))]
    rfl
  refine ⟨(hstat _ rfl).trans (turnBanks_banks s).1, (hstat _ rfl).trans (turnBanks_banks s).2, ?_, ?_⟩
  · rw [State.on, State.swapped, get_flag_disjoint _ _ _ (by decide), State.banksTurned, get_set_disjoint _ _ _ _ (by decide),
      get_set_disjoint _ _ _ _ (by decide), get_set_self _ _ _ (by decide)]
    rfl
  · rw [State.on, State.swapped, get_flag_self _ _ (by decide) (by decide)]
    rfl

/-- The exchange ends with the answer to the swap's owner, which names p (R213). -/
theorem exchangeBanks_eq (s : State) : s.exchangeBanks =
    s.swapped.doneOpt s.eng.swapOwner [BitVec.ofNat 32 s.pcnt, BitVec.ofNat 32 (s.pcnt / 2 ^ 32)] := by
  have howner : s.turnBanks.eng.swapOwner = s.eng.swapOwner := by
    obtain ⟨_, _, h⟩ := turnBanks_parts s
    rw [h]
  have hpcnt : s.banksTurned.pcnt = s.pcnt := by
    have hreg : ∀ a, a ≠ R.ENG_STAT → a ≠ R.ALM_SWAP → s.banksTurned.regN a = s.regN a := fun a he hs =>
      congrArg BitVec.toNat (banksTurned_reg he hs)
    rw [State.pcnt, State.reg64, hreg _ (by decide) (by decide), hreg _ (by decide) (by decide), State.pcnt, State.reg64]
  have heq : s.exchangeBanks =
      s.swapped.doneOpt s.turnBanks.eng.swapOwner [BitVec.ofNat 32 s.banksTurned.pcnt, BitVec.ofNat 32 (s.banksTurned.pcnt / 2 ^ 32)] := rfl
  rw [heq, howner, hpcnt]

end

/-! ### The effects -/

/-- An accepted swap of a Helm that runs waits (R209). -/
theorem acceptSwap_waits {b : State} {atp : Bool} {sel p : Nat} {k : CmdKey} (hsel : sel < 4) (hp : p < 2 ^ 64) (hrun : b.get F.ENG_STAT_ESTATE ≠ 0) :
    let x := b.acceptSwap atp sel p (some k)
    x.host = b.host ∧ x.on F.ALM_SWAP_PEND = true ∧ x.get F.ALM_SWAP_SEL = sel ∧ x.on F.ALM_SWAP_ATP = atp ∧ x.eng.swapOwner = some k ∧
      (atp = true → x.reg64 R.ALM_SWAPP_LO = p) ∧ x.pBank = b.pBank ∧ x.aBank = b.aBank ∧ x.mem = b.mem := by
  have hget : ∀ g : Fld, g.addr = R.ENG_STAT → (b.pendSwap atp sel p (some k)).get g = b.get g := fun g hg =>
    pendSwap_get (by rw [hg]; decide) (by rw [hg]; decide) (by rw [hg]; decide)
  have hx : b.acceptSwap atp sel p (some k) = b.pendSwap atp sel p (some k) := by
    rw [acceptSwap_eq, if_neg (by rw [hget _ rfl]; exact hrun)]
  obtain ⟨hpend, hselx, hatp⟩ := pendSwap_shows (s := b) (atp := atp) (p := p) (owner := some k) hsel
  obtain ⟨_, hparts⟩ := pendSwap_parts (s := b) (atp := atp) (sel := sel) (p := p) (owner := some k)
  rw [hx]
  refine ⟨by rw [hparts], hpend, hselx, hatp, by rw [hparts], fun ht => ?_, hget _ rfl, hget _ rfl, by rw [hparts]⟩
  rw [ht]
  exact pendSwap_target hp

/-- With the Helm stopped an accepted swap takes effect at once, and its answer names p (R213). -/
theorem acceptSwap_at_once {b : State} {atp : Bool} {sel p : Nat} {k : CmdKey} (hsel : sel < 4) (hstop : b.get F.ENG_STAT_ESTATE = 0) :
    ∃ x : State, b.acceptSwap atp sel p (some k) = x.done k [BitVec.ofNat 32 b.pcnt, BitVec.ofNat 32 (b.pcnt / 2 ^ 32)] ∧ x.host = b.host ∧
      x.pBank = (if sel.testBit 0 then 1 - b.pBank else b.pBank) ∧ x.aBank = (if sel.testBit 1 then 1 - b.aBank else b.aBank) ∧
        x.on F.ALM_SWAP_PEND = false ∧ x.on F.ALM_STAT_SWAPPED = true ∧ x.mem = b.mem := by
  let y := b.pendSwap atp sel p (some k)
  have hget : ∀ g : Fld, g.addr = R.ENG_STAT → y.get g = b.get g := fun g hg =>
    pendSwap_get (by rw [hg]; decide) (by rw [hg]; decide) (by rw [hg]; decide)
  have hpcnt : y.pcnt = b.pcnt := by
    have hreg : ∀ a, a ∈ [R.ENG_PCNT_LO, R.ENG_PCNT_HI] → y.regN a = b.regN a := fun a ha => by
      refine congrArg BitVec.toNat (pendSwap_reg ?_ ?_ ?_) <;> (rintro rfl; exact absurd ha (by decide))
    rw [State.pcnt, State.reg64, hreg _ (by decide), hreg _ (by decide), State.pcnt, State.reg64]
  obtain ⟨_, hparts⟩ := pendSwap_parts (s := b) (atp := atp) (sel := sel) (p := p) (owner := some k)
  obtain ⟨-, hselx, -⟩ := pendSwap_shows (s := b) (atp := atp) (p := p) (owner := some k) hsel
  obtain ⟨hpb, hab, hpend, hswapped⟩ := swapped_shows y
  obtain ⟨hhost, hmem⟩ := swapped_parts y
  rw [hselx] at hpb hab
  have howner : y.eng.swapOwner = some k := by simp only [y]; rw [hparts]
  refine ⟨y.swapped, ?_, ?_, ?_, ?_, hpend, hswapped, ?_⟩
  · rw [acceptSwap_eq, if_pos (by rw [hget _ rfl]; exact hstop), exchangeBanks_eq, howner, hpcnt]
    rfl
  · rw [hhost]; simp only [y]; rw [hparts]
  · rw [hpb, State.pBank, hget _ rfl, State.pBank]
  · rw [hab, State.aBank, hget _ rfl, State.aBank]
  · rw [hmem]; simp only [y]; rw [hparts]

/-- A mode asked for while none is pending waits for the boundary (R185). -/
theorem requestMode_waits {b : State} {m : Nat} {k : CmdKey} (hm : m < 8) (hpend : b.on F.ALM_MODE_PEND = false) :
    let x := b.requestMode m (some k)
    x.host = b.host ∧ x.get F.ALM_MODE_NEXT = m ∧ x.on F.ALM_MODE_PEND = true ∧ x.get F.ALM_MODE_CUR = b.get F.ALM_MODE_CUR ∧
      x.eng.modeOwner = some k ∧ x.mem = b.mem := by
  intro x
  let y := (b.set F.ALM_MODE_NEXT m).set F.ALM_MODE_PEND 1
  have hx : x = { y with eng := { y.eng with modeOwner := some k } } := by
    simp only [x, State.requestMode, hpend]
    rfl
  have hget : ∀ g, x.get g = y.get g := fun g => by rw [hx]; rfl
  refine ⟨by rw [hx]; rfl, ?_, ?_, ?_, by rw [hx], by rw [hx]; rfl⟩
  · rw [hget, get_set_disjoint _ _ _ _ (by decide), get_set_self _ _ _ (by decide)]
    exact Nat.mod_eq_of_lt hm
  · rw [State.on, hget, get_set_self _ _ _ (by decide)]
    rfl
  · rw [hget, get_set_disjoint _ _ _ _ (by decide), get_set_disjoint _ _ _ _ (by decide)]

/-- With the Helm stopped a mode is current at once (R191). -/
theorem modeStopped_at_once (b : State) {m : Nat} (k : CmdKey) (hm : m < 8) :
    ∃ x : State, b.modeStopped m (some k) = x.done k [] ∧ x.host = b.host ∧ x.get F.ALM_MODE_CUR = m ∧ x.on F.ALM_MODE_PEND = false ∧
      x.mem = b.mem ∧ x.eng = b.eng := by
  refine ⟨((b.set F.ALM_MODE_PEND 0).set F.ALM_MODE_NEXT m).set F.ALM_MODE_CUR m, rfl, rfl, ?_, ?_, rfl, rfl⟩
  · rw [get_set_self _ _ _ (by decide)]
    exact Nat.mod_eq_of_lt hm
  · rw [State.on, get_set_disjoint _ _ _ _ (by decide), get_set_disjoint _ _ _ _ (by decide), get_set_self _ _ _ (by decide)]
    rfl

/-! ### The obligation -/

section
variable {s : State} {B : HCmd → Prop} {w : HCmd → State → Nat} {d : HCmd → State → List Word} {P : HCmd → State → State → Prop}

theorem starts_loadProgram (h : StartsAs s 0x10 B w d P State.loadProgram) : Starts .loadProgram 0x10 1 s B w d P :=
  starts_of_startAnswers (fun _ _ => rfl) (fun b c hopc => by simp only [State.perform, hopc]) h

theorem starts_loadAlmanac (h : StartsAs s 0x11 B w d P State.loadAlmanac) : Starts .loadAlmanac 0x11 1 s B w d P :=
  starts_of_startAnswers (fun _ _ => rfl) (fun b c hopc => by simp only [State.perform, hopc]) h

theorem starts_swapBank (h : StartsAs s 0x12 B w d P State.swapBank) : Starts .swapBank 0x12 1 s B w d P :=
  starts_of_startAnswers (fun _ _ => rfl) (fun b c hopc => by simp only [State.perform, hopc]) h

theorem starts_setMode (h : StartsAs s 0x13 B w d P State.setMode) : Starts .setMode 0x13 1 s B w d P :=
  starts_of_startAnswers (fun _ _ => rfl) (fun b c hopc => by simp only [State.perform, hopc]) h

end

/-- SWAP_BANK by the judgement of its target. -/
theorem swapBank_eq {b : State} {c : HCmd} {r : Option Nat}
    (h : b.swapBad ((bw c.body 0).testBit 31) (bw c.body 0 % 4) (bw c.body 1 + 2 ^ 32 * bw c.body 2) = r) :
    b.swapBank c = match r with
      | some g => (.failed g, b)
      | none => (.wait, b.acceptSwap ((bw c.body 0).testBit 31) (bw c.body 0 % 4) (bw c.body 1 + 2 ^ 32 * bw c.body 2) (some c.key)) := by
  simp only [State.swapBank, h]
  cases r <;> rfl

/-- The mode that a well-formed SET_MODE names. -/
theorem setMode_mode {s b : State} {c : HCmd} (h : ActsFrom s c b) (hopc : c.opc = 0x13) : bw c.body 0 < 8 := by
  have hbody := h.body
  simp only [bodyOk, hopc, Bool.and_eq_true, decide_eq_true_eq] at hbody
  exact hbody.2

/-- Settles O17: loads by `loadBank_loaded`, swaps by `acceptSwap_waits` and `acceptSwap_at_once`, modes by `requestMode_waits` and
`modeStopped_at_once`. -/
theorem hostProgramBankAndModeCommandsAct : Obligations.HostProgramBankAndModeCommandsAct := by
  intro s
  refine ⟨starts_loadProgram fun c b hopc h halone hB => ?_, starts_loadProgram fun c b hopc h halone hB => ?_,
    starts_loadAlmanac fun c b hopc h halone hB => ?_, starts_loadAlmanac fun c b hopc h halone hB => ?_,
    fun g => starts_swapBank fun c b _ h halone hB => ?_, starts_swapBank fun c b _ h halone hB => ?_,
    starts_swapBank fun c b _ h halone hB => ?_, starts_setMode fun c b hopc h halone hB => ?_,
    starts_setMode fun c b hopc h halone hB => ?_, starts_setMode fun c b hopc h halone hB => ?_⟩
  · rw [loadProgram_eq, if_neg (Bool.eq_false_iff.mp hB)]
    exact startAnswers_of_hasEffect halone ⟨rfl, rfl, progLoaded_host b c, progLoaded_loaded b c⟩
  · rw [loadProgram_eq, if_pos hB]
    have hslot := h.opened (progLoaded_host b c) (by rw [hopc]; decide) [] 1
    exact startAnswers_of_slot halone (by rw [hslot.flows, progLoaded_host]) (by rw [hslot.queue, progLoaded_host])
      ⟨(progLoaded_loaded b c).of_slot hslot (by decide), hslot.ops⟩
  · rw [loadAlmanac_eq, if_neg (Bool.eq_false_iff.mp hB)]
    exact startAnswers_of_hasEffect halone ⟨rfl, rfl, almLoaded_host b c, (almLoaded_loaded b c).rows⟩
  · rw [loadAlmanac_eq, if_pos hB]
    have hhost : (b.almClosed c).host = b.host := almLoaded_host b c
    have hslot := h.opened hhost (by rw [hopc]; decide) [] 1
    refine startAnswers_of_slot halone (by rw [hslot.flows, hhost]) (by rw [hslot.queue, hhost])
      ⟨((almClosed_loaded b c).of_slot hslot (by decide)).rows, ?_, hslot.ops⟩
    rw [almLen_eq, hslot.get (by rw [lenFld_addr]; decide), ← almLen_eq, almClosed_almLen]
  · rw [swapBank_eq ((hostWork_swapBad h.work ..).trans hB)]
    exact startAnswers_of_hasEffect halone (hasEffect_failed c b g)
  · obtain ⟨hok, hrun⟩ := hB
    have hb0 := bw_lt c.body 1
    have hb1 := bw_lt c.body 2
    obtain ⟨hhost, hP⟩ := acceptSwap_waits (b := b) (atp := (bw c.body 0).testBit 31) (sel := bw c.body 0 % 4)
      (p := bw c.body 1 + 2 ^ 32 * bw c.body 2) (k := c.key) (by omega) (by omega) (by rw [h.work.get (by decide)]; exact hrun)
    rw [swapBank_eq ((hostWork_swapBad h.work ..).trans hok)]
    exact startAnswers_of_slot halone (by rw [hhost]) (by rw [hhost]) hP
  · obtain ⟨hok, hstop⟩ := hB
    obtain ⟨x, heq, hhost, hP⟩ := acceptSwap_at_once (b := b) (atp := (bw c.body 0).testBit 31) (sel := bw c.body 0 % 4)
      (p := bw c.body 1 + 2 ^ 32 * bw c.body 2) (k := c.key) (by omega) (by rw [h.work.get (by decide)]; exact not_not.mp hstop)
    rw [swapBank_eq ((hostWork_swapBad h.work ..).trans hok), heq]
    exact startAnswers_of_done halone hhost hP
  · obtain ⟨hrun, hpend⟩ := hB
    have hm := setMode_mode h hopc
    obtain ⟨hhost, hP⟩ := requestMode_waits (k := c.key) hm ((h.work.on (by decide)).trans hpend)
    rw [State.setMode, if_neg (by rw [h.work.get (by decide)]; exact hrun), Nat.mod_eq_of_lt hm]
    exact startAnswers_of_slot halone (by rw [hhost]) (by rw [hhost]) hP
  · obtain ⟨hstop, hdef⟩ := hB
    have hm := setMode_mode h hopc
    obtain ⟨x, heq, hhost, hP⟩ := modeStopped_at_once b c.key hm
    rw [State.setMode, if_pos (by rw [h.work.get (by decide)]; exact not_not.mp hstop), Nat.mod_eq_of_lt hm, hostWork_modeDefined h.work, hdef,
      if_pos rfl, heq]
    exact startAnswers_of_done halone hhost hP
  · obtain ⟨hstop, hdef, hrej⟩ := hB
    have hm := setMode_mode h hopc
    have hflag : b.on F.ALM_STAT_MODEREJ = true := (h.work.on (by decide)).trans hrej
    rw [State.setMode, if_pos (by rw [h.work.get (by decide)]; exact not_not.mp hstop), Nat.mod_eq_of_lt hm, hostWork_modeDefined h.work, hdef,
      if_neg Bool.false_ne_true, State.faultNew, if_pos hflag]
    exact startAnswers_of_hasEffect halone (hasEffect_failed c b 0x0C)

end Sys2Proof.Machine

/-! ## O15: cell links, serial lanes, the Log and the keys (05 R201, 07 R256, R279, R280, 08 R298, R310, 17 R620) -/
namespace Sys2Proof.Machine
open Sys2Proof.Stmt

/-! ### The blocks -/

theorem blockWrite_LANE (s : State) (m : Master) {a : Nat} (v : Word) (hf : fltBlockAt a = none) (h : a / 0x10000 = 0x1300) :
    s.blockWrite m a v = s.writeLANE m a v := by simp only [State.blockWrite, hf, h]

theorem blockWrite_OCL (s : State) (m : Master) {a : Nat} (v : Word) (hf : fltBlockAt a = none) (h : a / 0x10000 = 0x1310) :
    s.blockWrite m a v = s.writeOCL m a v := by simp only [State.blockWrite, hf, h]

theorem blockWrite_LOG (s : State) (m : Master) {a : Nat} (v : Word) (hf : fltBlockAt a = none) (h : a / 0x10000 = 0x1700) :
    s.blockWrite m a v = s.writeLOG m a v := by simp only [State.blockWrite, hf, h]

theorem blockWrite_NVM (s : State) (m : Master) {a : Nat} (v : Word) (hf : fltBlockAt a = none) (h : a / 0x10000 = 0x1602) :
    s.blockWrite m a v = s.writeNVM m a v := by simp only [State.blockWrite, hf, h]

/-! ### OCL_EN (07 R256) -/

theorem writeOCL_EN (s : State) (m : Master) (v : Word) {a : Nat} (ha : a ∈ [R.OCL_EN_LO, R.OCL_EN_HI]) :
    s.writeOCL m a v = s.plainWrite a v := by
  have hctrl : ¬ R.OCL_LCTRL 0 ≤ a := by revert a; decide
  simp only [List.mem_cons, List.not_mem_nil, or_false] at ha
  rcases ha with rfl | rfl <;> simp [State.writeOCL, hctrl]

theorem plainWrite_OCL_EN_LO (s : State) (v : Word) : (s.plainWrite R.OCL_EN_LO v).reg R.OCL_EN_LO = v := by
  rw [plainWrite_of_rw _ _ (by rfl) (by rfl), reg_setReg_self]

theorem plainWrite_OCL_EN_HI_get (s : State) (v : Word) : (s.plainWrite R.OCL_EN_HI v).get F.OCL_EN_HI_V = v.toNat % 2 ^ 24 :=
  (plainWrite_get s F.OCL_EN_HI_V v (row := ⟨R.OCL_EN_HI, 0, 1, 0, 0xFFFFFF, 0, 0, 0⟩) (by rfl) (by decide)).trans
    (by simp [fldOf, F.OCL_EN_HI_V])

section
variable {s : State} {m : Master} {v : Word}

/-- Either write of an enable register leaves it as written, and writes no other register. -/
theorem oclEnWrite_takes {i : Instr} {hi : Bool} (h : exec i s = busWrite m (if hi then R.OCL_EN_HI else R.OCL_EN_LO) v s) :
    Writes i s m (if hi then R.OCL_EN_HI else R.OCL_EN_LO) v fun b t =>
      (if hi then t.get F.OCL_EN_HI_V = v.toNat % 2 ^ 24 else t.reg (if hi then R.OCL_EN_HI else R.OCL_EN_LO) = v) ∧
        OnlyRegs b t [if hi then R.OCL_EN_HI else R.OCL_EN_LO] := by
  cases hi with
  | false =>
    refine writes_of_quiet h (by rfl) fun b _ => ?_
    rw [blockWrite_OCL _ m v (by rfl) (by rfl), writeOCL_EN _ _ _ (by decide)]
    exact ⟨plainWrite_host .., plainWrite_OCL_EN_LO b v, plainWrite_onlyRegs ..⟩
  | true =>
    refine writes_of_quiet h (by rfl) fun b _ => ?_
    rw [blockWrite_OCL _ m v (by rfl) (by rfl), writeOCL_EN _ _ _ (by decide)]
    exact ⟨plainWrite_host .., plainWrite_OCL_EN_HI_get b v, plainWrite_onlyRegs ..⟩

/-! ### LOG_CTRL (05 R201) -/

theorem writeLOG_force (h3 : v.getLsbD 3 = true) (hpre : s.logState = logPRE) : (s.writeLOG m R.LOG_CTRL v).log.force = true := by
  have hst : (s.plainWrite R.LOG_CTRL v).logState = logPRE := (plainWrite_get_ne s v F.LOG_STAT_STATE (by decide)).trans hpre
  have h3' : v.toNat.testBit 3 = true := h3
  simp [State.writeLOG, show logCfgReg R.LOG_CTRL = false from rfl, hst, h3']

theorem logForce_waits (h3 : v.getLsbD 3 = true) (hpre : s.logState = logPRE) :
    Writes (.logForce m v) s m R.LOG_CTRL v fun _ t => t.log.force = true := by
  refine writes_of_block rfl (by rfl) fun b hb _ => ?_
  rw [blockWrite_LOG _ m v (by rfl) (by rfl)]
  exact writeLOG_force h3 ((get_congr hb _).trans hpre)

/-! ### NVM_REVOKE (17 R620) -/

/-- Besides the slots `ks` there is a key slot that is programmed and not revoked. -/
def KeyStays (s : State) (ks : Nat) : Prop :=
  ∃ k, k < 4 ∧ s.fbit F.NVM_KEYS_PROG k = true ∧ s.fbit F.NVM_KEYS_REVOKED k = false ∧ ks.testBit k = false

/-- The word that revokes the slots `ks`: the key pattern above them. -/
def revokeWord (ks : Nat) : Word := BitVec.ofNat 32 (0x4B590000 + ks)

theorem fldOf_revokeWord : ∀ ks : Fin 16, fldOf F.NVM_REVOKE_KEY (revokeWord ks) = 0x4B59 ∧
    fldOf F.NVM_REVOKE_SLOTS (revokeWord ks) = ks.val := by
  decide

theorem keyRevoke_eq (ks : Fin 16) (hdev : gateOpenCfg s.dev = true) (himg : s.on F.UPD_STAT_NOIMAGE = true) (hleft : KeyStays s ks) :
    s.keyRevoke m (revokeWord ks) = s.set F.NVM_KEYS_REVOKED (s.get F.NVM_KEYS_REVOKED ||| ks.val) := by
  obtain ⟨hkey, hslots⟩ := fldOf_revokeWord ks
  have hany : ((List.range 4).any fun k => (s.get F.NVM_KEYS_PROG).testBit k && !s.fbit F.NVM_KEYS_REVOKED k && !ks.val.testBit k) = true := by
    obtain ⟨k, hk, hprog, hrev, hks⟩ := hleft
    rw [List.any_eq_true]
    exact ⟨k, List.mem_range.mpr hk, by rw [show (s.get F.NVM_KEYS_PROG).testBit k = true from hprog, hrev, hks]; rfl⟩
  simp only [State.keyRevoke, hkey, hslots, hany, hdev, himg]
  rfl

theorem keyRevoke_takes (ks : Fin 16) (hdev : gateOpenCfg s.dev = true) (himg : s.on F.UPD_STAT_NOIMAGE = true) (hleft : KeyStays s ks) :
    Writes (.keyRevoke m (revokeWord ks)) s m R.NVM_REVOKE (revokeWord ks) fun b t =>
      t.get F.NVM_KEYS_REVOKED = b.get F.NVM_KEYS_REVOKED ||| ks.val ∧ OnlyRegs b t [R.NVM_KEYS] := by
  refine writes_of_quiet rfl (by rfl) fun b hb => ?_
  have hleft' : KeyStays b ks := by simpa only [KeyStays, State.fbit, get_congr hb] using hleft
  rw [blockWrite_NVM _ m _ (by rfl) (by rfl), State.writeNVM, if_pos rfl,
    keyRevoke_eq ks (by rw [dev_congr hb]; exact hdev) ((on_congr hb _).trans himg) hleft']
  have hlt : b.get F.NVM_KEYS_REVOKED ||| ks.val < 2 ^ 4 := Nat.or_lt_two_pow (Nat.mod_lt _ (by decide)) ks.isLt
  exact ⟨rfl, (get_set_self _ _ _ (by decide)).trans (Nat.mod_eq_of_lt hlt), ⟨_, rfl⟩,
    fun a ha => reg_set_ne _ _ (List.mem_singleton.not.mp ha) _⟩

end

section
variable {s : State} {m : Master} {v : Word}

/-! ### OCL_LCMD (07 R279, R280) -/

/-- A write whose property reads the links of the state before it beside its registers. -/
theorem writes_of_links {i : Instr} {a : Nat} {P : State → State → Prop} (hi : exec i s = busWrite m a v s) (hr : plainReg a = true)
    (h : ∀ b : State, b.regs = s.regs → b.ocl = s.ocl → ∀ host, P b { b.blockWrite m a v with host }) : Writes i s m a v P := by
  intro hs
  obtain ⟨t, ht, hP⟩ := writes_of_block (P := fun b t => b.ocl = s.ocl → P b t) hi hr (fun b hb host ho => h b hb ho host) hs
  exact ⟨t, ht, hP (served_ocl ..)⟩

/-- The state in which OCL_LCMDST shows a command with opcode `opc` for lane `l` as under way. -/
def State.lcmdShown (s : State) (opc l : Nat) : State := (s.setRegN R.OCL_LCMDST (2 ^ 31 + 2 ^ 8 * opc + l)).setRegN R.OCL_LCMDDATA 0

theorem lcmdShown_reg (s : State) (opc l : Nat) {a : Nat} (h : a ≠ R.OCL_LCMDST) (h' : a ≠ R.OCL_LCMDDATA) :
    (s.lcmdShown opc l).reg a = s.reg a := by
  rw [State.lcmdShown, reg_setRegN_ne _ h', reg_setRegN_ne _ h]

theorem lcmdShown_lcmdst (s : State) (opc l : Nat) : (s.lcmdShown opc l).reg R.OCL_LCMDST = BitVec.ofNat 32 (2 ^ 31 + 2 ^ 8 * opc + l) := by
  rw [State.lcmdShown, reg_setRegN_ne _ (by decide), reg_setRegN_self]

theorem lcmdShown_busy (s : State) (l : Fin 56) :
    (s.lcmdShown 8 l).on F.OCL_LCMDST_BUSY = true ∧ (s.lcmdShown 8 l).on F.OCL_LCMDST_FAILED = false := by
  simp only [State.on, State.get, show F.OCL_LCMDST_BUSY.addr = R.OCL_LCMDST from rfl, show F.OCL_LCMDST_FAILED.addr = R.OCL_LCMDST from rfl,
    lcmdShown_lcmdst]
  revert l
  decide

theorem lcmdst_apart : ∀ l : Fin 56, (∀ a ∈ [R.OCL_LSTATE l, R.LANE_STAT l], a ≠ R.OCL_LCMDST ∧ a ≠ R.OCL_LCMDDATA) := by decide

theorem lcmdShown_ostate (s : State) (opc : Nat) (l : Fin 56) : (s.lcmdShown opc l).ostate l = s.ostate l := by
  obtain ⟨h, h'⟩ := lcmdst_apart l (R.OCL_LSTATE l) (by simp)
  exact congrArg (fldOf (F.OCL_LSTATE_STATE l)) (lcmdShown_reg s opc l h h')

theorem lcmdShown_laneLocked (s : State) (opc : Nat) (l : Fin 56) : (s.lcmdShown opc l).laneLocked l = s.laneLocked l := by
  obtain ⟨h, h'⟩ := lcmdst_apart l (R.LANE_STAT l) (by simp)
  exact congrArg (fun x => fldOf (F.LANE_STAT_LSTATE l) x == 5) (lcmdShown_reg s opc l h h')

/-- A command of the host for a READY lane with none outstanding is issued (R279). -/
theorem lcmd_issues {l : Fin 56} (hgo : v.getLsbD 31 = true) (hl : fldOf F.OCL_LCMD_LANE v = l.val) (ho : fldOf F.OCL_LCMD_OPC v = 8)
    (hbusy : s.on F.OCL_LCMDST_BUSY = false) (hready : s.ostate l = loREADY) (hcmd : (s.lane l).cmd = none) :
    s.lcmd v = (s.lcmdShown 8 l).issueCmd l 8 1 [] := by
  have hgo' : fldOf F.OCL_LCMD_GO v = 1 := (fldOf_bit rfl v).trans (congrArg b2n hgo)
  have hready' : (s.lcmdShown 8 l).ostate l = loREADY := (lcmdShown_ostate s 8 l).trans hready
  have hcmd' : ((s.lcmdShown 8 l).lane l).cmd = none := hcmd
  have hshown : (s.setRegN R.OCL_LCMDST (2 ^ 31 + 2 ^ 8 * 8 + l)).setRegN R.OCL_LCMDDATA 0 = s.lcmdShown 8 l := rfl
  unfold State.lcmd
  simp only [hgo', hl, ho, hbusy, hshown, hready', hcmd']
  simp [cmdLen]

/-- A lane that is not locked keeps its command for later (R280, R283). -/
theorem issueCmd_of_unlocked {l : Nat} (h : s.laneLocked l = false) (opc src : Nat) (data : List Word64) :
    (s.issueCmd l opc src data).regs = s.regs ∧
      ((s.issueCmd l opc src data).lane l).cmd = some { opc, seq := (s.lane l).seq, data, sends := 0, src, due := true } ∧
      ((s.issueCmd l opc src data).lane l).seq = ((s.lane l).seq + 1) % 256 := by
  have hpump : ∀ x, (s.setLane l x).lanePump l = s.setLane l x := fun x => by
    rw [State.lanePump, show (s.setLane l x).laneLocked l = false from h]
    simp
  have hlane : ∀ x, (s.setLane l x).lane l = x := fun x => (spGet_spPut ..).trans (if_pos rfl)
  unfold State.issueCmd
  rw [hpump, hlane]
  exact ⟨rfl, rfl, rfl⟩

theorem writeOCL_LCMD (s : State) (m : Master) (v : Word) : s.writeOCL m R.OCL_LCMD v = s.lcmd v := by simp [State.writeOCL]

theorem laneCommand_issues {l : Fin 56} (hgo : v.getLsbD 31 = true) (hl : fldOf F.OCL_LCMD_LANE v = l.val) (ho : fldOf F.OCL_LCMD_OPC v = 8)
    (hbusy : s.on F.OCL_LCMDST_BUSY = false) (hready : s.ostate l = loREADY) (hcmd : (s.lane l).cmd = none) (hlock : s.laneLocked l = false) :
    Writes (.laneCommand m v) s m R.OCL_LCMD v fun b t => t.on F.OCL_LCMDST_BUSY = true ∧ t.on F.OCL_LCMDST_FAILED = false ∧
      (t.lane l).cmd = some { opc := 8, seq := (b.lane l).seq, data := [], sends := 0, src := 1, due := true } ∧
      (t.lane l).seq = ((b.lane l).seq + 1) % 256 := by
  refine writes_of_links rfl (by rfl) fun b hb hocl host => ?_
  have hcmd' : (b.lane l).cmd = none := by rw [State.lane, hocl]; exact hcmd
  rw [blockWrite_OCL _ m v (by rfl) (by rfl), writeOCL_LCMD,
    lcmd_issues hgo hl ho ((on_congr hb _).trans hbusy) ((get_congr hb _).trans hready) hcmd']
  have hlock' : (b.lcmdShown 8 l).laneLocked l = false := by
    rw [lcmdShown_laneLocked, ← hlock, State.laneLocked, get_congr hb, State.laneLocked]
  have hlane : (b.lcmdShown 8 l).lane l = b.lane l := rfl
  obtain ⟨hregs, hc, hseq⟩ := issueCmd_of_unlocked hlock' 8 1 []
  obtain ⟨hon, hoff⟩ := lcmdShown_busy b l
  rw [hlane] at hc hseq
  generalize (b.lcmdShown 8 l).issueCmd l 8 1 [] = t at hregs hc hseq ⊢
  exact ⟨(on_congr hregs _).trans hon, (on_congr hregs _).trans hoff, hc, hseq⟩

/-! ### OCL_LCTRL (07 R256) -/

theorem lctrl_windows : ∀ l : Fin 56, plainReg (R.OCL_LCTRL l) = true ∧ fltBlockAt (R.OCL_LCTRL l) = none ∧
    R.OCL_LCTRL l / 0x10000 = 0x1310 := by
  decide

theorem lctrl_apart : ∀ l : Fin 56, ∀ a ∈ [R.OCL_CLAIM, R.OCL_INMAP, R.OCL_LCMD], R.OCL_LCTRL l ≠ a := by decide

theorem lctrl_index : ∀ l : Fin 56, R.OCL_LCTRL 0 ≤ R.OCL_LCTRL l ∧ (R.OCL_LCTRL l - R.OCL_LCTRL 0) % 0x40 = 0 ∧
    (R.OCL_LCTRL l - R.OCL_LCTRL 0) / 0x40 = l := by decide

theorem writeOCL_LCTRL (l : Fin 56) (hv : v.getLsbD 0 = true) (hfail : s.ostate l = loFAIL) :
    s.writeOCL m (R.OCL_LCTRL l) v = s.toState l loQUERY := by
  have hodd : v.toNat % 2 = 1 := by simpa [BitVec.getLsbD, Nat.testBit_zero] using hv
  have hapart := lctrl_apart l
  obtain ⟨hle, hstride, hl⟩ := lctrl_index l
  generalize R.OCL_LCTRL l = a at hapart hle hstride hl ⊢
  unfold State.writeOCL
  rw [if_neg (hapart _ (by decide)), if_neg (hapart _ (by decide)), if_neg (hapart _ (by decide)),
    if_pos ⟨hle, hstride, by rw [hl]; exact l.isLt⟩]
  simp only [hl, hodd, hfail, beq_self_eq_true, decide_true, Bool.and_self, if_true]

theorem laneSend_regs (s : State) (l : Nat) (f : LinkFrame) : (s.laneSend l f).regs = s.regs := by
  unfold State.laneSend
  obtain ⟨_, _, _, _, _, h⟩ := lanePump_wireWork (s.setLane l { s.lane l with queue := (s.lane l).queue ++ [f] }) l
  rw [h]
  rfl

/-- A CAPQ changes no register. -/
theorem sendCapq_regs (s : State) (l : Nat) : (s.sendCapq l).regs = s.regs := by
  unfold State.sendCapq
  exact laneSend_regs _ l _

theorem set_regs_congr {s t : State} (h : s.regs = t.regs) (f : Fld) (n : Nat) : (s.set f n).regs = (t.set f n).regs := by
  simp only [State.set, State.setReg, reg_congr h, h]

theorem toState_query_regs {l : Nat} (h : s.ostate l ≠ loREADY) : (s.toState l loQUERY).regs =
    (((s.set (F.OCL_LSTATE_STATE l) loQUERY).set (F.OCL_LSTATE_VER l) 0).set (F.OCL_LSTATE_REASON l) 0).regs := by
  unfold State.toState
  extract_lets t u x quiet
  have ht : t = s := by simp [t, h]
  have hu : u = s.set (F.OCL_LSTATE_STATE l) loQUERY := by rw [← ht]
  have hquiet : ∀ w : State, (quiet w).regs = (w.set (F.OCL_LSTATE_VER l) 0).regs := fun w => set_regs_congr rfl _ 0
  clear_value u quiet
  rw [if_neg (by decide), if_neg (by decide), if_pos rfl, sendCapq_regs, set_regs_congr (hquiet u), hu]

theorem laneRetry_queries (l : Fin 56) (hv : v.getLsbD 0 = true) (hfail : s.ostate l = loFAIL) :
    Writes (.laneRetry m l v) s m (R.OCL_LCTRL l) v fun b t => t.ostate l = loQUERY ∧ t.get (F.OCL_LSTATE_REASON l) = 0 ∧
      ∀ j : Fin 56, j ≠ l → t.ostate j = b.ostate j := by
  obtain ⟨hr, hf, hblk⟩ := lctrl_windows l
  refine writes_of_blockRegs rfl hr fun b t hb ht => ?_
  have hfail' : b.ostate l = loFAIL := (get_congr hb _).trans hfail
  rw [blockWrite_OCL _ m v hf hblk, writeOCL_LCTRL l hv hfail', toState_query_regs (by rw [hfail']; decide)] at ht
  simp only [State.ostate, get_congr ht]
  refine ⟨?_, get_set_self _ _ _ (show 8 + 4 ≤ 32 by decide), fun j hj => ?_⟩
  · rw [get_set_disjoint _ _ _ _ (.inr (.inl (show 0 + 3 ≤ 8 by decide))), get_set_disjoint _ _ _ _ (.inr (.inl (show 0 + 3 ≤ 24 by decide)))]
    exact get_set_self _ _ _ (show 0 + 3 ≤ 32 by decide)
  · have hne : (F.OCL_LSTATE_STATE j).addr ≠ R.OCL_LSTATE l := by
      have hval := Fin.val_ne_of_ne hj
      change 0x13101008 + 0x40 * j.val ≠ 0x13101008 + 0x40 * l.val
      omega
    rw [get_set_disjoint _ _ _ _ (.inl hne), get_set_disjoint _ _ _ _ (.inl hne), get_set_disjoint _ _ _ _ (.inl hne)]

end

/-! ### Registers of a serial lane -/

/-- `g` lies apart from what a change of state of lane `l` writes beside LSTATE: LANE_UP, LOCKLOSS, the eye monitor and the upper bits of
LANE_STAT. -/
structure BesideState (g : Fld) (l : Nat) : Prop where
  up : g.addr ≠ R.LANE_UP_LO + 4 * (l / 32)
  lost : g.addr ≠ R.LANE_LOCKLOSS l
  eye : g.addr ≠ R.LANE_EYECTL l
  stat : g.addr ≠ R.LANE_STAT l ∨ g.lo + g.width ≤ 5
  still : ¬ Moved g.addr

theorem faultNew_get_apart (s : State) {f g : Fld} (q : Src) (x : Acc) (h : g.addr ≠ f.addr ∨ g.lo + g.width ≤ f.lo ∨ f.lo + f.width ≤ g.lo)
    (hm : ¬ Moved g.addr) : (s.faultNew f q x).get g = s.get g := by
  unfold State.faultNew
  split
  · rfl
  · rw [raise_get _ _ _ hm, get_flag_disjoint _ _ _ h]

section
variable {g : Fld} {l : Nat} (h : BesideState g l)
include h

theorem BesideState.apart {lo w : Nat} (hlo : 5 ≤ lo) : g.addr ≠ R.LANE_STAT l ∨ g.lo + g.width ≤ lo ∨ lo + w ≤ g.lo :=
  h.stat.imp_right fun hle => .inl (hle.trans hlo)

theorem setEq_get (s : State) (c : Nat) : (s.setEq l c).get g = s.get g := by
  unfold State.setEq
  split
  · rfl
  · extract_lets t
    have ht : t.get g = s.get g := get_set_disjoint _ _ _ _ (h.apart (show 5 ≤ 28 by decide))
    split
    · exact (get_set_disjoint _ _ _ _ (.inl h.eye)).trans ht
    · exact ht

theorem eqNow_get (s : State) : (s.eqNow l).get g = s.get g := by
  unfold State.eqNow
  split
  · exact setEq_get h s _
  · rfl

/-- Of such fields a change of state alone writes LSTATE. -/
theorem setLs_get (s : State) (st : Nat) : (s.setLs l st).get g = (s.set (F.LANE_STAT_LSTATE l) st).get g := by
  unfold State.setLs
  extract_lets left t u w
  have ht : t.get g = (s.set (F.LANE_STAT_LSTATE l) st).get g := get_setReg_ne _ _ _ _ h.up
  have hu : u.get g = t.get g := by
    unfold u
    split
    · exact (faultNew_get_apart _ _ _ (h.apart (show 5 ≤ 5 from le_rfl)) h.still).trans (get_setReg_ne _ _ _ _ h.lost)
    · rfl
  have hw : w.get g = u.get g := by
    unfold w
    split
    · exact (get_set_disjoint _ _ _ _ (.inl h.eye)).trans ((get_set_disjoint _ _ _ _ (.inl h.eye)).trans (get_set_disjoint _ _ _ _ (.inl h.eye)))
    · rfl
  rw [eqNow_get h, hw, hu, ht]

end

/-- `g` belongs to no lane but `l`, and a move of that lane writes it at most through LSTATE. -/
structure OfLane (g : Fld) (l : Nat) : Prop where
  beside : ∀ j, j < 64 → BesideState g j
  other : ∀ j, j ≠ l → g.addr ≠ R.LANE_STAT j
  port : g.addr ≠ R.LANE_PORT

theorem unalign_get (s : State) (p : Nat) {g : Fld} (h : g.addr ≠ R.LANE_PORT) : (s.unalign p).get g = s.get g :=
  (get_set_disjoint _ _ _ _ (.inl h)).trans (get_set_disjoint _ _ _ _ (.inl h))

theorem moveLane_get (s : State) {l : Nat} (hl : l < 64) (st : Nat) {g : Fld} (h : OfLane g l) :
    (s.moveLane l st).get g = (s.set (F.LANE_STAT_LSTATE l) st).get g := by
  unfold State.moveLane
  extract_lets t o u
  have ht : t.get g = (s.set (F.LANE_STAT_LSTATE l) st).get g := setLs_get (h.beside l hl) s st
  split
  · next hb =>
    have hu : u.get g = t.get g := unalign_get t _ h.port
    have hne : o ≠ l := by unfold o; split <;> omega
    have ho : o < 64 := by
      simp only [isBonded, Bool.and_eq_true, decide_eq_true_eq] at hb
      unfold o
      split <;> omega
    split
    · rw [setLs_get (h.beside o ho), get_set_disjoint _ _ _ _ (.inl (h.other o hne)), hu, ht]
    · rw [hu, ht]
  · exact ht

/-- LANE_CFG of the lane and the lower bits of its LANE_STAT are such fields. -/
theorem ofLane_of_addr {g : Fld} {l o : Nat} (hl : l < 64) (ha : g.addr = 0x13000000 + 0x400 * l + o)
    (ho : o = 0 ∨ o = 4 ∧ g.lo + g.width ≤ 5) : OfLane g l where
  beside j hj :=
    { up := by unfold R.LANE_UP_LO; omega
      lost := by unfold R.LANE_LOCKLOSS; omega
      eye := by unfold R.LANE_EYECTL; omega
      stat := by unfold R.LANE_STAT; omega
      still := not_moved (by omega) (by
        simp only [List.mem_cons, List.not_mem_nil, or_false, R.SYS_STATE, R.RING_STAT, R.RING_GQ, R.ENG_STAT, R.TWIN_STAT, R.ALM_SWAP,
          R.ALM_MODE, R.ALM_STAT]
        omega) }
  other j hj := by unfold R.LANE_STAT; omega
  port := by unfold R.LANE_PORT; omega

theorem ofLane_LSTATE {l : Nat} (hl : l < 64) : OfLane (F.LANE_STAT_LSTATE l) l :=
  ofLane_of_addr (o := 4) hl (by simp only [F.LANE_STAT_LSTATE]; omega) (.inr ⟨rfl, show 0 + 3 ≤ 5 by decide⟩)

theorem ofLane_EN {l : Nat} (hl : l < 64) : OfLane (F.LANE_CFG_EN l) l := ofLane_of_addr (o := 0) hl rfl (.inl rfl)

/-- A move leaves LANE_CFG and shows the new state. -/
theorem moveLane_shows (s : State) {l st : Nat} (hl : l < 64) (hst : st < 8) :
    (s.moveLane l st).get (F.LANE_CFG_EN l) = s.get (F.LANE_CFG_EN l) ∧ (s.moveLane l st).ls l = st := by
  constructor
  · have hne : (F.LANE_CFG_EN l).addr ≠ R.LANE_STAT l := by simp only [F.LANE_CFG_EN, R.LANE_STAT]; omega
    rw [moveLane_get s hl st (ofLane_EN hl), get_set_disjoint _ _ _ _ (.inl hne)]
  · rw [State.ls, moveLane_get s hl st (ofLane_LSTATE hl), get_set_self _ _ _ (show 0 + 3 ≤ 32 by decide)]
    exact Nat.mod_eq_of_lt hst

/-! ### LANE_CFG (08 R298) -/

theorem serial_windows : ∀ l : Fin 64, ∀ a ∈ [R.LANE_CFG l, R.LANE_EYECTL l],
    plainReg a = true ∧ fltBlockAt a = none ∧ a / 0x10000 = 0x1300 := by
  decide

/-- EN may be written, and no bit of LANE_CFG clears by writing 1. -/
def cfgRow (row : RegRow) : Bool := row.rw.getLsbD 0 && row.w1c == 0

theorem laneCfg_rows : ∀ l : Fin 64, (regRowAt (R.LANE_CFG l)).any cfgRow = true := by decide

theorem laneCfg_row (l : Fin 64) : ∃ row, regRowAt (R.LANE_CFG l) = some row ∧ row.rw.getLsbD 0 = true ∧ row.w1c = 0 := by
  have h := laneCfg_rows l
  rw [Option.any_eq_true] at h
  obtain ⟨row, hrow, hbits⟩ := h
  simp only [cfgRow, Bool.and_eq_true, beq_iff_eq] at hbits
  exact ⟨row, hrow, hbits⟩

/-- Where no bit clears by writing 1, a write takes the RW bits and keeps the others. -/
theorem wouldBe_bit (s : State) {a : Nat} (v : Word) {row : RegRow} (h : regRowAt a = some row) (hw : row.w1c = 0) (i : Nat) :
    (s.wouldBe a v).getLsbD i = if row.rw.getLsbD i then v.getLsbD i else (s.reg a).getLsbD i := by
  simp only [State.wouldBe, h, writtenBy, hw, BitVec.getLsbD_or, BitVec.getLsbD_and, BitVec.getLsbD_not]
  by_cases hi : i < 32
  · cases row.rw.getLsbD i <;> simp [hi]
  · have hge : ∀ x : Word, x.getLsbD i = false := fun x => BitVec.getLsbD_of_ge x i (Nat.le_of_not_lt hi)
    simp [hge]

/-- What a write leaves in LANE_CFG depends on the registers alone. -/
theorem wouldBe_LANE_CFG_congr {s t : State} (h : s.regs = t.regs) (l : Fin 64) (v : Word) :
    s.wouldBe (R.LANE_CFG l) v = t.wouldBe (R.LANE_CFG l) v := by
  obtain ⟨row, hrow, -, hw⟩ := laneCfg_row l
  exact BitVec.eq_of_getLsbD_eq fun i _ => by rw [wouldBe_bit s v hrow hw, wouldBe_bit t v hrow hw, reg_congr h]

theorem wouldBe_LANE_CFG_en (s : State) (l : Fin 64) (v : Word) : fldOf (F.LANE_CFG_EN l) (s.wouldBe (R.LANE_CFG l) v) = b2n (v.getLsbD 0) := by
  obtain ⟨row, hrow, hrw, hw⟩ := laneCfg_row l
  rw [fldOf_bit rfl, show (F.LANE_CFG_EN l).lo = 0 from rfl, wouldBe_bit s v hrow hw, if_pos hrw]

/-- A write that differs from the register in EN at most leaves the other fields. -/
theorem wouldBe_LANE_CFG_same {s : State} {l : Fin 64} {v : Word} (h : ∀ i, i < 32 → i ≠ 0 → v.getLsbD i = (s.reg (R.LANE_CFG l)).getLsbD i)
    {f : Fld} (ha : f.addr = R.LANE_CFG l) (hlo : 0 < f.lo) (hhi : f.lo + f.width ≤ 32) : fldOf f (s.wouldBe (R.LANE_CFG l) v) = s.get f := by
  obtain ⟨row, hrow, -, hw⟩ := laneCfg_row l
  rw [State.get, ha]
  apply Nat.eq_of_testBit_eq
  intro i
  rw [fldOf_testBit, fldOf_testBit, wouldBe_bit s v hrow hw]
  by_cases hi : i < f.width
  · rw [h (f.lo + i) (by omega) (by omega), ite_self]
  · simp [hi]

theorem plainWrite_LANE_CFG (s : State) (l : Fin 64) (v : Word) :
    s.plainWrite (R.LANE_CFG l) v = s.setReg (R.LANE_CFG l) (s.wouldBe (R.LANE_CFG l) v) := by
  obtain ⟨row, hrow, -⟩ := laneCfg_row l
  simp only [State.plainWrite, hrow]

theorem plainWrite_LANE_CFG_en (s : State) (l : Fin 64) (v : Word) :
    (s.plainWrite (R.LANE_CFG l) v).get (F.LANE_CFG_EN l) = b2n (v.getLsbD 0) := by
  rw [plainWrite_LANE_CFG, ← wouldBe_LANE_CFG_en s l v]
  exact get_setReg_self s _ (F.LANE_CFG_EN l)

theorem serial_index (l : Fin 64) : R.LANE_CFG l < 0x13010000 ∧ (R.LANE_CFG l - 0x13000000) / 0x400 = l ∧ R.LANE_CFG l % 0x400 = 0 ∧
    R.LANE_EYECTL l < 0x13010000 ∧ (R.LANE_EYECTL l - 0x13000000) / 0x400 = l ∧ R.LANE_EYECTL l % 0x400 = 0x24 := by
  revert l
  decide

theorem writeLANE_LANE_CFG (s : State) (m : Master) (l : Fin 64) (v : Word) : s.writeLANE m (R.LANE_CFG l) v = s.laneCfg m l v := by
  obtain ⟨hlt, hl, hoff, -⟩ := serial_index l
  generalize R.LANE_CFG l = a at hlt hl hoff ⊢
  simp only [State.writeLANE, hl, hoff, if_neg (Nat.not_le_of_lt hlt), if_true]

theorem writeLANE_LANE_EYECTL (s : State) (m : Master) (l : Fin 64) (v : Word) : s.writeLANE m (R.LANE_EYECTL l) v = s.eyeWrite m l v := by
  obtain ⟨-, -, -, hlt, hl, hoff⟩ := serial_index l
  generalize R.LANE_EYECTL l = a at hlt hl hoff ⊢
  simp only [State.writeLANE, hl, hoff, if_neg (Nat.not_le_of_lt hlt), if_true]
  rfl

section
variable {s : State} {m : Master} {v : Word} {l : Fin 64}

/-- A disabled lane that is enabled starts in CDR. -/
theorem laneCfg_enables (hv : v.getLsbD 0 = true) (hen : s.on (F.LANE_CFG_EN l) = false)
    (hrate : fldOf (F.LANE_CFG_RATE l) (s.wouldBe (R.LANE_CFG l) v) ≠ 3) :
    (s.laneCfg m l v).on (F.LANE_CFG_EN l) = true ∧ (s.laneCfg m l v).ls l = lsCDR := by
  have hnew : fldOf (F.LANE_CFG_EN l) (s.wouldBe (R.LANE_CFG l) v) = 1 := (wouldBe_LANE_CFG_en s l v).trans (congrArg b2n hv)
  have hw := (plainWrite_LANE_CFG_en s l v).trans (congrArg b2n hv)
  unfold State.laneCfg
  extract_lets a new en diff t u w
  have hu : u.get (F.LANE_CFG_EN l) = 1 := by
    unfold u
    split
    · exact (get_setReg_ne _ _ _ _ (by simp only [F.LANE_CFG_EN, R.LANE_PRBSERR]; omega)).trans hw
    · exact hw
  have hx : (u.set (F.LANE_STAT_RXINV l) (u.get (F.LANE_CFG_RXPOL l))).get (F.LANE_CFG_EN l) = 1 :=
    (get_set_disjoint _ _ _ _ (.inl (by simp only [F.LANE_CFG_EN, F.LANE_STAT_RXINV]; omega))).trans hu
  obtain ⟨hcfg, hls⟩ := moveLane_shows (u.set (F.LANE_STAT_RXINV l) (u.get (F.LANE_CFG_RXPOL l))) l.isLt (show lsCDR < 8 by decide)
  rw [if_neg (by simp [en, new, a, hen, hrate]), if_neg (by rw [hnew]; decide), if_neg (by simp [en, hen])]
  exact ⟨congrArg (· != 0) (hcfg.trans hx), hls⟩

/-- An enabled lane that is disabled, and nothing else of it changed, is OFF. -/
theorem laneCfg_disables (hv : v.getLsbD 0 = false) (hen : s.on (F.LANE_CFG_EN l) = true)
    (hsame : ∀ i, i < 32 → i ≠ 0 → v.getLsbD i = (s.reg (R.LANE_CFG l)).getLsbD i) (hrate : s.get (F.LANE_CFG_RATE l) ≠ 3) :
    (s.laneCfg m l v).on (F.LANE_CFG_EN l) = false ∧ (s.laneCfg m l v).ls l = lsOFF := by
  have hnew : fldOf (F.LANE_CFG_EN l) (s.wouldBe (R.LANE_CFG l) v) = 0 := (wouldBe_LANE_CFG_en s l v).trans (congrArg b2n hv)
  have hwr := (plainWrite_LANE_CFG_en s l v).trans (congrArg b2n hv)
  have hRATE := wouldBe_LANE_CFG_same hsame (f := F.LANE_CFG_RATE l) rfl (show 0 < 8 by decide) (show 8 + 2 ≤ 32 by decide)
  have hHSMODE := wouldBe_LANE_CFG_same hsame (f := F.LANE_CFG_HSMODE l) rfl (show 0 < 10 by decide) (show 10 + 1 ≤ 32 by decide)
  have hANEN := wouldBe_LANE_CFG_same hsame (f := F.LANE_CFG_ANEN l) rfl (show 0 < 11 by decide) (show 11 + 1 ≤ 32 by decide)
  have hRXPOL := wouldBe_LANE_CFG_same hsame (f := F.LANE_CFG_RXPOL l) rfl (show 0 < 2 by decide) (show 2 + 1 ≤ 32 by decide)
  unfold State.laneCfg
  extract_lets a new en diff t
  obtain ⟨hcfg, hls⟩ := moveLane_shows t l.isLt (show lsOFF < 8 by decide)
  rw [if_neg (by simp [diff, new, a, hRATE, hHSMODE, hANEN, hRXPOL, hrate]), if_pos hnew, if_pos hen]
  exact ⟨congrArg (· != 0) (hcfg.trans hwr), hls⟩

/-! ### LANE_EYECTL (08 R310) -/

theorem eyeWrite_starts (hv : v.getLsbD 31 = true) (hbusy : s.on (F.LANE_EYECTL_BUSY l) = false) (hls : lsHUNT ≤ s.ls l) :
    (s.eyeWrite m l v).on (F.LANE_EYECTL_BUSY l) = true ∧ (s.eyeWrite m l v).on (F.LANE_EYECTL_DONE l) = false ∧
      (s.eyeWrite m l v).reg (R.LANE_EYEERR l) = 0 := by
  have hstart : fldOf (F.LANE_EYECTL_START l) v = 1 := (fldOf_bit rfl v).trans (congrArg b2n hv)
  have hne : (F.LANE_STAT_LSTATE l).addr ≠ R.LANE_EYECTL l := by simp only [F.LANE_STAT_LSTATE, R.LANE_EYECTL]; omega
  have hls' : lsHUNT ≤ (s.plainWrite (R.LANE_EYECTL l) v).ls l := hls.trans (plainWrite_get_ne s v _ hne).symm.le
  have herr : R.LANE_EYEERR l ≠ R.LANE_EYECTL l := by unfold R.LANE_EYEERR R.LANE_EYECTL; omega
  unfold State.eyeWrite
  rw [if_neg (by simp [hbusy])]
  extract_lets t
  rw [if_pos (by simp [hstart, t, hls'])]
  refine ⟨?_, ?_, ?_⟩
  · rw [on_set_ne _ _ (.inr (.inr (show 27 + 1 ≤ 30 by decide))), on_set_ne _ _ (.inr (.inr (show 28 + 1 ≤ 30 by decide))),
      on_set_ne _ _ (.inr (.inr (show 29 + 1 ≤ 30 by decide))), State.on, get_set_self _ _ _ (show 30 + 1 ≤ 32 by decide)]
    rfl
  · rw [on_set_ne _ _ (.inr (.inr (show 27 + 1 ≤ 29 by decide))), on_set_ne _ _ (.inr (.inr (show 28 + 1 ≤ 29 by decide)))]
    exact on_set_zero _ _ (show 29 + 1 ≤ 32 by decide)
  · rw [reg_set_ne _ _ herr, reg_set_ne _ _ herr, reg_set_ne _ _ herr, reg_set_ne _ _ herr, reg_setRegN_self]
    rfl

/-! ### The writes of a lane's registers -/

theorem laneEnable_starts (hv : v.getLsbD 0 = true) (hen : s.on (F.LANE_CFG_EN l) = false)
    (hrate : fldOf (F.LANE_CFG_RATE l) (s.wouldBe (R.LANE_CFG l) v) ≠ 3) :
    Writes (.laneEnable m l v) s m (R.LANE_CFG l) v fun _ t => t.on (F.LANE_CFG_EN l) = true ∧ t.ls l = lsCDR := by
  obtain ⟨hr, hf, hblk⟩ := serial_windows l (R.LANE_CFG l) (by simp)
  refine writes_of_blockRegs rfl hr fun b t hb ht => ?_
  rw [blockWrite_LANE _ m v hf hblk, writeLANE_LANE_CFG] at ht
  rw [on_congr ht, State.ls, get_congr ht]
  exact laneCfg_enables hv ((on_congr hb _).trans hen) (by rw [wouldBe_LANE_CFG_congr hb]; exact hrate)

theorem laneDisable_turns_off (hen : s.on (F.LANE_CFG_EN l) = true)
    (hsame : ∀ i, i < 32 → i ≠ 0 → v.getLsbD i = (s.reg (R.LANE_CFG l)).getLsbD i) (hv : v.getLsbD 0 = false)
    (hrate : s.get (F.LANE_CFG_RATE l) ≠ 3) :
    Writes (.laneDisable m l v) s m (R.LANE_CFG l) v fun _ t => t.on (F.LANE_CFG_EN l) = false ∧ t.ls l = lsOFF := by
  obtain ⟨hr, hf, hblk⟩ := serial_windows l (R.LANE_CFG l) (by simp)
  refine writes_of_blockRegs rfl hr fun b t hb ht => ?_
  rw [blockWrite_LANE _ m v hf hblk, writeLANE_LANE_CFG] at ht
  rw [on_congr ht, State.ls, get_congr ht]
  exact laneCfg_disables hv ((on_congr hb _).trans hen) (by rw [reg_congr hb]; exact hsame) (by rw [get_congr hb]; exact hrate)

theorem eyeStart_starts (hv : v.getLsbD 31 = true) (hbusy : s.on (F.LANE_EYECTL_BUSY l) = false) (hls : lsHUNT ≤ s.ls l) :
    Writes (.eyeStart m l v) s m (R.LANE_EYECTL l) v fun _ t => t.on (F.LANE_EYECTL_BUSY l) = true ∧
      t.on (F.LANE_EYECTL_DONE l) = false ∧ t.reg (R.LANE_EYEERR l) = 0 := by
  obtain ⟨hr, hf, hblk⟩ := serial_windows l (R.LANE_EYECTL l) (by simp)
  refine writes_of_blockRegs rfl hr fun b t hb ht => ?_
  rw [blockWrite_LANE _ m v hf hblk, writeLANE_LANE_EYECTL] at ht
  rw [on_congr ht, on_congr ht, reg_congr ht]
  exact eyeWrite_starts hv ((on_congr hb _).trans hbusy) (by rw [State.ls, get_congr hb]; exact hls)

end

/-! ### The obligation -/

/-- Settles O15: each write goes to its block, whose rule is the lemma named. -/
theorem linkLogAndKeyRegistersTakeEffect : Obligations.LinkLogAndKeyRegistersTakeEffect := by
  intro s m v
  exact ⟨fun _ => laneCommand_issues, laneRetry_queries, fun _ hv hen _ => laneEnable_starts hv hen, fun _ => laneDisable_turns_off,
    fun _ => eyeStart_starts, fun _ => ⟨oclEnWrite_takes rfl, oclEnWrite_takes rfl⟩, logForce_waits, keyRevoke_takes⟩

end Sys2Proof.Machine

/-! ## O14: modulation channels, converters and filters (06 R219 to R221, R226, R227, R232, 10 R376, R377, R386, R394, R402) -/
namespace Sys2Proof.Machine
open Sys2Proof.Stmt

/-! ### The MOD block -/

theorem fltBase_beside_MOD : ∀ b : Fin 24, fltBase b.val + 16 ≤ 0x12000000 ∨ 0x120108F0 ≤ fltBase b.val := by decide

section
variable {a : Nat} (hlo : 0x12000000 ≤ a) (hhi : a < 0x120108F0)
include hlo hhi

theorem fltBlockAt_MOD : fltBlockAt a = none := by
  refine Option.map_eq_none_iff.mpr (List.find?_eq_none.mpr fun b hb => ?_)
  have hapart : fltBase b + 16 ≤ 0x12000000 ∨ 0x120108F0 ≤ fltBase b := fltBase_beside_MOD ⟨b, List.mem_range.mp hb⟩
  simp only [Bool.and_eq_true, decide_eq_true_eq]
  omega

theorem plainReg_MOD (h4 : a % 4 = 0) (h : a ≠ R.MOD_TREF_LO) (h' : a ≠ R.MOD_TREF_HI) : plainReg a = true := by
  simp only [R.MOD_TREF_LO, R.MOD_TREF_HI] at h h'
  simp only [plainReg, isVdm, isSdm, isLogMem, isWideWrite, R.CHRONO_SET_LO, R.MOD_TREF_LO, R.OCL_LCMDP_LO, Bool.and_eq_true, beq_iff_eq,
    Bool.not_eq_true', Bool.and_eq_false_iff, Bool.or_eq_false_iff, decide_eq_false_iff_not, beq_eq_false_iff_ne]
  omega

theorem blockWrite_MOD (s : State) (m : Master) (v : Word) : s.blockWrite m a v = s.writeMOD m a v := by
  have hblk : a / 0x10000 = 0x1200 ∨ a / 0x10000 = 0x1201 := by omega
  rcases hblk with h | h <;> simp only [State.blockWrite, fltBlockAt_MOD hlo hhi, h]

end

/-! ### The registers of a channel (06 Table 1) -/

/-- The address of the register `j` of channel `c`: 0 is MOD_CFG, 1 to 4 are the shadows of 28 bits, 13 is MOD_CHST. -/
def chReg (c : Fin 465) (j : Nat) : Nat := chBase (chanOf c) + 4 * j

/-- The blocks of the cells lie together, and so do those of the local pairs and those of the auxiliary legs. -/
theorem ri_chanOf (c : Fin 465) :
    ri (chanOf c) < 448 ∨ 1024 ≤ ri (chanOf c) ∧ ri (chanOf c) < 1032 ∨ 1040 ≤ ri (chanOf c) ∧ ri (chanOf c) < 1049 := by
  unfold ri chanOf
  split <;> split <;> omega

theorem chReg_eq (c : Fin 465) (j : Nat) : chReg c j = 0x12000000 + 0x40 * ri (chanOf c) + 4 * j := rfl

theorem chReg_offset (c : Fin 465) {j : Nat} (hj : j < 16) : chReg c j % 0x40 = 4 * j := by rw [chReg_eq]; omega

theorem chanAt_chReg (c : Fin 465) {j : Nat} (hj : j < 16) : chanAt (chReg c j) = some (chanOf c) := by
  unfold chanAt chReg chBase R.MOD_CFG ri chanOf
  split_ifs
  all_goals
    congr 1
    omega

/-- A row of the cells' registers holds the register at an offset of one cell if it holds that of the first one. -/
theorem holds_cell {row : RegRow} (hrow : row ∈ regRowsMOD) {c o : Nat} (hc : c < 448) (ho : o < 0x40) :
    row.holds (0x12000000 + 0x40 * c + o) = row.holds (0x12000000 + o) := by
  have hkind : (row.stride = 0x40 ∧ row.count = 448 ∧ 0x12000000 ≤ row.base ∧ row.base < 0x12000040) ∨ 0x12010000 ≤ row.base := by
    revert row
    decide
  rw [Bool.eq_iff_iff]
  rcases hkind with ⟨hstride, hcount, hlo, hhi⟩ | hbase
  · simp only [RegRow.holds, hstride, hcount, Bool.and_eq_true, decide_eq_true_eq, if_neg (show ¬ 448 ≤ 1 by decide), beq_iff_eq]
    omega
  · have h1 : ¬ row.base ≤ 0x12000000 + 0x40 * c + o := by omega
    have h2 : ¬ row.base ≤ 0x12000000 + o := by omega
    simp [RegRow.holds, h1, h2]

/-- The bits that a write sets in a channel's registers 0 to 4. -/
def chanRw (j : Nat) : Word := if j = 0 then 0xFFEF00F9 else 0xFFFFFFF

/-- All 28 bits of a shadow are RW. -/
theorem shadow_bits (j : Nat) : ∀ i, 0 ≤ i → i < 28 → (chanRw (j + 1)).getLsbD i = true := by
  rw [show chanRw (j + 1) = 0xFFFFFFF from rfl]
  decide

theorem firstCell_rw : ∀ j : Fin 5, (regRowAt (0x12000000 + 4 * j.val)).map (·.rw) = some (chanRw j) := by decide

theorem local_rw : ∀ i : Fin 25, ∀ j : Fin 5, i.val < 8 ∨ 16 ≤ i.val →
    (regRowAt (0x12000000 + 0x40 * (1024 + i.val) + 4 * j.val)).map (·.rw) = some (chanRw j) := by decide

theorem chReg_rw (c : Fin 465) {j : Nat} (hj : j < 5) : ∃ row, regRowAt (chReg c j) = some row ∧ row.rw = chanRw j := by
  rw [← Option.map_eq_some_iff, chReg_eq]
  have hri := ri_chanOf c
  by_cases hcell : ri (chanOf c) < 448
  · rw [← firstCell_rw ⟨j, hj⟩]
    have h0 : (0x12000000 + 4 * j) / 0x10000 = 0x1200 := by omega
    have h1 : (0x12000000 + 0x40 * ri (chanOf c) + 4 * j) / 0x10000 = 0x1200 := by omega
    simp only [regRowAt, regRowsAt, h0, h1]
    rw [List.find?_congr fun row hrow => holds_cell hrow hcell (show 4 * j < 0x40 by omega)]
  · have h := local_rw ⟨ri (chanOf c) - 1024, by omega⟩ ⟨j, hj⟩ (by simp only; omega)
    rwa [show 1024 + (ri (chanOf c) - 1024) = ri (chanOf c) by omega] at h

/-- A field of a channel's register all of whose bits are RW reads what was written. -/
theorem plainWrite_chReg_get (s : State) (c : Fin 465) {j : Nat} (hj : j < 5) (v : Word) {g : Fld} (ha : g.addr = chReg c j)
    (hrw : ∀ i, g.lo ≤ i → i < g.lo + g.width → (chanRw j).getLsbD i = true) : (s.plainWrite (chReg c j) v).get g = fldOf g v := by
  obtain ⟨row, hrow, hbits⟩ := chReg_rw c hj
  rw [← ha] at hrow ⊢
  exact plainWrite_get s g v hrow (by rw [hbits]; exact hrw)

theorem setChan_chan_self (s : State) (c : Nat) (x : ChSt) : (s.setChan c x).chan c = x := (spGet_spPut ..).trans (if_pos rfl)

theorem setChan_chan_ne (s : State) {c j : Nat} (h : j ≠ c) (x : ChSt) : (s.setChan c x).chan j = s.chan j := (spGet_spPut ..).trans (if_neg h)

theorem plainWrite_chan (s : State) (a : Nat) (v : Word) (c : Nat) : (s.plainWrite a v).chan c = s.chan c := by
  rw [State.chan, plainWrite_mod, State.chan]

section
variable {i : Instr} {s : State} {m : Master} {v : Word} {c : Fin 465} {P : State → State → Prop}

/-- A write of one of the registers 0 to 4 of a channel is a write in the MOD block. -/
theorem writes_of_chReg {j : Nat} (hj : j < 5) (hi : exec i s = busWrite m (chReg c j) v s)
    (h : ∀ b : State, b.regs = s.regs → ∀ host, P b { b.writeMOD m (chReg c j) v with host }) : Writes i s m (chReg c j) v P := by
  have hri := ri_chanOf c
  have ha := chReg_eq c j
  have hplain : plainReg (chReg c j) = true :=
    plainReg_MOD (by omega) (by omega) (by omega) (by rw [R.MOD_TREF_LO]; omega) (by rw [R.MOD_TREF_HI]; omega)
  refine writes_of_block hi hplain fun b hb host => ?_
  rw [blockWrite_MOD (by omega) (by omega)]
  exact h b hb host

/-! ### MOD_CFG (R219, R220, R232) -/

theorem cfgBad_congr {s t : State} (h : s.regs = t.regs) (k : Nat) (v : Word) : s.cfgBad k v = t.cfgBad k v := by
  simp only [State.cfgBad, on_congr h, get_congr h]

theorem writeMOD_cfg (s : State) (m : Master) (c : Fin 465) (v : Word) : s.writeMOD m (chReg c 0) v = s.cfgWrite m (chanOf c) v := by
  simp only [State.writeMOD, chanAt_chReg c (show 0 < 16 by decide), chReg_offset c (show 0 < 16 by decide), if_true, Nat.mul_zero]

/-- A flag that reads as a written word has its bit. -/
theorem on_of_get {s : State} {f : Fld} {v : Word} (hw : f.width = 1) (h : s.get f = fldOf f v) : s.on f = v.getLsbD f.lo := by
  rw [State.on, h, fldOf_bit hw]
  cases v.getLsbD f.lo <;> rfl

theorem plainWrite_MOD_CFG_en (s : State) (c : Fin 465) (v : Word) :
    (s.plainWrite (chReg c 0) v).on (F.MOD_CFG_EN (ri (chanOf c))) = v.getLsbD 0 :=
  on_of_get rfl (plainWrite_chReg_get s c (by decide) v rfl (by simp only [F.MOD_CFG_EN]; decide))

/-- Beside the register an accepted write changes at most the channel. -/
theorem cfgWrite_regs (hbad : s.cfgBad (chanOf c) v = false) : (s.cfgWrite m (chanOf c) v).regs = (s.plainWrite (chReg c 0) v).regs := by
  unfold State.cfgWrite
  rw [hbad]
  simp only [Bool.false_eq_true, if_false]
  split_ifs <;> rfl

/-- A rising EN starts the channel (R219), a falling one stops it (R220). -/
theorem cfgWrite_changes {e : Bool} (hbad : s.cfgBad (chanOf c) v = false) (hv : v.getLsbD 0 = e) (hen : s.on (F.MOD_CFG_EN (ri (chanOf c))) = !e) :
    s.cfgWrite m (chanOf c) v = (s.plainWrite (chReg c 0) v).setChan (chanOf c) { s.chan (chanOf c) with starting := e, off := true } := by
  have hnew : (s.plainWrite (chBase (chanOf c)) v).on (F.MOD_CFG_EN (ri (chanOf c))) = e := (plainWrite_MOD_CFG_en s c v).trans hv
  simp only [State.cfgWrite, hbad, hen, hnew, plainWrite_chan]
  cases e <;> rfl

/-- Either change of EN, in a write that is accepted. -/
theorem channelWrite_changes {e : Bool} (hi : exec i s = busWrite m (chReg c 0) v s) (hv : v.getLsbD 0 = e)
    (hen : s.on (F.MOD_CFG_EN (ri (chanOf c))) = !e) (hbad : s.cfgBad (chanOf c) v = false) :
    Writes i s m (chReg c 0) v fun b t => t.on (F.MOD_CFG_EN (ri (chanOf c))) = e ∧
      t.chan (chanOf c) = { b.chan (chanOf c) with starting := e, off := true } ∧ ∀ j, j ≠ chanOf c → t.chan j = b.chan j := by
  refine writes_of_chReg (by decide) hi fun b hb host => ?_
  rw [writeMOD_cfg, cfgWrite_changes ((cfgBad_congr hb _ _).trans hbad) hv ((on_congr hb _).trans hen)]
  exact ⟨(plainWrite_MOD_CFG_en b c v).trans hv, setChan_chan_self .., fun j hj => (setChan_chan_ne _ hj _).trans (plainWrite_chan ..)⟩

theorem modCfgWrite_takes (hbad : s.cfgBad (chanOf c) v = false) : Writes (.modCfgWrite m c v) s m (chReg c 0) v fun _ t =>
    let r := ri (chanOf c)
    t.get (F.MOD_CFG_MODE r) = fldOf (F.MOD_CFG_MODE r) v ∧ t.get (F.MOD_CFG_SAFEH r) = fldOf (F.MOD_CFG_SAFEH r) v ∧
      t.get (F.MOD_CFG_SAFEL r) = fldOf (F.MOD_CFG_SAFEL r) v ∧ t.get (F.MOD_CFG_GRP r) = fldOf (F.MOD_CFG_GRP r) v := by
  refine writes_of_chReg (by decide) rfl fun b hb host => ?_
  rw [writeMOD_cfg]
  have hregs := cfgWrite_regs (m := m) ((cfgBad_congr hb _ _).trans hbad)
  have htake : ∀ {g : Fld}, g.addr = chReg c 0 → (∀ i, g.lo ≤ i → i < g.lo + g.width → (chanRw 0).getLsbD i = true) →
      (b.cfgWrite m (chanOf c) v).get g = fldOf g v :=
    fun ha hrw => (get_congr hregs _).trans (plainWrite_chReg_get b c (by decide) v ha hrw)
  exact ⟨htake rfl (by simp only [F.MOD_CFG_MODE]; decide), htake rfl (by simp only [F.MOD_CFG_SAFEH]; decide),
    htake rfl (by simp only [F.MOD_CFG_SAFEL]; decide), htake rfl (by simp only [F.MOD_CFG_GRP]; decide)⟩

/-! ### The shadows (R226) and the groups (R227) -/

theorem reg_orFld_ne (s : State) (f : Fld) (n : Nat) {a : Nat} (h : a ≠ f.addr) : (s.orFld f n).reg a = s.reg a :=
  (reg_set_ne _ _ h _).trans (mark_reg ..)

theorem get_orFld_self (s : State) (f : Fld) {n : Nat} (h : f.lo + f.width ≤ 32) (hn : n < 2 ^ f.width) : (s.orFld f n).get f = s.get f ||| n := by
  rw [State.orFld, get_set_self _ _ _ h]
  exact Nat.mod_eq_of_lt (Nat.or_lt_two_pow (Nat.mod_lt _ (Nat.two_pow_pos _)) hn)

theorem chReg_shadow (c : Fin 465) (f : Nat) : chReg c (f + 1) = chBase (chanOf c) + 4 + 4 * f := by unfold chReg; omega

theorem writeMOD_shadow (s : State) (m : Master) (c : Fin 465) (f : Fin 4) (v : Word) :
    s.writeMOD m (chReg c (f + 1)) v = (s.plainWrite (chReg c (f + 1)) v).orFld (F.MOD_CHST_WR (ri (chanOf c))) (2 ^ f.val) := by
  have hj : f.val + 1 < 16 := by omega
  simp only [State.writeMOD, chanAt_chReg c hj, chReg_offset c hj]
  fin_cases f <;> rfl

/-- The lower 28 bits of a register as a field. -/
theorem regN_mod_eq_get (s : State) (a : Nat) : s.regN a % 2 ^ 28 = s.get ⟨a, 0, 28⟩ := by simp [State.get, fldOf, State.regN]

theorem shadowWrite_takes (f : Fin 4) : Writes (.shadowWrite m c ⟨f.val, by omega⟩ v) s m (chReg c (f + 1)) v fun b t =>
    t.regN (chReg c (f + 1)) % 2 ^ 28 = v.toNat % 2 ^ 28 ∧
      t.get (F.MOD_CHST_WR (ri (chanOf c))) = b.get (F.MOD_CHST_WR (ri (chanOf c))) ||| 2 ^ f.val := by
  have hne : (F.MOD_CHST_WR (ri (chanOf c))).addr ≠ chReg c (f + 1) := by rw [chReg_eq]; simp only [F.MOD_CHST_WR]; omega
  have hwr : 2 ^ f.val < 2 ^ (F.MOD_CHST_WR (ri (chanOf c))).width := Nat.pow_lt_pow_right (by decide) (show f.val < 7 by omega)
  refine writes_of_chReg (j := f + 1) (by omega) (by rw [chReg_shadow]; rfl) fun b hb host => ?_
  rw [writeMOD_shadow]
  let t := b.plainWrite (chReg c (f + 1)) v
  have hshadow : t.get ⟨chReg c (f + 1), 0, 28⟩ = fldOf ⟨chReg c (f + 1), 0, 28⟩ v := plainWrite_chReg_get b c (by omega) v rfl (shadow_bits f)
  have hkeep : (t.orFld (F.MOD_CHST_WR (ri (chanOf c))) (2 ^ f.val)).reg (chReg c (f + 1)) = t.reg (chReg c (f + 1)) := reg_orFld_ne _ _ _ hne.symm
  constructor
  · calc _ = fldOf ⟨chReg c (f + 1), 0, 28⟩ v := (regN_mod_eq_get _ _).trans ((congrArg (fldOf _) hkeep).trans hshadow)
      _ = v.toNat % 2 ^ 28 := by simp [fldOf]
  · exact (get_orFld_self t _ (show 16 + 7 ≤ 32 by decide) hwr).trans (congrArg (· ||| 2 ^ f.val) (plainWrite_get_ne b v _ hne))

theorem groupLoadArm_arms : Writes (.groupLoadArm m v) s m R.MOD_GLOAD v fun b t =>
    t.get F.MOD_GARM_G = b.get F.MOD_GARM_G ||| v.toNat % 2 ^ 16 := by
  refine writes_of_block rfl (by rfl) fun b _ host => ?_
  rw [blockWrite_MOD (by decide) (by decide), show b.writeMOD m R.MOD_GLOAD v = b.gload v from rfl]
  exact get_orFld_self b _ (by decide) (Nat.mod_lt _ (by decide))

/-! ### MOD_AREF (R221) -/

theorem writeMOD_AREF (hen : s.on F.SEXT_CTRL_EN = false) (hlo : 1000 ≤ fldOf F.MOD_AREF_AREF v) (hhi : fldOf F.MOD_AREF_AREF v ≤ 1000000) :
    s.writeMOD m R.MOD_AREF v = s.plainWrite R.MOD_AREF v := by
  have hchan : chanAt R.MOD_AREF = none := rfl
  simp [State.writeMOD, hchan, State.refWrite, hen, hlo, hhi]

theorem modRefWrite_takes (hen : s.on F.SEXT_CTRL_EN = false) (hlo : 1000 ≤ fldOf F.MOD_AREF_AREF v) (hhi : fldOf F.MOD_AREF_AREF v ≤ 1000000) :
    Writes (.modRefWrite m 0 v) s m R.MOD_AREF v fun b t => t.get F.MOD_AREF_AREF = fldOf F.MOD_AREF_AREF v ∧ OnlyRegs b t [R.MOD_AREF] := by
  refine writes_of_quiet rfl (by rfl) fun b hb => ?_
  rw [blockWrite_MOD (by decide) (by decide), writeMOD_AREF ((on_congr hb _).trans hen) hlo hhi]
  exact ⟨plainWrite_host .., plainWrite_get b F.MOD_AREF_AREF v (row := ⟨R.MOD_AREF, 0, 1, 0xFA00, 0xFFFFFF, 0, 0, 0⟩) (by rfl) (by decide),
    plainWrite_onlyRegs ..⟩

end

/-! ### ADC_CTRL (10 R376) -/

theorem blockWrite_ADC (s : State) (m : Master) {a : Nat} (v : Word) (hf : fltBlockAt a = none) (h : a / 0x10000 = 0x1400) :
    s.blockWrite m a v = s.writeADC m a v := by simp only [State.blockWrite, hf, h]

theorem blockWrite_SDF (s : State) (m : Master) {a : Nat} (v : Word) (hf : fltBlockAt a = none) (h : a / 0x10000 = 0x1401) :
    s.blockWrite m a v = s.writeSDF m a v := by simp only [State.blockWrite, hf, h]

section
variable {s t : State} (h : ∀ a, a ≠ R.ADC_CTRL → t.reg a = s.reg a)
include h

theorem entryBad_congr (e : Nat) : t.entryBad e = s.entryBad e := by
  have hent : ∀ i, t.regN (R.ADC_ENT e i) = s.regN (R.ADC_ENT e i) := fun i =>
    congrArg BitVec.toNat (h _ (by simp only [R.ADC_ENT, R.ADC_CTRL]; omega))
  have hslot : t.adcSlot e = s.adcSlot e := funext fun j => by rw [State.adcSlot, hent, State.adcSlot]
  have hused : t.usedSlots e = s.usedSlots e := by rw [State.usedSlots, hslot, State.usedSlots]
  have hlane : t.entLane e = s.entLane e := by rw [State.entLane, hent, State.entLane]
  have hridx : t.entRidx e = s.entRidx e := by rw [State.entRidx, hent, State.entRidx]
  rw [State.entryBad, State.entryBad, hused, hlane, hridx]
  simp only [State.entVen, hent, hslot]

/-- What the lists and the requests name does not depend on ADC_CTRL. -/
theorem listsBad_congr : t.listsBad = s.listsBad := by
  have hlist : ∀ (f : Nat → Fld), (∀ n, (f n).addr ≠ R.ADC_CTRL) → ∀ n, t.get (f n) = s.get (f n) := fun f hf n =>
    congrArg (fldOf (f n)) (h _ (hf n))
  have hcount := hlist F.ADC_LIST_COUNT fun n => by simp only [F.ADC_LIST_COUNT, R.ADC_CTRL]; omega
  have hfirst := hlist F.ADC_LIST_FIRST fun n => by simp only [F.ADC_LIST_FIRST, R.ADC_CTRL]; omega
  have hen := hlist F.ADC_INJ_EN fun n => by simp only [F.ADC_INJ_EN, R.ADC_CTRL]; omega
  have hentry := hlist F.ADC_INJ_ENTRY fun n => by simp only [F.ADC_INJ_ENTRY, R.ADC_CTRL]; omega
  simp only [State.listsBad, State.on, hcount, hfirst, hen, hentry, entryBad_congr h]

end

/-- ADC_CTRL with the QUIET and ROTEN of a written word, before EN is judged. -/
def State.adcSettings (s : State) (v : Word) : State :=
  (s.set F.ADC_CTRL_QUIET (fldOf F.ADC_CTRL_QUIET v)).set F.ADC_CTRL_ROTEN (fldOf F.ADC_CTRL_ROTEN v)

theorem adcSettings_reg (s : State) (v : Word) {a : Nat} (h : a ≠ R.ADC_CTRL) : (s.adcSettings v).reg a = s.reg a :=
  (reg_set_ne _ _ h _).trans (reg_set_ne _ _ h _)

/-- A write of ADC_CTRL, by the EN that is asked for. -/
theorem adcCtrl_eq (s : State) (m : Master) (v : Word) : s.adcCtrl m v =
    if v.getLsbD 0 && !s.on F.ADC_CTRL_EN then if s.listsBad then (s.adcSettings v).adcReject m R.ADC_CTRL else (s.adcSettings v).set F.ADC_CTRL_EN 1
    else if !v.getLsbD 0 && s.on F.ADC_CTRL_EN then ((s.adcSettings v).set F.ADC_CTRL_EN 0).adcAbort
    else s.adcSettings v := by
  have hen : (fldOf F.ADC_CTRL_EN v == 1) = v.getLsbD 0 := by
    rw [fldOf_bit (f := F.ADC_CTRL_EN) rfl]
    change (b2n (v.getLsbD 0) == 1) = v.getLsbD 0
    cases v.getLsbD 0 <;> rfl
  rw [← listsBad_congr fun _ => adcSettings_reg s v, ← hen]
  rfl

section
variable {s : State} {m : Master} {v : Word}

theorem adcEnable_takes (hv : v.getLsbD 0 = true) (hen : s.on F.ADC_CTRL_EN = false) (hlists : s.listsBad = false) :
    Writes (.adcEnable m v) s m R.ADC_CTRL v fun b t => t.on F.ADC_CTRL_EN = true ∧ OnlyRegs b t [R.ADC_CTRL] := by
  refine writes_of_quiet rfl (by rfl) fun b hb => ?_
  have hlists' : b.listsBad = false := (listsBad_congr fun a _ => reg_congr hb a).trans hlists
  rw [blockWrite_ADC _ m v (by rfl) (by rfl), show b.writeADC m R.ADC_CTRL v = b.adcCtrl m v from rfl, adcCtrl_eq, hv, on_congr hb, hen, hlists']
  refine ⟨rfl, ?_, ⟨_, rfl⟩, fun a ha => ?_⟩
  · exact congrArg (· != 0) (get_set_self (b.adcSettings v) F.ADC_CTRL_EN 1 (by decide))
  · have hne := List.mem_singleton.not.mp ha
    exact (reg_set_ne _ _ hne _).trans (adcSettings_reg b v hne)

theorem adcAbort_clears (s : State) : s.adcAbort.adc.lists = [] ∧ s.adcAbort.adc.convs = [] ∧ s.adcAbort.adc.inj = [] ∧
    s.adcAbort.get F.ADC_LBUSY_L = 0 ∧ s.adcAbort.get F.ADC_CTRL_EN = s.get F.ADC_CTRL_EN := by
  refine ⟨rfl, rfl, rfl, ?_, ?_⟩
  · exact (get_setReg_ne _ _ _ _ (by decide)).trans (get_setReg_self _ _ F.ADC_LBUSY_L)
  · exact (get_setReg_ne _ _ _ _ (by decide)).trans (get_setReg_ne _ _ _ _ (by decide))

theorem adcDisable_aborts (hv : v.getLsbD 0 = false) (hen : s.on F.ADC_CTRL_EN = true) :
    Writes (.adcDisable m v) s m R.ADC_CTRL v fun _ t => t.on F.ADC_CTRL_EN = false ∧ t.adc.lists = [] ∧ t.adc.convs = [] ∧
      t.adc.inj = [] ∧ t.get F.ADC_LBUSY_L = 0 := by
  refine writes_of_block rfl (by rfl) fun b hb host => ?_
  rw [blockWrite_ADC _ m v (by rfl) (by rfl), show b.writeADC m R.ADC_CTRL v = b.adcCtrl m v from rfl, adcCtrl_eq, hv, on_congr hb, hen]
  obtain ⟨hlists, hconvs, hinj, hbusy, hoff⟩ := adcAbort_clears ((b.adcSettings v).set F.ADC_CTRL_EN 0)
  exact ⟨congrArg (· != 0) (hoff.trans (get_set_self _ F.ADC_CTRL_EN 0 (by decide))), hlists, hconvs, hinj, hbusy⟩

/-! ### Words with one bit set (R377, R386, R394) -/

/-- The word whose bit `n` alone is set. -/
def bitWord (n : Nat) : Word := BitVec.ofNat 32 (2 ^ n)

theorem bitWord_testBit {n : Nat} (hn : n < 32) (i : Nat) : (bitWord n).toNat.testBit i = decide (n = i) := by
  rw [bitWord, BitVec.toNat_ofNat, Nat.mod_eq_of_lt (Nat.pow_lt_pow_right (by decide) hn), Nat.testBit_two_pow]

/-- A pass over distinct numbers that changes the state at `k` alone. -/
theorem foldl_at_one {f : State → Nat → State} {k : Nat} (hf : ∀ t i, i ≠ k → f t i = t) {l : List Nat} (hl : l.Nodup) (s : State) :
    l.foldl f s = if k ∈ l then f s k else s := by
  induction l generalizing s with
  | nil => rfl
  | cons i l ih =>
    obtain ⟨hi, hl⟩ := List.nodup_cons.mp hl
    rw [List.foldl_cons, ih hl]
    by_cases hik : i = k
    · subst hik; simp [hi]
    · simp [hf s i hik, Ne.symm hik]

/-- A pass over the bits of a word with one bit set acts on that bit alone. -/
theorem foldl_bitWord {f : State → Nat → State} {n k : Nat} (hk : k < n) (hn : n ≤ 32)
    (hf : ∀ t i, (bitWord k).toNat.testBit i = false → f t i = t) (s : State) : (List.range n).foldl f s = f s k := by
  have hother : ∀ t i, i ≠ k → f t i = t := fun t i hi => hf t i (by rw [bitWord_testBit (by omega)]; exact decide_eq_false hi.symm)
  rw [foldl_at_one hother List.nodup_range, if_pos (List.mem_range.mpr hk)]

theorem bitWord_self {n : Nat} (hn : n < 32) : (bitWord n).toNat.testBit n = true := by rw [bitWord_testBit hn]; simp

theorem lstart_bit (s : State) {n : Nat} (hn : n < 16) : s.lstart (bitWord n) = s.listStart n := by
  rw [State.lstart, foldl_bitWord hn (by decide) fun t i hi => by rw [hi]; rfl, bitWord_self (by omega)]
  rfl

theorem listStartHost_starts (n : Fin 16) (hen : s.on F.ADC_CTRL_EN = true) (hbusy : s.fbit F.ADC_LBUSY_L n = false) :
    Writes (.listStartHost m (bitWord n)) s m R.ADC_LSTART (bitWord n) fun b t =>
      t.fbit F.ADC_LBUSY_L n = true ∧ ∃ l, t.adc.lists = b.adc.lists ++ [l] ∧ l.list = n.val ∧ l.entry = b.get (F.ADC_LIST_FIRST n) ∧
        l.last = b.get (F.ADC_LIST_FIRST n) + b.get (F.ADC_LIST_COUNT n) - 1 := by
  refine writes_of_block rfl (by rfl) fun b hb host => ?_
  rw [blockWrite_ADC _ m _ (by rfl) (by rfl), show b.writeADC m R.ADC_LSTART (bitWord n) = b.lstart (bitWord n) from rfl, lstart_bit b n.isLt]
  obtain ⟨hrun, hadc⟩ := listStart_starts n.isLt ((on_congr hb _).trans hen) (by rw [State.fbit, get_congr hb]; exact hbusy)
  exact ⟨hrun, b.firstRun n, congrArg AdcSt.lists hadc, rfl, rfl, rfl⟩

/-- A write whose property reads the converters of the state before it beside its registers. -/
theorem writes_of_converters {i : Instr} {a : Nat} {P : State → State → Prop} (hi : exec i s = busWrite m a v s) (hr : plainReg a = true)
    (h : ∀ b : State, b.regs = s.regs → b.adc = s.adc → ∀ host, P b { b.blockWrite m a v with host }) : Writes i s m a v P := by
  intro hs
  obtain ⟨t, ht, hP⟩ := writes_of_block (P := fun b t => b.adc = s.adc → P b t) hi hr (fun b hb host ha => h b hb ha host) hs
  exact ⟨t, ht, hP (served_adc ..)⟩

theorem injGo_bit {j : Nat} (hj : j < 4) (hen : s.on F.ADC_CTRL_EN = true) (hreq : s.on (F.ADC_INJ_EN j) = true)
    (htrig : s.get (F.ADC_INJ_TRIG j) = 0) : s.injGo (bitWord j) = s.injFire j := by
  rw [State.injGo, hen, if_neg (by decide), foldl_bitWord hj (by decide) fun t i hi => by rw [hi]; rfl, bitWord_self (by omega), hreq, htrig]
  rfl

theorem setInjPhase_injPhase (s : State) (j p : Nat) : (s.setInjPhase j p).injPhase j = p := (spGet_spPut ..).trans (if_pos rfl)

/-- A request that is idle waits out its delay, or is pending where it has none. -/
theorem injFire_of_idle {j : Nat} (hj : j < 4) (h : s.injPhase j = 0) :
    (s.injFire j).injPhase j = (if s.get (F.ADC_INJ_DELAY j) = 0 then 2 else 1) ∧
      (s.get (F.ADC_INJ_DELAY j) = 0 → (s.injFire j).fbit F.ADC_INJSTAT_PEND j = true) := by
  unfold State.injFire
  rw [if_pos h]
  split
  · refine ⟨?_, fun _ => fbit_setFbit_self _ F.ADC_INJSTAT_PEND (by decide) hj⟩
    rw [State.injPend, State.injPhase, setFbit_adc]
    exact setInjPhase_injPhase s j 2
  · next hdelay => exact ⟨setInjPhase_injPhase s j 1, fun h0 => absurd h0 hdelay⟩

theorem injectTriggerHost_fires (j : Fin 4) (hen : s.on F.ADC_CTRL_EN = true) (hreq : s.on (F.ADC_INJ_EN j) = true)
    (htrig : s.get (F.ADC_INJ_TRIG j) = 0) (hidle : s.injPhase j = 0) :
    Writes (.injectTriggerHost m (bitWord j)) s m R.ADC_INJGO (bitWord j) fun b t =>
      t.injPhase j = (if b.get (F.ADC_INJ_DELAY j) = 0 then 2 else 1) ∧
        (b.get (F.ADC_INJ_DELAY j) = 0 → t.fbit F.ADC_INJSTAT_PEND j = true) := by
  refine writes_of_converters rfl (by rfl) fun b hb hadc host => ?_
  rw [blockWrite_ADC _ m _ (by rfl) (by rfl), show b.writeADC m R.ADC_INJGO (bitWord j) = b.injGo (bitWord j) from rfl,
    injGo_bit j.isLt ((on_congr hb _).trans hen) ((on_congr hb _).trans hreq) ((get_congr hb _).trans htrig)]
  exact injFire_of_idle j.isLt (by rw [State.injPhase, hadc]; exact hidle)

/-- A slice that is neither retired nor the spare, while a spare may serve: it retires when the next swap takes it out (R394). -/
theorem retireWrite_bit {i : Nat} (hi : i < 9) (hret : s.retired i = false) (hne : s.get F.ADC_SPARE_SPARE ≠ i) (hspare : s.spareOk = true) :
    s.retireWrite (bitWord i) = { s with adc := { s.adc with swapDue := true, retireWait := s.adc.retireWait ||| 2 ^ i } } := by
  rw [State.retireWrite, foldl_bitWord hi (by decide) fun t k hk => by rw [hk]; rfl, bitWord_self (by omega), hret, if_neg hne, hspare]
  rfl

theorem sliceRetire_waits (i : Fin 9) (hret : s.retired i = false) (hspare : s.get F.ADC_SPARE_SPARE < 9) (hne : s.get F.ADC_SPARE_SPARE ≠ i.val)
    (hserves : s.retired (s.get F.ADC_SPARE_SPARE) = false) :
    Writes (.sliceRetire m (bitWord i)) s m R.ADC_RETIRE (bitWord i) fun b t =>
      t = { b with adc := { b.adc with swapDue := true, retireWait := b.adc.retireWait ||| 2 ^ i.val } } := by
  refine writes_of_quiet rfl (by rfl) fun b hb => ?_
  have hretired : ∀ k, b.retired k = s.retired k := fun k => congrArg (·.testBit k) (get_congr hb _)
  have hok : b.spareOk = true := by
    rw [State.spareOk, hretired, get_congr hb, hserves, decide_eq_true hspare]
    rfl
  rw [blockWrite_ADC _ m _ (by rfl) (by rfl), show b.writeADC m R.ADC_RETIRE (bitWord i) = b.retireWrite (bitWord i) from rfl,
    retireWrite_bit i.isLt ((hretired i).trans hret) (by rw [get_congr hb]; exact hne) hok]
  exact ⟨rfl, rfl⟩

/-! ### SDF_CFG (10 R402) -/

theorem sdfCfg_windows : ∀ n : Fin 16, plainReg (R.SDF_CFG n) = true ∧ fltBlockAt (R.SDF_CFG n) = none ∧ R.SDF_CFG n / 0x10000 = 0x1401 := by
  decide

theorem sdfCfg_rows : ∀ n : Fin 16, (regRowAt (R.SDF_CFG n)).map (·.rw) = some 0x87FF01FF := by decide

theorem writeSDF_CFG (s : State) (m : Master) (n : Fin 16) (v : Word) : s.writeSDF m (R.SDF_CFG n) v = s.sdfCfg m n v := by
  have hclk : R.SDF_CFG n ≠ R.SDF_CLK := by simp only [R.SDF_CFG, R.SDF_CLK]; omega
  have hin : 0x14010100 ≤ R.SDF_CFG n ∧ R.SDF_CFG n < 0x14010300 := by simp only [R.SDF_CFG]; omega
  have hn : (R.SDF_CFG n - 0x14010100) / 0x20 = n := by simp only [R.SDF_CFG]; omega
  have hoff : R.SDF_CFG n % 0x20 = 0 := by simp only [R.SDF_CFG]; omega
  simp only [State.writeSDF, hclk, hin, hn, hoff]
  rfl

/-- A field of SDF_CFG reads what was written. -/
theorem plainWrite_SDF_CFG_get (s : State) (n : Fin 16) (v : Word) {g : Fld} (ha : g.addr = R.SDF_CFG n)
    (hrw : ∀ i, g.lo ≤ i → i < g.lo + g.width → (0x87FF01FF : Word).getLsbD i = true) : (s.plainWrite (R.SDF_CFG n) v).get g = fldOf g v := by
  obtain ⟨row, hrow, hbits⟩ := Option.map_eq_some_iff.mp (sdfCfg_rows n)
  rw [← ha] at hrow ⊢
  exact plainWrite_get s g v hrow (by rw [hbits]; exact hrw)

theorem sdfCfg_starts (n : Fin 16) (hv : v.getLsbD 31 = true) (hen : s.on (F.SDF_CFG_EN n) = false) (hlo : 32 ≤ fldOf (F.SDF_CFG_OSR n) v)
    (hhi : fldOf (F.SDF_CFG_OSR n) v ≤ 256) :
    (s.sdfCfg m n v).regs = (s.plainWrite (R.SDF_CFG n) v).regs ∧ (s.sdfCfg m n v).adc.sdfFirst = spIns s.adc.sdfFirst n 2 := by
  have hnew : (s.plainWrite (R.SDF_CFG n) v).on (F.SDF_CFG_EN n) = true :=
    (on_of_get rfl (plainWrite_SDF_CFG_get s n v rfl (by simp only [F.SDF_CFG_EN]; decide))).trans hv
  unfold State.sdfCfg
  extract_lets a osr was same t
  rw [if_neg (by simp [was, hen, osr, hlo, hhi]), if_pos (by simp [was, hen, t, a, hnew])]
  exact ⟨rfl, congrArg (spIns · n.val 2) (congrArg AdcSt.sdfFirst (plainWrite_adc s (R.SDF_CFG n) v))⟩

theorem sdfEnable_starts (n : Fin 16) (hv : v.getLsbD 31 = true) (hen : s.on (F.SDF_CFG_EN n) = false) (hlo : 32 ≤ fldOf (F.SDF_CFG_OSR n) v)
    (hhi : fldOf (F.SDF_CFG_OSR n) v ≤ 256) :
    Writes (.sdfEnable m n v) s m (R.SDF_CFG n) v fun _ t => t.on (F.SDF_CFG_EN n) = true ∧
      t.get (F.SDF_CFG_OSR n) = fldOf (F.SDF_CFG_OSR n) v ∧ spGet 0 t.adc.sdfFirst n = 2 := by
  obtain ⟨hr, hf, hblk⟩ := sdfCfg_windows n
  refine writes_of_block rfl hr fun b hb host => ?_
  rw [blockWrite_SDF _ m v hf hblk, writeSDF_CFG]
  obtain ⟨hregs, hfirst⟩ := sdfCfg_starts (m := m) n hv ((on_congr hb _).trans hen) hlo hhi
  have htake : ∀ {g : Fld}, g.addr = R.SDF_CFG n → (∀ i, g.lo ≤ i → i < g.lo + g.width → (0x87FF01FF : Word).getLsbD i = true) →
      (b.sdfCfg m n v).get g = fldOf g v :=
    fun ha hrw => (get_congr hregs _).trans (plainWrite_SDF_CFG_get b n v ha hrw)
  refine ⟨(on_of_get rfl (htake rfl (by simp only [F.SDF_CFG_EN]; decide))).trans hv, htake rfl (by simp only [F.SDF_CFG_OSR]; decide), ?_⟩
  exact (congrArg (spGet 0 · n.val) hfirst).trans ((spGet_spIns ..).trans (if_pos rfl))

end

/-! ### The obligation -/

/-- Settles O14: each write goes to its block, whose rule is the lemma named. -/
theorem modulationAndConverterSettingsTakeEffect : Obligations.ModulationAndConverterSettingsTakeEffect := by
  intro s m v c
  exact ⟨channelWrite_changes rfl, channelWrite_changes rfl, modCfgWrite_takes, fun f => chReg_shadow c f ▸ shadowWrite_takes f,
    groupLoadArm_arms, modRefWrite_takes, adcEnable_takes, adcDisable_aborts, listStartHost_starts, injectTriggerHost_fires, sliceRetire_waits,
    sdfEnable_starts⟩

end Sys2Proof.Machine

/-! ## Pods (07 R250 to R281) -/
namespace Sys2Proof.Machine
open Sys2Proof.Stmt

/-! ### Bits of the outputs -/

theorem testBit_sub_two_pow {x n : Nat} (h : x.testBit n = true) (k : Nat) : (x - 2 ^ n).testBit k = (decide (k ≠ n) && x.testBit k) := by
  induction n generalizing x k with
  | zero =>
    have hodd : x % 2 = 1 := by simpa [Nat.testBit_zero] using h
    cases k with
    | zero => simp [Nat.testBit_zero]; omega
    | succ k => rw [Nat.testBit_succ, Nat.testBit_succ, show (x - 2 ^ 0) / 2 = x / 2 by omega]; simp
  | succ n ih =>
    have hpow : 2 ^ (n + 1) = 2 * 2 ^ n := by rw [Nat.pow_succ, Nat.mul_comm]
    have hle : 2 ^ (n + 1) ≤ x := Nat.ge_two_pow_of_testBit h
    rw [Nat.testBit_succ] at h
    cases k with
    | zero =>
      have hmod : (x - 2 ^ (n + 1)) % 2 = x % 2 := by omega
      simp [Nat.testBit_zero, hmod]
    | succ k =>
      have hdiv : (x - 2 ^ (n + 1)) / 2 = x / 2 - 2 ^ n := by omega
      rw [Nat.testBit_succ, Nat.testBit_succ, hdiv, ih h]
      simp

theorem putBit_testBit (x n k : Nat) (b : Bool) : (putBit x n b).testBit k = if k = n then b else x.testBit k := by
  unfold putBit
  cases b with
  | true =>
    rw [if_pos rfl, Nat.testBit_or, Nat.testBit_two_pow]
    by_cases h : k = n
    · simp [h]
    · simp [h, Ne.symm h]
  | false =>
    rw [if_neg Bool.false_ne_true]
    by_cases hx : x.testBit n = true
    · rw [if_pos hx, testBit_sub_two_pow hx]
      by_cases h : k = n <;> simp [h]
    · rw [if_neg hx]
      by_cases h : k = n
      · subst h; simpa using hx
      · simp [h]

/-- A pass over the outputs that gives some of them a level leaves the others. -/
theorem foldl_putBit_testBit (c b : Nat → Bool) (l : List Nat) (x k : Nat) :
    (l.foldl (fun n o => if c o then putBit n o (b o) else n) x).testBit k = if k ∈ l ∧ c k = true then b k else x.testBit k := by
  induction l generalizing x with
  | nil => simp
  | cons o l ih =>
    have hhead : (if c o then putBit x o (b o) else x).testBit k = if k = o ∧ c o = true then b o else x.testBit k := by
      split
      · next h => simp [putBit_testBit, h]
      · next h => simp [h]
    rw [List.foldl_cons, ih, hhead]
    by_cases hk : k ∈ l ∧ c k = true
    · rw [if_pos hk, if_pos ⟨List.mem_cons_of_mem _ hk.1, hk.2⟩]
    · rw [if_neg hk]
      by_cases ho : k = o
      · subst ho; simp
      · have : ¬ (k ∈ o :: l ∧ c k = true) := by simpa [ho] using hk
        rw [if_neg this, if_neg (fun h => ho h.1)]

/-- Whether an output does not follow its channel's records: while the pod or the channel is blocked, or the bypass is not open (R272, R278). -/
def PodSt.isHeld (p : PodSt) (o : Nat) : Bool := p.blocked || p.chBlk (o / 2) || p.bypst != 0

/-- The level of an output that is held. -/
def PodSt.heldLevel (p : PodSt) (o : Nat) : Bool := if p.blocked || p.chBlk (o / 2) then p.blockLevel o else false

theorem settleBlocked_testBit (p : PodSt) {o : Nat} (ho : o < 16) :
    p.settleBlocked.outs.testBit o = if p.isHeld o then p.heldLevel o else p.outs.testBit o := by
  have hstep : (fun n o => if (p.blocked || p.chBlk (o / 2)) = true then putBit n o (p.blockLevel o)
      else if (p.bypst != 0) = true then putBit n o false else n)
      = fun n o => if p.isHeld o then putBit n o (p.heldLevel o) else n := by
    funext n o
    unfold PodSt.isHeld PodSt.heldLevel
    by_cases h : (p.blocked || p.chBlk (o / 2)) = true
    · simp only [h, Bool.true_or, if_true]
    · simp only [Bool.not_eq_true _ ▸ h, Bool.false_or, Bool.false_eq_true, if_false]
  unfold PodSt.settleBlocked
  dsimp only
  rw [hstep, foldl_putBit_testBit]
  simp [ho]

/-- A pod that blocks is blocked (R272, R273). -/
theorem block_blocked (p : PodSt) : Blocked p.block := by
  refine ⟨rfl, rfl, fun o ho => ?_⟩
  rw [PodSt.block, settleBlocked_testBit _ ho]
  rfl


/-! ### Pods by number, and what they send -/

@[simp] theorem pod_setPod (s : State) (l : Nat) (p : PodSt) : (s.setPod l p).pod l = p := (spGet_spPut ..).trans (if_pos rfl)

@[simp] theorem setPort_port (p : PodSt) (b : Bool) (x : PodPort) : (p.setPort b x).port b = x := by cases b <;> rfl

/-- `q` is `p` but for its ports and for what a PERIODIC reports once. -/
def PodSt.ReportedAs (p q : PodSt) : Prop :=
  ∃ portA portB late clash intlk lvlerr fstamp, q = { p with portA, portB, late, clash, intlk, lvlerr, fstamp }

namespace PodSt.ReportedAs

variable {p q r : PodSt}

theorem refl (p : PodSt) : p.ReportedAs p := ⟨_, _, _, _, _, _, _, rfl⟩

theorem trans (h : p.ReportedAs q) (k : q.ReportedAs r) : p.ReportedAs r := by
  obtain ⟨_, _, _, _, _, _, _, rfl⟩ := h
  obtain ⟨_, _, _, _, _, _, _, rfl⟩ := k
  exact ⟨_, _, _, _, _, _, _, rfl⟩

theorem setPort (p : PodSt) (b : Bool) (x : PodPort) : p.ReportedAs (p.setPort b x) := by cases b <;> exact ⟨_, _, _, _, _, _, _, rfl⟩

/-- What is said of a pod by fields that a report leaves holds after it. -/
theorem elim {P : PodSt → Prop} (h : p.ReportedAs q)
    (hP : ∀ portA portB late clash intlk lvlerr fstamp, P { p with portA, portB, late, clash, intlk, lvlerr, fstamp }) : P q := by
  obtain ⟨_, _, _, _, _, _, _, rfl⟩ := h
  exact hP ..

theorem cfg (h : p.ReportedAs q) : q.cfg = p.cfg := h.elim (P := (·.cfg = p.cfg)) fun _ _ _ _ _ _ _ => rfl
theorem needCfg (h : p.ReportedAs q) : q.needCfg = p.needCfg := h.elim (P := (·.needCfg = p.needCfg)) fun _ _ _ _ _ _ _ => rfl
theorem chb (h : p.ReportedAs q) : q.chb = p.chb := h.elim (P := (·.chb = p.chb)) fun _ _ _ _ _ _ _ => rfl
theorem bypst (h : p.ReportedAs q) : q.bypst = p.bypst := h.elim (P := (·.bypst = p.bypst)) fun _ _ _ _ _ _ _ => rfl
theorem bypClose (h : p.ReportedAs q) : q.bypClose = p.bypClose := h.elim (P := (·.bypClose = p.bypClose)) fun _ _ _ _ _ _ _ => rfl
theorem wins (h : p.ReportedAs q) : q.wins = p.wins := h.elim (P := (·.wins = p.wins)) fun _ _ _ _ _ _ _ => rfl
theorem desat (h : p.ReportedAs q) : q.desat = p.desat := h.elim (P := (·.desat = p.desat)) fun _ _ _ _ _ _ _ => rfl
theorem gdf (h : p.ReportedAs q) : q.gdf = p.gdf := h.elim (P := (·.gdf = p.gdf)) fun _ _ _ _ _ _ _ => rfl
theorem hold (h : p.ReportedAs q) : q.hold = p.hold := h.elim (P := (·.hold = p.hold)) fun _ _ _ _ _ _ _ => rfl
theorem play (h : p.ReportedAs q) : q.play = p.play := h.elim (P := (·.play = p.play)) fun _ _ _ _ _ _ _ => rfl
theorem playing (h : p.ReportedAs q) : q.playing = p.playing := h.elim (P := (·.playing = p.playing)) fun _ _ _ _ _ _ _ => rfl
theorem wStart (h : p.ReportedAs q) : q.wStart = p.wStart := h.elim (P := (·.wStart = p.wStart)) fun _ _ _ _ _ _ _ => rfl
theorem outs (h : p.ReportedAs q) : q.outs = p.outs := h.elim (P := (·.outs = p.outs)) fun _ _ _ _ _ _ _ => rfl
theorem sched (h : p.ReportedAs q) : q.sched = p.sched := h.elim (P := (·.sched = p.sched)) fun _ _ _ _ _ _ _ => rfl
theorem blocked (h : p.ReportedAs q) : q.blocked = p.blocked := h.elim (P := (·.blocked = p.blocked)) fun _ _ _ _ _ _ _ => rfl
theorem tripped (h : p.ReportedAs q) : q.tripped = p.tripped := h.elim (P := (·.tripped = p.tripped)) fun _ _ _ _ _ _ _ => rfl
theorem temp (h : p.ReportedAs q) : q.temp = p.temp := h.elim (P := (·.temp = p.temp)) fun _ _ _ _ _ _ _ => rfl

theorem isBlocked (h : p.ReportedAs q) (hp : Blocked p) : Blocked q := h.elim fun _ _ _ _ _ _ _ => hp

theorem podSame (h : p.ReportedAs q) (hp : PodSame r p) : PodSame r q := h.elim fun _ _ _ _ _ _ _ => hp

end PodSt.ReportedAs

theorem podSend_pod (s : State) (l : Nat) (b : Bool) (ty ts : Nat) (d : List Word64) :
    (s.podSend l b ty ts d).pod l = (s.pod l).setPort b { (s.pod l).port b with seq := (((s.pod l).port b).seq + 1) % 256 } := pod_setPod ..

theorem podSend_reportedAs (s : State) (l : Nat) (b : Bool) (ty ts : Nat) (d : List Word64) :
    (s.pod l).ReportedAs ((s.podSend l b ty ts d).pod l) := podSend_pod s l b ty ts d ▸ .setPort ..

theorem podSend_tx (s : State) (l : Nat) (b : Bool) (ty ts : Nat) (d : List Word64) :
    (s.podSend l b ty ts d).tx = s.tx ++
        [.pod l b { ftype := ty, claim := (s.pod l).cacc, seq := ((s.pod l).port b).seq, len := d.length, tspec := ts, data := d, ok := true }] := rfl

@[simp] theorem setPod_tx (s : State) (l : Nat) (p : PodSt) : (s.setPod l p).tx = s.tx := rfl

/-- What has gone out is `tx`, then a PERIODIC on both ports. -/
def SentPeriodic (l : Nat) (tx tx' : List OutMsg) : Prop :=
  ∃ u v, tx' = tx ++ [.pod l false u, .pod l true v] ∧ u.ftype = 9 ∧ v.ftype = 9

theorem periodic_sent (s : State) (l : Nat) : SentPeriodic l s.tx (s.periodic l).tx := by
  unfold State.periodic
  dsimp only
  rw [setPod_tx, podSend_tx, podSend_tx, List.append_assoc]
  exact ⟨_, _, rfl, rfl, rfl⟩

theorem periodic_reportedAs (s : State) (l : Nat) : (s.pod l).ReportedAs ((s.periodic l).pod l) := by
  unfold State.periodic
  dsimp only
  rw [pod_setPod]
  exact ((podSend_reportedAs ..).trans (podSend_reportedAs ..)).trans ⟨_, _, _, _, _, _, _, rfl⟩

/-- What an extra PERIODIC reports has changed (R274). -/
def PodSt.newsSince (p old : PodSt) : Prop := ¬ (p.desat = old.desat ∧ p.gdf = old.gdf ∧ p.bypst = old.bypst ∧ p.tripped = old.tripped)

theorem podReport_reportedAs (s : State) (l : Nat) (old : PodSt) : (s.pod l).ReportedAs ((s.podReport l old).pod l) := by
  unfold State.podReport
  dsimp only
  split
  · exact .refl _
  · refine .trans ?_ (periodic_reportedAs ..)
    rw [pod_setPod]
    split
    · exact ⟨_, _, _, _, _, _, _, rfl⟩
    · exact .refl _

theorem podReport_news {s : State} {l : Nat} {old : PodSt} (h : (s.pod l).newsSince old) : SentPeriodic l s.tx (s.podReport l old).tx := by
  unfold State.podReport
  dsimp only
  rw [if_neg h]
  exact periodic_sent (s.setPod l _) l

theorem podReport_tx (s : State) (l : Nat) (old : PodSt) : ∃ ms, (s.podReport l old).tx = s.tx ++ ms := by
  by_cases h : (s.pod l).newsSince old
  · obtain ⟨u, v, htx, -⟩ := podReport_news h
    exact ⟨_, htx⟩
  · refine ⟨[], ?_⟩
    unfold State.podReport
    dsimp only
    rw [if_pos (not_not.mp h), List.append_nil]

/-! ### The frames that a pod receives (R250, R252, R259, R260, R265, R267, R276) -/

section
variable {s : State} {l : Nat} {b : Bool} {f : LinkFrame} {w : PodWin}

/-- An EDGE frame of the accepted claim is kept until its ANCHOR; with TRIP it blocks the pod at once (R273, R276; DEDUCED, log 71). -/
theorem podEdge_taken (hw : (s.pod l).edgeOf f = some w) (hon : (s.pod l).on = true) (hacc : Accepts (s.pod l) f.claim b)
    (hle : (32 * bitsOf (s.pod l).cap.toNat 32 8 : Nat) ≤ ctDiff w.anchor (s.podNow (s.pod l))) :
    let p := s.pod l
    let q := (s.podEdge l b f).pod l
    q.wins = p.wins ++ [w] ∧ q.wLen = (if w.wlen = 0 then 64000 else w.wlen) ∧ q.loss = false ∧ (s.podEdge l b f).tx = s.tx ∧
      (f.tspec.testBit 17 = true → Blocked q) ∧
          (f.tspec.testBit 17 = false → q.outs = p.outs ∧ q.play = p.play ∧ q.blocked = p.blocked) := by
  have hclaim : ((s.pod l).see f.claim b).cacc = f.claim := hacc
  have hon' : ((s.pod l).see f.claim b).on = true := hon
  have hle' : ¬ ctDiff w.anchor (s.podNow ((s.pod l).see f.claim b)) < (32 * bitsOf ((s.pod l).see f.claim b).cap.toNat 32 8 : Nat) := not_lt.mpr hle
  have heq : s.podEdge l b f = s.setPod l (let q := { ((s.pod l).see f.claim b).heard with
      wins := (s.pod l).wins ++ [w], wLen := if w.wlen = 0 then 64000 else w.wlen }; if f.tspec.testBit 17 then q.block else q) := by
    unfold State.podEdge
    simp only [hw, hclaim]
    rw [if_neg (by simp [hon']), if_neg (by simp), if_neg hle']
    rfl
  dsimp only
  rw [heq, pod_setPod]
  cases f.tspec.testBit 17 with
  | true => exact ⟨rfl, rfl, rfl, rfl, fun _ => block_blocked _, nofun⟩
  | false => exact ⟨rfl, rfl, rfl, rfl, nofun, fun _ => ⟨rfl, rfl, rfl⟩⟩

theorem podEdge_late (hw : (s.pod l).edgeOf f = some w) (hon : (s.pod l).on = true) (hacc : Accepts (s.pod l) f.claim b)
    (hlt : ctDiff w.anchor (s.podNow (s.pod l)) < (32 * bitsOf (s.pod l).cap.toNat 32 8 : Nat)) :
    s.podEdge l b f = s.setPod l { ((s.pod l).see f.claim b).heard with late := true } := by
  have hclaim : ((s.pod l).see f.claim b).cacc = f.claim := hacc
  have hon' : ((s.pod l).see f.claim b).on = true := hon
  have hlt' : ctDiff w.anchor (s.podNow ((s.pod l).see f.claim b)) < (32 * bitsOf ((s.pod l).see f.claim b).cap.toNat 32 8 : Nat) := hlt
  unfold State.podEdge
  simp only [hw, hclaim]
  rw [if_neg (by simp [hon']), if_neg (by simp), if_pos hlt']

theorem podEdge_other (hw : (s.pod l).edgeOf f = some w) (hon : (s.pod l).on = true) (hacc : ¬ Accepts (s.pod l) f.claim b) :
    s.podEdge l b f = s.setPod l ((s.pod l).see f.claim b) := by
  have hclaim : (f.claim != ((s.pod l).see f.claim b).cacc) = true := bne_iff_ne.mpr (Ne.symm hacc)
  have hon' : ((s.pod l).see f.claim b).on = true := hon
  unfold State.podEdge
  simp only [hw]
  rw [if_neg (by simp [hon']), if_pos hclaim]

theorem podEdge_ignored (h : (s.pod l).edgeOf f = none ∨ (s.pod l).on = false) : s.podEdge l b f = s := by
  unfold State.podEdge
  dsimp only
  split
  · rfl
  · next hw =>
    have hon : ((s.pod l).see f.claim b).on = false := h.resolve_left (by simp [hw])
    rw [if_pos (by simp [hon])]

/-- A KEEP frame of the accepted claim sets the window length, and waits for its ANCHOR where it has one (R267). -/
theorem podKeep_taken (hv : downValid f = true) (hty : f.ftype = 4) (hon : (s.pod l).on = true) (hacc : Accepts (s.pod l) f.claim b) :
    let anchor := (f.data.getD 0 0).toNat
    let wlen := (f.data.getD 1 0).toNat / 2 ^ 40
    let q := { ((s.pod l).see f.claim b).heard with wLen := if wlen = 0 then 64000 else wlen }
    s.podKeep l b f = s.setPod l
        (if anchor = 0 then q else { q with wins := (s.pod l).wins ++ [{ anchor, wlen, claim := f.claim, edge := none }] }) := by
  have hclaim : ((s.pod l).see f.claim b).cacc = f.claim := hacc
  unfold State.podKeep
  simp only [hv, hty, hon, hclaim, bne_self_eq_false, Bool.not_true, Bool.or_self, Bool.false_eq_true, if_false]
  split <;> rfl

theorem podKeep_other (hv : downValid f = true) (hty : f.ftype = 4) (hon : (s.pod l).on = true) (hacc : ¬ Accepts (s.pod l) f.claim b) :
    s.podKeep l b f = s.setPod l ((s.pod l).see f.claim b) := by
  have hclaim : (f.claim != ((s.pod l).see f.claim b).cacc) = true := bne_iff_ne.mpr (Ne.symm hacc)
  unfold State.podKeep
  simp [hv, hty, hon, hclaim]

theorem podKeep_ignored (h : ¬ (downValid f = true ∧ f.ftype = 4 ∧ (s.pod l).on = true)) : s.podKeep l b f = s := by
  unfold State.podKeep
  rw [if_pos]
  by_contra hc
  simp only [Bool.or_eq_true, Bool.not_eq_true', bne_iff_ne, not_or, Bool.not_eq_false, not_not] at hc
  obtain ⟨⟨hon, hv⟩, hty⟩ := hc
  exact h ⟨hv, hty, hon⟩

/-! ### TIME frames (R265) -/

/-- The error that a TIME frame shows at the pod's stamp `t2`. -/
def timeError (f : LinkFrame) (t2 : Nat) : Int := ctDiff (ctAdd (f.data.getD 0 0).toNat ((f.data.getD 1 0).toNat % 2 ^ 24 : Nat)) t2

/-- The pod with a TIME frame stamped on its port: before it follows the frame. -/
def PodSt.stamped (p : PodSt) (b : Bool) (f : LinkFrame) (t2 : Nat) : PodSt :=
  (p.see f.claim b).setPort b { (p.see f.claim b).port b with tseq := f.tspec % 256, t2, perr := timeError f t2 }

/-- TLOCK after an error `e` (R265). -/
def PodSt.follow (p : PodSt) (e : Int) : PodSt :=
  let bound := classBound5 (capTACC p.cap.toNat)
  let err := 5 * e.natAbs
  let run := if err ≤ bound then min 4 (p.tlockRun + 1) else 0
  { p with tlockRun := run, tlock := if 2 * bound < err then false else p.tlock || run == 4 }

/-- The pod that has lost TLOCK while it plays blocks; one that holds TLOCK is not blocked by its want. -/
def PodSt.lockBlock (p : PodSt) (lost : Bool) : PodSt :=
  let p := if lost && p.playing then { p.block with tlockBlk := true } else p
  if p.tlock then { p with tlockBlk := false } else p

/-- The entry to a block by TLOCK leaves the ports, the lock and what the link shows. -/
theorem lockBlock_keeps (p : PodSt) (lost b : Bool) : (p.lockBlock lost).port b = p.port b ∧ (p.lockBlock lost).tlock = p.tlock ∧
    (p.lockBlock lost).tlockRun = p.tlockRun ∧ (p.lockBlock lost).loss = p.loss := by
  unfold PodSt.lockBlock
  extract_lets blk q
  have hq : q.port b = p.port b ∧ q.tlock = p.tlock ∧ q.tlockRun = p.tlockRun ∧ q.loss = p.loss := by
    unfold q
    split <;> exact ⟨rfl, rfl, rfl, rfl⟩
  clear_value q
  split <;> exact hq

/-- A pod that loses TLOCK while it plays blocks until it has it again (R273). -/
theorem lockBlock_blocks {p : PodSt} (hplay : p.playing = true) (ht : p.tlock = false) :
    Blocked (p.lockBlock true) ∧ (p.lockBlock true).tlockBlk = true := by
  have heq : p.lockBlock true = { p.block with tlockBlk := true } := by
    unfold PodSt.lockBlock
    simp only [hplay, Bool.and_self, if_true]
    exact if_neg (by rw [show p.block.tlock = p.tlock from rfl, ht]; decide)
  rw [heq]
  exact ⟨block_blocked p, rfl⟩

/-- The pod's state after a TIME frame of its claim, before it steers its CT64. -/
def PodSt.timed (p : PodSt) (b : Bool) (f : LinkFrame) (t2 : Nat) : PodSt :=
  let q := (p.stamped b f t2).heard
  let e := timeError f t2
  (q.follow e).lockBlock (decide (2 * classBound5 (capTACC q.cap.toNat) < 5 * e.natAbs) && q.tlock)

theorem follow_lost {p : PodSt} {e : Int} (h : 2 * classBound5 (capTACC p.cap.toNat) < 5 * e.natAbs) : (p.follow e).tlock = false := if_pos h

theorem follow_within {p : PodSt} {e : Int} (h : 5 * e.natAbs ≤ classBound5 (capTACC p.cap.toNat)) :
    (p.follow e).tlock = (p.tlock || decide (3 ≤ p.tlockRun)) := by
  have hrun : (min 4 (p.tlockRun + 1) == 4) = decide (3 ≤ p.tlockRun) := by
    rw [Bool.eq_iff_iff, beq_iff_eq, decide_eq_true_iff]; omega
  unfold PodSt.follow
  simp only [h, if_true, hrun]
  exact if_neg (by omega)

theorem follow_between {p : PodSt} {e : Int} (h : classBound5 (capTACC p.cap.toNat) < 5 * e.natAbs)
    (h' : 5 * e.natAbs ≤ 2 * classBound5 (capTACC p.cap.toNat)) : (p.follow e).tlock = p.tlock ∧ (p.follow e).tlockRun = 0 := by
  unfold PodSt.follow
  simp only [not_le.mpr h, not_lt.mpr h', if_false]
  exact ⟨Bool.or_false _, trivial⟩

theorem stamped_port (p : PodSt) (b : Bool) (f : LinkFrame) (t2 : Nat) :
    (p.stamped b f t2).port b = { p.port b with tseq := f.tspec % 256, t2, perr := timeError f t2 } := by
  rw [PodSt.stamped, setPort_port]
  cases b <;> rfl

theorem timed_port (p : PodSt) (b : Bool) (f : LinkFrame) (t2 : Nat) : (p.timed b f t2).port b = (p.stamped b f t2).port b :=
  (lockBlock_keeps _ _ b).1

/-- A stamp leaves the pod but for its port and its sightings. -/
theorem stamped_eq (p : PodSt) (b : Bool) (f : LinkFrame) (t2 : Nat) :
    ∃ portA portB, p.stamped b f t2 = { p.see f.claim b with portA, portB } := by cases b <;> exact ⟨_, _, rfl⟩

section
variable {sub : Nat} (hv : downValid f = true) (hty : f.ftype = 1) (hon : (s.pod l).on = true)
include hv hty hon

theorem podTime_other (hacc : ¬ Accepts (s.pod l) f.claim b) :
    s.podTime l b f sub = s.setPod l ((s.pod l).stamped b f (ctAdd (s.podNow (s.pod l)) sub)) := by
  have hclaim : (f.claim != ((s.pod l).stamped b f (ctAdd (s.podNow (s.pod l)) sub)).cacc) = true := by
    obtain ⟨_, _, h⟩ := stamped_eq (s.pod l) b f (ctAdd (s.podNow (s.pod l)) sub)
    rw [h]
    exact bne_iff_ne.mpr (Ne.symm hacc)
  unfold State.podTime
  rw [if_neg (by simp [hv, hty, hon])]
  exact if_pos hclaim

/-- A TIME frame of the accepted claim is followed; how far the pod steers is a free value (DESIGN CHOICE, log 2). -/
theorem podTime_followed (hacc : Accepts (s.pod l) f.claim b) : ∃ off free,
    s.podTime l b f sub = ({ s with free } : State).setPod l { (s.pod l).timed b f (ctAdd (s.podNow (s.pod l)) sub) with off } := by
  have hclaim : ¬ (f.claim != ((s.pod l).stamped b f (ctAdd (s.podNow (s.pod l)) sub)).cacc) = true := by
    obtain ⟨_, _, h⟩ := stamped_eq (s.pod l) b f (ctAdd (s.podNow (s.pod l)) sub)
    rw [h]
    simpa using Eq.symm hacc
  have heq : ∃ off free, (let p := (s.pod l).timed b f (ctAdd (s.podNow (s.pod l)) sub)
      let (q, t) := s.podSteer p (timeError f (ctAdd (s.podNow (s.pod l)) sub))
      t.setPod l q) = ({ s with free } : State).setPod l { (s.pod l).timed b f (ctAdd (s.podNow (s.pod l)) sub) with off } := ⟨_, _, rfl⟩
  obtain ⟨off, free, h⟩ := heq
  refine ⟨off, free, ?_⟩
  rw [← h]
  unfold State.podTime
  rw [if_neg (by simp [hv, hty, hon])]
  exact if_neg hclaim

end

theorem heard_stamped (p : PodSt) (b : Bool) (f : LinkFrame) (t2 : Nat) : (p.stamped b f t2).heard.cap = p.cap ∧
    (p.stamped b f t2).heard.tlock = p.tlock ∧ (p.stamped b f t2).heard.tlockRun = p.tlockRun ∧
    (p.stamped b f t2).heard.playing = p.playing ∧ (p.stamped b f t2).heard.loss = false := by
  obtain ⟨_, _, h⟩ := stamped_eq p b f t2
  rw [h]
  exact ⟨rfl, rfl, rfl, rfl, rfl⟩

/-- What an error of a TIME frame of the accepted claim does to TLOCK and to link loss. -/
theorem timed_follows (p : PodSt) (b : Bool) (f : LinkFrame) (t2 : Nat) :
    let e := timeError f t2
    let bound := classBound5 (capTACC p.cap.toNat)
    let q := p.timed b f t2
    q.loss = false ∧ (2 * bound < 5 * e.natAbs → q.tlock = false) ∧
      (5 * e.natAbs ≤ bound → q.tlock = (p.tlock || decide (3 ≤ p.tlockRun))) ∧
      (bound < 5 * e.natAbs → 5 * e.natAbs ≤ 2 * bound → q.tlock = p.tlock ∧ q.tlockRun = 0) ∧
      (2 * bound < 5 * e.natAbs → p.tlock = true → p.playing = true → Blocked q ∧ q.tlockBlk = true) := by
  obtain ⟨hcap, htlock, hrun, hplay, hloss⟩ := heard_stamped p b f t2
  unfold PodSt.timed
  generalize (p.stamped b f t2).heard = q at *
  generalize timeError f t2 = e
  rw [← hcap, ← htlock, ← hrun, ← hplay]
  dsimp only
  obtain ⟨-, htl, hr, hls⟩ := lockBlock_keeps (q.follow e) (decide (2 * classBound5 (capTACC q.cap.toNat) < 5 * e.natAbs) && q.tlock) b
  refine ⟨hls.trans hloss, fun h => htl.trans (follow_lost h), fun h => htl.trans (follow_within h),
    fun h h' => ⟨htl.trans (follow_between h h').1, hr.trans (follow_between h h').2⟩, fun h ht hp => ?_⟩
  rw [decide_eq_true h, ht]
  exact lockBlock_blocks hp (follow_lost h)

theorem podTime_ignored {sub : Nat} (h : ¬ (downValid f = true ∧ f.ftype = 1 ∧ (s.pod l).on = true)) : s.podTime l b f sub = s := by
  unfold State.podTime
  rw [if_pos]
  by_contra hc
  simp only [Bool.or_eq_true, Bool.not_eq_true', bne_iff_ne, not_or, Bool.not_eq_false, not_not] at hc
  obtain ⟨⟨hon, hv⟩, hty⟩ := hc
  exact h ⟨hv, hty, hon⟩

/-- Every TIME frame is stamped on its port, and none is answered at once. -/
theorem podTime_stamps {sub : Nat} (hv : downValid f = true) (hty : f.ftype = 1) (hon : (s.pod l).on = true) :
    let t2 := ctAdd (s.podNow (s.pod l)) sub
    let x := ((s.podTime l b f sub).pod l).port b
    x.t2 = t2 ∧ x.tseq = f.tspec % 256 ∧ x.perr = timeError f t2 ∧ (s.podTime l b f sub).tx = s.tx := by
  dsimp only
  by_cases hacc : Accepts (s.pod l) f.claim b
  · obtain ⟨off, free, h⟩ := podTime_followed (sub := sub) hv hty hon hacc
    have hport : ∀ p : PodSt, ({ p with off } : PodSt).port b = p.port b := fun _ => rfl
    rw [h, pod_setPod, hport, timed_port, stamped_port]
    exact ⟨rfl, rfl, rfl, rfl⟩
  · rw [podTime_other hv hty hon hacc, pod_setPod, stamped_port]
    exact ⟨rfl, rfl, rfl, rfl⟩

end

/-! ### TRIP bursts (R276) -/

section
variable {s : State} {l : Nat} {b : Bool} {f : Nat} (hon : (s.pod l).on = true) (hpat : f % 2 ^ 40 = 0xA55A9669C3) (hc : f / 2 ^ 40 % 2 ^ 16 ≠ 0)
include hon hpat hc

theorem podTrip_seen : s.podTrip l b f =
    (let p := (s.pod l).see (f / 2 ^ 40 % 2 ^ 16) b
     if claimHigher p.cacc (f / 2 ^ 40 % 2 ^ 16) then s.setPod l p
     else (s.setPod l { p.block with tripped := true }).podReport l (s.pod l)) := by
  unfold State.podTrip
  simp only [hon, hpat, hc, bne_self_eq_false, Bool.not_true, Bool.or_self, decide_false, Bool.false_eq_true, if_false]

theorem podTrip_blocks (h : claimHigher ((s.pod l).see (f / 2 ^ 40 % 2 ^ 16) b).cacc (f / 2 ^ 40 % 2 ^ 16) = false) :
    Blocked ((s.podTrip l b f).pod l) ∧ ((s.podTrip l b f).pod l).tripped = true := by
  have hrep := podReport_reportedAs (s.setPod l { ((s.pod l).see (f / 2 ^ 40 % 2 ^ 16) b).block with tripped := true }) l (s.pod l)
  rw [pod_setPod] at hrep
  rw [podTrip_seen hon hpat hc]
  dsimp only
  rw [if_neg (Bool.not_eq_true _ ▸ h)]
  exact ⟨hrep.isBlocked (block_blocked _), hrep.tripped⟩

theorem podTrip_other (h : claimHigher ((s.pod l).see (f / 2 ^ 40 % 2 ^ 16) b).cacc (f / 2 ^ 40 % 2 ^ 16) = true) :
    s.podTrip l b f = s.setPod l ((s.pod l).see (f / 2 ^ 40 % 2 ^ 16) b) :=
  (podTrip_seen hon hpat hc).trans (if_pos h)

end

theorem podTrip_ignored {s : State} {l f : Nat} {b : Bool}
    (h : ¬ ((s.pod l).on = true ∧ f % 2 ^ 40 = 0xA55A9669C3 ∧ f / 2 ^ 40 % 2 ^ 16 ≠ 0)) :
    s.podTrip l b f = s := by
  unfold State.podTrip
  dsimp only
  rw [if_pos]
  by_contra hc
  simp only [Bool.or_eq_true, Bool.not_eq_true', bne_iff_ne, decide_eq_true_eq, not_or, Bool.not_eq_false, not_not] at hc
  obtain ⟨⟨hon, hpat⟩, hclaim⟩ := hc
  exact h ⟨hon, hpat, hclaim⟩

/-- Settles O36: each clause is what is said above of the frame that the event brings. -/
theorem podsTakeFramesOfTheirClaim : Obligations.PodsTakeFramesOfTheirClaim := by
  intro s l b f sub pl p tsu wlen keep time t2 e bound claim trip
  refine ⟨fun w hw hon hacc hle => ⟨_, rfl, podEdge_taken hw hon hacc hle⟩, fun w hw hon hacc hlt => ⟨_, rfl, ?_⟩,
    fun w hw hon hacc => ⟨_, rfl, ?_⟩, fun h => ⟨_, rfl, podEdge_ignored h⟩, fun ⟨hv, hty, hon⟩ hacc => ⟨_, rfl, ?_⟩,
    fun ⟨hv, hty, hon⟩ hacc => ⟨_, rfl, ?_⟩, fun h => ⟨_, rfl, podKeep_ignored h⟩,
    fun ⟨hv, hty, hon⟩ => ⟨_, rfl, podTime_stamps hv hty hon⟩, fun ⟨hv, hty, hon⟩ hacc => ⟨_, rfl, ?_⟩,
    fun ⟨hv, hty, hon⟩ hacc => ⟨_, rfl, ?_⟩, fun h => ⟨_, rfl, podTime_ignored h⟩,
    fun ⟨hon, hpat, hc⟩ h => ⟨_, rfl, podTrip_blocks hon hpat hc h⟩, fun ⟨hon, hpat, hc⟩ h => ⟨_, rfl, ?_⟩,
    fun h => ⟨_, rfl, podTrip_ignored h⟩⟩
  · beta_reduce
    rw [podEdge_late hw hon hacc hlt, pod_setPod]
    exact ⟨rfl, rfl, rfl, rfl, rfl, rfl, rfl⟩
  · beta_reduce
    rw [podEdge_other hw hon hacc, pod_setPod]
    exact ⟨⟨rfl, rfl, rfl, rfl, rfl, rfl⟩, rfl⟩
  · beta_reduce
    rw [podKeep_taken hv hty hon hacc, pod_setPod]
    by_cases ha : (f.data.getD 0 0).toNat = 0
    · rw [if_pos ha]
      exact ⟨rfl, rfl, rfl, fun _ => rfl, fun h => absurd ha h⟩
    · rw [if_neg ha]
      exact ⟨rfl, rfl, rfl, fun h => absurd h ha, fun _ => ⟨_, rfl, rfl, rfl⟩⟩
  · beta_reduce
    rw [podKeep_other hv hty hon hacc, pod_setPod]
    exact ⟨⟨rfl, rfl, rfl, rfl, rfl, rfl⟩, rfl⟩
  · beta_reduce
    rw [podTime_other hv hty hon hacc, pod_setPod]
    obtain ⟨_, _, h⟩ := stamped_eq (s.pod l) b f (ctAdd (s.podNow (s.pod l)) sub)
    rw [h]
    exact ⟨rfl, rfl, rfl, rfl, rfl, rfl, rfl, rfl⟩
  · obtain ⟨off, free, h⟩ := podTime_followed (sub := sub) hv hty hon hacc
    rw [h, pod_setPod]
    exact timed_follows p b f t2
  · beta_reduce
    rw [podTrip_other hon hpat hc h, pod_setPod]
    exact ⟨⟨rfl, rfl, rfl, rfl, rfl, rfl⟩, rfl⟩

end Sys2Proof.Machine

/-! ## The commands that a pod receives (07 R253, R255, R261, R279, R281) -/
namespace Sys2Proof.Machine
open Sys2Proof.Stmt

/-! ### Answers -/

/-- The word of an ACK carries the opcode, the result and the data. -/
theorem ackData_parts {opc r : Nat} (hopc : opc < 256) (hr : r < 256) (v : Nat) :
    (ackData opc r v).toNat % 2 ^ 16 = r * 2 ^ 8 + opc ∧ (ackData opc r v).toNat / 2 ^ 32 = v % 2 ^ 32 := by
  have hv : v % 2 ^ 32 < 2 ^ 32 := Nat.mod_lt _ (by decide)
  have hnat : (ackData opc r v).toNat = v % 2 ^ 32 * 2 ^ 32 + r * 2 ^ 8 + opc := by
    rw [ackData, BitVec.toNat_ofNat]
    exact Nat.mod_eq_of_lt (by omega)
  rw [hnat]
  omega

theorem podAnswers_weaken {s t : State} {l : Nat} {b : Bool} {f : LinkFrame} {r : Nat} {val val' : Option Nat} (h : PodAnswers s t l b f r val)
    (hval : ∀ v, val' = some v → val = some v) : PodAnswers s t l b f r val' := by
  obtain ⟨g, d, ms, htx, hty, hts, hd, hseq, hres, hv⟩ := h
  exact ⟨g, d, ms, htx, hty, hts, hd, hseq, hres, fun v h => hv v (hval v h)⟩

section
variable {s u : State} {l : Nat} {b : Bool} {f : LinkFrame} {r v : Nat}

/-- An ACK is the answer on the port that carried the command, and stays so when more goes out after it. -/
theorem podAck_answers (htx : u.tx = s.tx) (hseq : ((u.pod l).port b).seq = ((s.pod l).port b).seq) (hopc : f.tspec < 256) (hr : r < 256)
    {t : State} {ms : List OutMsg} (ht : t.tx = (u.podAck l b f.seq (ackData f.tspec r v)).tx ++ ms) :
    PodAnswers s t l b f r (some (v % 2 ^ 32)) := by
  obtain ⟨hres, hval⟩ := ackData_parts hopc hr v
  have hsent : t.tx = s.tx ++ OutMsg.pod l b
      { ftype := 9, claim := (u.pod l).cacc, seq := ((u.pod l).port b).seq, len := 1, tspec := 2 ^ 17 + f.seq, data := [ackData f.tspec r v], ok := true }
      :: ms := by
    rw [ht, State.podAck, podSend_tx, htx, List.append_assoc]
    rfl
  exact ⟨_, _, ms, hsent, rfl, rfl, rfl, hseq, hres, fun w hw => hval.trans (Option.some.inj hw)⟩

/-! ### Which commands are executed -/

theorem podCmd_ignored (h : ¬ (downValid f = true ∧ f.ftype = 3 ∧ (s.pod l).on = true)) : s.podCmd l b f = s := by
  unfold State.podCmd
  rw [if_pos]
  by_contra hc
  simp only [Bool.or_eq_true, Bool.not_eq_true', bne_iff_ne, not_or, Bool.not_eq_false, not_not] at hc
  obtain ⟨⟨hon, hv⟩, hty⟩ := hc
  exact h ⟨hv, hty, hon⟩

theorem tspec_lt_of_downValid (hv : downValid f = true) (hty : f.ftype = 3) : f.tspec < 256 := by
  simp only [downValid, hty, Nat.reduceEqDiff, if_false, Bool.and_eq_true, beq_iff_eq] at hv
  obtain ⟨-, ⟨-, hts⟩, -⟩ := hv
  omega

variable (hv : downValid f = true) (hty : f.ftype = 3) (hon : (s.pod l).on = true)
include hv hty hon

theorem podCmd_capq (h1 : f.tspec = 1) : ∃ loss, s.podCmd l b f =
    (s.setPod l { (s.pod l).see f.claim b with loss }).podSend l b 9 (2 ^ 16) [(s.pod l).cap] := by
  unfold State.podCmd
  simp only [hv, hty, hon, h1, bne_self_eq_false, Bool.not_true, Bool.or_self, Bool.false_eq_true, if_false, if_true]
  split
  · exact ⟨_, rfl⟩
  · exact ⟨_, rfl⟩

/-- A command of another claim is answered by what the pod holds, and not executed (R261). -/
theorem podCmd_other (h1 : f.tspec ≠ 1) (hacc : ¬ Accepts (s.pod l) f.claim b) : s.podCmd l b f =
    (s.setPod l ((s.pod l).see f.claim b)).podAck l b f.seq (ackData f.tspec
      (if f.tspec = 2 then (if (s.pod l).cfg = f.data then 0 else 3) else 4) (if f.tspec = 2 then setcfgCrc f.data else 0)) := by
  have hclaim : (f.claim != ((s.pod l).see f.claim b).cacc) = true := bne_iff_ne.mpr (Ne.symm hacc)
  unfold State.podCmd
  simp only [hv, hty, hon, h1, hclaim, bne_self_eq_false, Bool.not_true, Bool.or_self, Bool.false_eq_true, if_false, if_true, beq_iff_eq]
  rfl

theorem podCmd_repeated (h1 : f.tspec ≠ 1) (hacc : Accepts (s.pod l) f.claim b) {d : Word64}
    (hlast : ((s.pod l).port b).lastCmd = some ((f.seq, f.tspec, f.claim), d)) :
    s.podCmd l b f = (s.setPod l ((s.pod l).see f.claim b).heard).podAck l b f.seq d := by
  have hclaim : ((s.pod l).see f.claim b).cacc = f.claim := hacc
  have hlast' : (((s.pod l).see f.claim b).heard.port b).lastCmd = some ((f.seq, f.tspec, f.claim), d) := hlast
  unfold State.podCmd
  simp only [hv, hty, hon, h1, hclaim, hlast', bne_self_eq_false, Bool.not_true, Bool.or_self, Bool.false_eq_true, if_false, if_true]

end

/-- The command is of the accepted claim, is no CAPQ and is not the one that the pod executed last on this port (R281). -/
def NewCommand (s : State) (l : Nat) (b : Bool) (f : LinkFrame) : Prop :=
  ((downValid f = true ∧ f.ftype = 3 ∧ (s.pod l).on = true) ∧ Accepts (s.pod l) f.claim b ∧ f.tspec ≠ 1) ∧
    ∀ d, ((s.pod l).port b).lastCmd ≠ some ((f.seq, f.tspec, f.claim), d)

/-- The pod that hears a command of its claim, before it executes it. -/
def PodSt.hears (p : PodSt) (f : LinkFrame) (b : Bool) : PodSt := (p.see f.claim b).heard

theorem hears_podSame (p : PodSt) (f : LinkFrame) (b : Bool) : PodSame p (p.hears f b) := ⟨rfl, rfl, rfl, rfl, rfl, rfl⟩

theorem hears_port (p : PodSt) (f : LinkFrame) (b : Bool) : (p.hears f b).port b = p.port b := rfl

/-- `u` is `s` but for the free values drawn. -/
def DrawnFrom (s u : State) : Prop := ∃ free, u = { s with free }

theorem DrawnFrom.refl (s : State) : DrawnFrom s s := ⟨s.free, rfl⟩

section
variable {s u : State} {l : Nat} {b : Bool} {f : LinkFrame} {op r v : Nat} {q : PodSt} (hn : NewCommand s l b f)
include hn

/-- A new command is executed, answered, and what it changes is reported. -/
theorem podCmd_new (hexec : s.podExec ((s.pod l).hears f b) f.tspec f.data = (r, v, q, u)) :
    s.podCmd l b f = ((u.setPod l (q.setPort b { q.port b with lastCmd := some ((f.seq, f.tspec, f.claim), ackData f.tspec r v) })).podAck
      l b f.seq (ackData f.tspec r v)).podReport l ((s.pod l).hears f b) := by
  obtain ⟨⟨⟨hv, hty, hon⟩, hacc, h1⟩, hnew⟩ := hn
  have hclaim : ((s.pod l).see f.claim b).cacc = f.claim := hacc
  have hnew' : ∀ d, (((s.pod l).see f.claim b).heard.port b).lastCmd ≠ some ((f.seq, f.tspec, f.claim), d) := hnew
  rw [PodSt.hears] at hexec
  unfold State.podCmd
  simp only [hv, hty, hon, h1, hclaim, hexec, bne_self_eq_false, Bool.not_true, Bool.or_self, Bool.false_eq_true, if_false]
  split
  · next k d hlast =>
    rw [if_neg (by rintro rfl; exact hnew' d hlast)]
    rfl
  · rfl

/-- The execution of a new command: what the pod is after it, and the answer. -/
theorem podCmd_executes (hop : f.tspec = op) (hexec : s.podExec ((s.pod l).hears f b) op f.data = (r, v, q, u)) (hu : DrawnFrom s u)
    (hport : q.port b = ((s.pod l).hears f b).port b) (hr : r < 256) :
    q.ReportedAs ((s.podCmd l b f).pod l) ∧ PodAnswers s (s.podCmd l b f) l b f r (some (v % 2 ^ 32)) := by
  subst hop
  rw [podCmd_new hn hexec]
  obtain ⟨⟨⟨hv, hty, -⟩, -, -⟩, -⟩ := hn
  have htx : u.tx = s.tx := by obtain ⟨_, rfl⟩ := hu; rfl
  generalize hx : { q.port b with lastCmd := some ((f.seq, f.tspec, f.claim), ackData f.tspec r v) } = x
  have hseq : x.seq = ((s.pod l).port b).seq := by
    have hq := congrArg PodPort.seq (hport.trans (hears_port (s.pod l) f b))
    rw [← hx]
    exact hq
  have hsent : (q.setPort b x).ReportedAs (((u.setPod l (q.setPort b x)).podAck l b f.seq (ackData f.tspec r v)).pod l) := by
    rw [State.podAck, podSend_pod, pod_setPod]
    exact .setPort ..
  obtain ⟨ms, hms⟩ := podReport_tx ((u.setPod l (q.setPort b x)).podAck l b f.seq (ackData f.tspec r v)) l ((s.pod l).hears f b)
  refine ⟨(PodSt.ReportedAs.setPort q b x).trans (hsent.trans (podReport_reportedAs ..)),
    podAck_answers (s := s) (u := u.setPod l (q.setPort b x)) htx ?_ (tspec_lt_of_downValid hv hty) hr hms⟩
  rw [pod_setPod, setPort_port, hseq]

end

/-! ### What the commands do (Table 8) -/

/-- The pod after a SETCFG that it can apply (R255). -/
def PodSt.applied (p : PodSt) (data : List Word64) : PodSt := ({ p with cfg := data, needCfg := false }).settleBlocked

theorem applied_spec (p : PodSt) (data : List Word64) (b : Bool) :
    (p.applied data).cfg = data ∧ (p.applied data).needCfg = false ∧ (p.applied data).port b = p.port b := ⟨rfl, rfl, rfl⟩

/-- The pod after PODRST: what it keeps is DEDUCED (log 71). -/
def PodSt.afterReset (p : PodSt) : PodSt := { p.block with needCfg := true, wins := [], sched := [], hold := 0 }

theorem afterReset_spec (p : PodSt) (b : Bool) :
    Blocked p.afterReset ∧ p.afterReset.needCfg = true ∧ p.afterReset.wins = [] ∧ p.afterReset.port b = p.port b :=
  ⟨block_blocked p, rfl, rfl, rfl⟩

/-- The pod after FLTCLR (R273). -/
def PodSt.cleared (p : PodSt) : PodSt := ({ p with desat := 0, gdf := 0 }).settleBlocked

theorem cleared_spec (p : PodSt) (b : Bool) : p.cleared.desat = 0 ∧ p.cleared.gdf = 0 ∧ p.cleared.cfg = p.cfg ∧ p.cleared.bypst = p.bypst ∧
    p.cleared.port b = p.port b := ⟨rfl, rfl, rfl, rfl, rfl⟩

/-- The bypass moves where it is not there already (R279). -/
theorem moveBypass_spec (p : PodSt) (close b : Bool) :
    (p.bypst ≠ (if close then 1 else 0) → (p.moveBypass close).bypst = 2 ∧ (p.moveBypass close).bypClose = close) ∧
      (p.bypst = (if close then 1 else 0) → (p.moveBypass close).bypst = (if close then 1 else 0)) ∧
      (p.moveBypass close).port b = p.port b := by
  unfold PodSt.moveBypass
  by_cases h : p.bypst = if close then 1 else 0
  · rw [if_pos h]
    exact ⟨fun hne => absurd h hne, fun _ => h, rfl⟩
  · rw [if_neg h]
    exact ⟨fun _ => ⟨rfl, rfl⟩, fun he => absurd he h, rfl⟩

section
variable (s : State) (p : PodSt) (data : List Word64)

theorem podExec_setcfg (h : p.takes data = true) : s.podExec p 2 data = (0, setcfgCrc data, p.applied data, s) := if_pos h

theorem podExec_setcfg_invalid (h : p.takes data = false) : s.podExec p 2 data = (2, setcfgCrc data, p, s) := if_neg (by simp [h])

theorem podExec_bypass (close : Bool) (h : capBYP p.cap.toNat = true) :
    s.podExec p (if close then 3 else 4) data = (0, 0, p.moveBypass close, s) := by cases close <;> exact if_pos h

theorem podExec_bypass_unsupported (close : Bool) (h : capBYP p.cap.toNat = false) :
    s.podExec p (if close then 3 else 4) data = (1, 0, p, s) := by cases close <;> exact if_neg (by simp [h])

theorem podExec_podrst : s.podExec p 5 data = (0, 0, p.afterReset, s) := rfl

theorem podExec_pwrite : s.podExec p 6 data = (if 0x11 ≤ p.ver then 0 else 1, 0, p, s) := rfl

/-- What a pod register reads is a free value (DESIGN CHOICE, log 2). -/
theorem podExec_pread (h : 0x11 ≤ p.ver) : ∃ v u, s.podExec p 7 data = (0, v, p, u) ∧ DrawnFrom s u := ⟨_, _, if_pos h, _, rfl⟩

theorem podExec_pread_unsupported (h : ¬ 0x11 ≤ p.ver) : s.podExec p 7 data = (1, 0, p, s) := if_neg h

theorem podExec_fltclr : s.podExec p 8 data = (0, 0, p.cleared, s) := rfl

end

theorem setcfgCrc_mod (data : List Word64) : setcfgCrc data % 2 ^ 32 = setcfgCrc data := Nat.mod_eq_of_lt (BitVec.isLt _)

/-! ### What each command does -/

section
variable {s : State} {l : Nat} {b : Bool} {f : LinkFrame} (hv : downValid f = true) (hty : f.ftype = 3) (hon : (s.pod l).on = true)
include hv hty hon

theorem podCmd_capq_answers (h1 : f.tspec = 1) : PodSame (s.pod l) ((s.podCmd l b f).pod l) ∧
    ∃ g, (s.podCmd l b f).tx = s.tx ++ [.pod l b g] ∧ g.ftype = 9 ∧ g.tspec = 2 ^ 16 ∧ g.data = [(s.pod l).cap] := by
  obtain ⟨loss, h⟩ := podCmd_capq hv hty hon h1
  rw [h, podSend_pod, podSend_tx, pod_setPod]
  exact ⟨(PodSt.ReportedAs.setPort _ b _).podSame ⟨rfl, rfl, rfl, rfl, rfl, rfl⟩, _, rfl, rfl, rfl, rfl⟩

theorem podCmd_other_answers (h1 : f.tspec ≠ 1) (hacc : ¬ Accepts (s.pod l) f.claim b) : PodSame (s.pod l) ((s.podCmd l b f).pod l) ∧
    PodAnswers s (s.podCmd l b f) l b f (if f.tspec = 2 then (if (s.pod l).cfg = f.data then 0 else 3) else 4)
      (some (if f.tspec = 2 then setcfgCrc f.data else 0)) := by
  have hcrc : (if f.tspec = 2 then setcfgCrc f.data else 0) % 2 ^ 32 = if f.tspec = 2 then setcfgCrc f.data else 0 := by
    split; exacts [setcfgCrc_mod _, rfl]
  have heq := podCmd_other hv hty hon h1 hacc
  constructor
  · rw [heq, State.podAck, podSend_pod, pod_setPod]
    exact (PodSt.ReportedAs.setPort _ b _).podSame ⟨rfl, rfl, rfl, rfl, rfl, rfl⟩
  · refine hcrc ▸ podAck_answers (s := s) (u := s.setPod l ((s.pod l).see f.claim b)) (ms := []) rfl ?_ (tspec_lt_of_downValid hv hty) ?_ ?_
    · rw [pod_setPod]; rfl
    · split
      · split <;> decide
      · decide
    · rw [heq, List.append_nil]

theorem podCmd_repeated_answers (h1 : f.tspec ≠ 1) (hacc : Accepts (s.pod l) f.claim b) {d : Word64}
    (hlast : ((s.pod l).port b).lastCmd = some ((f.seq, f.tspec, f.claim), d)) : PodSame (s.pod l) ((s.podCmd l b f).pod l) ∧
      ∃ g, (s.podCmd l b f).tx = s.tx ++ [.pod l b g] ∧ g.data = [d] ∧ g.tspec = 2 ^ 17 + f.seq := by
  rw [podCmd_repeated hv hty hon h1 hacc hlast, State.podAck, podSend_pod, podSend_tx, pod_setPod]
  exact ⟨(PodSt.ReportedAs.setPort _ b _).podSame ⟨rfl, rfl, rfl, rfl, rfl, rfl⟩, _, rfl, rfl, rfl⟩

end

section
variable {s : State} {l : Nat} {b : Bool} {f : LinkFrame} (hn : NewCommand s l b f)
include hn

theorem setcfg_applies (hop : f.tspec = 2) (ht : ((s.pod l).see f.claim b).takes f.data = true) : ((s.podCmd l b f).pod l).cfg = f.data ∧
    ((s.podCmd l b f).pod l).needCfg = false ∧ PodAnswers s (s.podCmd l b f) l b f 0 (some (setcfgCrc f.data)) := by
  obtain ⟨hcfg, hneed, hport⟩ := applied_spec ((s.pod l).hears f b) f.data b
  obtain ⟨hq, ha⟩ := podCmd_executes hn hop (podExec_setcfg s _ f.data ht) (.refl s) hport (by decide)
  exact ⟨hq.cfg.trans hcfg, hq.needCfg.trans hneed, setcfgCrc_mod f.data ▸ ha⟩

theorem setcfg_invalid (hop : f.tspec = 2) (ht : ((s.pod l).see f.claim b).takes f.data = false) : PodSame (s.pod l) ((s.podCmd l b f).pod l) ∧
    PodAnswers s (s.podCmd l b f) l b f 2 (some (setcfgCrc f.data)) := by
  obtain ⟨hq, ha⟩ := podCmd_executes hn hop (podExec_setcfg_invalid s _ f.data ht) (.refl s) rfl (by decide)
  exact ⟨hq.podSame (hears_podSame ..), setcfgCrc_mod f.data ▸ ha⟩

theorem bypass_unsupported (close : Bool) (hop : f.tspec = if close then 3 else 4) (hbyp : capBYP (s.pod l).cap.toNat = false) :
    PodSame (s.pod l) ((s.podCmd l b f).pod l) ∧ PodAnswers s (s.podCmd l b f) l b f 1 (some 0) := by
  obtain ⟨hq, ha⟩ := podCmd_executes hn hop (podExec_bypass_unsupported s _ f.data close hbyp) (.refl s) rfl (by decide)
  exact ⟨hq.podSame (hears_podSame ..), ha⟩

theorem bypass_moves (close : Bool) (hop : f.tspec = if close then 3 else 4) (hbyp : capBYP (s.pod l).cap.toNat = true) :
    let q := (s.podCmd l b f).pod l
    PodAnswers s (s.podCmd l b f) l b f 0 (some 0) ∧ ((s.pod l).bypst ≠ (if close then 1 else 0) → q.bypst = 2 ∧ q.bypClose = close) ∧
      ((s.pod l).bypst = (if close then 1 else 0) → q.bypst = if close then 1 else 0) := by
  obtain ⟨hmove, hstay, hport⟩ := moveBypass_spec ((s.pod l).hears f b) close b
  obtain ⟨hq, ha⟩ := podCmd_executes hn hop (podExec_bypass s _ f.data close hbyp) (.refl s) hport (by decide)
  exact ⟨ha, fun h => ⟨hq.bypst.trans (hmove h).1, hq.bypClose.trans (hmove h).2⟩, fun h => hq.bypst.trans (hstay h)⟩

theorem podrst_blocks (hop : f.tspec = 5) : Blocked ((s.podCmd l b f).pod l) ∧ ((s.podCmd l b f).pod l).needCfg = true ∧
    ((s.podCmd l b f).pod l).wins = [] ∧ PodAnswers s (s.podCmd l b f) l b f 0 (some 0) := by
  obtain ⟨hblk, hneed, hwins, hport⟩ := afterReset_spec ((s.pod l).hears f b) b
  obtain ⟨hq, ha⟩ := podCmd_executes hn hop (podExec_podrst s _ f.data) (.refl s) hport (by decide)
  exact ⟨hq.isBlocked hblk, hq.needCfg.trans hneed, hq.wins.trans hwins, ha⟩

theorem pwrite_answers (hop : f.tspec = 6) : PodSame (s.pod l) ((s.podCmd l b f).pod l) ∧
    PodAnswers s (s.podCmd l b f) l b f (if 0x11 ≤ (s.pod l).ver then 0 else 1) (some 0) := by
  obtain ⟨hq, ha⟩ := podCmd_executes hn hop (podExec_pwrite s _ f.data) (.refl s) rfl (by split <;> decide)
  exact ⟨hq.podSame (hears_podSame ..), ha⟩

theorem pread_answers (hop : f.tspec = 7) : PodSame (s.pod l) ((s.podCmd l b f).pod l) ∧
    PodAnswers s (s.podCmd l b f) l b f (if 0x11 ≤ (s.pod l).ver then 0 else 1) (if 0x11 ≤ (s.pod l).ver then none else some 0) := by
  by_cases hver : 0x11 ≤ (s.pod l).ver
  · obtain ⟨v, u, hexec, hu⟩ := podExec_pread s ((s.pod l).hears f b) f.data hver
    obtain ⟨hq, ha⟩ := podCmd_executes hn hop hexec hu rfl (by decide)
    rw [if_pos hver, if_pos hver]
    exact ⟨hq.podSame (hears_podSame ..), podAnswers_weaken ha nofun⟩
  · obtain ⟨hq, ha⟩ := podCmd_executes hn hop (podExec_pread_unsupported s _ f.data hver) (.refl s) rfl (by decide)
    rw [if_neg hver, if_neg hver]
    exact ⟨hq.podSame (hears_podSame ..), ha⟩

theorem fltclr_clears (hop : f.tspec = 8) : ((s.podCmd l b f).pod l).desat = 0 ∧ ((s.podCmd l b f).pod l).gdf = 0 ∧
    ((s.podCmd l b f).pod l).cfg = (s.pod l).cfg ∧ ((s.podCmd l b f).pod l).bypst = (s.pod l).bypst ∧
      PodAnswers s (s.podCmd l b f) l b f 0 (some 0) := by
  obtain ⟨hdesat, hgdf, hcfg, hbypst, hport⟩ := cleared_spec ((s.pod l).hears f b) b
  obtain ⟨hq, ha⟩ := podCmd_executes hn hop (podExec_fltclr s _ f.data) (.refl s) hport (by decide)
  exact ⟨hq.desat.trans hdesat, hq.gdf.trans hgdf, hq.cfg.trans hcfg, hq.bypst.trans hbypst, ha⟩

end

/-- Settles O37: what is executed and what is only answered by the lemmas above, what a new command does by `podCmd_executes`. -/
theorem podsExecuteCommandsOnce : Obligations.PodsExecuteCommandsOnce := by
  intro s l b f p cmd mine new
  refine ⟨fun h => ⟨_, rfl, podCmd_ignored h⟩, fun ⟨hv, hty, hon⟩ h1 => ⟨_, rfl, podCmd_capq_answers hv hty hon h1⟩,
    fun ⟨hv, hty, hon⟩ h1 hacc => ⟨_, rfl, podCmd_other_answers hv hty hon h1 hacc⟩,
    fun ⟨⟨hv, hty, hon⟩, hacc, h1⟩ d hd => ⟨_, rfl, podCmd_repeated_answers hv hty hon h1 hacc hd⟩,
    fun hn hop ht => ⟨_, rfl, setcfg_applies hn hop ht⟩, fun hn hop ht => ⟨_, rfl, setcfg_invalid hn hop ht⟩,
    fun hn hop hbyp => ⟨_, rfl, hop.elim (bypass_unsupported hn true · hbyp) (bypass_unsupported hn false · hbyp)⟩,
    fun hn hop hbyp => ⟨_, rfl, bypass_moves hn true hop hbyp⟩, fun hn hop hbyp => ⟨_, rfl, bypass_moves hn false hop hbyp⟩,
    fun hn hop => ⟨_, rfl, podrst_blocks hn hop⟩, fun hn hop => ⟨_, rfl, ?_⟩, fun hn hop => ⟨_, rfl, fltclr_clears hn hop⟩⟩
  rcases hop with hop | hop
  · rw [if_neg (show ¬ (f.tspec = 7 ∧ 0x11 ≤ p.ver) from fun h => absurd (hop.symm.trans h.1) (by decide))]
    exact pwrite_answers hn hop
  · simp only [hop, true_and]
    exact pread_answers hn hop

end Sys2Proof.Machine

/-! ## What a pod does on its own (07 R268 to R274, R277, R278) -/
namespace Sys2Proof.Machine
open Sys2Proof.Stmt

/-- The last that the pod sends from `s` to `t` is a PERIODIC on both ports. -/
def ReportsAfter (s t : State) (l : Nat) : Prop :=
  ∃ ms u v, t.tx = s.tx ++ ms ++ [.pod l false u, .pod l true v] ∧ u.ftype = 9 ∧ v.ftype = 9

/-! ### Window starts (R267, R268, R271, R274) -/

/-- The pod as a window starts: its sightings are a window older, and the accepted claim follows them (R259). -/
def PodSt.aged (p : PodSt) : PodSt :=
  ({ p with cPrev := p.cacc, sight := (p.sight.map fun (e : Nat × Bool × Nat) => (e.1, e.2.1, e.2.2 + 1)).filter (·.2.2 < 8) }).accept

/-- The pod that has started a window at time `t`. -/
def PodSt.started (p : PodSt) (t : Nat) : PodSt :=
  let due := p.wins.filter fun w => ctDiff w.anchor t < 16
  let start := due.foldl (fun a w => match a with | some x => some (if 0 < ctDiff w.anchor x then w.anchor else x) | none => some w.anchor) none
  match start with
  | some a =>
    let here := due.filter (·.anchor == a)
    let q := { p.aged with wins := p.wins.filter fun w => 16 ≤ ctDiff w.anchor t, wStart := a }
    (match governing (here.filter (·.edge.isSome)) with
     | some { edge := some (trip, empty, slvl, recs), .. } => q.startEdge trip empty slvl recs
     | _ => q.replay)
  | none => { p.aged with wStart := ctAdd p.wStart p.wLen }.replay

section
variable {s : State} {l : Nat}

theorem podWindow_off (h : (s.pod l).on = false) : s.podWindow l = s := if_pos (by simp [h])

theorem podWindow_started (hon : (s.pod l).on = true) : s.podWindow l =
    ((s.setPod l ((s.pod l).started (s.podNow (s.pod l)))).podReport l (s.pod l).aged).periodic l := by
  unfold State.podWindow
  exact if_neg (by simp [hon])

theorem podWindow_reportedAs (hon : (s.pod l).on = true) :
    ((s.pod l).started (s.podNow (s.pod l))).ReportedAs ((s.podWindow l).pod l) := by
  rw [podWindow_started hon]
  refine .trans ?_ (periodic_reportedAs ..)
  refine .trans ?_ (podReport_reportedAs ..)
  rw [pod_setPod]
  exact .refl _

theorem podWindow_reports (hon : (s.pod l).on = true) : ReportsAfter s (s.podWindow l) l := by
  obtain ⟨ms, hms⟩ := podReport_tx (s.setPod l ((s.pod l).started (s.podNow (s.pod l)))) l (s.pod l).aged
  obtain ⟨u, v, h, hu, hv⟩ := periodic_sent ((s.setPod l ((s.pod l).started (s.podNow (s.pod l)))).podReport l (s.pod l).aged) l
  rw [podWindow_started hon]
  exact ⟨ms, u, v, by rw [h, hms, setPod_tx], hu, hv⟩

end

section
variable {p : PodSt} {t : Nat}

/-- With no frame due a window starts WLEN after the one before, and the pod replays (R267, R271). -/
theorem started_of_none (h : ∀ w ∈ p.wins, 16 ≤ ctDiff w.anchor t) : p.started t = { p.aged with wStart := ctAdd p.wStart p.wLen }.replay := by
  have hdue : (p.wins.filter fun w => ctDiff w.anchor t < 16) = [] :=
    List.filter_eq_nil_iff.mpr fun w hw => by simpa using h w hw
  unfold PodSt.started
  simp only [hdue, List.foldl_nil]

/-- The only frame that waits is due and is an EDGE frame: its window starts (R268). -/
theorem started_of_edge {w : PodWin} (hw : p.wins = [w]) (hdue : ctDiff w.anchor t < 16) {trip empty : Bool} {slvl : Nat} {recs : List Word}
    (he : w.edge = some (trip, empty, slvl, recs)) :
    p.started t = ({ p.aged with wins := [], wStart := w.anchor }).startEdge trip empty slvl recs := by
  obtain ⟨anchor, wlen, claim, edge⟩ := w
  subst he
  unfold PodSt.started
  simp [hw, hdue, governing]

theorem replay_again (hb : p.blocked = false) (hh : p.hold < 8) :
    p.replay = { p with hold := p.hold + 1, play := p.sched, delayed := [], playing := true } := by
  unfold PodSt.replay
  rw [if_neg (by simp [hb]), if_neg (by omega)]

theorem replay_blocks (hb : p.blocked = false) (hh : 8 ≤ p.hold) : p.replay = p.block := by
  unfold PodSt.replay
  rw [if_neg (by simp [hb]), if_pos hh]

/-- The channels start again, and their levels are checked, by changes of these fields alone. -/
theorem freeChans_eq (p : PodSt) : ∃ chb outs, p.freeChans = { p with chb, outs } := by
  unfold PodSt.freeChans
  refine (List.range 8).foldlRecOn _ (motive := fun q => ∃ chb outs, q = { p with chb, outs }) ⟨p.chb, p.outs, rfl⟩ ?_
  rintro _ ⟨chb, outs, rfl⟩ c _
  split
  · exact ⟨_, _, rfl⟩
  · exact ⟨_, _, rfl⟩

theorem drive_eq (p : PodSt) (o : Nat) (b : Bool) : ∃ outs, p.drive o b = { p with outs } := by
  unfold PodSt.drive
  split
  · exact ⟨p.outs, rfl⟩
  · exact ⟨_, rfl⟩

theorem levelCheck_eq (p : PodSt) (slvl : Nat) : ∃ outs lvlerr, p.levelCheck slvl = { p with outs, lvlerr } := by
  unfold PodSt.levelCheck
  split
  · exact ⟨p.outs, p.lvlerr, rfl⟩
  refine (List.range 8).foldlRecOn _ (motive := fun q => ∃ outs lvlerr, q = { p with outs, lvlerr }) ⟨p.outs, p.lvlerr, rfl⟩ ?_
  rintro _ ⟨outs, lvlerr, rfl⟩ c _
  split
  · obtain ⟨outs', h⟩ := drive_eq { p with outs, lvlerr } (2 * c) false
    obtain ⟨outs'', h'⟩ := drive_eq { p with outs := outs', lvlerr } (2 * c + 1) false
    exact ⟨outs'', true, by rw [h, h']⟩
  · exact ⟨_, _, rfl⟩

theorem freeChans_of_none (h : p.chb = 0) : p.freeChans = p := by
  unfold PodSt.freeChans
  exact List.foldl_fixed' (fun c => if_neg (by simp [h])) _

/-! ### An EDGE frame's window -/

variable {slvl : Nat} {recs : List Word}

theorem startEdge_trip : p.startEdge true false slvl recs = { p with hold := 0, delayed := [] }.block := rfl

/-- The pod as an EDGE frame's window starts that it may play: no longer blocked (R274). -/
def PodSt.unblocked (p : PodSt) : PodSt :=
  if p.blocked then ({ p with hold := 0, delayed := [], blocked := false, tripped := false, llost := false, outs := 0 }).settleBlocked
  else { p with hold := 0, delayed := [] }

theorem startEdge_records (h : ¬ (p.blocked && !p.mayLeave) = true) : p.startEdge false false slvl recs =
    { p.unblocked.freeChans.levelCheck slvl with sched := recs, play := recs, playing := true } := by
  unfold PodSt.startEdge
  refine (if_neg Bool.false_ne_true).trans ?_
  refine (if_neg h).trans ?_
  exact if_neg Bool.false_ne_true

theorem startEdge_plays (hb : p.blocked = false) (hc : p.chb = 0) (hver : p.ver < 0x20) :
    p.startEdge false false slvl recs = { p with hold := 0, delayed := [], sched := recs, play := recs, playing := true } := by
  have hlevel : ({ p with hold := 0, delayed := [] } : PodSt).levelCheck slvl = { p with hold := 0, delayed := [] } := if_pos hver
  have hfree : ({ p with hold := 0, delayed := [] } : PodSt).freeChans = { p with hold := 0, delayed := [] } := freeChans_of_none hc
  have hun : p.unblocked = { p with hold := 0, delayed := [] } := if_neg (by simp [hb])
  rw [startEdge_records (by simp [hb]), hun, hfree, hlevel]

/-- A blocked pod that may leave its block plays again (R274). -/
theorem startEdge_leaves (hb : p.blocked = true) (hm : p.mayLeave = true) :
    (p.startEdge false false slvl recs).blocked = false ∧ (p.startEdge false false slvl recs).tripped = false ∧
      (p.startEdge false false slvl recs).play = recs := by
  obtain ⟨hblocked, htripped⟩ : p.unblocked.blocked = false ∧ p.unblocked.tripped = false := by
    unfold PodSt.unblocked
    rw [if_pos hb]
    exact ⟨rfl, rfl⟩
  obtain ⟨_, _, hf⟩ := freeChans_eq p.unblocked
  obtain ⟨_, _, hl⟩ := levelCheck_eq p.unblocked.freeChans slvl
  rw [startEdge_records (by simp [hm]), hl, hf]
  exact ⟨hblocked, htripped, rfl⟩

theorem startEdge_stays (hb : p.blocked = true) (hm : p.mayLeave = false) :
    p.startEdge false false slvl recs = { p with hold := 0, delayed := [] } := by
  unfold PodSt.startEdge
  refine (if_neg Bool.false_ne_true).trans ?_
  exact if_pos (show (p.blocked && !p.mayLeave) = true by rw [hb, hm]; rfl)

end

/-! ### Records (R268, R269) -/

/-- An output that nothing holds takes its level. -/
theorem drive_free {p : PodSt} {o : Nat} (hc : p.chb.testBit (o / 2) = false) (hbyp : p.bypst = 0) (b : Bool) :
    p.drive o b = { p with outs := putBit p.outs o b } := by
  unfold PodSt.drive
  rw [if_neg (by simp [PodSt.chBlk, hc]), hbyp]
  simp

/-- The other output of the channel. -/
def complementOf (o : Nat) : Nat := if o % 2 = 0 then o + 1 else o - 1

theorem complementOf_channel (o : Nat) : complementOf o / 2 = o / 2 := by unfold complementOf; split <;> omega

section
variable {p : PodSt} {t o : Nat} (hc : p.chb.testBit (o / 2) = false) (hbyp : p.bypst = 0)
include hc hbyp

theorem toLevel_off : p.toLevel t o false = { p with outs := putBit p.outs o false, delayed := p.delayed.filter (·.1 != o) } := by
  unfold PodSt.toLevel
  rw [drive_free hc hbyp]
  rfl

theorem toLevel_on (h : p.outs.testBit (complementOf o) = false) : p.toLevel t o true = { p with outs := putBit p.outs o true } := by
  unfold PodSt.toLevel
  rw [if_neg (by decide), ← drive_free hc hbyp]
  exact if_neg (by rw [← complementOf, h]; decide)

/-- An output does not turn on beside its complement: it waits for DTMIN after the complement's turn-off (R269). -/
theorem toLevel_delayed (h : p.outs.testBit (complementOf o) = true) : p.toLevel t o true =
    { p with outs := putBit p.outs (complementOf o) false, delayed := p.delayed ++ [(o, t + p.dtmin)], intlk := true } := by
  have hdrive : p.drive (complementOf o) false = { p with outs := putBit p.outs (complementOf o) false } :=
    drive_free (by rw [complementOf_channel, hc]) hbyp false
  unfold PodSt.toLevel
  rw [if_neg (by decide)]
  refine (if_pos h).trans ?_
  rw [← complementOf, hdrive]

end

section
variable {s : State} {l i : Nat}

theorem podPlay_ignored (h : ¬ ((s.pod l).on = true ∧ (s.pod l).blocked = false ∧ (s.pod l).playing = true)) : s.podPlay l i = s := by
  unfold State.podPlay
  refine if_pos ?_
  by_contra hc
  simp only [Bool.or_eq_true, Bool.not_eq_true', not_or, Bool.not_eq_false, Bool.not_eq_true] at hc
  obtain ⟨⟨hon, hb⟩, hplay⟩ := hc
  exact h ⟨hon, hb, hplay⟩

theorem podPlay_record (hon : (s.pod l).on = true) (hb : (s.pod l).blocked = false) (hplay : (s.pod l).playing = true)
    (hi : i < (s.pod l).play.length) :
    let r := ((s.pod l).play.getD i 0).toNat
    s.podPlay l i = s.setPod l (({ s.pod l with play := (s.pod l).play.eraseIdx i }).toLevel (s.podNow (s.pod l))
      (2 * (r / 2 ^ 24 % 8) + r / 2 ^ 27 % 2) (r.testBit 28)) := by
  unfold State.podPlay
  dsimp only
  rw [if_neg (by simp [hon, hb, hplay]), if_pos hi]
  rfl

end

/-! ### Faults and link loss (R273, R277) -/

/-- The pod after a fault of channel `c`: by its gate driver, or desaturation. -/
def PodSt.faulted (p : PodSt) (c : Nat) (gdf : Bool) : PodSt :=
  PodSt.settleBlocked (if gdf then { p with gdf := p.gdf ||| 2 ^ c, chb := p.chb ||| 2 ^ c }
    else { p with desat := p.desat ||| 2 ^ c, chb := p.chb ||| 2 ^ c })

/-- A fault is latched; the other latch stays as it is. -/
theorem faulted_latches (p : PodSt) (c : Nat) : (p.faulted c true).gdf = p.gdf ||| 2 ^ c ∧ (p.faulted c true).desat = p.desat ∧
    (p.faulted c false).desat = p.desat ||| 2 ^ c ∧ (p.faulted c false).gdf = p.gdf := ⟨rfl, rfl, rfl, rfl⟩

theorem or_two_pow_testBit (x c : Nat) : (x ||| 2 ^ c).testBit c = true := by rw [Nat.testBit_or, Nat.testBit_two_pow_self, Bool.or_true]

theorem faulted_blocks (p : PodSt) (c : Nat) (gdf : Bool) : (p.faulted c gdf).chb.testBit c = true := by
  cases gdf <;> exact or_two_pow_testBit p.chb c

/-- A desaturated channel is off (R272). -/
theorem faulted_off (p : PodSt) {c o : Nat} (hc : o / 2 = c) (ho : o < 16) : (p.faulted c false).outs.testBit o = false := by
  subst hc
  have hch : (p.chb ||| 2 ^ (o / 2)).testBit (o / 2) = true := or_two_pow_testBit ..
  have hde : (p.desat ||| 2 ^ (o / 2)).testBit (o / 2) = true := or_two_pow_testBit ..
  unfold PodSt.faulted
  rw [settleBlocked_testBit _ ho]
  simp [PodSt.isHeld, PodSt.heldLevel, PodSt.chBlk, PodSt.blockLevel, hch, hde]

/-- A desaturation that is not latched yet is reported. -/
theorem faulted_news {p : PodSt} {c : Nat} (h : p.desat.testBit c = false) : (p.faulted c false).newsSince p := by
  rintro ⟨hd, -⟩
  have hbit : (p.desat ||| 2 ^ c).testBit c = p.desat.testBit c := congrArg (Nat.testBit · c) hd
  rw [or_two_pow_testBit, h] at hbit
  exact absurd hbit (by decide)

section
variable {s : State} {l : Nat}

theorem podReport_setPod {p : PodSt} (h : p.newsSince (s.pod l)) : ReportsAfter s ((s.setPod l p).podReport l (s.pod l)) l := by
  have hnews : ((s.setPod l p).pod l).newsSince (s.pod l) := by rw [pod_setPod]; exact h
  obtain ⟨u, v, htx, hu, hv⟩ := podReport_news hnews
  exact ⟨[], u, v, by rw [htx, setPod_tx, List.append_nil], hu, hv⟩

theorem podReport_setPod_reportedAs (p old : PodSt) : p.ReportedAs (((s.setPod l p).podReport l old).pod l) := by
  have h := podReport_reportedAs (s.setPod l p) l old
  rwa [pod_setPod] at h

theorem podFault_eq (hon : (s.pod l).on = true) (c : Nat) (gdf : Bool) :
    s.podFault l c gdf = (s.setPod l ((s.pod l).faulted c gdf)).podReport l (s.pod l) := by
  unfold State.podFault
  exact if_neg (by simp [hon])

theorem podFault_holds (hon : (s.pod l).on = true) {c : Nat} (hc : c < 8) (g : Bool) :
    let p := s.pod l
    let t := s.podFault l c g
    let q := t.pod l
    q.chb.testBit c = true ∧ (g = true → q.gdf = p.gdf ||| 2 ^ c ∧ q.desat = p.desat) ∧
      (g = false → q.desat = p.desat ||| 2 ^ c ∧ q.gdf = p.gdf ∧ q.outs.testBit (2 * c) = false ∧ q.outs.testBit (2 * c + 1) = false) ∧
      (g = false → p.desat.testBit c = false → ReportsAfter s t l) := by
  dsimp only
  rw [podFault_eq hon]
  have hq := podReport_setPod_reportedAs (s := s) (l := l) ((s.pod l).faulted c g) (s.pod l)
  obtain ⟨hgdf, hkeptDesat, hdesat, hkeptGdf⟩ := faulted_latches (s.pod l) c
  have houts : ∀ o, (((s.setPod l ((s.pod l).faulted c g)).podReport l (s.pod l)).pod l).outs.testBit o = ((s.pod l).faulted c g).outs.testBit o :=
    fun o => by rw [hq.outs]
  refine ⟨by rw [hq.chb]; exact faulted_blocks .., ?_, ?_, ?_⟩
  · rintro rfl
    exact ⟨hq.gdf.trans hgdf, hq.desat.trans hkeptDesat⟩
  · rintro rfl
    exact ⟨hq.desat.trans hdesat, hq.gdf.trans hkeptGdf, (houts _).trans (faulted_off _ (by omega) (by omega)),
      (houts _).trans (faulted_off _ (by omega) (by omega))⟩
  · rintro rfl hd
    exact podReport_setPod (faulted_news hd)

theorem podFault_off (h : (s.pod l).on = false) (c : Nat) (gdf : Bool) : s.podFault l c gdf = s := by
  unfold State.podFault
  exact if_pos (by simp [h])

theorem podLoss_off (h : (s.pod l).on = false) : s.podLoss l = s := if_neg (by simp [h])

theorem podLoss_blocks (h : (s.pod l).on = true) : s.podLoss l = s.setPod l { (s.pod l).block with loss := true, llost := true } := if_pos h

/-! ### Samples (R278) -/

/-- The data of a SAMPLE frame: the pod's CT64, then its samples four to a block. -/
def PodSt.sampleData (p : PodSt) (now : Nat) (vs : List (BitVec 16)) : List Word64 :=
  BitVec.ofNat 64 now :: (List.range ((p.smp + 3) / 4)).map fun j =>
    BitVec.ofNat 64 ((List.range 4).foldl (fun v m => v + (if 4 * j + m < p.smp then (vs.getD (4 * j + m) 0).toNat else 0) * 2 ^ (16 * m)) 0)

/-- The samples let the pod close its bypass on its own. -/
def PodSt.closesOn (p : PodSt) (vs : List (BitVec 16)) : Bool :=
  p.loss && p.llbyp && capBYP p.cap.toNat && p.vbsrc < p.smp && (vs.getD p.vbsrc 0).toInt < p.vbyp

/-- The pod after a sampling instant. -/
def PodSt.sampled (p : PodSt) (vs : List (BitVec 16)) (temp : BitVec 16) : PodSt :=
  if p.closesOn vs then ({ p with temp }).moveBypass true else { p with temp }

variable {slot : Nat} {vs : List (BitVec 16)} {temp : BitVec 16}

theorem podSample_ignored (h : ¬ ((s.pod l).on = true ∧ (s.pod l).cfg ≠ [] ∧ slot < (s.pod l).frm)) : s.podSample l slot vs temp = s := by
  unfold State.podSample
  refine if_pos ?_
  by_contra hc
  simp only [Bool.or_eq_true, Bool.not_eq_true', List.isEmpty_iff, decide_eq_true_eq, not_or, Bool.not_eq_false, not_le] at hc
  obtain ⟨⟨hon, hcfg⟩, hslot⟩ := hc
  exact h ⟨hon, hcfg, hslot⟩

theorem podSample_sends (hon : (s.pod l).on = true) (hcfg : (s.pod l).cfg ≠ []) (hslot : slot < (s.pod l).frm) :
    let data := (s.pod l).sampleData (s.podNow (s.pod l)) vs
    s.podSample l slot vs temp = (((s.setPod l ((s.pod l).sampled vs temp)).podSend l false 8 slot data).podSend l true 8 slot data).podReport l
      (s.pod l) := by
  have hgo : ¬ (!(s.pod l).on || (s.pod l).cfg.isEmpty || decide ((s.pod l).frm ≤ slot)) = true := by simp [hon, hcfg, hslot]
  unfold State.podSample
  exact if_neg hgo

theorem sampled_spec (p : PodSt) (vs : List (BitVec 16)) (temp : BitVec 16) : (p.sampled vs temp).temp = temp ∧
    (p.closesOn vs = false → (p.sampled vs temp).bypst = p.bypst) ∧
    (p.closesOn vs = true → p.bypst ≠ 1 → (p.sampled vs temp).bypst = 2) := by
  obtain ⟨hmove, -, -⟩ := moveBypass_spec { p with temp } true false
  have htemp : (({ p with temp }).moveBypass true).temp = temp := by
    unfold PodSt.moveBypass
    by_cases h : p.bypst = 1
    · exact congrArg PodSt.temp (if_pos h)
    · exact congrArg PodSt.temp (if_neg h)
  unfold PodSt.sampled
  refine ⟨?_, fun h => ?_, fun h hb => ?_⟩
  · split
    · exact htemp
    · rfl
  · rw [h]; rfl
  · rw [h]; exact (hmove hb).1

/-! ### Bypass and power (R259, R273, R274, R278) -/

theorem podBypass_ignored (h : (s.pod l).on = false ∨ (s.pod l).bypst ≠ 2) (fault : Bool) : s.podBypass l fault = s := by
  unfold State.podBypass
  exact if_pos (by rcases h with h | h <;> simp [h])

theorem podBypass_ends (hon : (s.pod l).on = true) (hb : (s.pod l).bypst = 2) (fault : Bool) :
    ((s.podBypass l fault).pod l).bypst = (if fault then 3 else if (s.pod l).bypClose then 1 else 0) ∧ ReportsAfter s (s.podBypass l fault) l := by
  have heq : s.podBypass l fault =
      (s.setPod l { s.pod l with bypst := if fault then 3 else b2n (s.pod l).bypClose }).podReport l (s.pod l) := by
    unfold State.podBypass
    exact if_neg (by simp [hon, hb])
  have hmoved : (if fault then 3 else b2n (s.pod l).bypClose) ≠ 2 := by
    cases fault <;> cases (s.pod l).bypClose <;> decide
  rw [heq]
  exact ⟨(podReport_setPod_reportedAs ..).bypst, podReport_setPod fun h => hmoved (h.2.2.1.trans hb)⟩

end

/-- Power-up keeps of a pod the state of its bypass alone; its CT64 is a free value (DESIGN CHOICE, log 2). -/
theorem podPower_eq (s : State) (l : Nat) (cap : Word64) : ∃ off free, s.podPower l cap =
    ({ s with free } : State).setPod l { pod0 with on := true, cap, off, bypst := (s.pod l).bypst, bypClose := (s.pod l).bypClose } := ⟨_, _, rfl⟩

/-! ### The clauses -/

section
variable {s : State} {l : Nat}

/-- The pod that a window start leaves, but for what a report changes. -/
theorem podWindow_pod (hon : (s.pod l).on = true) {q : PodSt} (h : (s.pod l).started (s.podNow (s.pod l)) = q) :
    q.ReportedAs ((s.podWindow l).pod l) := h ▸ podWindow_reportedAs hon

theorem podWindow_replays (hon : (s.pod l).on = true) (hnone : ∀ w ∈ (s.pod l).wins, 16 ≤ ctDiff w.anchor (s.podNow (s.pod l)))
    (hb : (s.pod l).blocked = false) (hh : (s.pod l).hold < 8) :
    let p := s.pod l
    let q := (s.podWindow l).pod l
    q.hold = p.hold + 1 ∧ q.play = p.sched ∧ q.playing = true ∧ q.wStart = ctAdd p.wStart p.wLen ∧ q.outs = p.outs := by
  have hq := podWindow_pod hon ((started_of_none hnone).trans
      (replay_again (p := { (s.pod l).aged with wStart := ctAdd (s.pod l).wStart (s.pod l).wLen }) hb hh))
  exact ⟨hq.hold, hq.play, hq.playing, hq.wStart, hq.outs⟩

theorem podWindow_blocks (hon : (s.pod l).on = true) (hnone : ∀ w ∈ (s.pod l).wins, 16 ≤ ctDiff w.anchor (s.podNow (s.pod l)))
    (hb : (s.pod l).blocked = false) (hh : 8 ≤ (s.pod l).hold) : Blocked ((s.podWindow l).pod l) := by
  have hq := podWindow_pod hon ((started_of_none hnone).trans
      (replay_blocks (p := { (s.pod l).aged with wStart := ctAdd (s.pod l).wStart (s.pod l).wLen }) hb hh))
  exact hq.isBlocked (block_blocked _)

variable {w : PodWin} {slvl : Nat} {recs : List Word} (hon : (s.pod l).on = true) (hw : (s.pod l).wins = [w])
  (hdue : ctDiff w.anchor (s.podNow (s.pod l)) < 16)
include hon hw hdue

theorem podWindow_trips (he : w.edge = some (true, false, slvl, recs)) : Blocked ((s.podWindow l).pod l) ∧ ((s.podWindow l).pod l).hold = 0 := by
  have hq := podWindow_pod hon ((started_of_edge hw hdue he).trans startEdge_trip)
  exact ⟨hq.isBlocked (block_blocked _), hq.hold⟩

variable (he : w.edge = some (false, false, slvl, recs))
include he

theorem podWindow_plays (hb : (s.pod l).blocked = false) (hc : (s.pod l).chb = 0) (hver : (s.pod l).ver < 0x20) :
    let q := (s.podWindow l).pod l
    q.sched = recs ∧ q.play = recs ∧ q.hold = 0 ∧ q.wStart = w.anchor ∧ q.wins = [] ∧ q.outs = (s.pod l).outs := by
  have hq := podWindow_pod hon ((started_of_edge hw hdue he).trans
      (startEdge_plays (p := { (s.pod l).aged with wins := [], wStart := w.anchor }) hb hc hver))
  exact ⟨hq.sched, hq.play, hq.hold, hq.wStart, hq.wins, hq.outs⟩

theorem podWindow_leaves (hb : (s.pod l).blocked = true) (hm : (s.pod l).mayLeave = true) :
    let q := (s.podWindow l).pod l
    q.blocked = false ∧ q.tripped = false ∧ q.play = recs := by
  have hq := podWindow_pod hon (started_of_edge hw hdue he)
  obtain ⟨hblocked, htripped, hplay⟩ := startEdge_leaves (p := { (s.pod l).aged with wins := [], wStart := w.anchor })
      (slvl := slvl) (recs := recs) hb hm
  exact ⟨hq.blocked.trans hblocked, hq.tripped.trans htripped, hq.play.trans hplay⟩

theorem podWindow_stays (hb : (s.pod l).blocked = true) (hm : (s.pod l).mayLeave = false) :
    ((s.podWindow l).pod l).blocked = true ∧ ((s.podWindow l).pod l).outs = (s.pod l).outs := by
  have hq := podWindow_pod hon ((started_of_edge hw hdue he).trans
      (startEdge_stays (p := { (s.pod l).aged with wins := [], wStart := w.anchor }) hb hm))
  exact ⟨hq.blocked.trans hb, hq.outs⟩

end

section
variable {s : State} {l i o : Nat}

/-- Setting one output leaves the others. -/
theorem putBit_spec (x o : Nat) (b : Bool) : (putBit x o b).testBit o = b ∧ ∀ k, k ≠ o → (putBit x o b).testBit k = x.testBit k :=
  ⟨(putBit_testBit ..).trans (if_pos rfl), fun _ hk => (putBit_testBit ..).trans (if_neg hk)⟩

variable (hon : (s.pod l).on = true) (hb : (s.pod l).blocked = false) (hplay : (s.pod l).playing = true) (hi : i < (s.pod l).play.length)
  (ho : 2 * (((s.pod l).play.getD i 0).toNat / 2 ^ 24 % 8) + ((s.pod l).play.getD i 0).toNat / 2 ^ 27 % 2 = o)
  (hc : (s.pod l).chb.testBit (o / 2) = false) (hbyp : (s.pod l).bypst = 0)
include hon hb hplay hi ho hc hbyp

theorem podPlay_off (h28 : ((s.pod l).play.getD i 0).toNat.testBit 28 = false) :
    let q := (s.podPlay l i).pod l
    q.outs.testBit o = false ∧ (∀ k, k ≠ o → q.outs.testBit k = (s.pod l).outs.testBit k) ∧ q.play = (s.pod l).play.eraseIdx i := by
  dsimp only
  rw [podPlay_record hon hb hplay hi, ho, h28, toLevel_off (p := { s.pod l with play := (s.pod l).play.eraseIdx i }) hc hbyp, pod_setPod]
  obtain ⟨hself, hothers⟩ := putBit_spec (s.pod l).outs o false
  exact ⟨hself, hothers, rfl⟩

theorem podPlay_on (h28 : ((s.pod l).play.getD i 0).toNat.testBit 28 = true) (hcomp : (s.pod l).outs.testBit (complementOf o) = false) :
    let q := (s.podPlay l i).pod l
    q.outs.testBit o = true ∧ ∀ k, k ≠ o → q.outs.testBit k = (s.pod l).outs.testBit k := by
  dsimp only
  rw [podPlay_record hon hb hplay hi, ho, h28, toLevel_on (p := { s.pod l with play := (s.pod l).play.eraseIdx i }) hc hbyp hcomp, pod_setPod]
  exact putBit_spec (s.pod l).outs o true

theorem podPlay_delays (h28 : ((s.pod l).play.getD i 0).toNat.testBit 28 = true) (hcomp : (s.pod l).outs.testBit (complementOf o) = true) :
    let q := (s.podPlay l i).pod l
    q.outs.testBit (complementOf o) = false ∧ q.intlk = true ∧ q.delayed = (s.pod l).delayed ++ [(o, s.podNow (s.pod l) + (s.pod l).dtmin)] ∧
      ∀ k, k ≠ complementOf o → q.outs.testBit k = (s.pod l).outs.testBit k := by
  dsimp only
  rw [podPlay_record hon hb hplay hi, ho, h28, toLevel_delayed (p := { s.pod l with play := (s.pod l).play.eraseIdx i }) hc hbyp hcomp, pod_setPod]
  obtain ⟨hself, hothers⟩ := putBit_spec (s.pod l).outs (complementOf o) false
  exact ⟨hself, rfl, rfl, hothers⟩

end

theorem podSend_sent (s : State) (l : Nat) (b : Bool) (ty ts : Nat) (d : List Word64) :
    ∃ f, (s.podSend l b ty ts d).tx = s.tx ++ [.pod l b f] ∧ f.ftype = ty ∧ f.tspec = ts ∧ f.data = d := ⟨_, podSend_tx .., rfl, rfl, rfl⟩

theorem podSample_reports {s : State} {l slot : Nat} (vs : List (BitVec 16)) (temp : BitVec 16) (hon : (s.pod l).on = true)
    (hcfg : (s.pod l).cfg ≠ [])
    (hslot : slot < (s.pod l).frm) :
    let p := s.pod l
    let t := s.podSample l slot vs temp
    (t.pod l).temp = temp ∧ ∃ u v ms, t.tx = s.tx ++ .pod l false u :: .pod l true v :: ms ∧
      u.ftype = 8 ∧ u.tspec = slot ∧ u.data.head? = some (BitVec.ofNat 64 (s.podNow p)) ∧ u.data.length = 1 + (p.smp + 3) / 4 ∧
          v.data = u.data ∧
      (p.loss = false → (t.pod l).bypst = p.bypst) ∧
      (p.loss = true → p.llbyp = true → capBYP p.cap.toNat = true → p.vbsrc < p.smp → (vs.getD p.vbsrc 0).toInt < p.vbyp → p.bypst ≠ 1 →
        (t.pod l).bypst = 2) := by
  dsimp only
  rw [podSample_sends hon hcfg hslot]
  generalize hdata : (s.pod l).sampleData (s.podNow (s.pod l)) vs = data
  have hlen : data.length = 1 + ((s.pod l).smp + 3) / 4 := by
    rw [← hdata, PodSt.sampleData, List.length_cons, List.length_map, List.length_range, Nat.add_comm]
  have hhead : data.head? = some (BitVec.ofNat 64 (s.podNow (s.pod l))) := hdata ▸ rfl
  obtain ⟨htemp, hstay, hmove⟩ := sampled_spec (s.pod l) vs temp
  generalize (s.pod l).sampled vs temp = q at *
  have hfirst := podSend_reportedAs (s.setPod l q) l false 8 slot data
  obtain ⟨u, htxu, htyu, htsu, hdu⟩ := podSend_sent (s.setPod l q) l false 8 slot data
  rw [pod_setPod] at hfirst
  generalize (s.setPod l q).podSend l false 8 slot data = s1 at *
  obtain ⟨v, htxv, -, -, hdv⟩ := podSend_sent s1 l true 8 slot data
  have hq := (hfirst.trans (podSend_reportedAs s1 l true 8 slot data)).trans (podReport_reportedAs _ l (s.pod l))
  obtain ⟨ms, hms⟩ := podReport_tx (s1.podSend l true 8 slot data) l (s.pod l)
  have htx : ((s1.podSend l true 8 slot data).podReport l (s.pod l)).tx = s.tx ++ .pod l false u :: .pod l true v :: ms := by
    rw [hms, htxv, htxu, setPod_tx, List.append_assoc, List.append_assoc]
    rfl
  refine ⟨hq.temp.trans htemp, u, v, ms, htx, htyu, htsu, hdu ▸ hhead, hdu ▸ hlen, hdv.trans hdu.symm, fun hl => hq.bypst.trans (hstay ?_),
    fun hl hll hbyp hsrc hval hne => hq.bypst.trans (hmove ?_ hne)⟩
  · simp [PodSt.closesOn, hl]
  · rw [PodSt.closesOn, hl, hll, hbyp, decide_eq_true hsrc, decide_eq_true hval]
    rfl

/-- Settles O38: each clause is what is said above of what the pod does. -/
theorem podsPlayReplayAndHold : Obligations.PodsPlayReplayAndHold := by
  intro s l i c slot g vs temp cap p now none_ one plain reports plays r o comp free sends
  refine ⟨fun h => ⟨_, rfl, podWindow_off h⟩, fun hon => ⟨_, rfl, podWindow_reports hon⟩,
    fun hon hn hb hh => ⟨_, rfl, podWindow_replays hon hn hb hh⟩, fun hon hn hb hh => ⟨_, rfl, podWindow_blocks hon hn hb hh⟩,
    fun w sl recs hon ⟨hw, hdue⟩ he ⟨hb, hc, hver⟩ => ⟨_, rfl, podWindow_plays hon hw hdue he hb hc hver⟩,
    fun w sl recs hon ⟨hw, hdue⟩ he => ⟨_, rfl, podWindow_trips hon hw hdue he⟩,
    fun w sl recs hon ⟨hw, hdue⟩ he hb hm => ⟨_, rfl, podWindow_leaves hon hw hdue he hb hm⟩,
    fun w sl recs hon ⟨hw, hdue⟩ he hb hm => ⟨_, rfl, podWindow_stays hon hw hdue he hb hm⟩,
    fun h => ⟨_, rfl, podPlay_ignored h⟩,
    fun ⟨hon, hb, hplay⟩ hi ⟨hc, hbyp⟩ h28 => ⟨_, rfl, podPlay_off hon hb hplay hi rfl hc hbyp h28⟩,
    fun ⟨hon, hb, hplay⟩ hi ⟨hc, hbyp⟩ h28 hcomp => ⟨_, rfl, podPlay_on hon hb hplay hi rfl hc hbyp h28 hcomp⟩,
    fun ⟨hon, hb, hplay⟩ hi ⟨hc, hbyp⟩ h28 hcomp => ⟨_, rfl, podPlay_delays hon hb hplay hi rfl hc hbyp h28 hcomp⟩,
    fun hon => ⟨_, rfl, podFault_holds hon c.isLt g⟩, fun h => ⟨⟨_, rfl, podFault_off h c g⟩, _, rfl, podLoss_off h⟩,
    fun hon => ⟨_, rfl, ?_⟩, fun h => ⟨_, rfl, podSample_ignored h⟩,
    fun ⟨hon, hcfg, hslot⟩ => ⟨_, rfl, podSample_reports vs temp hon hcfg hslot⟩, fun h => ⟨_, rfl, podBypass_ignored h g⟩,
    fun hon hb => ⟨_, rfl, podBypass_ends hon hb g⟩, _, rfl, ?_⟩
  · beta_reduce
    rw [podLoss_blocks hon, pod_setPod]
    exact ⟨block_blocked _, rfl, rfl, rfl⟩
  · obtain ⟨off, free, h⟩ := podPower_eq s l cap
    rw [h, pod_setPod]
    exact ⟨rfl, rfl, rfl, rfl, rfl, rfl, rfl, rfl, rfl, rfl⟩

end Sys2Proof.Machine

/-! ## The negotiation of a cell link (07 R250, R251, R253, R254, R256, R257, R280) -/
namespace Sys2Proof.Machine
open Sys2Proof.Stmt

/-! ### The wire of a lane -/

@[simp] theorem lane_setLane (s : State) (l : Nat) (x : OclLane) : (s.setLane l x).lane l = x := (spGet_spPut ..).trans (if_pos rfl)

theorem laneBusy_setLane {s : State} {l : Nat} {x : OclLane} (hc : x.cur = (s.lane l).cur) (hb : x.burstEnd = (s.lane l).burstEnd) :
    (s.setLane l x).laneBusy l = s.laneBusy l := by
  unfold State.laneBusy
  rw [lane_setLane, hc, hb]
  rfl

theorem wire_tx (s : State) (l : Nat) {f : LinkFrame} (h : f.ftype ≠ 1) : (s.wire l f).tx = s.tx ++ [.cell l f] := by
  unfold State.wire
  dsimp only
  rw [if_neg h]
  rfl

theorem wire_lane (s : State) (l : Nat) (f : LinkFrame) : ∃ cur t1, (s.wire l f).lane l = { s.lane l with cur, t1 } :=
  ⟨_, _, lane_setLane ..⟩

theorem wire_cmd (s : State) (l : Nat) (f : LinkFrame) : ((s.wire l f).lane l).cmd = (s.lane l).cmd := by
  obtain ⟨_, _, h⟩ := wire_lane s l f
  rw [h]

section
variable {s : State} {l : Nat}

theorem lanePump_busy (h : s.laneBusy l = true) : s.lanePump l = s := by
  unfold State.lanePump
  exact if_pos (by simp [h])

/-- Beyond the wire a pump changes of its lane the queue and the command that goes out. -/
theorem lanePump_lane (s : State) (l : Nat) : ∃ queue cmd cur t1, (s.lanePump l).lane l = { s.lane l with queue, cmd, cur, t1 } ∧
    ∀ c, (s.lane l).cmd = some c → ∃ due sends, cmd = some { c with due, sends } := by
  have hself : ∃ queue cmd cur t1, s.lane l = { s.lane l with queue, cmd, cur, t1 } ∧
      ∀ c, (s.lane l).cmd = some c → ∃ due sends, cmd = some { c with due, sends } :=
    ⟨_, (s.lane l).cmd, _, _, rfl, fun c hc => ⟨c.due, c.sends, hc⟩⟩
  unfold State.lanePump
  split
  · exact hself
  extract_lets x
  split
  · next f r hq =>
    dsimp only
    split
    · exact ⟨r, (s.lane l).cmd, _, _, lane_setLane .., fun c hc => ⟨c.due, c.sends, hc⟩⟩
    · obtain ⟨cur, t1, h⟩ := wire_lane (s.setLane l { x with queue := r }) l f
      rw [h, lane_setLane]
      exact ⟨r, (s.lane l).cmd, cur, t1, rfl, fun c hc => ⟨c.due, c.sends, hc⟩⟩
  · split
    · next c hc =>
      split
      · obtain ⟨cur, t1, h⟩ := wire_lane (s.setLane l { x with cmd := some { c with due := false, sends := c.sends + 1 } }) l (s.cmdFrame c)
        rw [h, lane_setLane]
        exact ⟨_, _, cur, t1, rfl, fun c' hc' => ⟨false, c.sends + 1, by rw [Option.some.inj (hc'.symm.trans hc)]⟩⟩
      · exact hself
    · exact hself

theorem lanePump_regs (s : State) (l : Nat) : (s.lanePump l).regs = s.regs ∧ (s.lanePump l).mem = s.mem := by
  obtain ⟨_, _, _, _, _, h⟩ := lanePump_wireWork s l
  rw [h]
  exact ⟨rfl, rfl⟩

variable (hb : s.laneBusy l = false) (hl : s.laneLocked l = true) (hs : s.oclSends = true)
include hb hl hs

theorem lanePump_frame {f : LinkFrame} {r : List LinkFrame} (hq : (s.lane l).queue = f :: r) (hf : f.ftype ≠ 1) :
    s.lanePump l = (s.setLane l { s.lane l with queue := r }).wire l f := by
  unfold State.lanePump
  rw [if_neg (by simp [hb, hl, hs])]
  simp only [hq]
  exact if_neg (by simp [hf])

theorem lanePump_due {c : OclCmd} (hq : (s.lane l).queue = []) (hc : (s.lane l).cmd = some c) (hd : c.due = true)
    (hfit : s.fits l c.data.length = true) :
    s.lanePump l = (s.setLane l { s.lane l with cmd := some { c with due := false, sends := c.sends + 1 } }).wire l (s.cmdFrame c) := by
  unfold State.lanePump
  rw [if_neg (by simp [hb, hl, hs])]
  simp only [hq, hc]
  exact if_pos (by simp [hd, hfit])

end

/-! ### CAPQ (R256) -/

section
variable (s : State) (l : Nat)

/-- The CAPQ frame that goes out next. -/
def State.capqFrame : LinkFrame :=
  { ftype := 3, claim := s.get F.OCL_CLAIM_CLAIM, seq := (s.lane l).seq, len := 1, tspec := 1, data := [BitVec.ofNat 64 (s.get F.OCL_TCFG_VMAX)],
    ok := true }

/-- The lane with a CAPQ counted and waiting. -/
def State.capqLane : OclLane :=
  { s.lane l with seq := ((s.lane l).seq + 1) % 256, capSends := (s.lane l).capSends + 1, queue := (s.lane l).queue ++ [s.capqFrame l] }

variable {s l} in
/-- Setting a lane changes the links alone. -/
theorem setLane_links {t : State} (h : ∃ ocl, t = { s with ocl }) (x : OclLane) : ∃ ocl, t.setLane l x = { s with ocl } := by
  obtain ⟨_, rfl⟩ := h
  exact ⟨_, rfl⟩

theorem sendCapq_pump : ∃ t : State, s.sendCapq l = t.lanePump l ∧ t.lane l = s.capqLane l ∧ ∃ ocl, t = { s with ocl } := by
  unfold State.sendCapq State.laneSend
  dsimp only [State.newFrame]
  refine ⟨_, rfl, ?_, setLane_links (setLane_links (setLane_links ⟨s.ocl, rfl⟩ _) _) _⟩
  rw [lane_setLane, lane_setLane, lane_setLane]
  rfl

theorem sendCapq_counts : ((s.sendCapq l).lane l).capSends = (s.lane l).capSends + 1 ∧
    ((s.sendCapq l).lane l).seq = ((s.lane l).seq + 1) % 256 := by
  obtain ⟨t, h, hlane, -⟩ := sendCapq_pump s l
  obtain ⟨_, _, _, _, hpump, -⟩ := lanePump_lane t l
  rw [h, hpump, hlane]
  exact ⟨rfl, rfl⟩

variable {s l}

/-- On a free lane the CAPQ goes out at once. -/
theorem sendCapq_tx (h : LaneFree s l) : (s.sendCapq l).tx = s.tx ++ [.cell l (s.capqFrame l)] ∧ (s.sendCapq l).mem = s.mem := by
  obtain ⟨hb, hl, hs, hq⟩ := h
  obtain ⟨t, h, hlane, ocl, rfl⟩ := sendCapq_pump s l
  have hb' : ({ s with ocl } : State).laneBusy l = false := by
    rw [← hb]
    unfold State.laneBusy
    rw [hlane]
    rfl
  have hq' : (({ s with ocl } : State).lane l).queue = [s.capqFrame l] := by rw [hlane, State.capqLane, hq]; rfl
  have htype : (s.capqFrame l).ftype ≠ 1 := show 3 ≠ 1 by decide
  rw [h, (lanePump_regs _ l).2, lanePump_frame hb' hl hs hq' htype, wire_tx _ _ htype]
  exact ⟨rfl, rfl⟩

theorem capqTimer_idle (h : s.ostate l ≠ loQUERY) : s.capqTimer l = s := if_pos (by simp [h])

theorem capqTimer_sends (h : s.ostate l = loQUERY) (hc : (s.lane l).capSends ≠ 32) : s.capqTimer l = s.sendCapq l := by
  unfold State.capqTimer
  rw [if_neg (by simp [h])]
  simp only [hc, if_false]

theorem capqTimer_nocap (h : s.ostate l = loQUERY) (hc : (s.lane l).capSends = 32) :
    s.capqTimer l = (s.oclFault l F.OCL_LSTAT_NOCAP Q.OCL_NOCAP).sendCapq l := by
  unfold State.capqTimer
  rw [if_neg (by simp [h])]
  simp only [hc, if_true]

/-! ### Faults of a lane (R287) -/

theorem faultNew_ocl (s : State) (f : Fld) (q : Src) (x : Acc) : (s.faultNew f q x).ocl = s.ocl := by
  unfold State.faultNew
  split
  · rfl
  · obtain ⟨_, hk⟩ := raise_but_faults (s.flag f) q x
    exact hk.ocl.trans (flag_ocl ..)

theorem faultNew_on (s : State) {f : Fld} (q : Src) (x : Acc) (h : f.lo + f.width ≤ 32) (hw : 0 < f.width) (hm : ¬ Moved f.addr) :
    (s.faultNew f q x).on f = true := by
  by_cases h0 : s.get f = 0
  · rw [State.on, faultNew_get s f q x h hw hm h0]; rfl
  · have hon : s.on f = true := by simp [State.on, h0]
    rw [State.faultNew, if_pos hon, hon]

theorem lane_not_moved (l : Fin 56) {a : Nat} (h : 0x13101000 ≤ a) (h' : a < 0x13101000 + 0x40 * (l + 1)) : ¬ Moved a :=
  not_moved (by omega) (by
    simp only [List.mem_cons, List.not_mem_nil, or_false, R.SYS_STATE, R.RING_STAT, R.RING_GQ, R.ENG_STAT, R.TWIN_STAT, R.ALM_SWAP,
      R.ALM_MODE, R.ALM_STAT]
    omega)

theorem lane_congr {s t : State} (h : t.ocl = s.ocl) (l : Nat) : t.lane l = s.lane l := by rw [State.lane, h, State.lane]

theorem nocap_set (l : Fin 56) (h : s.ostate l = loQUERY) (hc : (s.lane l).capSends = 32) :
    (s.capqTimer l).on (F.OCL_LSTAT_NOCAP l) = true ∧ ((s.capqTimer l).lane l).capSends = 33 := by
  have hlane : (s.oclFault l F.OCL_LSTAT_NOCAP Q.OCL_NOCAP).lane l = s.lane l := lane_congr (faultNew_ocl ..) l
  obtain ⟨hcount, -⟩ := sendCapq_counts (s.oclFault l F.OCL_LSTAT_NOCAP Q.OCL_NOCAP) l
  rw [capqTimer_nocap h hc]
  constructor
  · rw [on_congr (sendCapq_regs _ l)]
    exact faultNew_on s _ _ (show 4 + 1 ≤ 32 by decide) Nat.one_pos
      (lane_not_moved l (by simp only [F.OCL_LSTAT_NOCAP]; omega) (by simp only [F.OCL_LSTAT_NOCAP]; omega))
  · rw [hcount, hlane, hc]

end

/-! ### The capability (R254, R257) -/

theorem mem_versions (v : Nat) : oclVersions.contains v = true ↔ v ∈ [0x10, 0x11, 0x20] := by
  simp only [oclVersions, List.contains_iff_mem, List.mem_cons, List.not_mem_nil, or_false]
  omega

theorem ite_reason_zero {P : Prop} [Decidable P] {n x : Nat} (hn : n ≠ 0) : (if P then n else x) = 0 ↔ ¬ P ∧ x = 0 := by
  by_cases h : P <;> simp [h, hn]

/-- A capability is refused for the first of its faults; it passes where it has none. -/
theorem capReason_zero_iff (s : State) (l cap : Nat) : s.capReason l cap = 0 ↔ CapPasses s l cap := by
  have hbyp : ¬ (!capBYP cap && (s.on (F.OCL_LCFG_BYPREQ l) || s.on (F.OCL_LCFG_LLBYP l))) = true ↔
      capBYP cap = true ∨ s.on (F.OCL_LCFG_BYPREQ l) = false ∧ s.on (F.OCL_LCFG_LLBYP l) = false := by
    cases capBYP cap <;> simp
  unfold State.capReason CapPasses
  rw [← mem_versions, ite_reason_zero (by decide), ite_reason_zero (by decide), ite_reason_zero (by decide), ite_reason_zero (by decide),
    ite_reason_zero (by decide), hbyp]
  simp only [Bool.or_eq_true, Bool.not_eq_true', decide_eq_true_eq, not_or, not_lt, Bool.not_eq_false, and_true, and_assoc]

theorem capReason_le (s : State) (l cap : Nat) : s.capReason l cap ≤ 5 := by
  unfold State.capReason
  split
  · decide
  split
  · decide
  split
  · decide
  split
  · decide
  split <;> decide

/-- The negotiated version is the highest that both sides take (R254). -/
theorem version_eq (s : State) (cap : Nat) : s.version cap =
    let m := min (s.get F.OCL_TCFG_VMAX) (capVMAX cap)
    if 0x20 ≤ m then 0x20 else if 0x11 ≤ m then 0x11 else if 0x10 ≤ m then 0x10 else 0 := by
  have hle : ∀ v, (decide (v ≤ s.get F.OCL_TCFG_VMAX) && decide (v ≤ capVMAX cap)) =
      decide (v ≤ min (s.get F.OCL_TCFG_VMAX) (capVMAX cap)) := fun v => by
    rw [Bool.eq_iff_iff]
    simp
  unfold State.version oclVersions
  simp only [hle, List.find?_cons, List.find?_nil]
  generalize min (s.get F.OCL_TCFG_VMAX) (capVMAX cap) = m
  by_cases h20 : 0x20 ≤ m
  · simp [h20]
  · by_cases h11 : 0x11 ≤ m
    · simp [h20, h11]
    · by_cases h10 : 0x10 ≤ m <;> simp [h20, h11, h10]

theorem version_spec {s : State} {l cap : Nat} (h : CapPasses s l cap) :
    let m := min (s.get F.OCL_TCFG_VMAX) (capVMAX cap)
    s.version cap ∈ [0x10, 0x11, 0x20] ∧ s.version cap ≤ m ∧ ∀ v ∈ [0x10, 0x11, 0x20], v ≤ m → v ≤ s.version cap := by
  obtain ⟨hv, hmax, -⟩ := h
  have hm : 0x10 ≤ min (s.get F.OCL_TCFG_VMAX) (capVMAX cap) := by
    simp only [List.mem_cons, List.not_mem_nil, or_false] at hv
    omega
  rw [version_eq]
  generalize min (s.get F.OCL_TCFG_VMAX) (capVMAX cap) = m at *
  simp only [List.mem_cons, List.not_mem_nil, or_false, if_pos hm]
  split
  · exact ⟨by omega, by omega, by omega⟩
  split
  · exact ⟨by omega, by omega, by omega⟩
  · exact ⟨by omega, hm, by omega⟩

/-! ### Frames of the pods (R250, R251) -/

section
variable {s : State} {l : Nat} {f : LinkFrame}

/-- A frame taken notes its SEQ; a gap is counted in OCL_LSEQ alone. -/
theorem upSeq_spec (s : State) (l : Nat) (f : LinkFrame) : (s.upSeq l f).lane l = { s.lane l with rxSeq := some f.seq } ∧
    (∀ a, a ≠ R.OCL_LSEQ l → (s.upSeq l f).reg a = s.reg a) ∧ (s.upSeq l f).mem = s.mem ∧ (s.upSeq l f).tx = s.tx := by
  unfold State.upSeq
  extract_lets x gap t
  have ht : t.lane l = { s.lane l with rxSeq := some f.seq } := lane_setLane ..
  split
  · exact ⟨ht, fun a ha => reg_setRegN_ne t ha _, rfl, rfl⟩
  · exact ⟨ht, fun _ _ => rfl, rfl, rfl⟩

theorem upRx_heard (h : Heard s l f) (hty : f.ftype = 9) (sub : Nat) : s.upRx l f sub =
    if f.tspec / 2 ^ 16 = 1 then (s.upSeq l f).capRx l f
        else if f.tspec / 2 ^ 16 = 2 then (s.upSeq l f).ackRx l f else (s.upSeq l f).perRx l f sub := by
  obtain ⟨hl, hq, hv⟩ := h
  unfold State.upRx
  rw [if_neg (by simp [hl, hq]), if_neg (by simp [hv])]
  exact if_neg (by rw [hty]; decide)

theorem upRx_deaf (h : s.laneLocked l = false ∨ s.ostate l < loQUERY) (sub : Nat) : s.upRx l f sub = s := by
  unfold State.upRx
  exact if_pos (by rcases h with h | h <;> simp [h])

theorem upRx_invalid (hl : s.laneLocked l = true) (hq : loQUERY ≤ s.ostate l) (hv : s.upValid f = false) (sub : Nat) :
    s.upRx l f sub = s.upInvalid l := by
  unfold State.upRx
  rw [if_neg (by simp [hl, hq])]
  exact if_pos (by simp [hv])

end

theorem upInvalid_spec (s : State) (l : Fin 56) : (s.upInvalid l).on (F.OCL_LSTAT_CRCERR l) = true ∧
    (s.upInvalid l).regN (R.OCL_LCRC l) = min 0xFFFFFFFF (s.regN (R.OCL_LCRC l) + 1) ∧ (s.upInvalid l).ocl = s.ocl := by
  have hm : ¬ Moved (F.OCL_LSTAT_CRCERR l).addr :=
      lane_not_moved l (by simp only [F.OCL_LSTAT_CRCERR]; omega) (by simp only [F.OCL_LSTAT_CRCERR]; omega)
  have hm' : ¬ Moved (R.OCL_LCRC l) := lane_not_moved l (by simp only [R.OCL_LCRC]; omega) (by simp only [R.OCL_LCRC]; omega)
  refine ⟨faultNew_on _ _ _ (show 6 + 1 ≤ 32 by decide) Nat.one_pos hm, ?_, (faultNew_ocl ..).trans (count_ocl ..)⟩
  have hreg : (s.upInvalid l).reg (R.OCL_LCRC l) = (s.count (R.OCL_LCRC l) 1).reg (R.OCL_LCRC l) :=
    faultNew_reg _ _ _ (by simp only [R.OCL_LCRC, F.OCL_LSTAT_CRCERR]; omega) hm'
  rw [State.regN, hreg, State.count, reg_setRegN_self, BitVec.toNat_ofNat, satAdd]
  omega

/-! ### The states of the negotiation (Table 15) -/

section
variable {s : State} {l : Nat}

/-- The state before the entry to `st`: where the lane leaves READY, with that. -/
def State.leftFor (s : State) (l st : Nat) : State := if s.ostate l = loREADY && st != loREADY then s.leaveReady l else s

theorem leftFor_of_not_ready (h : s.ostate l ≠ loREADY) (st : Nat) : s.leftFor l st = s := if_neg (by simp [h])

theorem toState_fail (s : State) (l : Nat) : s.toState l loFAIL =
    (let t := (s.leftFor l loFAIL).set (F.OCL_LSTATE_STATE l) loFAIL; t.setLane l { t.lane l with cmd := none, queue := [] }) := by
  unfold State.toState
  extract_lets t u x quiet
  rw [if_neg (by decide), if_neg (by decide), if_neg (by decide), if_neg (by decide), if_neg (by decide), if_neg (by decide)]
  rfl

theorem toState_config (h : s.ostate l ≠ loREADY) : s.toState l loCONFIG =
    (let t := s.set (F.OCL_LSTATE_STATE l) loCONFIG; t.issueCmd l 2 0 (t.setcfgData l)) := by
  conv_rhs => rw [← leftFor_of_not_ready h loCONFIG]
  unfold State.toState
  extract_lets t u x quiet
  clear_value quiet
  rw [if_neg (by decide), if_neg (by decide), if_neg (by decide), if_pos rfl]
  rfl

theorem toState_tsync (h : s.ostate l ≠ loREADY) : s.toState l loTSYNC =
    (let t := s.set (F.OCL_LSTATE_STATE l) loTSYNC; t.setLane l { t.lane l with cmd := none, dAcc := [], dRej := [], dRun := 0, t1 := none }) := by
  conv_rhs => rw [← leftFor_of_not_ready h loTSYNC]
  unfold State.toState
  extract_lets t u x quiet
  clear_value quiet
  rw [if_neg (by decide), if_neg (by decide), if_neg (by decide), if_neg (by decide), if_pos rfl]
  rfl

theorem ostate_set (s : State) (l : Nat) {st : Nat} (h : st < 8) : (s.set (F.OCL_LSTATE_STATE l) st).ostate l = st :=
  (get_set_self _ _ _ (show 0 + 3 ≤ 32 by decide)).trans (Nat.mod_eq_of_lt h)

/-- A field of OCL_LSTATE beside STATE keeps what it reads when STATE is set. -/
theorem get_set_state (s : State) (l : Nat) {g : Fld} (hlo : 3 ≤ g.lo) (st : Nat) : (s.set (F.OCL_LSTATE_STATE l) st).get g = s.get g :=
  get_set_disjoint _ _ _ _ (.inr (.inr (show 0 + 3 ≤ g.lo by omega)))

@[simp] theorem lane_set (s : State) (g : Fld) (n l : Nat) : (s.set g n).lane l = s.lane l := rfl

theorem ostate_toState_fail (s : State) (l : Nat) : (s.toState l loFAIL).ostate l = loFAIL := by
  rw [toState_fail]
  exact ostate_set (s.leftFor l loFAIL) l (by decide)

theorem cmd_toState_fail (s : State) (l : Nat) : ((s.toState l loFAIL).lane l).cmd = none := by
  rw [toState_fail]
  dsimp only
  rw [lane_setLane]

/-- FAIL shows its reason, with no command outstanding. -/
theorem toFail_spec (s : State) (l : Nat) {r : Nat} (hr : r < 16) : (s.toFail l r).ostate l = loFAIL ∧
    (s.toFail l r).get (F.OCL_LSTATE_REASON l) = r ∧ ((s.toFail l r).lane l).cmd = none := by
  unfold State.toFail
  refine ⟨?_, (get_set_self _ _ _ (show 8 + 4 ≤ 32 by decide)).trans (Nat.mod_eq_of_lt hr), ?_⟩
  · exact (get_set_disjoint _ _ _ _ (.inr (.inl (show 0 + 3 ≤ 8 by decide)))).trans (ostate_toState_fail s l)
  · rw [lane_set, cmd_toState_fail]

theorem toFail_reg (h : s.ostate l ≠ loREADY) (r : Nat) {a : Nat} (ha : a ≠ R.OCL_LSTATE l) : (s.toFail l r).reg a = s.reg a := by
  unfold State.toFail
  rw [toState_fail, leftFor_of_not_ready h]
  exact (reg_set_ne _ _ ha _).trans (reg_set_ne s (F.OCL_LSTATE_STATE l) ha loFAIL)

/-! ### SETCFG (R253) -/

theorem issueCmd_spec (s : State) (l opc src : Nat) (data : List Word64) : (s.issueCmd l opc src data).regs = s.regs ∧
    ((s.issueCmd l opc src data).lane l).commanded = (s.lane l).commanded ∧
    ∃ c, ((s.issueCmd l opc src data).lane l).cmd = some c ∧ c.opc = opc ∧ c.data = data := by
  unfold State.issueCmd
  extract_lets x c y
  obtain ⟨queue, cmd, cur, t1, hlane, hcmd⟩ := lanePump_lane (s.setLane l y) l
  rw [lane_setLane] at hlane hcmd
  obtain ⟨due, sends, hc⟩ := hcmd c rfl
  rw [hlane]
  exact ⟨(lanePump_regs ..).1, rfl, _, hc, rfl, rfl⟩

/-- The registers that taking an ACK writes: the count of gaps in SEQ, and the host's command registers. -/
def AckWrites (l a : Nat) : Prop := a = R.OCL_LSEQ l ∨ a = R.OCL_LCMDST ∨ a = R.OCL_LCMDDATA

theorem setcfg_fields_apart (l : Fin 56) : ∀ g ∈ [F.OCL_LVB_DTMIN l, F.OCL_LVB_VBYP l, F.OCL_LCFG_VBSRC l, F.OCL_LCFG_LLBYP l, F.OCL_INMAP_S,
    F.OCL_INMAP_F, F.OCL_LSTATE_VER l], ¬ AckWrites l g.addr := by
  revert l
  unfold AckWrites
  decide

theorem setcfg_safe_apart (l : Fin 56) (c : Fin 8) : ¬ AckWrites l (F.MOD_CFG_SAFEH (8 * l + c)).addr := by
  revert l c
  unfold AckWrites
  decide

theorem setcfg_smpofs_apart (l : Fin 56) (i : Fin 4) : ¬ AckWrites l (R.OCL_SMPOFS i) := by
  revert l i
  unfold AckWrites
  decide

/-- The blocks of a SETCFG are read from registers that an ACK does not write. -/
theorem setcfgData_congr {t : State} (l : Fin 56) (h : ∀ a, ¬ AckWrites l a → t.reg a = s.reg a) : t.setcfgData l = s.setcfgData l := by
  have hget : ∀ g : Fld, ¬ AckWrites l g.addr → t.get g = s.get g := fun g hg => congrArg (fldOf g) (h g.addr hg)
  have hfld := fun g hg => hget g (setcfg_fields_apart l g hg)
  have hsmp : ∀ i, i < 4 → t.regN (R.OCL_SMPOFS i) = s.regN (R.OCL_SMPOFS i) := fun i hi =>
    congrArg BitVec.toNat (h _ (setcfg_smpofs_apart l ⟨i, hi⟩))
  have hfold : (List.range 8).foldl (fun n c =>
        n + 4 ^ c * (safeBit (t.get (F.MOD_CFG_SAFEH (8 * l + c))) + 2 * safeBit (t.get (F.MOD_CFG_SAFEL (8 * l + c))))) 0 =
      (List.range 8).foldl (fun n c =>
        n + 4 ^ c * (safeBit (s.get (F.MOD_CFG_SAFEH (8 * l + c))) + 2 * safeBit (s.get (F.MOD_CFG_SAFEL (8 * l + c))))) 0 :=
    List.foldl_ext _ _ 0 fun n c hc => by
      have hapart := setcfg_safe_apart l ⟨c, List.mem_range.mp hc⟩
      rw [hget _ hapart, hget (F.MOD_CFG_SAFEL (8 * l + c)) hapart]
  unfold State.setcfgData
  dsimp only
  rw [hfold, hsmp (2 * 0) (by decide), hsmp (2 * 0 + 1) (by decide), hsmp (2 * 1) (by decide), hsmp (2 * 1 + 1) (by decide)]
  simp only [List.forall_mem_cons] at hfld
  obtain ⟨h1, h2, h3, h4, h5, h6, h7, -⟩ := hfld
  rw [h1, h2, h3, h4, h5, h6, h7]

end

/-! ### The answer to CAPQ (R257) -/

section
variable {s : State} {f : LinkFrame}

/-- The state with a received capability noted. -/
def State.capNoted (s : State) (l : Nat) (f : LinkFrame) : State := (s.upSeq l f).setReg64 (R.OCL_LCAP_LO l) (f.data.headD 0).toNat

theorem capNoted_reg64 (s : State) (l : Nat) (f : LinkFrame) : (s.capNoted l f).reg64 (R.OCL_LCAP_LO l) = (f.data.headD 0).toNat :=
  reg64_setReg64_self _ _ (f.data.headD 0).isLt

/-- What a capability is judged by. -/
def capFields (l : Nat) : List Fld :=
  [F.OCL_TCFG_VMAX, F.OCL_LCFG_NCHREQ l, F.OCL_LCFG_BYPREQ l, F.OCL_LCFG_LLBYP l, F.OCL_LCFG_ACCMAX l, F.OCL_INMAP_S, F.OCL_INMAP_F,
    F.OCL_LSTATE_STATE l]

theorem capFields_apart (l : Fin 56) : ∀ g ∈ capFields l,
    g.addr ≠ R.OCL_LSEQ l ∧ g.addr ≠ R.OCL_LCAP_LO l ∧ g.addr ≠ R.OCL_LCAP_LO l + 4 := by
  revert l
  decide

theorem capNoted_get (s : State) (l : Fin 56) (f : LinkFrame) {g : Fld} (hg : g ∈ capFields l) : (s.capNoted l f).get g = s.get g := by
  obtain ⟨hseq, hlo, hhi⟩ := capFields_apart l g hg
  refine congrArg (fldOf g) ?_
  exact (reg_setRegN_ne _ hhi _).trans ((reg_setRegN_ne _ hlo _).trans ((upSeq_spec s l f).2.1 _ hseq))

theorem capNoted_ostate (s : State) (l : Fin 56) (f : LinkFrame) : (s.capNoted l f).ostate l = s.ostate l :=
  capNoted_get s l f (by simp [capFields])

theorem capNoted_capReason (s : State) (l : Fin 56) (f : LinkFrame) (cap : Nat) : (s.capNoted l f).capReason l cap = s.capReason l cap := by
  have h := fun g (hg : g ∈ capFields l) => capNoted_get s l f hg
  simp only [capFields, List.forall_mem_cons] at h
  obtain ⟨hv, hn, hb, hll, ha, hs, hf, -⟩ := h
  unfold State.capReason State.on
  rw [hv, hn, hb, hll, ha, hs, hf]

theorem capNoted_version (s : State) (l : Fin 56) (f : LinkFrame) (cap : Nat) : (s.capNoted l f).version cap = s.version cap := by
  rw [State.version, capNoted_get s l f (by simp [capFields]), State.version]

theorem upSeq_ostate (s : State) (l : Fin 56) (f : LinkFrame) : (s.upSeq l f).ostate l = s.ostate l :=
  congrArg (fldOf _) ((upSeq_spec s l f).2.1 _ (capFields_apart l (F.OCL_LSTATE_STATE l) (by simp [capFields])).1)

variable {l : Fin 56}

theorem upSeq_capRx (h : s.ostate l = loQUERY) : (s.upSeq l f).capRx l f =
    (let cap := (f.data.headD 0).toNat
    if s.capReason l cap ≠ 0 then (s.capNoted l f).toFail l (s.capReason l cap)
    else ((s.capNoted l f).set (F.OCL_LSTATE_VER l) (s.version cap)).toState l loCONFIG) := by
  unfold State.capRx
  rw [if_neg (by simp [upSeq_ostate, h])]
  change (if (s.capNoted l f).capReason l _ != 0 then (s.capNoted l f).toFail l ((s.capNoted l f).capReason l _)
    else ((s.capNoted l f).set _ ((s.capNoted l f).version _)).toState l loCONFIG) = _
  rw [capNoted_capReason, capNoted_version]
  simp only [bne_iff_ne]

theorem upSeq_capRx_stays (h : s.ostate l ≠ loQUERY) : (s.upSeq l f).capRx l f = s.upSeq l f :=
  if_pos (by simp [upSeq_ostate, h])

theorem reg64_congr {t : State} {a : Nat} (h : t.reg a = s.reg a) (h' : t.reg (a + 4) = s.reg (a + 4)) : t.reg64 a = s.reg64 a := by
  simp only [State.reg64, State.regN, h, h']

theorem lcap_apart (l : Nat) : R.OCL_LCAP_LO l ≠ R.OCL_LSTATE l ∧ R.OCL_LCAP_LO l + 4 ≠ R.OCL_LSTATE l := by
  simp only [R.OCL_LCAP_LO, R.OCL_LSTATE]
  omega

/-- A capability that does not pass leads to FAIL with its reason. -/
theorem cap_refused (h : s.ostate l = loQUERY) (hr : s.capReason l (f.data.headD 0).toNat ≠ 0) :
    let t := (s.upSeq l f).capRx l f
    t.ostate l = loFAIL ∧ t.get (F.OCL_LSTATE_REASON l) = s.capReason l (f.data.headD 0).toNat ∧
      t.reg64 (R.OCL_LCAP_LO l) = (f.data.headD 0).toNat ∧ (t.lane l).cmd = none := by
  intro t
  have ht : t = (s.capNoted l f).toFail l (s.capReason l (f.data.headD 0).toNat) := (upSeq_capRx h).trans (if_pos hr)
  clear_value t
  subst ht
  have hready : (s.capNoted l f).ostate l ≠ loREADY := by rw [capNoted_ostate, h]; decide
  obtain ⟨hlo, hhi⟩ := lcap_apart l
  obtain ⟨hst, hreason, hcmd⟩ := toFail_spec (s.capNoted l f) l (r := s.capReason l (f.data.headD 0).toNat)
    (Nat.lt_of_le_of_lt (capReason_le ..) (by decide))
  exact ⟨hst, hreason, (reg64_congr (toFail_reg hready _ hlo) (toFail_reg hready _ hhi)).trans (capNoted_reg64 s l f), hcmd⟩

/-- A capability that passes leads to CONFIG with the SETCFG of the negotiated version. -/
theorem cap_passes (h : s.ostate l = loQUERY) (hr : CapPasses s l (f.data.headD 0).toNat) :
    let t := (s.upSeq l f).capRx l f
    t.ostate l = loCONFIG ∧ t.reg64 (R.OCL_LCAP_LO l) = (f.data.headD 0).toNat ∧
      (∃ c, (t.lane l).cmd = some c ∧ c.opc = 2 ∧ c.data = t.setcfgData l) ∧
          t.get (F.OCL_LSTATE_VER l) = s.version (f.data.headD 0).toNat := by
  intro t
  let u := (s.capNoted l f).set (F.OCL_LSTATE_VER l) (s.version (f.data.headD 0).toNat)
  have hst : u.ostate l = loQUERY := by
    refine (get_set_disjoint _ _ _ _ (.inr (.inl (show 0 + 3 ≤ 24 by decide)))).trans ?_
    exact (capNoted_ostate s l f).trans h
  have hu : t = u.toState l loCONFIG := (upSeq_capRx h).trans (if_neg (not_not_intro ((capReason_zero_iff ..).mpr hr)))
  have hver : u.get (F.OCL_LSTATE_VER l) = s.version (f.data.headD 0).toNat := by
    obtain ⟨hmem, -⟩ := version_spec hr
    refine (get_set_self _ _ _ (show 24 + 8 ≤ 32 by decide)).trans (Nat.mod_eq_of_lt (show _ < 256 from ?_))
    simp only [List.mem_cons, List.not_mem_nil, or_false] at hmem
    omega
  have hcap : u.reg64 (R.OCL_LCAP_LO l) = (f.data.headD 0).toNat := by
    obtain ⟨hlo, hhi⟩ := lcap_apart l
    exact (reg64_congr (reg_set_ne _ _ hlo _) (reg_set_ne _ _ hhi _)).trans (capNoted_reg64 s l f)
  rw [toState_config (by rw [hst]; decide)] at hu
  clear_value t u
  subst hu
  obtain ⟨hlo, hhi⟩ := lcap_apart l
  let v := u.set (F.OCL_LSTATE_STATE l) loCONFIG
  obtain ⟨hregs, -, c, hc, hopc, hdata⟩ := issueCmd_spec v l 2 0 (v.setcfgData l)
  refine ⟨(get_congr hregs _).trans (ostate_set u l (by decide)), ?_, ⟨c, hc, hopc, hdata.trans ?_⟩, ?_⟩
  · exact (reg64_congr (reg_congr hregs _) (reg_congr hregs _)).trans ((reg64_congr (reg_set_ne _ _ hlo _) (reg_set_ne _ _ hhi _)).trans hcap)
  · exact (setcfgData_congr l fun a _ => reg_congr hregs a).symm
  · exact (get_congr hregs _).trans ((get_set_state u l (show 3 ≤ 24 by decide) _).trans hver)

end

/-! ### Sending SETCFG again (R253, R280) -/

section
variable {s : State} {l : Nat} {c : OclCmd}

theorem cmdAgain_goesAgain (s : State) (l : Nat) (c : OclCmd) : GoesAgain s (s.cmdAgain l c) l c := by
  unfold State.cmdAgain
  have hlane : (s.setLane l { s.lane l with cmd := some { c with due := true } }).lane l = { s.lane l with cmd := some { c with due := true } } :=
    lane_setLane ..
  have hbusy : (s.setLane l { s.lane l with cmd := some { c with due := true } }).laneBusy l = s.laneBusy l := laneBusy_setLane rfl rfl
  constructor
  · rintro ⟨hb, hl, hs, hq⟩ hfit
    have hpump := lanePump_due (hbusy.trans hb) hl hs ((congrArg OclLane.queue hlane).trans hq) (congrArg OclLane.cmd hlane) rfl hfit
    constructor
    · rw [hpump, wire_cmd, lane_setLane]
    · rw [hpump, wire_tx _ _ (show 3 ≠ 1 by decide)]
      rfl
  · intro hb
    rw [lanePump_busy (hbusy.trans hb), hlane]
    exact ⟨rfl, rfl⟩

theorem setcfgTimer_again (hc : (s.lane l).cmd = some c) (hopc : c.opc = 2) (hdue : c.due = false) (h : c.sends < 3) :
    s.setcfgTimer l = s.cmdAgain l c := by
  unfold State.setcfgTimer
  rw [hc]
  simp only [hopc, hdue, h, bne_self_eq_false, Bool.or_self, Bool.false_eq_true, if_false, if_true]

theorem setcfgTimer_fails (hc : (s.lane l).cmd = some c) (hopc : c.opc = 2) (hdue : c.due = false) (h : 3 ≤ c.sends) :
    s.setcfgTimer l = (s.setLane l { s.lane l with cmd := none }).toFail l 6 := by
  unfold State.setcfgTimer
  rw [hc]
  simp only [hopc, hdue, Nat.not_lt.mpr h, bne_self_eq_false, Bool.or_self, Bool.false_eq_true, if_false]

theorem setcfgTimer_idle (hc : (s.lane l).cmd = none) : s.setcfgTimer l = s := by
  unfold State.setcfgTimer
  rw [hc]

end

/-! ### The answers to commands (R256, R279, R280) -/

section
variable {s : State} {l : Nat} {f : LinkFrame} {c : OclCmd}

/-- The ACK names another command than `c`. -/
theorem ackRx_stray (hc : (s.lane l).cmd = some c) (h : f.tspec % 256 ≠ c.seq ∨ (f.data.headD 0).toNat % 256 ≠ c.opc) : s.ackRx l f = s := by
  unfold State.ackRx
  rw [hc]
  exact if_pos (by simpa using h)

theorem ackRx_setcfg (hc : (s.lane l).cmd = some c) (hseq : f.tspec % 256 = c.seq) (hop : (f.data.headD 0).toNat % 256 = c.opc) (h2 : c.opc = 2) :
    s.ackRx l f = s.setcfgAck l c (bitsOf (f.data.headD 0).toNat 8 8) ((f.data.headD 0).toNat / 2 ^ 32) := by
  unfold State.ackRx
  rw [hc]
  dsimp only
  generalize (f.data.headD 0).toNat = d at hop ⊢
  rw [if_neg (by simp [hseq, hop]), if_pos h2]

theorem setcfgAck_ok {res crc : Nat} (h : res = 0) (hcrc : crc = (crc32 (c.data.flatMap blockBytes)).toNat) (hst : s.ostate l = loCONFIG) :
    let t := s.setcfgAck l c res crc
    t.ostate l = loTSYNC ∧ (t.lane l).cmd = none ∧ (t.lane l).dAcc = [] ∧ (t.lane l).dRun = 0 := by
  intro t
  have ht : t = s.toState l loTSYNC := (if_pos (by simp [h, hcrc])).trans (if_pos hst)
  rw [toState_tsync (by rw [hst]; decide)] at ht
  rw [ht]
  dsimp only
  rw [lane_setLane]
  exact ⟨ostate_set s l (by decide), rfl, rfl, rfl⟩

theorem setcfgAck_bad {res crc : Nat} (h : ¬ (res = 0 ∧ crc = (crc32 (c.data.flatMap blockBytes)).toNat)) :
    s.setcfgAck l c res crc = (s.setLane l { s.lane l with cmd := none }).toFail l 6 :=
  if_neg (by simpa using h)

/-- What an ACK shows of a command of the host. -/
def State.hostAcked (s : State) (c : OclCmd) (res val : Nat) : State :=
  if c.src = 1 then ((s.set F.OCL_LCMDST_BUSY 0).set F.OCL_LCMDST_RESULT res).setRegN R.OCL_LCMDDATA val else s

theorem hostAcked_lane (s : State) (c : OclCmd) (res val l : Nat) : (s.hostAcked c res val).lane l = s.lane l := by
  unfold State.hostAcked
  split <;> rfl

theorem hostAcked_reg (s : State) (c : OclCmd) (res val : Nat) {a : Nat} (h : a ≠ R.OCL_LCMDST) (h' : a ≠ R.OCL_LCMDDATA) :
    (s.hostAcked c res val).reg a = s.reg a := by
  unfold State.hostAcked
  split
  · exact (reg_setRegN_ne _ h' _).trans ((reg_set_ne _ _ h _).trans (reg_set_ne _ _ h _))
  · rfl

theorem hostAcked_shows (s : State) {res val : Nat} (h : c.src = 1) (hres : res < 256) (hval : val < 2 ^ 32) :
    (s.hostAcked c res val).on F.OCL_LCMDST_BUSY = false ∧ (s.hostAcked c res val).get F.OCL_LCMDST_RESULT = res ∧
      (s.hostAcked c res val).regN R.OCL_LCMDDATA = val := by
  rw [State.hostAcked, if_pos h]
  refine ⟨?_, ?_, ?_⟩
  · rw [State.on, State.setRegN, get_setReg_ne _ _ _ _ (by decide), get_set_disjoint _ _ _ _ (by decide), get_set_self _ _ _ (by decide)]
    rfl
  · rw [State.setRegN, get_setReg_ne _ _ _ _ (by decide), get_set_self _ _ _ (by decide)]
    exact Nat.mod_eq_of_lt hres
  · rw [State.regN, reg_setRegN_self, BitVec.toNat_ofNat]
    exact Nat.mod_eq_of_lt hval

/-- The ACK of a command other than SETCFG ends it, notes a bypass closed or opened, shows a host command's answer and lets the next one go. -/
theorem ackRx_other (hc : (s.lane l).cmd = some c) (hseq : f.tspec % 256 = c.seq) (hop : (f.data.headD 0).toNat % 256 = c.opc) (h2 : c.opc ≠ 2) :
    let res := bitsOf (f.data.headD 0).toNat 8 8
    ∃ x, s.ackRx l f = ((s.setLane l x).hostAcked c res ((f.data.headD 0).toNat / 2 ^ 32)).nextCmd l ∧
      x.cmd = none ∧ x.cfg = (s.lane l).cfg ∧ x.hostWait = (s.lane l).hostWait ∧
      (res = 0 → c.opc = 3 → x.commanded = true) ∧ (res = 0 → c.opc = 4 → x.commanded = false) := by
  intro res
  unfold State.ackRx
  rw [hc]
  dsimp only
  subst res
  generalize (f.data.headD 0).toNat = d at hop ⊢
  rw [if_neg (by simp [hseq, hop]), if_neg h2]
  generalize bitsOf d 8 8 = res
  refine ⟨_, rfl, ?_⟩
  split
  · next hres => exact ⟨rfl, rfl, rfl, fun h => absurd h (by simpa using hres), fun h => absurd h (by simpa using hres)⟩
  split
  · next h3 => exact ⟨rfl, rfl, rfl, fun _ _ => rfl, fun _ h4 => by omega⟩
  split
  · next h3 h4 => exact ⟨rfl, rfl, rfl, fun _ h => absurd h h3, fun _ _ => rfl⟩
  · next h3 h4 => exact ⟨rfl, rfl, rfl, fun _ h => absurd h h3, fun _ h => absurd h h4⟩

theorem nextCmd_keeps (s : State) (l : Nat) : (s.nextCmd l).regs = s.regs ∧ ((s.nextCmd l).lane l).commanded = (s.lane l).commanded := by
  unfold State.nextCmd
  dsimp only
  split
  · exact ⟨rfl, rfl⟩
  split
  · obtain ⟨hregs, hcommanded, -⟩ := issueCmd_spec s l 2 0 (s.setcfgData l)
    exact ⟨hregs, hcommanded⟩
  split
  · next opc data _ =>
    obtain ⟨hregs, hcommanded, -⟩ := issueCmd_spec (s.setLane l { s.lane l with hostWait := none }) l opc 1 data
    rw [lane_setLane] at hcommanded
    exact ⟨hregs, hcommanded⟩
  · exact ⟨rfl, rfl⟩

/-- No command waits: the lane is not READY, or its SETCFG is up to date and the host has none. -/
theorem nextCmd_idle (h : s.ostate l ≠ loREADY ∨ (s.lane l).cfg = s.setcfgData l ∧ (s.lane l).hostWait = none) : s.nextCmd l = s := by
  unfold State.nextCmd
  dsimp only
  rcases h with h | ⟨hcfg, hwait⟩
  · exact if_pos (by simp [h])
  · split
    · rfl
    · rw [if_neg (by simp [hcfg]), hwait]

end

/-- What the ACK of a command other than SETCFG does after its frame is counted. -/
theorem ack_ends {s : State} {l : Fin 56} {f : LinkFrame} {c : OclCmd} (hc : (s.lane l).cmd = some c) (hseq : f.tspec % 256 = c.seq)
    (hop : (f.data.headD 0).toNat % 256 = c.opc) (h2 : c.opc ≠ 2) :
    let t := (s.upSeq l f).ackRx l f
    let res := bitsOf (f.data.headD 0).toNat 8 8
    (c.src = 1 → t.on F.OCL_LCMDST_BUSY = false ∧ t.get F.OCL_LCMDST_RESULT = res ∧ t.regN R.OCL_LCMDDATA = (f.data.headD 0).toNat / 2 ^ 32) ∧
      (res = 0 → c.opc = 3 → (t.lane l).commanded = true) ∧ (res = 0 → c.opc = 4 → (t.lane l).commanded = false) ∧
          t.ostate l = s.ostate l ∧
      (s.ostate l ≠ loREADY ∨ (s.lane l).cfg = s.setcfgData l ∧ (s.lane l).hostWait = none → (t.lane l).cmd = none) := by
  intro t res
  obtain ⟨hlane, hreg, -, -⟩ := upSeq_spec s l f
  obtain ⟨x, ht, hcmd, hcfg, hwait, h3, h4⟩ := ackRx_other ((congrArg OclLane.cmd hlane).trans hc) hseq hop h2
  rw [hlane] at hcfg hwait
  let u := ((s.upSeq l f).setLane l x).hostAcked c res ((f.data.headD 0).toNat / 2 ^ 32)
  have hu : u.lane l = x := (hostAcked_lane ..).trans (lane_setLane ..)
  have hureg : ∀ a, ¬ AckWrites l a → u.reg a = s.reg a := fun a ha => by
    obtain ⟨hq, hst, hdata⟩ := not_or.mp ha |>.imp_right not_or.mp
    exact (hostAcked_reg _ c res _ hst hdata).trans (hreg a hq)
  have hstate : u.ostate l = s.ostate l := congrArg (fldOf _) (hureg _ (setcfg_fields_apart l (F.OCL_LSTATE_VER l) (by simp)))
  have hshow (h : c.src = 1) : u.on F.OCL_LCMDST_BUSY = false ∧ u.get F.OCL_LCMDST_RESULT = res ∧
      u.regN R.OCL_LCMDDATA = (f.data.headD 0).toNat / 2 ^ 32 :=
    hostAcked_shows _ h (Nat.mod_lt _ (by decide)) (Nat.div_lt_of_lt_mul (f.data.headD 0).isLt)
  obtain ⟨hregs, hcommanded⟩ := nextCmd_keeps u l
  have ht : t = u.nextCmd l := ht
  clear_value t u
  subst ht
  rw [hcommanded, hu, on_congr hregs, get_congr hregs, State.regN, reg_congr hregs, State.ostate, get_congr hregs]
  refine ⟨hshow, h3, h4, hstate, fun h => ?_⟩
  rw [nextCmd_idle (by rw [hstate, hu, hcfg, hwait, setcfgData_congr l hureg]; exact h), hu, hcmd]

/-! ### The obligation -/

/-- A CAP frame that a lane in or above QUERY takes. -/
theorem upRx_cap {s : State} {l : Nat} {f : LinkFrame} (h : Heard s l f) (hty : f.ftype = 9) (hsub : f.tspec / 2 ^ 16 = 1) :
    s.upRx l f 0 = (s.upSeq l f).capRx l f := (upRx_heard h hty 0).trans (if_pos hsub)

/-- An ACK frame that a lane in or above QUERY takes. -/
theorem upRx_ack {s : State} {l : Nat} {f : LinkFrame} (h : Heard s l f) (hty : f.ftype = 9) (hsub : f.tspec / 2 ^ 16 = 2) :
    s.upRx l f 0 = (s.upSeq l f).ackRx l f :=
  (upRx_heard h hty 0).trans ((if_neg (by omega)).trans (if_pos hsub))

/-- Settles O34: each clause is what is said above of CAPQ, its answer, SETCFG and the ACKs. -/
theorem cellLinkNegotiationActs : Obligations.CellLinkNegotiationActs := by
  intro s l f cap res mine crcOk
  have hcmd {c : OclCmd} (hc : (s.lane l).cmd = some c) : ((s.upSeq l f).lane l).cmd = some c :=
    (congrArg OclLane.cmd (upSeq_spec s l f).1).trans hc
  refine ⟨fun h => ⟨_, rfl, capqTimer_idle h⟩, fun h hc hfree => ⟨_, rfl, ?_⟩, fun h hc => ⟨_, rfl, nocap_set l h hc⟩,
    ⟨capReason_zero_iff s l, capReason_le s l⟩, fun h hty hsub hst hr => ⟨_, rfl, ?_⟩, fun h hty hsub hst hr => ⟨_, rfl, ?_⟩,
    fun h hty hsub hst => ⟨_, rfl, ?_⟩, fun hl hq hv => ⟨_, rfl, ?_⟩, fun h => ⟨⟨_, rfl, upRx_deaf h 0⟩, _, rfl, upRx_deaf h 0⟩,
    fun c hc h2 hdue hn => ⟨_, rfl, ?_⟩, fun c hc h2 hdue hn => ⟨_, rfl, ?_⟩, fun hc => ⟨_, rfl, setcfgTimer_idle hc⟩,
    fun c h hty hsub ⟨hc, hseq, hop⟩ h2 hres hcrc hst => ⟨_, rfl, ?_⟩, fun c h hty hsub ⟨hc, hseq, hop⟩ h2 hbad => ⟨_, rfl, ?_⟩,
    fun c h hty hsub ⟨hc, hseq, hop⟩ h2 => ⟨_, rfl, ?_⟩, fun c h hty hsub hc hstray => ⟨_, rfl, ?_⟩⟩
  all_goals beta_reduce
  · obtain ⟨htx, hmem⟩ := sendCapq_tx hfree
    obtain ⟨hcount, hseq⟩ := sendCapq_counts s l
    rw [capqTimer_sends h hc]
    exact ⟨htx, hcount, hseq, hmem⟩
  · rw [upRx_cap h hty hsub]
    exact cap_refused hst hr
  · obtain ⟨hconfig, hcap, hset, hver⟩ := cap_passes hst hr
    rw [upRx_cap h hty hsub]
    exact ⟨hconfig, hcap, hset, hver ▸ version_spec hr⟩
  · obtain ⟨hlane, hreg, hmem, htx⟩ := upSeq_spec s l f
    rw [upRx_cap h hty hsub, upSeq_capRx_stays hst, hlane]
    exact ⟨hreg, hmem, htx, rfl⟩
  · rw [upRx_invalid hl hq hv]
    exact upInvalid_spec s l
  · rw [setcfgTimer_again hc h2 hdue hn]
    exact cmdAgain_goesAgain s l c
  · rw [setcfgTimer_fails hc h2 hdue hn]
    exact toFail_spec _ l (by decide)
  · rw [upRx_ack h hty hsub, ackRx_setcfg (hcmd hc) hseq hop h2]
    exact setcfgAck_ok hres hcrc ((upSeq_ostate s l f).trans hst)
  · rw [upRx_ack h hty hsub, ackRx_setcfg (hcmd hc) hseq hop h2, setcfgAck_bad hbad]
    exact toFail_spec _ l (by decide)
  · rw [upRx_ack h hty hsub]
    exact ack_ends hc hseq hop h2
  · rw [upRx_ack h hty hsub, ackRx_stray (hcmd hc) hstray]
    exact ⟨hcmd hc, upSeq_ostate s l f, (upSeq_spec s l f).2.2.2⟩

end Sys2Proof.Machine

/-! ## Serial lanes (08 R297 to R312) -/
namespace Sys2Proof.Machine
open Sys2Proof.Stmt

/-! ### What the commands of one block leave -/

/-- The parts of the state that the commands of the serial lanes and of the cell links leave alike. -/
def State.aside (s : State) :=
  ((s.mem, s.pending, s.chrono, s.sext, s.pwr, s.eng.v, s.eng.a, s.eng.k, s.eng.sr, s.eng.pV, s.eng.pS),
    s.pods, s.adc, s.mod, s.axd, s.safe, s.hall, s.cmp, s.upd, s.log, s.free)

/-- What a command leaves whose block has its registers in `[lo, hi)`: the registers outside, the parts of `aside`, and the state of the serial
lanes and of the cell links where the registers are not theirs. -/
structure BlockWork (lo hi : Nat) (s t : State) : Prop where
  regs : RegsKeptBut s t lo hi
  aside : t.aside = s.aside
  ser : 0x13020000 ≤ lo → t.ser = s.ser
  ocl : hi ≤ 0x13100000 → t.ocl = s.ocl

/-- The frame of the serial lanes. -/
abbrev LaneWork := BlockWork 0x13000000 0x13020000
/-- The frame of the cell links. -/
abbrev LinkWork := BlockWork 0x13100000 0x13110000

theorem not_moved_of_not_mayReact {a : Nat} (h : ¬ MayReact a) : ¬ Moved a := by
  unfold MayReact at h
  rw [not_or, not_le] at h
  exact not_moved h.1 h.2

namespace BlockWork

variable {lo hi : Nat} {s t u : State}

theorem refl (s : State) : BlockWork lo hi s s := ⟨fun _ _ _ => rfl, rfl, fun _ => rfl, fun _ => rfl⟩

theorem trans (h : BlockWork lo hi s t) (k : BlockWork lo hi t u) : BlockWork lo hi s u where
  regs a ha hout := (k.regs a ha hout).trans (h.regs a ha hout)
  aside := k.aside.trans h.aside
  ser hlo := (k.ser hlo).trans (h.ser hlo)
  ocl hhi := (k.ocl hhi).trans (h.ocl hhi)

theorem ite {c : Prop} [Decidable c] (h : BlockWork lo hi s t) (k : BlockWork lo hi s u) : BlockWork lo hi s (if c then t else u) := by
  split <;> assumption

theorem fold {α : Type} {f : State → α → State} (l : List α) (h : ∀ s, ∀ x ∈ l, BlockWork lo hi s (f s x)) (s : State) :
    BlockWork lo hi s (l.foldl f s) := by
  induction l generalizing s with
  | nil => exact refl s
  | cons x l ih => exact (h s x List.mem_cons_self).trans (ih (fun s y hy => h s y (List.mem_cons_of_mem _ hy)) _)

theorem still (h : BlockWork lo hi s t) : Still s t := by
  have haside := h.aside
  simp only [State.aside, Prod.mk.injEq] at haside
  exact haside.1

/-- The blocks that neither the lanes nor the links touch, and the count of free values. -/
theorem others (h : BlockWork lo hi s t) : t.pods = s.pods ∧ t.adc = s.adc ∧ t.mod = s.mod ∧ t.axd = s.axd ∧ t.safe = s.safe ∧
    t.hall = s.hall ∧ t.cmp = s.cmp ∧ t.upd = s.upd ∧ t.log = s.log ∧ t.free = s.free := by
  have haside := h.aside
  simp only [State.aside, Prod.mk.injEq] at haside
  exact haside.2

theorem mem (h : BlockWork lo hi s t) : t.mem = s.mem := h.still.1

theorem setReg {a : Nat} (h : lo ≤ a ∧ a < hi) (s : State) (v : Word) : BlockWork lo hi s (s.setReg a v) :=
  ⟨fun b _ hout => reg_setReg_ne s (by omega) v, rfl, fun _ => rfl, fun _ => rfl⟩

theorem set {f : Fld} (h : lo ≤ f.addr ∧ f.addr < hi) (s : State) (n : Nat) : BlockWork lo hi s (s.set f n) := setReg h s _

theorem mark (s : State) (a : Nat) (m : Word) : BlockWork lo hi s (s.mark a m) :=
  ⟨fun _ _ _ => mark_reg .., by simp [State.aside], fun _ => mark_ser .., fun _ => mark_ocl ..⟩

/-- A raise changes the fault registers, and what a move of the device changes. -/
theorem raise (s : State) (q : Src) (a : Acc) : BlockWork lo hi s (s.raise q a) := by
  obtain ⟨_, h⟩ := raise_but_faults s q a
  refine ⟨fun b hb _ => h.reg b (not_moved_of_not_mayReact hb), ?_, fun _ => h.ser, fun _ => h.ocl⟩
  simp only [State.aside, h.mem, h.pending, h.chrono, h.sext, h.pwr, h.v, h.a, h.k, h.sr, h.pV, h.pS, h.pods, h.adc, h.mod, h.axd, h.safe, h.hall,
    h.cmp, h.upd, h.log, h.free]

theorem flag {f : Fld} (h : lo ≤ f.addr ∧ f.addr < hi) (s : State) : BlockWork lo hi s (s.flag f) := (mark s _ _).trans (set h _ _)

theorem faultNew {f : Fld} (h : lo ≤ f.addr ∧ f.addr < hi) (s : State) (q : Src) (a : Acc) : BlockWork lo hi s (s.faultNew f q a) :=
  ite (refl s) ((flag h s).trans (raise _ q a))

end BlockWork

/-! ### Registers of a serial lane -/

/-- The window of the registers of lane `l` (Table 1). -/
def InLane (a l : Nat) : Prop := 0x13000000 + 0x400 * l ≤ a ∧ a < 0x13000400 + 0x400 * l

theorem inLane {b : Nat} (l : Nat) (h : 0x13000000 ≤ b ∧ b < 0x13000400 := by decide) : InLane (b + 0x400 * l) l := by
  unfold InLane; omega

/-- The registers of the lanes, with those that they share. -/
theorem InLane.block {a l : Nat} (h : InLane a l) (hl : l < 64) : 0x13000000 ≤ a ∧ a < 0x13020000 := by
  unfold InLane at h; omega

theorem laneUp_block {l : Nat} (hl : l < 64) : 0x13000000 ≤ R.LANE_UP_LO + 4 * (l / 32) ∧ R.LANE_UP_LO + 4 * (l / 32) < 0x13020000 := by
  unfold R.LANE_UP_LO; omega

/-! ### The frame of the lane commands -/

section
variable {l : Nat} (hl : l < 64)
include hl

theorem setEq_laneWork (s : State) (c : Nat) : LaneWork s (s.setEq l c) := by
  unfold State.setEq
  extract_lets t
  have ht : LaneWork s t := .set ((inLane l).block hl) s c
  exact .ite (.refl s) (.ite (ht.trans (.set ((inLane l).block hl) t 1)) ht)

theorem eqNow_laneWork (s : State) : LaneWork s (s.eqNow l) := .ite (setEq_laneWork hl s _) (.refl s)

theorem eqStep_laneWork (s : State) : LaneWork s (s.eqStep l) :=
  .ite (eqNow_laneWork hl s) (.ite (setEq_laneWork hl s _) (.ite (setEq_laneWork hl s _) (.refl s)))

theorem setLs_laneWork (s : State) (st : Nat) : LaneWork s (s.setLs l st) := by
  unfold State.setLs
  extract_lets left t u w
  have ht : LaneWork s t := (BlockWork.set ((inLane l).block hl) s st).trans (.setReg (laneUp_block hl) _ _)
  have hu : LaneWork t u :=
    .ite ((BlockWork.setReg ((inLane l).block hl) t _).trans (.faultNew ((inLane l).block hl) _ _ _)) (.refl t)
  have hw : LaneWork u w :=
    .ite (((BlockWork.set ((inLane l).block hl) u 0).trans (.set ((inLane l).block hl) _ 1)).trans (.set ((inLane l).block hl) _ 1)) (.refl u)
  exact ((ht.trans hu).trans hw).trans (eqNow_laneWork hl w)

end

theorem setAligned_laneWork (s : State) (p : Nat) (al rev : Bool) : LaneWork s (s.setAligned p al rev) :=
  (BlockWork.set (show 0x13000000 ≤ R.LANE_PORT ∧ R.LANE_PORT < 0x13020000 by decide) s _).trans
    (.set (show 0x13000000 ≤ R.LANE_PORT ∧ R.LANE_PORT < 0x13020000 by decide) _ _)

theorem setBond_laneWork (s : State) (p : Nat) (x : BondPort) : LaneWork s (s.setBond p x) :=
  ⟨fun _ _ _ => rfl, rfl, fun h => absurd h (by decide), fun _ => rfl⟩

theorem send_laneWork (s : State) (m : OutMsg) : LaneWork s (s.send m) := ⟨fun _ _ _ => rfl, rfl, fun _ => rfl, fun _ => rfl⟩

theorem unalign_laneWork (s : State) (p : Nat) : LaneWork s (s.unalign p) := (setBond_laneWork s p _).trans (setAligned_laneWork _ p _ _)

/-- A lane that is UP goes back to ALIGN (Table 4). -/
def State.backToAlign (s : State) (l : Nat) : State := if s.ls l = lsUP then s.setLs l lsALIGN else s

theorem backToAlign_laneWork {l : Nat} (hl : l < 64) (s : State) : LaneWork s (s.backToAlign l) := .ite (setLs_laneWork hl s _) (.refl s)

/-- The other lane of a bonded port. -/
def otherLane (l : Nat) : Nat := if l % 2 = 0 then l + 1 else l - 1

theorem otherLane_bonded {l : Nat} (h : isBonded l = true) : otherLane l < 62 ∧ otherLane l ≠ l ∧ bondOf l < 3 := by
  simp only [isBonded, Bool.and_eq_true, decide_eq_true_eq] at h
  unfold otherLane bondOf
  refine ⟨?_, ?_, by omega⟩
  · split <;> omega
  · split <;> omega

/-- A lane of a bonded port that leaves ALIGN and UP takes its port with it (Table 4). -/
theorem moveLane_bonded {s : State} {l st : Nat} (h : isBonded l = true) (hst : st < lsALIGN) :
    s.moveLane l st = ((s.setLs l st).unalign (bondOf l)).backToAlign (otherLane l) := by
  unfold State.moveLane
  exact if_pos (by simp [h, hst])

/-- A move is a change of LSTATE alone, or one of a bonded port. -/
theorem moveLane_cases (s : State) (l st : Nat) : s.moveLane l st = s.setLs l st ∨
    isBonded l = true ∧ s.moveLane l st = ((s.setLs l st).unalign (bondOf l)).backToAlign (otherLane l) := by
  by_cases h : isBonded l = true ∧ st < lsALIGN
  · exact .inr ⟨h.1, moveLane_bonded h.1 h.2⟩
  · exact .inl (if_neg (by simpa using h))

theorem moveLane_laneWork {l : Nat} (hl : l < 64) (s : State) (st : Nat) : LaneWork s (s.moveLane l st) := by
  rcases moveLane_cases s l st with h | ⟨hb, h⟩
  · exact h ▸ setLs_laneWork hl s st
  · obtain ⟨ho, -⟩ := otherLane_bonded hb
    exact h ▸ ((setLs_laneWork hl s st).trans (unalign_laneWork _ _)).trans (backToAlign_laneWork (by omega) _)

section
variable {l : Nat} (hl : l < 64) (s : State)
include hl

theorem cdrLock_laneWork : LaneWork s (s.cdrLock l) := .ite (moveLane_laneWork hl s _) (.refl s)

theorem cdrLoss_laneWork : LaneWork s (s.cdrLoss l) := .ite (moveLane_laneWork hl s _) (.refl s)

theorem huntLock_laneWork : LaneWork s (s.huntLock l) := .ite (moveLane_laneWork hl s _) (.refl s)

theorem huntFailed_laneWork : LaneWork s (s.huntFailed l) := by
  unfold State.huntFailed
  extract_lets t u
  have ht : LaneWork s t := (BlockWork.setReg ((inLane l).block hl) s _).trans (.faultNew ((inLane l).block hl) _ _ _)
  have hu : LaneWork t u := .ite (.set ((inLane l).block hl) t _) (.refl t)
  exact (ht.trans hu).trans (moveLane_laneWork hl u _)

theorem polConfirm_laneWork : LaneWork s (s.polConfirm l) := .ite (.refl s) (moveLane_laneWork hl s _)

theorem polInvert_laneWork : LaneWork s (s.polInvert l) :=
  .ite (.refl s) (.ite ((BlockWork.set ((inLane l).block hl) s _).trans (.faultNew ((inLane l).block hl) _ _ _)) (huntFailed_laneWork hl s))

theorem lockLoss_laneWork : LaneWork s (s.lockLoss l) :=
  .ite ((BlockWork.setReg ((inLane l).block hl) s _).trans (moveLane_laneWork hl _ _)) (.refl s)

theorem pcs_laneWork (up : Bool) : LaneWork s (s.pcs l up) := .ite (setLs_laneWork hl s _) (.refl s)

theorem eyeDone_laneWork (n : Word) : LaneWork s (s.eyeDone l n) :=
  .ite (((BlockWork.setReg ((inLane l).block hl) s n).trans (.set ((inLane l).block hl) _ 0)).trans (.set ((inLane l).block hl) _ 1)) (.refl s)

end

theorem skewReg_block (p : Nat) : 0x13010008 < skewReg p ∧ skewReg p < 0x13020000 := by
  unfold skewReg
  split
  · decide
  split <;> decide

section
variable {p : Nat} (s : State)

theorem sendMarkers_laneWork : LaneWork s (s.sendMarkers p) := .ite ((setBond_laneWork s p _).trans (send_laneWork _ _)) (.refl s)

theorem realign_eq : s.realign p = ((s.unalign p).backToAlign (56 + 2 * p)).backToAlign (57 + 2 * p) := rfl

variable (hp : p < 3)
include hp

theorem realign_laneWork : LaneWork s (s.realign p) :=
  ((unalign_laneWork s p).trans (backToAlign_laneWork (by omega) _)).trans (backToAlign_laneWork (by omega) _)

theorem portBad_laneWork {f : Nat → Fld} (hf : ∀ l, InLane (f l).addr l) (q : Src) : LaneWork s (s.portBad p f q) :=
  ((BlockWork.faultNew ((hf _).block (by omega)) s _ _).trans (.faultNew ((hf _).block (by omega)) _ _ _)).trans (realign_laneWork _ hp)

/-- A marker slot of a port. -/
theorem markerRx_laneWork (m0 m1 : Nat) (skew : Int) : LaneWork s (s.markerRx p m0 m1 skew) := by
  unfold State.markerRx
  extract_lets a port lane x rev equal same run t
  have ht : LaneWork s t := (setBond_laneWork s p _).trans (.setReg ((skewReg_block p).imp_left fun h => by omega) _ _)
  have hbad := fun (f : Nat → Fld) (hf : ∀ l, InLane (f l).addr l) q => portBad_laneWork s hp hf q
  refine .ite (.refl s) (.ite (hbad _ inLane _) (.ite (hbad _ inLane _) (.ite (realign_laneWork s hp) (.ite ?_ (.ite ?_ ht)))))
  · exact .ite (.refl s) ((realign_laneWork s hp).trans (setBond_laneWork _ p _))
  · exact ((ht.trans (setAligned_laneWork _ p _ _)).trans (setLs_laneWork (by omega) _ _)).trans (setLs_laneWork (by omega) _ _)

end

/-! ### Fields and counters -/

theorem get_word (s : State) (a : Nat) : s.get ⟨a, 0, 32⟩ = s.regN a := by
  have hlt : (s.reg a).toNat < 2 ^ 32 := (s.reg a).isLt
  unfold State.get fldOf State.regN
  rw [Nat.pow_zero, Nat.div_one, Nat.mod_eq_of_lt hlt]

theorem regN_testBit (s : State) (a i : Nat) : (s.regN a).testBit i = s.on ⟨a, i, 1⟩ := by
  rw [State.on, State.get, fldOf_bit rfl]
  cases h : (s.reg a).getLsbD i
  · exact h
  · exact h

theorem count_self (s : State) (a k : Nat) : (s.count a k).regN a = min 0xFFFFFFFF (s.regN a + k) := by
  rw [State.regN, State.count, reg_setRegN_self, BitVec.toNat_ofNat, satAdd]
  omega

theorem on_set_bit (s : State) {f : Fld} (hw : f.width = 1) (h : f.lo + f.width ≤ 32) (b : Bool) : (s.set f (b2n b)).on f = b := by
  rw [State.on, get_set_self s f _ h, hw]
  cases b <;> rfl

theorem get_bit (s : State) {f : Fld} (hw : f.width = 1) : s.get f = b2n (s.on f) := by
  rw [State.on, State.get, fldOf_bit hw]
  cases (s.reg f.addr).getLsbD f.lo <;> rfl

theorem on_toggle (s : State) {f : Fld} (hw : f.width = 1) (h : f.lo + f.width ≤ 32) : (s.set f (1 - s.get f)).on f = !s.on f := by
  have hnot : 1 - s.get f = b2n (!s.on f) := by rw [get_bit s hw]; cases s.on f <;> rfl
  rw [hnot, on_set_bit s hw h]

theorem pairBit_setPairBit (s : State) (lo l m : Nat) (b : Bool) :
    (s.setPairBit lo l b).pairBit lo m = if m = l then b else s.pairBit lo m := by
  have hlt : putBit (s.regN (lo + 4 * (l / 32))) (l % 32) b < 2 ^ 32 := by
    have hreg : s.regN (lo + 4 * (l / 32)) < 2 ^ 32 := (s.reg _).isLt
    unfold putBit
    split
    · exact Nat.or_lt_two_pow hreg (Nat.pow_lt_pow_right (by decide) (Nat.mod_lt _ (by decide)))
    · split
      · exact Nat.lt_of_le_of_lt (Nat.sub_le _ _) hreg
      · exact hreg
  unfold State.pairBit State.setPairBit
  by_cases hw : m / 32 = l / 32
  · rw [hw, State.regN, reg_setRegN_self, BitVec.toNat_ofNat, Nat.mod_eq_of_lt hlt, putBit_testBit]
    by_cases hm : m = l
    · rw [if_pos hm, if_pos (by rw [hm])]
    · rw [if_neg hm, if_neg (by omega)]
  · rw [State.regN, reg_setRegN_ne _ (by omega), if_neg (by rintro rfl; exact hw rfl)]
    rfl

/-! ### A change of LSTATE (Table 4) -/

/-- LSTATE and LANE_UP show the new state. -/
def State.lsShown (s : State) (l st : Nat) : State := (s.set (F.LANE_STAT_LSTATE l) st).setPairBit R.LANE_UP_LO l (st == lsUP)

/-- A departure from UP is counted and flagged. -/
def State.lsCounted (s : State) (l : Nat) (left : Bool) : State :=
  if left && l < 62 then (s.count (R.LANE_LOCKLOSS l) 1).laneFault l F.LANE_STAT_LOCKLOSS Q.LANE_LOCKLOSS else s

/-- A measurement stops below HUNT (R311). -/
def State.eyeStopped (s : State) (l st : Nat) : State :=
  if st ≤ lsCDR && s.on (F.LANE_EYECTL_BUSY l) then
    ((s.set (F.LANE_EYECTL_BUSY l) 0).set (F.LANE_EYECTL_ABORT l) 1).set (F.LANE_EYECTL_DONE l) 1
  else s

theorem setLs_eq (s : State) (l st : Nat) :
    s.setLs l st = (((s.lsShown l st).lsCounted l (s.ls l = lsUP && st != lsUP)).eyeStopped l st).eqNow l := rfl

section
variable {g : Fld} {l : Nat}

/-- As `setEq_get`, for the upper bits of LANE_STAT and the shared registers as well. -/
theorem setEq_get_apart (he : g.addr ≠ R.LANE_EYECTL l) (hq : g.addr ≠ R.LANE_STAT l ∨ g.lo + g.width ≤ 28) (s : State) (c : Nat) :
    (s.setEq l c).get g = s.get g := by
  have hset : (s.set (F.LANE_STAT_EQCODE l) c).get g = s.get g := get_set_disjoint _ _ _ _ (hq.imp_right .inl)
  unfold State.setEq
  split
  · rfl
  dsimp only
  split
  · exact (get_set_disjoint _ _ _ _ (.inl he)).trans hset
  · exact hset

/-- The end of a change of state: the eye monitor and the equaliser write EYECTL and EQCODE. -/
theorem eyeStopped_eqNow_get (he : g.addr ≠ R.LANE_EYECTL l) (hq : g.addr ≠ R.LANE_STAT l ∨ g.lo + g.width ≤ 28) (s : State) (st : Nat) :
    ((s.eyeStopped l st).eqNow l).get g = s.get g := by
  have heye : (s.eyeStopped l st).get g = s.get g := by
    unfold State.eyeStopped
    split
    · rw [get_set_disjoint _ _ _ _ (.inl he), get_set_disjoint _ _ _ _ (.inl he), get_set_disjoint _ _ _ _ (.inl he)]
    · rfl
  rw [← heye]
  unfold State.eqNow
  split
  · exact setEq_get_apart he hq _ _
  · rfl

theorem lsCounted_get (hlost : g.addr ≠ R.LANE_LOCKLOSS l) (hflag : g.addr ≠ R.LANE_STAT l ∨ 6 ≤ g.lo) (hm : ¬ Moved g.addr) (s : State)
    (left : Bool) : (s.lsCounted l left).get g = s.get g := by
  unfold State.lsCounted
  split
  · exact (faultNew_get_apart _ _ _ (hflag.imp_right .inr) hm).trans (get_setReg_ne _ _ _ _ hlost)
  · rfl

end

theorem laneBlock_not_moved {a : Nat} (h : 0x13000000 ≤ a ∧ a < 0x13020000) : ¬ Moved a := by
  refine not_moved (by omega) ?_
  simp only [List.mem_cons, List.not_mem_nil, or_false, R.SYS_STATE, R.RING_STAT, R.RING_GQ, R.ENG_STAT, R.TWIN_STAT, R.ALM_SWAP, R.ALM_MODE,
    R.ALM_STAT]
  omega

theorem InLane.still {a l : Nat} (h : InLane a l) (hl : l < 64) : ¬ Moved a := laneBlock_not_moved (h.block hl)

/-- The fields of lane `l` lie apart from what a change of state of another lane writes. -/
theorem InLane.beside {g : Fld} {l o : Nat} (h : InLane g.addr l) (hl : l < 64) (ho : o < 64) (hne : l ≠ o) : BesideState g o := by
  have hm := h.still hl
  unfold InLane at h
  exact ⟨by unfold R.LANE_UP_LO; omega, by unfold R.LANE_LOCKLOSS; omega, by unfold R.LANE_EYECTL; omega,
    .inl (by unfold R.LANE_STAT; omega), hm⟩

/-- So do the shared registers beyond LANE_UP. -/
theorem besideState_shared {g : Fld} {o : Nat} (ho : o < 64) (h : 0x13010008 ≤ g.addr ∧ g.addr < 0x13020000) : BesideState g o :=
  ⟨by unfold R.LANE_UP_LO; omega, by unfold R.LANE_LOCKLOSS; omega, by unfold R.LANE_EYECTL; omega, .inl (by unfold R.LANE_STAT; omega),
    laneBlock_not_moved (by omega)⟩

section
variable {g : Fld} {l st : Nat} (s : State)

/-- A field of another register is left. -/
theorem setLs_get_beside (h : BesideState g l) (hne : g.addr ≠ R.LANE_STAT l) : (s.setLs l st).get g = s.get g :=
  (setLs_get h s st).trans (get_set_disjoint _ _ _ _ (.inl hne))

theorem setLs_get_other {m : Nat} (h : InLane g.addr m) (hm : m < 64) (hl : l < 64) (hne : m ≠ l) : (s.setLs l st).get g = s.get g := by
  refine setLs_get_beside s (h.beside hm hl hne) ?_
  unfold InLane at h
  unfold R.LANE_STAT
  omega

theorem setLs_get_shared (hl : l < 64) (h : 0x13010008 ≤ g.addr ∧ g.addr < 0x13020000) : (s.setLs l st).get g = s.get g :=
  setLs_get_beside s (besideState_shared hl h) (by unfold R.LANE_STAT; omega)

variable (hl : l < 64)
include hl

/-- Of LANE_STAT the bits between LOCKLOSS and EQCODE are left. -/
theorem setLs_get_stat (ha : g.addr = R.LANE_STAT l) (hlo : 6 ≤ g.lo) (hhi : g.lo + g.width ≤ 28) : (s.setLs l st).get g = s.get g := by
  rw [setLs_eq, eyeStopped_eqNow_get (by rw [ha]; unfold R.LANE_STAT R.LANE_EYECTL; omega) (.inr hhi),
    lsCounted_get (by rw [ha]; unfold R.LANE_STAT R.LANE_LOCKLOSS; omega) (.inr hlo) (ha ▸ (inLane l).still hl)]
  refine (get_setReg_ne _ _ _ _ (by rw [ha]; unfold R.LANE_STAT R.LANE_UP_LO; omega)).trans (get_set_disjoint _ _ _ _ (.inr (.inr ?_)))
  exact (show 0 + 3 ≤ 6 by decide).trans hlo

/-- HDRERR and HUNTCNT are left. -/
theorem setLs_get_counter {b : Nat} (hb : b = 0x13000014 ∨ b = 0x1300001C) :
    (s.setLs l st).get ⟨b + 0x400 * l, 0, 32⟩ = s.get ⟨b + 0x400 * l, 0, 32⟩ := by
  have hin : InLane (b + 0x400 * l) l := inLane l (by omega)
  refine setLs_get_beside s ⟨?_, ?_, ?_, .inl ?_, hin.still hl⟩ ?_
  · simp only [R.LANE_UP_LO]; omega
  · simp only [R.LANE_LOCKLOSS]; omega
  · simp only [R.LANE_EYECTL]; omega
  · simp only [R.LANE_STAT]; omega
  · simp only [R.LANE_STAT]; omega

theorem setLs_pairBit {m : Nat} (hm : m < 64) : (s.setLs l st).pairBit R.LANE_UP_LO m = if m = l then st == lsUP else s.pairBit R.LANE_UP_LO m := by
  have hup : ∀ t : State, t.pairBit R.LANE_UP_LO m = (t.get ⟨R.LANE_UP_LO + 4 * (m / 32), 0, 32⟩).testBit (m % 32) := fun t => by
    rw [get_word]
    rfl
  have hbeside : ∀ b, b < 0x13000400 → R.LANE_UP_LO + 4 * (m / 32) ≠ b + 0x400 * l := fun b hb => by unfold R.LANE_UP_LO; omega
  rw [hup, setLs_eq, eyeStopped_eqNow_get (hbeside _ (by decide)) (.inl (hbeside _ (by decide))),
    lsCounted_get (hbeside _ (by decide)) (.inl (hbeside _ (by decide))), ← hup, State.lsShown, pairBit_setPairBit]
  · rw [hup, hup, get_set_disjoint _ _ _ _ (.inl (hbeside _ (by decide)))]
  · exact laneBlock_not_moved (laneUp_block hm)

theorem setLs_ls (hst : st < 8) : (s.setLs l st).ls l = st := by
  rw [State.ls, setLs_get ((ofLane_LSTATE hl).beside l hl), get_set_self _ _ _ (show 0 + 3 ≤ 32 by decide)]
  exact Nat.mod_eq_of_lt hst

theorem setLs_ls_other {m : Nat} (hm : m < 64) (hne : m ≠ l) : (s.setLs l st).ls m = s.ls m := setLs_get_other s (inLane m) hm hl hne

theorem setLs_laneAt (hst : st < 8) : LaneAt (s.setLs l st) l st :=
  ⟨setLs_ls s hl hst, (setLs_pairBit s hl hl).trans (if_pos rfl)⟩

theorem setLs_laneAt_other {m x : Nat} (hm : m < 64) (hne : m ≠ l) (h : LaneAt s m x) : LaneAt (s.setLs l st) m x :=
  ⟨(setLs_ls_other s hl hm hne).trans h.1, ((setLs_pairBit s hl hm).trans (if_neg hne)).trans h.2⟩

end

/-- A lane that leaves UP counts and flags it. -/
theorem setLs_lost (s : State) {l st : Nat} (hl : l < 62) (h : s.ls l = lsUP) (hst : st ≠ lsUP) : (s.setLs l st).on (F.LANE_STAT_LOCKLOSS l) = true ∧
    (s.setLs l st).regN (R.LANE_LOCKLOSS l) = min 0xFFFFFFFF (s.regN (R.LANE_LOCKLOSS l) + 1) := by
  have hcounted : (s.lsShown l st).lsCounted l (s.ls l = lsUP && st != lsUP) =
      ((s.lsShown l st).count (R.LANE_LOCKLOSS l) 1).laneFault l F.LANE_STAT_LOCKLOSS Q.LANE_LOCKLOSS := if_pos (by simp [h, hst, hl])
  constructor
  · rw [State.on, setLs_eq, eyeStopped_eqNow_get (by simp only [F.LANE_STAT_LOCKLOSS, R.LANE_EYECTL]; omega) (.inr (show 5 + 1 ≤ 28 by decide)),
      hcounted]
    exact faultNew_on _ _ _ (show 5 + 1 ≤ 32 by decide) Nat.one_pos ((inLane l).still (by omega))
  · have hshown : (s.lsShown l st).regN (R.LANE_LOCKLOSS l) = s.regN (R.LANE_LOCKLOSS l) := by
      rw [← get_word, ← get_word]
      refine (get_setReg_ne _ _ _ _ ?_).trans (get_set_disjoint _ _ _ _ (.inl ?_))
      · simp only [R.LANE_LOCKLOSS, R.LANE_UP_LO]; omega
      · simp only [R.LANE_LOCKLOSS, F.LANE_STAT_LSTATE]; omega
    rw [← get_word, setLs_eq, eyeStopped_eqNow_get (by simp only [R.LANE_LOCKLOSS, R.LANE_EYECTL]; omega)
      (.inl (by simp only [R.LANE_LOCKLOSS, R.LANE_STAT]; omega)), hcounted, get_word, ← hshown, ← count_self, State.regN, State.regN]
    exact congrArg _ (faultNew_reg _ _ _ (by simp only [R.LANE_LOCKLOSS, F.LANE_STAT_LOCKLOSS]; omega) ((inLane l).still (by omega)))

/-! ### Bonded ports (R305, R306) -/

section
variable {p : Nat} (hp : p < 3) (s : State)
include hp

theorem aligned_setAligned (al rev : Bool) : Stmt.State.aligned (s.setAligned p al rev) p = al ∧
    ((s.setAligned p al rev).regN R.LANE_PORT).testBit (4 + p) = rev := by
  have hbit : [0, 1, 2].getD p 0 = p := by
    match p, hp with
    | 0, _ => rfl
    | 1, _ => rfl
    | 2, _ => rfl
  unfold Stmt.State.aligned State.setAligned
  rw [hbit, regN_testBit, regN_testBit, on_set_ne _ _ (.inr (.inl (show p + 1 ≤ 4 + p by omega)))]
  exact ⟨on_set_bit s rfl (show p + 1 ≤ 32 by omega) al, on_set_bit _ rfl (show 4 + p + 1 ≤ 32 by omega) rev⟩

theorem unalign_aligned : Stmt.State.aligned (s.unalign p) p = false := (aligned_setAligned hp _ false _).1

end

theorem aligned_congr {s t : State} {p : Nat} (h : t.get ⟨R.LANE_PORT, 0, 32⟩ = s.get ⟨R.LANE_PORT, 0, 32⟩) :
    Stmt.State.aligned t p = Stmt.State.aligned s p := by
  unfold Stmt.State.aligned
  rw [← get_word, h, get_word]

section
variable {l : Nat} (hl : l < 64) (s : State)
include hl

theorem backToAlign_get_other {g : Fld} {m : Nat} (h : InLane g.addr m) (hm : m < 64) (hne : m ≠ l) : (s.backToAlign l).get g = s.get g := by
  unfold State.backToAlign
  split
  · exact setLs_get_other s h hm hl hne
  · rfl

theorem backToAlign_get_shared {g : Fld} (h : 0x13010008 ≤ g.addr ∧ g.addr < 0x13020000) : (s.backToAlign l).get g = s.get g := by
  unfold State.backToAlign
  split
  · exact setLs_get_shared s hl h
  · rfl

theorem backToAlign_get_stat {g : Fld} (ha : g.addr = R.LANE_STAT l) (hlo : 6 ≤ g.lo) (hhi : g.lo + g.width ≤ 28) :
    (s.backToAlign l).get g = s.get g := by
  unfold State.backToAlign
  split
  · exact setLs_get_stat s hl ha hlo hhi
  · rfl

theorem backToAlign_aligned (p : Nat) : Stmt.State.aligned (s.backToAlign l) p = Stmt.State.aligned s p :=
  aligned_congr (backToAlign_get_shared hl s (by decide))

theorem backToAlign_laneAt_other {m x : Nat} (hm : m < 64) (hne : m ≠ l) (h : LaneAt s m x) : LaneAt (s.backToAlign l) m x := by
  unfold State.backToAlign
  split
  · exact setLs_laneAt_other s hl hm hne h
  · exact h

theorem backToAlign_laneAt (h : s.ls l = lsUP) : LaneAt (s.backToAlign l) l lsALIGN := by
  unfold State.backToAlign
  rw [if_pos h]
  exact setLs_laneAt s hl (by decide)

theorem backToAlign_not_up : (s.backToAlign l).ls l ≠ lsUP := by
  unfold State.backToAlign
  split
  · rw [setLs_ls s hl (by decide)]
    decide
  · assumption

end

/-- An update of LANE_PORT leaves the lanes. -/
theorem unalign_laneAt {s : State} {p m x : Nat} (hm : m < 64) (h : LaneAt s m x) : LaneAt (s.unalign p) m x := by
  have hport : ∀ a, a ≠ R.LANE_PORT → (s.unalign p).reg a = s.reg a := fun a ha => (reg_set_ne _ _ ha _).trans (reg_set_ne _ _ ha _)
  refine ⟨(congrArg (fldOf _) (hport _ ?_)).trans h.1, ?_⟩
  · simp only [F.LANE_STAT_LSTATE, R.LANE_PORT]; omega
  · rw [← h.2, State.pairBit, State.pairBit, State.regN, hport _ (by simp only [R.LANE_UP_LO, R.LANE_PORT]; omega), State.regN]

/-! ### Moves of a lane (Table 4) -/

section
variable {l st : Nat} (s : State)

theorem moveLane_laneAt (hl : l < 64) (hst : st < 8) : LaneAt (s.moveLane l st) l st := by
  rcases moveLane_cases s l st with h | ⟨hb, h⟩
  · exact h ▸ setLs_laneAt s hl hst
  · obtain ⟨ho, hne, -⟩ := otherLane_bonded hb
    exact h ▸ backToAlign_laneAt_other (by omega) _ hl hne.symm (unalign_laneAt hl (setLs_laneAt s hl hst))

/-- Of its own registers a move writes what the change of LSTATE writes. -/
theorem moveLane_get_own {g : Fld} (hl : l < 64) (h : InLane g.addr l) : (s.moveLane l st).get g = (s.setLs l st).get g := by
  rcases moveLane_cases s l st with hmove | ⟨hb, hmove⟩
  · rw [hmove]
  · obtain ⟨ho, hne, -⟩ := otherLane_bonded hb
    have hport : g.addr ≠ R.LANE_PORT := by unfold InLane at h; unfold R.LANE_PORT; omega
    rw [hmove, backToAlign_get_other (by omega) _ h hl hne.symm, unalign_get _ _ hport]

/-- What follows from lane `l` going below ALIGN from `s` to `t`: where it was UP that is counted and flagged, and its bonded port is no longer
aligned, with the other lane back in ALIGN. -/
def LaneLost (s t : State) (l : Nat) : Prop :=
  (s.ls l = lsUP → t.on (F.LANE_STAT_LOCKLOSS l) = true ∧ t.regN (R.LANE_LOCKLOSS l) = min 0xFFFFFFFF (s.regN (R.LANE_LOCKLOSS l) + 1)) ∧
    (isBonded l = true → Stmt.State.aligned t (bondOf l) = false ∧ (s.ls (otherLane l) = lsUP → LaneAt t (otherLane l) lsALIGN)) ∧
    t.mem = s.mem

theorem moveLane_lost (hl : l < 62) (hst : st < lsALIGN) : LaneLost s (s.moveLane l st) l := by
  refine ⟨fun hup => ?_, fun hb => ?_, (moveLane_laneWork (by omega) s st).mem⟩
  · rw [State.on, moveLane_get_own s (by omega) (inLane l), ← get_word, moveLane_get_own s (by omega) (inLane l), get_word]
    exact setLs_lost s hl hup (by unfold lsALIGN at hst; unfold lsUP; omega)
  · obtain ⟨ho, hne, hp⟩ := otherLane_bonded hb
    rw [moveLane_bonded hb hst]
    refine ⟨(backToAlign_aligned (by omega) _ _).trans (unalign_aligned hp _), fun hup => backToAlign_laneAt (by omega) _ ?_⟩
    have hport : (F.LANE_STAT_LSTATE (otherLane l)).addr ≠ R.LANE_PORT := by simp only [F.LANE_STAT_LSTATE, R.LANE_PORT]; omega
    exact (unalign_get _ _ hport).trans ((setLs_ls_other s (by omega) (by omega) hne).trans hup)

end

/-! ### The events of a lane (Table 4; R299 to R303) -/

section
variable {s : State} {l : Nat}

theorem cdrLock_moves (h : s.ls l = lsCDR) (hpll : s.lcLocked l = true) : s.cdrLock l = s.moveLane l lsHUNT := if_pos (by simp [h, hpll])

theorem cdrLock_stays (h : s.ls l ≠ lsCDR ∨ s.lcLocked l = false) : s.cdrLock l = s := if_neg (by rcases h with h | h <;> simp [h])

theorem polConfirm_moves (h : s.ls l = lsPOLTEST) (ht : s.ser.test.testBit l = false) :
    s.polConfirm l = s.moveLane l (if isBonded l then lsALIGN else lsUP) := if_neg (by simp [h, ht])

theorem polConfirm_stays (h : s.ls l ≠ lsPOLTEST ∨ s.ser.test.testBit l = true) : s.polConfirm l = s :=
  if_pos (by rcases h with h | h <;> simp [h])

theorem polInvert_stays (h : s.ls l ≠ lsPOLTEST) : s.polInvert l = s := if_pos (by simp [h])

theorem polInvert_inverts (h : s.ls l = lsPOLTEST) (ha : s.on (F.LANE_CFG_AUTOPOL l) = true) : s.polInvert l =
    (s.set (F.LANE_STAT_RXINV l) (1 - s.get (F.LANE_STAT_RXINV l))).laneFault l F.LANE_STAT_POLINV Q.LANE_POLINV :=
  (if_neg (by simp [h])).trans (if_pos ha)

theorem polInvert_fails (h : s.ls l = lsPOLTEST) (ha : s.on (F.LANE_CFG_AUTOPOL l) = false) : s.polInvert l = s.huntFailed l :=
  (if_neg (by simp [h])).trans (if_neg (by simp [ha]))

theorem isBonded_eq (l : Fin 62) : isBonded l = decide (56 ≤ l.val) := by
  unfold isBonded
  rw [decide_eq_true l.isLt, Bool.and_true]

/-- A hunt failure is counted and flagged. -/
def State.huntCounted (s : State) (l : Nat) : State := (s.count (R.LANE_HUNTCNT l) 1).laneFault l F.LANE_STAT_HUNTFAIL Q.LANE_HUNTFAIL

/-- The polarity in force is toggled where AUTOPOL is 1 (R303). -/
def State.rxToggled (s : State) (l : Nat) : State :=
  if s.on (F.LANE_CFG_AUTOPOL l) then s.set (F.LANE_STAT_RXINV l) (1 - s.get (F.LANE_STAT_RXINV l)) else s

theorem huntFailed_eq : s.huntFailed l = ((s.huntCounted l).rxToggled l).moveLane l lsCDR := rfl

theorem rxToggled_spec (s : State) : (s.rxToggled l).on (F.LANE_STAT_RXINV l) = (s.on (F.LANE_STAT_RXINV l) ^^ s.on (F.LANE_CFG_AUTOPOL l)) ∧
    ∀ g : Fld, g.addr ≠ R.LANE_STAT l ∨ g.lo + g.width ≤ 25 → (s.rxToggled l).get g = s.get g := by
  unfold State.rxToggled
  cases s.on (F.LANE_CFG_AUTOPOL l) with
  | false => exact ⟨(Bool.xor_false _).symm, fun _ _ => rfl⟩
  | true =>
    exact ⟨(on_toggle s rfl (show 25 + 1 ≤ 32 by decide)).trans (Bool.xor_true _).symm,
      fun g hg => get_set_disjoint _ _ _ _ (hg.imp_right .inl)⟩

variable (hl : l < 62)
include hl

theorem huntCounted_spec (s : State) : (s.huntCounted l).on (F.LANE_STAT_HUNTFAIL l) = true ∧
    (s.huntCounted l).regN (R.LANE_HUNTCNT l) = min 0xFFFFFFFF (s.regN (R.LANE_HUNTCNT l) + 1) ∧
    (s.huntCounted l).on (F.LANE_CFG_AUTOPOL l) = s.on (F.LANE_CFG_AUTOPOL l) ∧
    (s.huntCounted l).on (F.LANE_STAT_RXINV l) = s.on (F.LANE_STAT_RXINV l) := by
  have hm : ∀ {a : Nat}, InLane a l → ¬ Moved a := fun h => h.still (by omega)
  refine ⟨faultNew_on _ _ _ (show 6 + 1 ≤ 32 by decide) Nat.one_pos (hm (inLane l)), ?_, congrArg (· != 0) ?_, congrArg (· != 0) ?_⟩
  · rw [← count_self]
    exact congrArg _ (faultNew_reg _ _ _ (by simp only [F.LANE_STAT_HUNTFAIL]; omega) (hm (inLane l)))
  · refine (faultNew_get_apart _ _ _ (.inl ?_) (hm (inLane l))).trans (get_setReg_ne _ _ _ _ ?_)
    · simp only [F.LANE_CFG_AUTOPOL, F.LANE_STAT_HUNTFAIL]; omega
    · simp only [F.LANE_CFG_AUTOPOL, R.LANE_HUNTCNT]; omega
  · refine (faultNew_get_apart _ _ _ (.inr (.inr (show 6 + 1 ≤ 25 by decide))) (hm (inLane l))).trans (get_setReg_ne _ _ _ _ ?_)
    simp only [F.LANE_STAT_RXINV, R.LANE_HUNTCNT]; omega

theorem huntFailed_spec : HuntFailed s (s.huntFailed l) l := by
  have hl' : l < 64 := by omega
  have hmem := (huntFailed_laneWork hl' s).mem
  obtain ⟨hflag, hcnt, hauto, hinv⟩ := huntCounted_spec hl s
  obtain ⟨hrx, hkept⟩ := rxToggled_spec (l := l) (s.huntCounted l)
  rw [huntFailed_eq] at hmem ⊢
  generalize (s.huntCounted l).rxToggled l = u at *
  have hown : ∀ g : Fld, InLane g.addr l → (u.moveLane l lsCDR).get g = (u.setLs l lsCDR).get g := fun g => moveLane_get_own u hl'
  refine ⟨(moveLane_laneAt u hl' (by decide)).1, ?_, ?_, ?_, hmem⟩
  · rw [State.on, hown _ (inLane l), setLs_get_stat u hl' rfl (Nat.le_refl 6) (show 6 + 1 ≤ 28 by decide),
      hkept _ (.inr (show 6 + 1 ≤ 25 by decide))]
    exact hflag
  · rw [← hcnt, ← get_word, ← get_word, hown _ (inLane l), setLs_get_counter u hl' (by decide), hkept]
    exact .inl (by simp only [R.LANE_STAT]; omega)
  · rw [State.on, hown _ (inLane l), setLs_get_stat u hl' rfl (show 6 ≤ 25 by decide) (show 25 + 1 ≤ 28 by decide), ← hauto, ← hinv]
    exact hrx

theorem lockLoss_spec (h : lsPOLTEST ≤ s.ls l) : LaneAt (s.lockLoss l) l lsHUNT ∧ LaneLost s (s.lockLoss l) l ∧
    (s.lockLoss l).regN (R.LANE_HDRERR l) = min 0xFFFFFFFF (s.regN (R.LANE_HDRERR l) + 16) := by
  have hl' : l < 64 := by omega
  rw [State.lockLoss, if_pos h]
  have hreg : ∀ a, a ≠ R.LANE_HDRERR l → (s.count (R.LANE_HDRERR l) 16).reg a = s.reg a := fun a ha => reg_setRegN_ne s ha _
  have hls : ∀ m, (s.count (R.LANE_HDRERR l) 16).ls m = s.ls m := fun m =>
    congrArg (fldOf _) (hreg _ (by simp only [F.LANE_STAT_LSTATE, R.LANE_HDRERR]; omega))
  obtain ⟨hup, hport, hmem⟩ := moveLane_lost (s.count (R.LANE_HDRERR l) 16) hl (show lsHUNT < lsALIGN by decide)
  rw [hls, State.regN, State.regN, hreg _ (by simp only [R.LANE_LOCKLOSS, R.LANE_HDRERR]; omega)] at hup
  rw [hls] at hport
  refine ⟨moveLane_laneAt _ hl' (by decide), ⟨hup, hport, hmem⟩, ?_⟩
  rw [← get_word, moveLane_get_own _ hl' (inLane l), setLs_get_counter _ hl' (by decide), get_word, count_self]

theorem polInvert_spec (h : s.ls l = lsPOLTEST) (ha : s.on (F.LANE_CFG_AUTOPOL l) = true) : (s.polInvert l).ls l = lsPOLTEST ∧
    (s.polInvert l).on (F.LANE_STAT_RXINV l) = !s.on (F.LANE_STAT_RXINV l) ∧ (s.polInvert l).on (F.LANE_STAT_POLINV l) = true := by
  have hm : ¬ Moved (R.LANE_STAT l) := (inLane l).still (by omega)
  rw [polInvert_inverts h ha]
  refine ⟨?_, ?_, faultNew_on _ _ _ (show 7 + 1 ≤ 32 by decide) Nat.one_pos hm⟩
  · refine (faultNew_get_apart _ _ _ (.inr (.inl (show 0 + 3 ≤ 7 by decide))) hm).trans ((get_set_disjoint _ _ _ _ ?_).trans h)
    exact .inr (.inl (show 0 + 3 ≤ 25 by decide))
  · rw [← on_toggle s rfl (show 25 + 1 ≤ 32 by decide)]
    exact congrArg (· != 0) (faultNew_get_apart _ _ _ (.inr (.inr (show 7 + 1 ≤ 25 by decide))) hm)

end

/-- Settles O39: each event is the move of Table 4, or none. -/
theorem laneBringUpFollowsItsTable : Obligations.LaneBringUpFollowsItsTable := by
  intro s l h st other lost host
  have hl : l.val < 62 := l.isLt
  have hl' : l.val < 64 := by omega
  have hhost : host < 64 := by unfold host; cases h <;> decide
  have hconfirm : (if isBonded l then lsALIGN else lsUP) = if 56 ≤ l.val then lsALIGN else lsUP := by simp only [isBonded_eq, decide_eq_true_eq]
  refine ⟨fun hst hpll => ⟨_, rfl, ?_⟩, fun hst => ⟨_, rfl, cdrLock_stays hst⟩, fun hst => ⟨_, rfl, ?_⟩,
    fun hst => ⟨_, rfl, if_neg (not_le.mpr hst)⟩, fun hst => ⟨_, rfl, ?_⟩, fun hst => ⟨⟨_, rfl, if_neg hst⟩, _, rfl, if_neg hst⟩,
    fun hst => ⟨_, rfl, ?_⟩, fun hst ht => ⟨_, rfl, ?_⟩, fun hst => ⟨_, rfl, polConfirm_stays hst⟩,
    fun hst ha => ⟨_, rfl, polInvert_spec hl hst ha⟩, fun hst ha => ⟨_, rfl, ?_⟩, fun hst => ⟨_, rfl, ?_⟩,
    fun hst => ⟨⟨_, rfl, polInvert_stays hst⟩, _, rfl, if_neg hst⟩, fun hst => ⟨_, rfl, lockLoss_spec hl hst⟩,
    fun hst => ⟨_, rfl, if_neg (not_le.mpr hst)⟩, fun hen => ⟨⟨_, rfl, ?_⟩, _, rfl, ?_⟩,
    fun hen => ⟨⟨_, rfl, if_neg (by simp [host, hen])⟩, _, rfl, if_neg (by simp [host, hen])⟩⟩
  all_goals beta_reduce
  · rw [cdrLock_moves hst hpll]
    exact moveLane_laneAt s hl' (by decide)
  · rw [State.cdrLoss, if_pos hst]
    exact ⟨moveLane_laneAt s hl' (by decide), moveLane_lost s hl (by decide)⟩
  · rw [State.huntLock, if_pos hst]
    exact moveLane_laneAt s hl' (by decide)
  · rw [if_pos hst]
    exact huntFailed_spec hl
  · rw [polConfirm_moves hst ht, hconfirm]
    exact moveLane_laneAt s hl' (by split <;> decide)
  · rw [polInvert_fails hst ha]
    exact huntFailed_spec hl
  · rw [if_pos hst]
    exact huntFailed_spec hl
  · rw [State.pcs, if_pos hen]
    exact setLs_laneAt s hhost (by decide)
  · rw [State.pcs, if_pos hen]
    exact setLs_laneAt s hhost (by decide)

/-! ### The equaliser and the eye monitor (R307, R308, R310, R311) -/

theorem eqTarget_lt (s : State) (l : Nat) : s.eqTarget l < 16 := by
  unfold State.eqTarget
  split
  · exact Nat.mod_lt _ (show 0 < 2 ^ 4 by decide)
  · exact Nat.mod_lt _ (by decide)

/-- A measurement ends with its count (R310). -/
theorem eyeDone_ends {s : State} {l : Nat} (h : s.on (F.LANE_EYECTL_BUSY l) = true) (n : Word) : (s.eyeDone l n).reg (R.LANE_EYEERR l) = n ∧
    (s.eyeDone l n).on (F.LANE_EYECTL_BUSY l) = false ∧ (s.eyeDone l n).on (F.LANE_EYECTL_DONE l) = true ∧ (s.eyeDone l n).mem = s.mem := by
  have hne : R.LANE_EYEERR l ≠ R.LANE_EYECTL l := by simp only [R.LANE_EYEERR, R.LANE_EYECTL]; omega
  rw [State.eyeDone, if_pos h]
  refine ⟨?_, ?_, on_set_bit _ rfl (show 29 + 1 ≤ 32 by decide) true, rfl⟩
  · rw [reg_set_ne _ _ hne, reg_set_ne _ _ hne, reg_setReg_self]
  · exact (on_set_ne _ _ (.inr (.inr (show 29 + 1 ≤ 30 by decide)))).trans (on_set_zero _ _ (show 30 + 1 ≤ 32 by decide))

section
variable {s : State} {l : Nat} (hl : l < 64)
include hl

/-- The code in force is the one set; a measurement that runs notes a change. -/
theorem setEq_spec {c : Nat} (hc : c < 16) : (s.setEq l c).get (F.LANE_STAT_EQCODE l) = c ∧ (s.setEq l c).ls l = s.ls l ∧
    (s.get (F.LANE_STAT_EQCODE l) ≠ c → s.on (F.LANE_EYECTL_BUSY l) = true → (s.setEq l c).on (F.LANE_EYECTL_EQCHG l) = true) := by
  refine ⟨?_, setEq_get ((ofLane_LSTATE hl).beside l hl) s c, fun hne hbusy => ?_⟩
  · by_cases h : s.get (F.LANE_STAT_EQCODE l) = c
    · rw [State.setEq, if_pos h, h]
    · have hset : (s.set (F.LANE_STAT_EQCODE l) c).get (F.LANE_STAT_EQCODE l) = c :=
        (get_set_self _ _ _ (show 28 + 4 ≤ 32 by decide)).trans (Nat.mod_eq_of_lt hc)
      rw [State.setEq, if_neg h]
      dsimp only
      split
      · exact (get_set_disjoint _ _ _ _ (.inl (by simp only [F.LANE_STAT_EQCODE, F.LANE_EYECTL_EQCHG]; omega))).trans hset
      · exact hset
  · have hbusy' : (s.set (F.LANE_STAT_EQCODE l) c).on (F.LANE_EYECTL_BUSY l) = true :=
      (on_set_ne _ _ (.inl (by simp only [F.LANE_STAT_EQCODE, F.LANE_EYECTL_BUSY]; omega))).trans hbusy
    rw [State.setEq, if_neg hne]
    dsimp only
    rw [if_pos hbusy']
    exact on_set_bit _ rfl (show 27 + 1 ≤ 32 by decide) true

/-- Above HUNT it goes one code toward its target. -/
theorem eqStep_toward (h : lsHUNT < s.ls l) :
    let c := s.get (F.LANE_STAT_EQCODE l)
    let target := s.eqTarget l
    (s.eqStep l).get (F.LANE_STAT_EQCODE l) = (if c < target then c + 1 else if target < c then c - 1 else c) ∧ (s.eqStep l).ls l = s.ls l ∧
      (c ≠ target → s.on (F.LANE_EYECTL_BUSY l) = true → (s.eqStep l).on (F.LANE_EYECTL_EQCHG l) = true) := by
  intro c target
  have htarget : target < 16 := eqTarget_lt s l
  have hc : c < 16 := Nat.mod_lt _ (show 0 < 2 ^ 4 by decide)
  have hstep : s.eqStep l = if c < target then s.setEq l (c + 1) else if target < c then s.setEq l (c - 1) else s := if_neg (not_le.mpr h)
  rw [hstep]
  by_cases hup : c < target
  · obtain ⟨hcode, hls, hnote⟩ := setEq_spec (s := s) hl (c := c + 1) (by omega)
    rw [if_pos hup, if_pos hup]
    exact ⟨hcode, hls, fun _ => hnote (Nat.succ_ne_self c).symm⟩
  · rw [if_neg hup, if_neg hup]
    by_cases hdown : target < c
    · obtain ⟨hcode, hls, hnote⟩ := setEq_spec (s := s) hl (c := c - 1) (by omega)
      rw [if_pos hdown, if_pos hdown]
      exact ⟨hcode, hls, fun _ => hnote (by omega)⟩
    · rw [if_neg hdown, if_neg hdown]
      exact ⟨rfl, rfl, fun hne => absurd (by omega) hne⟩

end

/-- In OFF, CDR and HUNT the equaliser takes its target at once. -/
theorem eqStep_now {s : State} {l : Nat} (hl : l < 62) (h : s.ls l ≤ lsHUNT) : (s.eqStep l).get (F.LANE_STAT_EQCODE l) = s.eqTarget l := by
  have hstep : s.eqStep l = s.setEq l (s.eqTarget l) := (if_pos h).trans (if_pos (by simp [hl, h]))
  obtain ⟨hcode, -⟩ := setEq_spec (s := s) (l := l) (by omega) (eqTarget_lt s l)
  rw [hstep, hcode]

/-! ### Alignment markers (R304 to R306) -/

@[simp] theorem bond_setBond (s : State) (p : Nat) (x : BondPort) : (s.setBond p x).bond p = x := (spGet_spPut ..).trans (if_pos rfl)

theorem secondLane (p : Nat) : 57 + 2 * p = 56 + 2 * p + 1 := by omega

theorem sendMarkers_sends {s : State} {p : Nat} (h : s.ls (56 + 2 * p) ≠ lsOFF) (h' : s.ls (56 + 2 * p + 1) ≠ lsOFF) :
    (s.sendMarkers p).tx = s.tx ++ [OutMsg.marker p (markerP p 0 (s.bond p).mcnt) (markerP p 1 (s.bond p).mcnt)] ∧
      ((s.sendMarkers p).bond p).mcnt = ((s.bond p).mcnt + 1) % 256 ∧ (s.sendMarkers p).mem = s.mem ∧ (s.sendMarkers p).regs = s.regs := by
  have hsend : s.sendMarkers p = (s.setBond p { s.bond p with mcnt := ((s.bond p).mcnt + 1) % 256 }).send
      (.marker p (markerP p 0 (s.bond p).mcnt) (markerP p 1 (s.bond p).mcnt)) := if_pos (by rw [secondLane]; simp [h, h'])
  rw [hsend]
  exact ⟨rfl, congrArg BondPort.mcnt (bond_setBond ..), rfl, rfl⟩

theorem sendMarkers_off {s : State} {p : Nat} (h : s.ls (56 + 2 * p) = lsOFF ∨ s.ls (56 + 2 * p + 1) = lsOFF) : s.sendMarkers p = s :=
  if_neg (by rw [secondLane]; rcases h with h | h <;> simp [h])

/-- Both lanes of the port are in ALIGN or UP and show markers (R305). -/
def MarkersTaken (s : State) (p m0 m1 : Nat) : Prop :=
  lsALIGN ≤ s.ls (56 + 2 * p) ∧ lsALIGN ≤ s.ls (56 + 2 * p + 1) ∧ isMarker m0 = true ∧ isMarker m1 = true

/-- A marker shows another port than the one expected, or both show the same lane (R305). -/
def MarkersWrong (s : State) (p m0 m1 : Nat) : Prop :=
  bitsOf m0 50 2 ≠ s.expectPort p ∨ bitsOf m1 50 2 ≠ s.expectPort p ∨ bitsOf m0 49 1 = bitsOf m1 49 1

/-- A slot of the expected markers within the deskew buffer (R306). -/
def State.markersMatched (s : State) (p m0 m1 : Nat) (skew : Int) : State :=
  let x := s.bond p
  let rev := bitsOf m0 49 1 == 1
  let same := x.skew == skew && x.rev == rev
  if !(bitsOf m0 40 8 == bitsOf m1 40 8) then s.realign p
  else if s.ls (56 + 2 * p) = lsUP && s.ls (56 + 2 * p + 1) = lsUP then
    if same then s else (s.realign p).setBond p { x with run := 1, skew := skew, rev := rev }
  else
    let run := if same && x.run != 0 then 2 else 1
    let s := (s.setBond p { x with run := run, skew := skew, rev := rev }).setRegN (skewReg p) (encS 16 skew)
    if run = 2 then ((s.setAligned p true rev).setLs (56 + 2 * p) lsUP).setLs (56 + 2 * p + 1) lsUP else s

section
variable {s : State} {p m0 m1 : Nat} {skew : Int}

theorem markerRx_ignored (h : ¬ MarkersTaken s p m0 m1) : s.markerRx p m0 m1 skew = s := by
  refine if_pos ?_
  by_contra hc
  simp only [Bool.or_eq_true, decide_eq_true_eq, Bool.not_eq_true', not_or, not_lt, Bool.not_eq_false] at hc
  obtain ⟨⟨⟨h0, h1⟩, hm0⟩, hm1⟩ := hc
  exact h ⟨h0, h1, hm0, hm1⟩

theorem markerRx_expected (hw : ¬ MarkersWrong s p m0 m1) : ¬ (bitsOf m0 50 2 != s.expectPort p || bitsOf m1 50 2 != s.expectPort p || bitsOf m0 49 1 == bitsOf m1 49 1) = true := by
  simpa [MarkersWrong, and_assoc] using hw

section
variable (h : MarkersTaken s p m0 m1)
include h

theorem markerRx_taken : ¬ (s.ls (56 + 2 * p) < lsALIGN || s.ls (56 + 2 * p + 1) < lsALIGN || !isMarker m0 || !isMarker m1) = true := by
  obtain ⟨h0, h1, hm0, hm1⟩ := h
  simp [not_lt.mpr h0, not_lt.mpr h1, hm0, hm1]

theorem markerRx_wrong (hw : MarkersWrong s p m0 m1) : s.markerRx p m0 m1 skew = s.portBad p F.LANE_STAT_PORTERR Q.LANE_PORTERR :=
  (if_neg (markerRx_taken h)).trans (if_pos (by rcases hw with hw | hw | hw <;> simp [hw]))

variable (hw : ¬ MarkersWrong s p m0 m1)
include hw

theorem markerRx_far (hf : 2112 < skew.natAbs) : s.markerRx p m0 m1 skew = s.portBad p F.LANE_STAT_SKEWERR Q.LANE_SKEWERR :=
  (if_neg (markerRx_taken h)).trans ((if_neg (markerRx_expected hw)).trans (if_pos hf))

theorem markerRx_matched (hf : ¬ 2112 < skew.natAbs) : s.markerRx p m0 m1 skew = s.markersMatched p m0 m1 skew :=
  (if_neg (markerRx_taken h)).trans ((if_neg (markerRx_expected hw)).trans (if_neg hf))

end

theorem markersMatched_unequal (h : ¬ bitsOf m0 40 8 = bitsOf m1 40 8) : s.markersMatched p m0 m1 skew = s.realign p := if_pos (by simp [h])

/-- The slot agrees with the skew and the order of lanes that the port holds. -/
def SlotSame (s : State) (p m0 : Nat) (skew : Int) : Prop := (s.bond p).skew = skew ∧ (s.bond p).rev = (bitsOf m0 49 1 == 1)

theorem slotSame_iff : ((s.bond p).skew == skew && (s.bond p).rev == (bitsOf m0 49 1 == 1)) = true ↔ SlotSame s p m0 skew := by
  rw [Bool.and_eq_true, beq_iff_eq, beq_iff_eq, SlotSame]

section
variable (he : bitsOf m0 40 8 = bitsOf m1 40 8)
include he

theorem markersMatched_up_same (h : s.ls (56 + 2 * p) = lsUP) (h' : s.ls (56 + 2 * p + 1) = lsUP) (hs : SlotSame s p m0 skew) :
    s.markersMatched p m0 m1 skew = s :=
  (if_neg (by simp [he])).trans ((if_pos (by simp [h, h'])).trans (if_pos (slotSame_iff.mpr hs)))

theorem markersMatched_up_moved (h : s.ls (56 + 2 * p) = lsUP) (h' : s.ls (56 + 2 * p + 1) = lsUP) (hs : ¬ SlotSame s p m0 skew) :
    s.markersMatched p m0 m1 skew = (s.realign p).setBond p { s.bond p with run := 1, skew := skew, rev := bitsOf m0 49 1 == 1 } :=
  (if_neg (by simp [he])).trans ((if_pos (by simp [h, h'])).trans (if_neg (mt slotSame_iff.mp hs)))

/-- The port after slot `run` in ALIGN, with its skew shown. -/
def State.slotNoted (s : State) (p m0 run : Nat) (skew : Int) : State :=
  (s.setBond p { s.bond p with run := run, skew := skew, rev := bitsOf m0 49 1 == 1 }).setRegN (skewReg p) (encS 16 skew)

variable (h : s.ls (56 + 2 * p) = lsALIGN)
include h

theorem markersMatched_second (hr : (s.bond p).run ≠ 0) (hs : SlotSame s p m0 skew) : s.markersMatched p m0 m1 skew =
    (((s.slotNoted p m0 2 skew).setAligned p true (bitsOf m0 49 1 == 1)).setLs (56 + 2 * p) lsUP).setLs (56 + 2 * p + 1) lsUP := by
  have hrun : (if ((s.bond p).skew == skew && (s.bond p).rev == (bitsOf m0 49 1 == 1)) && (s.bond p).run != 0 then 2 else 1) = 2 :=
    if_pos (by rw [slotSame_iff.mpr hs]; simpa using hr)
  unfold State.markersMatched
  dsimp only
  rw [hrun, if_neg (by simp [he]), if_neg (by simp [h, lsALIGN, lsUP]), if_pos rfl]
  rfl

theorem markersMatched_first (hr : ¬ ((s.bond p).run ≠ 0 ∧ SlotSame s p m0 skew)) : s.markersMatched p m0 m1 skew = s.slotNoted p m0 1 skew := by
  have hrun : (if ((s.bond p).skew == skew && (s.bond p).rev == (bitsOf m0 49 1 == 1)) && (s.bond p).run != 0 then 2 else 1) = 1 := by
    refine if_neg fun hc => hr ?_
    rw [Bool.and_eq_true, slotSame_iff, bne_iff_ne] at hc
    exact ⟨hc.2, hc.1⟩
  unfold State.markersMatched
  dsimp only
  rw [hrun, if_neg (by simp [he]), if_neg (by simp [h, lsALIGN, lsUP]), if_neg (by decide)]
  rfl

end

end

/-! ### Ports that go back to ALIGN, and ports that are aligned -/

/-- A bit of LANE_STAT from 6 to 27. -/
def StatBit (g : Fld) (l : Nat) : Prop := g.addr = R.LANE_STAT l ∧ 6 ≤ g.lo ∧ g.lo + g.width ≤ 28

theorem backToAlign_statBit {l m : Nat} (hl : l < 64) (hm : m < 64) (s : State) {g : Fld} (h : StatBit g m) : (s.backToAlign l).get g = s.get g := by
  obtain ⟨ha, hlo, hhi⟩ := h
  by_cases hml : m = l
  · subst hml
    exact backToAlign_get_stat hl s ha hlo hhi
  · exact backToAlign_get_other hl s (ha ▸ inLane m) hm hml

/-- Neither lane of the port is UP, and the port is not aligned. -/
def PortDown (t : State) (p : Nat) : Prop := t.ls (56 + 2 * p) ≠ lsUP ∧ t.ls (56 + 2 * p + 1) ≠ lsUP ∧ Stmt.State.aligned t p = false

section
variable {p : Nat} (hp : p < 3) (s : State)
include hp

theorem realign_statBit {m : Nat} (hm : m < 64) {g : Fld} (h : StatBit g m) : (s.realign p).get g = s.get g := by
  have hport : g.addr ≠ R.LANE_PORT := by rw [h.1]; simp only [R.LANE_STAT, R.LANE_PORT]; omega
  rw [realign_eq, backToAlign_statBit (by omega) hm _ h, backToAlign_statBit (by omega) hm _ h, unalign_get _ _ hport]

theorem realign_down : PortDown (s.realign p) p := by
  rw [PortDown, realign_eq, ← secondLane]
  refine ⟨?_, backToAlign_not_up (by omega) _, ?_⟩
  · have hkept := backToAlign_get_other (l := 57 + 2 * p) (by omega) ((s.unalign p).backToAlign (56 + 2 * p)) (inLane (56 + 2 * p)) (by omega)
      (by omega) (g := F.LANE_STAT_LSTATE (56 + 2 * p))
    rw [State.ls, hkept]
    exact backToAlign_not_up (by omega) _
  · rw [backToAlign_aligned (by omega), backToAlign_aligned (by omega), unalign_aligned hp]

/-- A fault of the port is flagged on both lanes and keeps them in ALIGN. -/
theorem portBad_spec {f : Nat → Fld} (hf : ∀ l, StatBit (f l) l ∧ 0 < (f l).width) (q : Src) : PortDown (s.portBad p f q) p ∧
    (s.portBad p f q).on (f (56 + 2 * p)) = true ∧ (s.portBad p f q).on (f (56 + 2 * p + 1)) = true := by
  have hon : ∀ l, l < 64 → ∀ t : State, (t.laneFault l f q).on (f l) = true := fun l hl t => by
    obtain ⟨⟨ha, -, hhi⟩, hw⟩ := hf l
    exact faultNew_on t q _ (by omega) hw (ha ▸ (inLane l).still hl)
  obtain ⟨h0, -⟩ := hf (56 + 2 * p)
  obtain ⟨h1, -⟩ := hf (56 + 2 * p + 1)
  have hne : (f (56 + 2 * p)).addr ≠ (f (56 + 2 * p + 1)).addr := by rw [h0.1, h1.1]; simp only [R.LANE_STAT]; omega
  unfold State.portBad
  rw [secondLane]
  refine ⟨realign_down hp _, ?_, ?_⟩
  · rw [State.on, realign_statBit hp _ (by omega) h0]
    have hkept := faultNew_get_apart (s.laneFault (56 + 2 * p) f q) (f := f (56 + 2 * p + 1)) q (hw (laneBase (56 + 2 * p + 1))) (.inl hne)
      (h0.1 ▸ (inLane _).still (by omega))
    rw [State.laneFault, hkept]
    exact hon _ (by omega) s
  · rw [State.on, realign_statBit hp _ (by omega) h1]
    exact hon _ (by omega) _

/-- A port that is aligned brings both lanes UP. -/
theorem setAligned_up (rev : Bool) :
    let t := ((s.setAligned p true rev).setLs (56 + 2 * p) lsUP).setLs (56 + 2 * p + 1) lsUP
    (LaneAt t (56 + 2 * p) lsUP ∧ LaneAt t (56 + 2 * p + 1) lsUP ∧ Stmt.State.aligned t p = true ∧ (t.regN R.LANE_PORT).testBit (4 + p) = rev) ∧
      t.regN (skewReg p) = s.regN (skewReg p) := by
  intro t
  obtain ⟨hal, hrev⟩ := aligned_setAligned hp s true rev
  obtain ⟨hlo, hhi⟩ := skewReg_block p
  have hshared : ∀ a, 0x13010008 ≤ a ∧ a < 0x13020000 → t.regN a = (s.setAligned p true rev).regN a := fun a ha => by
    rw [← get_word, ← get_word]
    exact (setLs_get_shared _ (by omega) ha).trans (setLs_get_shared _ (by omega) ha)
  have hport := hshared R.LANE_PORT (by decide)
  have hfirst : LaneAt t (56 + 2 * p) lsUP := setLs_laneAt_other _ (by omega) (by omega) (by omega) (setLs_laneAt _ (by omega) (by decide))
  refine ⟨⟨hfirst, setLs_laneAt _ (by omega) (by decide), ?_, ?_⟩, ?_⟩
  · rw [Stmt.State.aligned, hport]
    exact hal
  · rw [hport, hrev]
  · have hne : skewReg p ≠ R.LANE_PORT := by unfold R.LANE_PORT; omega
    rw [hshared _ ⟨by omega, hhi⟩, State.regN]
    exact congrArg BitVec.toNat ((reg_set_ne _ _ hne _).trans (reg_set_ne _ _ hne _))

end

/-- A slot noted changes the port's state and its skew alone. -/
theorem slotNoted_spec (s : State) (p m0 run : Nat) (skew : Int) : (∀ l, l < 64 → (s.slotNoted p m0 run skew).ls l = s.ls l) ∧
    ((s.slotNoted p m0 run skew).bond p).run = run ∧ ((s.slotNoted p m0 run skew).bond p).skew = skew ∧
    (s.slotNoted p m0 run skew).regN (skewReg p) = encS 16 skew := by
  obtain ⟨hlo, -⟩ := skewReg_block p
  have hbond : (s.slotNoted p m0 run skew).bond p = { s.bond p with run := run, skew := skew, rev := bitsOf m0 49 1 == 1 } := bond_setBond ..
  have hskew : encS 16 skew < 2 ^ 16 := (BitVec.ofInt 16 skew).isLt
  refine ⟨fun l hl => get_setReg_ne _ _ _ _ ?_, by rw [hbond], by rw [hbond], ?_⟩
  · simp only [F.LANE_STAT_LSTATE]; omega
  · rw [State.slotNoted, State.regN, reg_setRegN_self, BitVec.toNat_ofNat]
    exact Nat.mod_eq_of_lt (by omega)

/-- Settles O40: each marker slot, step and measurement by the lemma named. -/
theorem markersAlignPortsAndTheEqualiserSteps : Obligations.MarkersAlignPortsAndTheEqualiserSteps := by
  intro s p m0 m1 skew l e n a x on lane wrong far equal same up down c target
  have hp : p.val < 3 := p.isLt
  have hl : l.val < 62 := l.isLt
  refine ⟨fun h h' => ⟨_, rfl, sendMarkers_sends h h'⟩, fun h => ⟨_, rfl, sendMarkers_off h⟩, fun h => ⟨_, rfl, markerRx_ignored h⟩,
    fun h hw => ⟨_, rfl, ?_⟩, fun h hw hf => ⟨_, rfl, ?_⟩, fun h hw hf he => ⟨_, rfl, ?_⟩, fun h hw hf he ha hb hr hs => ⟨_, rfl, ?_⟩,
    fun h hw hf he ha hb hr => ⟨_, rfl, ?_⟩, fun h hw hf he ha hb hs => ⟨_, rfl, ?_⟩, fun h hw hf he ha hb hs => ⟨_, rfl, ?_⟩,
    fun h => ⟨_, rfl, eqStep_now hl h⟩, fun h => ⟨_, rfl, eqStep_toward (by omega) h⟩, fun h => ⟨_, rfl, eyeDone_ends h n⟩,
    fun h => ⟨_, rfl, if_neg (by simp [h])⟩⟩
  all_goals beta_reduce
  · rw [markerRx_wrong h hw]
    exact portBad_spec hp s (fun l => ⟨⟨rfl, show 6 ≤ 8 by decide, show 8 + 1 ≤ 28 by decide⟩, Nat.one_pos⟩) _
  · rw [markerRx_far h hw hf]
    exact portBad_spec hp s (fun l => ⟨⟨rfl, show 6 ≤ 9 by decide, show 9 + 1 ≤ 28 by decide⟩, Nat.one_pos⟩) _
  · rw [markerRx_matched h hw hf, markersMatched_unequal he]
    exact realign_down hp s
  · obtain ⟨-, -, -, hskew⟩ := slotNoted_spec s p m0.toNat 2 skew.toInt
    rw [markerRx_matched h hw hf, markersMatched_second he ha hr hs]
    obtain ⟨hup, hkept⟩ := setAligned_up hp (s.slotNoted p m0.toNat 2 skew.toInt) (bitsOf m0.toNat 49 1 == 1)
    exact ⟨hup, hkept.trans hskew⟩
  · obtain ⟨hls, hrun, hskew, -⟩ := slotNoted_spec s p m0.toNat 1 skew.toInt
    rw [markerRx_matched h hw hf, markersMatched_first he ha hr, hls _ (by omega), hls _ (by omega)]
    exact ⟨ha, hb, hrun, hskew⟩
  · rw [markerRx_matched h hw hf, markersMatched_up_same he ha hb hs]
  · rw [markerRx_matched h hw hf, markersMatched_up_moved he ha hb hs]
    exact realign_down hp s

end Sys2Proof.Machine

/-! ## Frames of the commands of lanes, links and pods (07 R250 to R286; 08 R297 to R312) -/
namespace Sys2Proof.Machine
open Sys2Proof.Stmt

/-! ### What goes out on a cell link -/

/-- `t` is `s` after work of the links' state and of the wires alone. -/
def LinkSends (s t : State) : Prop := ∃ ocl tx, t = { s with ocl, tx }

namespace LinkSends

variable {s t u : State}

theorem refl (s : State) : LinkSends s s := ⟨_, _, rfl⟩

theorem trans (h : LinkSends s t) (k : LinkSends t u) : LinkSends s u := by
  obtain ⟨_, _, rfl⟩ := h
  obtain ⟨_, _, rfl⟩ := k
  exact ⟨_, _, rfl⟩

theorem ite {c : Prop} [Decidable c] (h : LinkSends s t) (k : LinkSends s u) : LinkSends s (if c then t else u) := by split <;> assumption

theorem fold {α : Type} {f : State → α → State} (h : ∀ s x, LinkSends s (f s x)) (l : List α) (s : State) : LinkSends s (l.foldl f s) := by
  induction l generalizing s with
  | nil => exact refl s
  | cons x l ih => exact (h s x).trans (ih (f s x))

theorem work (h : LinkSends s t) : LinkWork s t := by
  obtain ⟨_, _, rfl⟩ := h
  exact ⟨fun _ _ _ => rfl, rfl, fun _ => rfl, fun h => absurd h (by decide)⟩

end LinkSends

section
variable (s : State) (l : Nat)

theorem setLane_sends (x : OclLane) : LinkSends s (s.setLane l x) := ⟨_, _, rfl⟩

theorem wire_sends (f : LinkFrame) : LinkSends s (s.wire l f) := ⟨_, _, rfl⟩

theorem lanePump_sends : LinkSends s (s.lanePump l) := by
  unfold State.lanePump
  refine .ite (.refl s) ?_
  extract_lets x
  split
  · exact .ite (setLane_sends ..) ((setLane_sends ..).trans (wire_sends ..))
  split
  · exact .ite ((setLane_sends ..).trans (wire_sends ..)) (.refl s)
  · exact .refl s

theorem laneSend_sends (f : LinkFrame) : LinkSends s (s.laneSend l f) := (setLane_sends s l _).trans (lanePump_sends _ l)

theorem sendTime_sends : LinkSends s (s.sendTime l) :=
  ((setLane_sends s l _).trans (setLane_sends _ l _)).trans (laneSend_sends _ l _)

theorem sendKeep_sends (anchor wlen : Nat) : LinkSends s (s.sendKeep l anchor wlen) := (setLane_sends s l _).trans (laneSend_sends _ l _)

theorem sendCapq_sends : LinkSends s (s.sendCapq l) := ((setLane_sends s l _).trans (setLane_sends _ l _)).trans (laneSend_sends _ l _)

theorem issueCmd_sends (opc src : Nat) (data : List Word64) : LinkSends s (s.issueCmd l opc src data) :=
  (setLane_sends s l _).trans (lanePump_sends _ l)

theorem cmdAgain_sends (c : OclCmd) : LinkSends s (s.cmdAgain l c) := (setLane_sends s l _).trans (lanePump_sends _ l)

theorem nextCmd_sends : LinkSends s (s.nextCmd l) := by
  unfold State.nextCmd
  refine .ite (.refl s) (.ite (issueCmd_sends ..) ?_)
  split
  · exact (setLane_sends ..).trans (issueCmd_sends ..)
  · exact .refl s

theorem sendTimes_sends (ready : Bool) : LinkSends s (s.sendTimes ready) := by
  have hfold : ∀ (ls : List Nat) (t : State), LinkSends t (ls.foldl State.sendTime t) := fun ls t => .fold (fun t l => sendTime_sends t l) ls t
  exact .ite ((hfold _ s).trans (hfold _ _)) (hfold _ s)

theorem stoppedTimer_sends : LinkSends s s.stoppedTimer := by
  unfold State.stoppedTimer
  refine .ite (.refl s) ?_
  extract_lets t n ocl u
  have ht : LinkSends s t := .fold (fun t l => sendKeep_sends t l 0 0) _ s
  have hu : LinkSends t u := ⟨_, _, rfl⟩
  exact (ht.trans hu).trans (sendTimes_sends u _)

end

/-! ### The frame of the link commands -/

theorem inLink {b l : Nat} (hl : l < 56) (h : 0x13101000 ≤ b ∧ b < 0x13101040 := by decide) :
    0x13100000 ≤ b + 0x40 * l ∧ b + 0x40 * l < 0x13110000 := by omega

theorem linkPair_block {l : Nat} (hl : l < 56) {lo : Nat} (h : 0x13100000 ≤ lo ∧ lo < 0x13101000 := by decide) :
    0x13100000 ≤ lo + 4 * (l / 32) ∧ lo + 4 * (l / 32) < 0x13110000 := by omega

theorem lcmdFailed_linkWork (s : State) : LinkWork s s.lcmdFailed := (BlockWork.set (by decide) s 0).trans (.flag (by decide) _)

theorem hostAcked_linkWork (s : State) (c : OclCmd) (res val : Nat) : LinkWork s (s.hostAcked c res val) :=
  .ite (((BlockWork.set (by decide) s 0).trans (.set (by decide) _ res)).trans (.setReg (by decide) _ _)) (.refl s)

section
variable {l : Nat} (hl : l < 56) (s : State)
include hl

/-- A fault of a lane's OCL_LSTAT. -/
theorem oclFault_linkWork {f : Nat → Fld} (hf : (f l).addr = R.OCL_LSTAT l) (q : Src) : LinkWork s (s.oclFault l f q) :=
  .faultNew (hf ▸ inLink hl) s q _

theorem cmdFail_linkWork (c : OclCmd) : LinkWork s (s.cmdFail l c) := by
  unfold State.cmdFail
  extract_lets _ t
  have ht : LinkWork s t := (setLane_sends s l _).work.trans (oclFault_linkWork hl _ rfl _)
  exact .ite (ht.trans (lcmdFailed_linkWork t)) ht

theorem leaveReady_linkWork : LinkWork s (s.leaveReady l) := by
  unfold State.leaveReady
  extract_lets t u
  have ht : LinkWork s t := (BlockWork.setReg (linkPair_block hl) s _).trans (oclFault_linkWork hl _ rfl _)
  have hu : LinkWork t u := by
    unfold u
    split
    · exact cmdFail_linkWork hl t _
    · exact .refl t
  exact .ite (((ht.trans hu).trans (setLane_sends u l _).work).trans ((oclFault_linkWork hl _ rfl _).trans (lcmdFailed_linkWork _))) (ht.trans hu)

theorem toState_linkWork (st : Nat) : LinkWork s (s.toState l st) := by
  have hstate : ∀ v n, LinkWork v (v.set (F.OCL_LSTATE_STATE l) n) := fun v n => .set (inLink hl) v n
  have hver : ∀ v n, LinkWork v (v.set (F.OCL_LSTATE_VER l) n) := fun v n => .set (inLink hl) v n
  have hreason : ∀ v n, LinkWork v (v.set (F.OCL_LSTATE_REASON l) n) := fun v n => .set (inLink hl) v n
  have hfollow : ∀ v n, LinkWork v (v.set (F.OCL_LSTATE_FOLLOW l) n) := fun v n => .set (inLink hl) v n
  unfold State.toState
  extract_lets t u x quiet
  have ht : LinkWork s t := .ite (leaveReady_linkWork hl s) (.refl s)
  have hu : LinkWork s u := ht.trans (hstate t st)
  have hquiet : ∀ v, LinkWork v (quiet v) := fun v => (setLane_sends v l _).work.trans (hver _ 0)
  clear_value u quiet
  refine hu.trans (.ite ?off (.ite ?down (.ite ?query (.ite ?config (.ite ?tsync (.ite ?ready ?other))))))
  case off =>
    refine .trans ?_ (.setReg (linkPair_block hl) _ _)
    exact ((((hquiet u).trans (LinkSends.work ⟨_, _, rfl⟩)).trans (hver _ 0)).trans (hreason _ 0)).trans (hfollow _ 0)
  case down => exact (hquiet u).trans (hreason _ 0)
  case query => exact ((hquiet u).trans (hreason _ 0)).trans (sendCapq_sends _ l).work
  case config => exact (issueCmd_sends u l 2 0 _).work
  case tsync => exact (setLane_sends u l _).work
  case ready => exact .setReg (linkPair_block hl) u _
  case other => exact (setLane_sends u l _).work

theorem toFail_linkWork (r : Nat) : LinkWork s (s.toFail l r) := (toState_linkWork hl s _).trans (.set (inLink hl) _ r)

theorem setRmax_linkWork : LinkWork s (s.setRmax l) := by
  unfold State.setRmax
  extract_lets t
  have ht : LinkWork s t := .set (inLink hl) s _
  refine .ite (.ite ?_ ht) (.ite (ht.trans (.set (inLink hl) t 0)) ht)
  exact (ht.trans (.set (inLink hl) t 7)).trans (oclFault_linkWork hl _ rfl _)

theorem setFollow_linkWork : LinkWork s (s.setFollow l) := (BlockWork.set (inLink hl) s _).trans (.setReg (linkPair_block hl) _ _)

theorem upInvalid_linkWork : LinkWork s (s.upInvalid l) := (BlockWork.setReg (inLink hl) s _).trans (oclFault_linkWork hl _ rfl _)

theorem upSeq_linkWork (f : LinkFrame) : LinkWork s (s.upSeq l f) :=
  .ite ((setLane_sends s l _).work.trans (.setReg (inLink hl) _ _)) (setLane_sends s l _).work

/-! ### What the pods send -/

theorem capRx_linkWork (f : LinkFrame) : LinkWork s (s.capRx l f) := by
  unfold State.capRx
  refine .ite (.refl s) ?_
  extract_lets cap t r
  have ht : LinkWork s t := (BlockWork.setReg (inLink hl) s _).trans (.setReg (by simp only [R.OCL_LCAP_LO]; omega) _ _)
  exact .ite (ht.trans (toFail_linkWork hl t r)) ((ht.trans (.set (inLink hl) t _)).trans (toState_linkWork hl _ _))

theorem setcfgAck_linkWork (c : OclCmd) (result crc : Nat) : LinkWork s (s.setcfgAck l c result crc) :=
  .ite (.ite (toState_linkWork hl s _) ((setLane_sends s l _).trans (nextCmd_sends _ l)).work)
    ((setLane_sends s l _).work.trans (toFail_linkWork hl _ _))

theorem ackRx_linkWork (f : LinkFrame) : LinkWork s (s.ackRx l f) := by
  cases hc : (s.lane l).cmd with
  | none =>
    rw [State.ackRx, hc]
    exact .refl s
  | some c =>
    by_cases hmine : f.tspec % 256 = c.seq ∧ (f.data.headD 0).toNat % 256 = c.opc
    · obtain ⟨hseq, hop⟩ := hmine
      by_cases h2 : c.opc = 2
      · rw [ackRx_setcfg hc hseq hop h2]
        exact setcfgAck_linkWork hl s _ _ _
      · obtain ⟨x, h, -⟩ := ackRx_other hc hseq hop h2
        rw [h]
        exact ((setLane_sends s l _).work.trans (hostAcked_linkWork _ _ _ _)).trans (nextCmd_sends _ l).work
    · rw [ackRx_stray hc (by rwa [not_and_or] at hmine)]
      exact .refl s

theorem delayTake_linkWork (d2 : Int) : LinkWork s (s.delayTake l d2) := by
  unfold State.delayTake
  extract_lets x show_ far rej t acc acc' u
  have hshow : ∀ (y : OclLane) (w : State), LinkWork w (show_ y w) := fun y w =>
    .ite ((setLane_sends w l _).work.trans (.set (inLink hl) _ _))
      (((setLane_sends w l _).work.trans (.set (inLink hl) _ _)).trans (setRmax_linkWork hl _))
  have ht : LinkWork s t := oclFault_linkWork hl s rfl _
  have hu : LinkWork s u := hshow _ s
  clear_value show_ u
  exact .ite (.ite (ht.trans (hshow _ t)) (ht.trans (setLane_sends t l _).work)) (.ite (hu.trans (setRmax_linkWork hl u)) hu)

theorem tsyncExit_linkWork (tlock : Bool) : LinkWork s (s.tsyncExit l tlock) :=
  .ite (.ite (toFail_linkWork hl s 7) (.ite (toState_linkWork hl s _) (.refl s))) (.refl s)

/-- A fault where a condition holds. -/
theorem oclFaultIf_linkWork {c : Prop} [Decidable c] {f : Nat → Fld} (hf : (f l).addr = R.OCL_LSTAT l) (q : Src) :
    LinkWork s (if c then s.oclFault l f q else s) := .ite (oclFault_linkWork hl s hf q) (.refl s)

theorem perStatus_linkWork (claim b1 b2 : Nat) : LinkWork s (s.perStatus l claim b1 b2) := by
  unfold State.perStatus
  extract_lets old p x x' s1 s2 s3 s4 s5 fresh s6 s7 s8 s9 s10 s11 perr
  have h1 : LinkWork s s1 := (setLane_sends s l _).work.trans (setFollow_linkWork hl _)
  have h2 : LinkWork s1 s2 := ((BlockWork.setReg (inLink hl) s1 _).trans (.setReg (inLink hl) _ _)).trans (.set (inLink hl) _ _)
  have h3 : LinkWork s2 s3 := .ite (.refl s2) (.setReg (inLink hl) s2 _)
  have h4 : LinkWork s3 s4 := .setReg (inLink hl) s3 _
  have h5 : LinkWork s4 s5 := .setReg (linkPair_block hl) s4 _
  have h6 : LinkWork s5 s6 := oclFaultIf_linkWork hl s5 rfl _
  have h7 : LinkWork s6 s7 := oclFaultIf_linkWork hl s6 rfl _
  have h8 : LinkWork s7 s8 := oclFaultIf_linkWork hl s7 rfl _
  have h9 : LinkWork s8 s9 := oclFaultIf_linkWork hl s8 rfl _
  have h10 : LinkWork s9 s10 := oclFaultIf_linkWork hl s9 rfl _
  have h11 : LinkWork s10 s11 := oclFaultIf_linkWork hl s10 rfl _
  have hregs : LinkWork s s5 := (((h1.trans h2).trans h3).trans h4).trans h5
  have hflags : LinkWork s5 s11 := ((((h6.trans h7).trans h8).trans h9).trans h10).trans h11
  exact (hregs.trans hflags).trans (oclFaultIf_linkWork hl s11 rfl _)

theorem perRx_linkWork (f : LinkFrame) (sub : Nat) : LinkWork s (s.perRx l f sub) := by
  unfold State.perRx
  extract_lets b1 t x t4 u w
  have ht : LinkWork s t := perStatus_linkWork hl s _ _ _
  have hu : LinkWork t u := by
    unfold u
    split
    · exact .ite (delayTake_linkWork hl t _) (.refl t)
    · exact .refl t
  have hw : LinkWork s w := (ht.trans hu).trans (tsyncExit_linkWork hl u _)
  exact .ite (hw.trans ⟨fun _ _ _ => rfl, rfl, fun _ => rfl, fun _ => rfl⟩) hw

theorem upRx_linkWork (f : LinkFrame) (sub : Nat) : LinkWork s (s.upRx l f sub) := by
  have hseq : LinkWork s (s.upSeq l f) := upSeq_linkWork hl s f
  exact .ite (.refl s) (.ite (upInvalid_linkWork hl s) (.ite (hseq.trans (setLane_sends _ l _).work) (.ite (hseq.trans (capRx_linkWork hl _ f))
    (.ite (hseq.trans (ackRx_linkWork hl _ f)) (hseq.trans (perRx_linkWork hl _ f sub))))))

/-! ### Timers -/

theorem capqTimer_linkWork : LinkWork s (s.capqTimer l) :=
  .ite (.refl s) ((oclFaultIf_linkWork hl s rfl _).trans (sendCapq_sends _ l).work)

theorem setcfgTimer_linkWork : LinkWork s (s.setcfgTimer l) := by
  unfold State.setcfgTimer
  split
  · exact .ite (.refl s) (.ite (cmdAgain_sends s l _).work ((setLane_sends s l _).work.trans (toFail_linkWork hl _ _)))
  · exact .refl s

theorem cmdTimer_linkWork : LinkWork s (s.cmdTimer l) := by
  unfold State.cmdTimer
  split
  · exact .ite (.refl s) (.ite (cmdAgain_sends s l _).work ((cmdFail_linkWork hl s _).trans (nextCmd_sends _ l).work))
  · exact .refl s

theorem foreign_linkWork : LinkWork s (s.foreign l) := oclFaultIf_linkWork hl s rfl _

end

/-! ### The frame of a pod -/

/-- `t` is `s` after work of pod `l`: that pod, what it sends and the count of free values. -/
def PodWork (l : Nat) (s t : State) : Prop := (∃ pods tx free, t = { s with pods, tx, free }) ∧ ∀ m, m ≠ l → t.pod m = s.pod m

namespace PodWork

variable {l : Nat} {s t u : State}

theorem refl (s : State) : PodWork l s s := ⟨⟨_, _, _, rfl⟩, fun _ _ => rfl⟩

theorem trans (h : PodWork l s t) (k : PodWork l t u) : PodWork l s u := by
  refine ⟨?_, fun m hm => (k.2 m hm).trans (h.2 m hm)⟩
  obtain ⟨⟨_, _, _, rfl⟩, -⟩ := h
  obtain ⟨⟨_, _, _, rfl⟩, -⟩ := k
  exact ⟨_, _, _, rfl⟩

theorem ite {c : Prop} [Decidable c] (h : PodWork l s t) (k : PodWork l s u) : PodWork l s (if c then t else u) := by split <;> assumption

theorem drawn (h : DrawnFrom s u) : PodWork l s u := by
  obtain ⟨_, rfl⟩ := h
  exact ⟨⟨_, _, _, rfl⟩, fun _ _ => rfl⟩

theorem setPod (s : State) (l : Nat) (p : PodSt) : PodWork l s (s.setPod l p) :=
  ⟨⟨_, _, _, rfl⟩, fun _ hm => spGet_spPut_ne _ _ _ hm _⟩

theorem podSend (s : State) (l : Nat) (b : Bool) (ty ts : Nat) (d : List Word64) : PodWork l s (s.podSend l b ty ts d) :=
  (setPod s l _).trans ⟨⟨_, _, _, rfl⟩, fun _ _ => rfl⟩

theorem periodic (s : State) (l : Nat) : PodWork l s (s.periodic l) := ((podSend s l ..).trans (podSend _ l ..)).trans (setPod _ l _)

theorem podReport (s : State) (l : Nat) (old : PodSt) : PodWork l s (s.podReport l old) :=
  .ite (refl s) ((setPod s l _).trans (periodic _ l))

end PodWork

section
variable (s : State) (l : Nat)

theorem podEdge_podWork (b : Bool) (f : LinkFrame) : PodWork l s (s.podEdge l b f) := by
  unfold State.podEdge
  dsimp only
  split
  · exact .refl s
  · exact .ite (.refl s) (.ite (.setPod ..) (.ite (.setPod ..) (.setPod ..)))

theorem podKeep_podWork (b : Bool) (f : LinkFrame) : PodWork l s (s.podKeep l b f) :=
  .ite (.refl s) (.ite (.setPod ..) (.ite (.setPod ..) (.setPod ..)))

theorem podWindow_podWork : PodWork l s (s.podWindow l) := by
  cases hon : (s.pod l).on with
  | false => rw [podWindow_off hon]; exact .refl s
  | true => rw [podWindow_started hon]; exact ((PodWork.setPod ..).trans (.podReport ..)).trans (.periodic ..)

theorem podTrip_podWork (b : Bool) (f : Nat) : PodWork l s (s.podTrip l b f) :=
  .ite (.refl s) (.ite (.setPod ..) ((PodWork.setPod ..).trans (.podReport ..)))

theorem podTime_podWork (b : Bool) (f : LinkFrame) (sub : Nat) : PodWork l s (s.podTime l b f sub) := by
  by_cases h : downValid f = true ∧ f.ftype = 1 ∧ (s.pod l).on = true
  · obtain ⟨hv, hty, hon⟩ := h
    by_cases hacc : Accepts (s.pod l) f.claim b
    · obtain ⟨off, free, heq⟩ := podTime_followed (sub := sub) hv hty hon hacc
      rw [heq]
      exact (PodWork.drawn ⟨free, rfl⟩).trans (.setPod ..)
    · rw [podTime_other hv hty hon hacc]
      exact .setPod ..
  · rw [podTime_ignored h]
    exact .refl s

/-- The execution of a command draws a free value at most. -/
theorem podExec_drawn (p : PodSt) (opc : Nat) (data : List Word64) : DrawnFrom s (s.podExec p opc data).2.2.2 := by
  have hif : ∀ {c : Prop} [Decidable c] {x y : Nat × Nat × PodSt × State}, DrawnFrom s x.2.2.2 → DrawnFrom s y.2.2.2 →
      DrawnFrom s (if c then x else y).2.2.2 := fun hx hy => by split <;> assumption
  refine hif (hif (.refl s) (.refl s)) (hif (hif (.refl s) (.refl s)) (hif (hif (.refl s) (.refl s)) (hif (.refl s) (hif (.refl s) ?_))))
  exact hif (hif ⟨_, rfl⟩ (.refl s)) (.refl s)

/-- A command is ignored, answered, or executed and answered. -/
theorem podCmd_podWork (b : Bool) (f : LinkFrame) : PodWork l s (s.podCmd l b f) := by
  by_cases h : downValid f = true ∧ f.ftype = 3 ∧ (s.pod l).on = true
  · obtain ⟨hv, hty, hon⟩ := id h
    by_cases h1 : f.tspec = 1
    · obtain ⟨loss, heq⟩ := podCmd_capq hv hty hon h1 (b := b)
      rw [heq]
      exact (PodWork.setPod ..).trans (.podSend ..)
    by_cases hacc : Accepts (s.pod l) f.claim b
    · by_cases hlast : ∃ d, ((s.pod l).port b).lastCmd = some ((f.seq, f.tspec, f.claim), d)
      · obtain ⟨d, hd⟩ := hlast
        rw [podCmd_repeated hv hty hon h1 hacc hd]
        exact (PodWork.setPod ..).trans (.podSend ..)
      · have hu := podExec_drawn s ((s.pod l).hears f b) f.tspec f.data
        rw [podCmd_new ⟨⟨h, hacc, h1⟩, fun d hd => hlast ⟨d, hd⟩⟩ rfl]
        exact (((PodWork.drawn hu).trans (.setPod ..)).trans (.podSend ..)).trans (.podReport ..)
    · rw [podCmd_other hv hty hon h1 hacc]
      exact (PodWork.setPod ..).trans (.podSend ..)
  · rw [podCmd_ignored h]
    exact .refl s

theorem podFault_podWork (c : Nat) (g : Bool) : PodWork l s (s.podFault l c g) := .ite (.refl s) ((PodWork.setPod ..).trans (.podReport ..))

theorem podLoss_podWork : PodWork l s (s.podLoss l) := .ite (.setPod ..) (.refl s)

theorem podSample_podWork (slot : Nat) (vs : List (BitVec 16)) (temp : BitVec 16) : PodWork l s (s.podSample l slot vs temp) :=
  .ite (.refl s) ((((PodWork.setPod ..).trans (.podSend ..)).trans (.podSend ..)).trans (.podReport ..))

theorem podPlay_podWork (i : Nat) : PodWork l s (s.podPlay l i) := by
  unfold State.podPlay
  refine .ite (.refl s) (.ite (.setPod ..) ?_)
  split
  · exact .setPod ..
  · exact .refl s

theorem podBypass_podWork (g : Bool) : PodWork l s (s.podBypass l g) := .ite (.refl s) ((PodWork.setPod ..).trans (.podReport ..))

theorem podPower_podWork (cap : Word64) : PodWork l s (s.podPower l cap) := by
  obtain ⟨off, free, h⟩ := podPower_eq s l cap
  rw [h]
  exact (PodWork.drawn ⟨free, rfl⟩).trans (.setPod ..)

end

/-! ### The obligation -/

/-- What the frame of the lane commands says of each of them. -/
theorem LaneWork.gives {i : Instr} {s t : State} (hi : exec i s = .next (settle s t)) (h : LaneWork s t) : Gives i s (fun t => Still s t ∧
    RegsKeptBut s t 0x13000000 0x13020000 ∧ t.ocl = s.ocl ∧ t.pods = s.pods ∧ t.adc = s.adc ∧ t.mod = s.mod ∧ t.axd = s.axd ∧
      t.safe = s.safe ∧ t.hall = s.hall ∧ t.cmp = s.cmp ∧ t.upd = s.upd ∧ t.log = s.log ∧ t.free = s.free) :=
  ⟨t, hi, h.still, h.regs, h.ocl (by decide), h.others⟩

/-- What the frame of the link commands says of each of them. -/
theorem LinkWork.gives {i : Instr} {s t : State} (hi : exec i s = .next (settle s t)) (h : LinkWork s t) : Gives i s (fun t => Still s t ∧
    RegsKeptBut s t 0x13100000 0x13110000 ∧ t.ser = s.ser ∧ t.pods = s.pods ∧ t.adc = s.adc ∧ t.mod = s.mod ∧ t.axd = s.axd ∧
      t.safe = s.safe ∧ t.hall = s.hall ∧ t.cmp = s.cmp ∧ t.upd = s.upd ∧ t.log = s.log ∧ t.free = s.free) :=
  ⟨t, hi, h.still, h.regs, h.ser (by decide), h.others⟩

/-- Settles O59: each command by the frame of what it does. -/
theorem laneLinkAndPodCommandsLeaveTheRest : Obligations.LaneLinkAndPodCommandsLeaveTheRest := by
  intro s l o h p m0 m1 skew e n f sub b g pl c slot vs temp i cap
  have hl : l.val < 64 := by omega
  have ho : o.val < 56 := o.isLt
  have hh : 62 + b2n h < 64 := by cases h <;> decide
  refine ⟨fun x hx => ?_, fun x hx => ?_, fun x hx => ?_⟩
  · simp only [List.mem_cons, List.not_mem_nil, or_false] at hx
    rcases hx with rfl | rfl | rfl | rfl | rfl | rfl | rfl | rfl | rfl | rfl | rfl | rfl | rfl | rfl
    · exact LaneWork.gives rfl (cdrLock_laneWork hl s)
    · exact LaneWork.gives rfl (cdrLoss_laneWork hl s)
    · exact LaneWork.gives rfl (huntLock_laneWork hl s)
    · exact LaneWork.gives rfl (.ite (huntFailed_laneWork hl s) (.refl s))
    · exact LaneWork.gives rfl (polConfirm_laneWork hl s)
    · exact LaneWork.gives rfl (polInvert_laneWork hl s)
    · exact LaneWork.gives rfl (.ite (huntFailed_laneWork hl s) (.refl s))
    · exact LaneWork.gives rfl (lockLoss_laneWork hl s)
    · exact LaneWork.gives rfl (pcs_laneWork hh s true)
    · exact LaneWork.gives rfl (pcs_laneWork hh s false)
    · exact LaneWork.gives rfl (sendMarkers_laneWork s)
    · exact LaneWork.gives rfl (markerRx_laneWork s p.isLt _ _ _)
    · exact LaneWork.gives rfl (eqStep_laneWork hl s)
    · exact LaneWork.gives rfl (eyeDone_laneWork e.isLt s n)
  · simp only [List.mem_cons, List.not_mem_nil, or_false] at hx
    rcases hx with rfl | rfl | rfl | rfl | rfl | rfl | rfl | rfl | rfl
    · exact LinkWork.gives rfl (capqTimer_linkWork ho s)
    · exact LinkWork.gives rfl (upRx_linkWork ho s f 0)
    · exact LinkWork.gives rfl (setcfgTimer_linkWork ho s)
    · exact LinkWork.gives rfl (upRx_linkWork ho s f 0)
    · exact LinkWork.gives rfl (upRx_linkWork ho s f sub)
    · exact LinkWork.gives rfl (foreign_linkWork ho s)
    · exact LinkWork.gives rfl (upRx_linkWork ho s f 0)
    · exact LinkWork.gives rfl (stoppedTimer_sends s).work
    · exact LinkWork.gives rfl (cmdTimer_linkWork ho s)
  · simp only [List.mem_cons, List.not_mem_nil, or_false] at hx
    rcases hx with rfl | rfl | rfl | rfl | rfl | rfl | rfl | rfl | rfl | rfl | rfl | rfl
    · exact ⟨_, rfl, podEdge_podWork s o b f⟩
    · exact ⟨_, rfl, podWindow_podWork s o⟩
    · exact ⟨_, rfl, podTrip_podWork s o b _⟩
    · exact ⟨_, rfl, podTime_podWork s o b f sub⟩
    · exact ⟨_, rfl, podCmd_podWork s o b f⟩
    · exact ⟨_, rfl, podFault_podWork s o c g⟩
    · exact ⟨_, rfl, podLoss_podWork s o⟩
    · exact ⟨_, rfl, podSample_podWork s o slot vs temp⟩
    · exact ⟨_, rfl, podPlay_podWork s o i⟩
    · exact ⟨_, rfl, podKeep_podWork s o b f⟩
    · exact ⟨_, rfl, podBypass_podWork s o g⟩
    · exact ⟨_, rfl, podPower_podWork s o cap⟩

end Sys2Proof.Machine
